-- ==== Sys2Proof/Word.lean ====
section
/-! DEFINITION. The word and octet types of the device and their plainest arithmetic (R4: registers are 32 bits wide). -/

namespace Sys2Proof

/-- A register word (R4). -/
abbrev Word := BitVec 32

/-- An octet of a frame or of memory (R4). -/
abbrev Octet := BitVec 8

/-- The two's-complement reading of the low `w` bits of `n` (R5). -/
def toSigned (w n : Nat) : Int :=
  let m := n % 2 ^ w
  if 2 * m < 2 ^ w then (m : Int) else (m : Int) - (2 ^ w : Nat)

/-- The `w`-bit two's-complement pattern of `i`, as a number below `2 ^ w`. -/
def ofSigned (w : Nat) (i : Int) : Nat := (i % ((2 ^ w : Nat) : Int)).toNat

/-- The signed difference of R5: (a − b) modulo 2^n read as an n-bit two's-complement number. -/
def sdiff (a b n : Nat) : Int := toSigned n ((a % 2 ^ n + 2 ^ n - b % 2 ^ n) % 2 ^ n)

end Sys2Proof
end

