-- ==== Sys2Proof/Syntax.lean ====
section
/-! DEFINITION. The commands the block takes: one constructor of `Instr` per row of the table of operations and events (spec/opcode_table.json), with the operands its rules name. What the outside world supplies at a command (a received frame, a measured value) is an operand (log entry 3). -/

namespace Sys2Proof

/-- Who accesses the register space (R309, R400). -/
inductive Requester
  | pcie | spi | dict
  deriving DecidableEq, Repr

/-- A frame as it arrives at a port: octets from the destination address to the last payload octet, and what the MAC reports of it. -/
structure RxFrame where
  /-- Octets without the FCS. -/
  data : List Octet
  /-- The FCS is good. -/
  fcsOk : Bool := true
  /-- A reassembly error (R88, R432). -/
  asmErr : Bool := false
  /-- It came by the pre-emptable MAC. -/
  preempt : Bool := false
  /-- Continuation fragments it came in. -/
  frags : Nat := 0
  /-- Its reception was cut short by the link going down (R83). -/
  cut : Bool := false
  /-- Time its reception took beyond that of its own octets, in 2^-16 ns: 0 but for a reassembled frame. -/
  extra : Nat := 0
  deriving DecidableEq, Repr

/-- The port at which a message has arrived, and how long ago its frame started there, in 2^-16 ns (R40). -/
structure Arrival where
  port : Fin 8
  since : Nat
  deriving DecidableEq, Repr

/-- The instant at which admitted values fall due (R271). -/
inductive CommitPoint
  /-- The core clock after the check ends. -/
  | immediate
  /-- A cycle start of the active gate schedule of port `p`. -/
  | cycle (p : Fin 8)
  /-- No activation of cell `c` is running or being re-executed. -/
  | activation (c : Fin 64)
  /-- An angle-cycle boundary of domain `n`. -/
  | angle (n : Fin 8)
  deriving DecidableEq, Repr

/-- How the start-up step in progress ends (R377, R378). -/
inductive StepEnd
  /-- It passes and brings nothing with it. -/
  | pass
  /-- The end of step 4: the straps, whether the fuses read well, the factory fuse, the level FAULT_N showed 1 µs after the start (R357), and the master key, none while it is blank. -/
  | fuses (bootsel : BitVec 2) (testen readOk factory lineLow : Bool) (key : Option (BitVec 128))
  /-- It fails: the second of the step's failure codes, and the unit. -/
  | fail (second : Bool) (unit : BitVec 8)
  /-- What the boot flash holds at address 0 and at 0x80_0000. -/
  | flash (a b : List Octet)
  deriving DecidableEq, Repr

/-- The commands of the block, one constructor per row of the table of operations and events, in its order. -/
inductive Instr
  /-- HOST_REGISTER_WRITE (R6). A host or SPI write to a register word that has no row of its own, applied field by field under the access codes. `be` holds the byte enables (R302). -/
  | hostRegisterWrite (req : Requester) (addr : Nat) (value : Word) (be : BitVec 4)
  /-- CAPTURE_READ (R400). A read of the lowest word of a multi-word read-only value captures all its words for that requester. -/
  | captureRead (req : Requester) (addr : Nat)
  /-- RC_READ (R6). A read of an RC field returns its value and then clears it. -/
  | rcRead (req : Requester) (addr : Nat)
  /-- ACKNOWLEDGE (R347). A write of 1 to a FLT_STICKY bit closes the source, clearing its class and merged count unless it is GRAVE. -/
  | acknowledge (b : Fin 28) (value : Word)
  /-- FLT_CFG_WRITE (R346). A write to FLT_CFG of a source sets its counting configuration and clears its opening history. -/
  | fltCfgWrite (b : Fin 28) (value : Word)
  /-- MSIX_UNMASK (R304). Unmasking a vector whose pending bit is set sends its message and clears the bit. -/
  | msixUnmask (v : Fin 128)
  /-- SYNC_RECEIVED (R428). A Sync from the selected master is accepted and the servo updates its offset, state and RATE. `origin` is the master time of transmission in 2^-16 ns, `corr` the sum of the correction fields in 2^-16 ns, `logIvl` logMessageInterval. -/
  | syncReceived (a : Arrival) (gm : BitVec 64) (origin : Nat) (corr : Int) (logIvl : Int)
  /-- SLEWING_END (R30). The offset magnitude falls below STEP_THR / 2 and the servo returns to LOCKED. -/
  | slewingEnd
  /-- HOLDOVER (R34). No Sync accepted for three sync intervals puts the servo into HOLDOVER. -/
  | holdover
  /-- EPISODE_START (R32). A write of TIM_EPISODE.START begins a synchronisation episode and clears STEP_USED. -/
  | episodeStart (set : Bool)
  /-- SERVO_DISABLE (R429). A write clearing SERVO_EN puts a running servo into FREE. -/
  | servoDisable
  /-- SERVO_ENABLE (R429). A write setting SERVO_EN leaves the servo in FREE until it accepts a Sync. -/
  | servoEnable
  /-- HALYARD_COMPARISON (R35). Every microsecond the two Halyards are compared and one is rejected if they differ by more than 8 ns. The PLL output of each Halyard reports lock. -/
  | halyardComparison (lockA : Bool) (lockB : Bool)
  /-- COPY_CHECK (R38). Every microsecond each block's local time copy is checked against distributed time. `dev` is the deviation of the block's local copy in 2^-16 ns. -/
  | copyCheck (b : Fin 28) (dev : Int)
  /-- PTP_MESSAGE_RECEIVED (R39). A PTP message is taken by the Halyard on a port with a PTP role. `bmca` is what the best master clock algorithm now selects: grandmaster, slave port, ports in a master role; `delay` the mean link delay in 2^-16 ns that a completed exchange gives. -/
  | ptpMessageReceived (a : Arrival) (type : BitVec 4) (bmca : Option (BitVec 64 × Option (Fin 8) × BitVec 8)) (delay : Option Nat)
  /-- PTP_MESSAGE_SEND (R39). At its message interval a port sends a PTP message of its role. `kind`: 0 Sync, 1 Follow_Up, 2 Announce, 3 and above the delay messages; `msg` the octets IEEE 1588 forms. -/
  | ptpMessageSend (p : Fin 8) (kind : Fin 8) (msg : List Octet)
  /-- ACCEPTED_EDGE (R50). An accepted edge on an angle input is stamped, assigned a position and updates the tracking loop. `cam` is the cam level, `width` the pulse width in ns. -/
  | acceptedEdge (n : Fin 8) (index : Bool) (cam : Bool) (width : Nat)
  /-- MISSING_TOOTH (R53). A missing tooth is declared after the expected time, entering COASTING. -/
  | missingTooth (n : Fin 8)
  /-- ANGLE_CYCLE_BOUNDARY (R52). The published cycle count advances in forward rotation while VALID or COASTING. -/
  | angleCycleBoundary (n : Fin 8)
  /-- MARK_EVENT (R59). An enabled mark fires when the published angle reaches its FRAC, reaching subscribing consumers. -/
  | markEvent (n : Fin 8)
  /-- ANG_SRC_WRITE (R47). A write of ANG_SRC makes the domain INVALID with reason 8, then SEARCH or OFF. -/
  | angSrcWrite (n : Fin 8) (value : Word)
  /-- ANG_TOOTH_WRITE (R47). A write of ANG_TOOTH to a domain not OFF makes it INVALID with reason 8 and restarts SEARCH. -/
  | angToothWrite (n : Fin 8) (value : Word)
  /-- RESYNC (R54). A write of ANG_CMD.RESYNC makes the domain INVALID with reason 7 and then SEARCH. -/
  | resync (n : Fin 8)
  /-- PHASE_FLIP (R57). A write of ANG_CMD.PHASE_FLIP makes the domain INVALID with reason 3 and moves position 0. -/
  | phaseFlip (n : Fin 8)
  /-- MARK_SWAP (R59). A write of ANG_MARK_CTL.SWAP arms a mark bank swap for the next boundary. -/
  | markSwap (n : Fin 8)
  /-- ANGLE_PAYLOAD_SEND (R61). At each transmit opportunity the waiting records are handed over as one angle payload. -/
  | anglePayloadSend (n : Fin 8)
  /-- REMOTE_COASTING (R63). No payload for 1.5 payload intervals makes a remote domain COASTING. -/
  | remoteCoasting (n : Fin 8)
  /-- REMOTE_TIMEOUT (R63). No payload for TIMEOUT µs makes a remote domain INVALID with reason 4. -/
  | remoteTimeout (n : Fin 8)
  /-- LINK_LOSS (R70). Loss of signal, lock or a link fault indication is declared, clearing LINK_UP and reaching the Shroud. `signal` is false when the loss is a fault indication received while the PCS keeps lock. -/
  | linkLoss (p : Fin 8) (signal : Bool)
  /-- LINK_UP (R70). After 10 µs of lock without fault indication LINK_UP is set. -/
  | linkUp (p : Fin 8)
  /-- PHY_RATE_REPORT (R68). The PHY reports a link rate in the in-band word; a mismatch is treated as link down. -/
  | phyRateReport (p : Fin 8) (rate : Fin 5)
  /-- PRT_MODE_WRITE (R70). A write of PRT_MODE sets mode, top rate and length; MODE 0 drops LINK_UP. -/
  | prtModeWrite (p : Fin 8) (value : Word)
  /-- RENEG (R83). A write of PRT_CMD.RENEG restarts auto-negotiation at SPEED_MAX on an edge port. -/
  | reneg (p : Fin 8)
  /-- RECAL (R72). A write of PRT_CMD.RECAL raises a soft request for recalibration. -/
  | recal (p : Fin 8)
  /-- CLEAR_STATS (R91). A write of PRT_CMD.CLEAR_STATS zeroes every statistics counter and half bit of the port. -/
  | clearStats (p : Fin 8)
  /-- SOFT_REQUEST (R72). TUNE_NOW leaves the soft margin and a soft recalibration request arises. -/
  | softRequest (p : Fin 8) (tune : BitVec 8)
  /-- HARD_REQUEST (R79). TUNE_NOW reaches 0 or 255; transmission stops at once and the synthesiser recalibrates. -/
  | hardRequest (p : Fin 8) (tune : BitVec 8)
  /-- RECALIBRATION_START (R76). A ring port starts a pending recalibration at the start instant of a quiet gap while the other ring is healthy. -/
  | recalibrationStart (p : Fin 8)
  /-- EDGE_RECALIBRATION_START (R80). An edge port starts a pending recalibration at the first instant no scheduled gate opens for 40 µs. -/
  | edgeRecalibrationStart (p : Fin 8)
  /-- RECAL_DONE (R77). The synthesiser has relocked, TX_SETTLED rises and RECAL_DONE is set. -/
  | recalDone (p : Fin 8)
  /-- QUIET_GAP_END (R76). A quiet gap of a ring port ends. -/
  | quietGapEnd (p : Fin 8)
  /-- LOS_MASKED (R78). A loss that began in a quiet gap ends within 30 µs and is only counted. -/
  | losMasked (p : Fin 8)
  /-- MASKED_LOSS_REPORT (R78). A loss held in a quiet gap lasts 30 µs and is then reported as link loss. -/
  | maskedLossReport (p : Fin 8)
  /-- DOWNSHIFT (R81). Traffic below IDLE_PCT for DWELL seconds shifts an edge port down one rate step. -/
  | downshift (p : Fin 8)
  /-- UPSHIFT (R81). Traffic above UP_PCT in a millisecond shifts an edge port up one rate step. -/
  | upshift (p : Fin 8)
  /-- MDIO_COMMAND (R85). A write of PRT_MDIO with START issues a management command to the PHY. -/
  | mdioCommand (p : Fin 8) (value : Word)
  /-- MDIO_DONE (R85). A management frame completes; START clears and any read result is in DATA. -/
  | mdioDone (p : Fin 8) (data : BitVec 16)
  /-- PHY_INT (R86). PHY_INT_N low with INT_EN set sets PHY_INT. -/
  | phyInt (p : Fin 8) (low : Bool)
  /-- FRAME_RECEIVED (R94). A received frame passes staging, checks, parse, device functions, rules, allocation and queueing. -/
  | frameReceived (p : Fin 8) (f : RxFrame)
  /-- RULE_SWAP (R98). A write of FRM_RULE_CTL.SWAP makes the idle rule bank active. -/
  | ruleSwap
  /-- FRAME_TRANSMIT_START (R113). With the transmitter free, the highest eligible head frame or continuation starts. -/
  | frameTransmitStart (p : Fin 8)
  /-- FRAME_TRANSMIT_END (R89). The last byte of a frame is sent and the frame is counted. `corr` counts granule errors corrected while it was read, `bad` the index of a granule with an uncorrectable error. -/
  | frameTransmitEnd (p : Fin 8) (corr : Nat) (bad : Option Nat)
  /-- FAULT_NOTICE_RECEIVED (R107). An accepted fault notice sets its map bit, counts, and may open an incident. -/
  | faultNoticeReceived (p : Fin 8) (f : RxFrame)
  /-- NOTICE_ACK (R108). A write of FRM_NOTICE_CTL.ACK closes the open incident. -/
  | noticeAck
  /-- GATE_STATE_CHANGE (R114). A gate control list entry boundary changes the gate states of a port. -/
  | gateStateChange (p : Fin 8)
  /-- GCL_SWAP (R116). A write of GTE_GCL_CTL.SWAP is admitted and arms a schedule change, or is refused. -/
  | gclSwap (p : Fin 8)
  /-- CHANGE_POINT (R116). At the change point the idle gate list bank becomes active. -/
  | changePoint (p : Fin 8)
  /-- GATE_EN_WRITE (R115). A write of GATE_EN opens every gate or starts gating at the next bank change. -/
  | gateEnWrite (p : Fin 8) (en : Bool)
  /-- PREEMPT_FRAGMENT_END (R123). A pre-emptable fragment ends at an allowed boundary at a close or for an express frame. -/
  | preemptFragmentEnd (p : Fin 8) (sent : Nat)
  /-- HOLD_ABANDON (R124). A pre-empted frame whose continuation has not started within one cycle is abandoned. -/
  | holdAbandon (p : Fin 8)
  /-- VERIFY_MPACKET_SEND (R431). A due verify mPacket is sent at the first core clock the conditions allow. -/
  | verifyMpacketSend (p : Fin 8)
  /-- RESPOND_MPACKET_SEND (R431). A due respond mPacket is sent at the first core clock the conditions allow. -/
  | respondMpacketSend (p : Fin 8)
  /-- VERIFY_MPACKET_RECEIVED (R431). A received verify mPacket makes a respond mPacket due when EN is 1. -/
  | verifyMpacketReceived (p : Fin 8)
  /-- RESPOND_MPACKET_RECEIVED (R121). A respond mPacket makes verification SUCCEEDED. -/
  | respondMpacketReceived (p : Fin 8)
  /-- VERIFY_TIMEOUT (R121). VERIFY_TIME passes without a response; another attempt is sent or verification FAILED. -/
  | verifyTimeout (p : Fin 8)
  /-- PREEMPT_CFG_WRITE (R121). A write of GTE_PREEMPT changing EN or VERIFY_DIS starts or stops verification. -/
  | preemptCfgWrite (p : Fin 8) (value : Word)
  /-- SHAPER_WRITE (R127). A write to a shaper register resets the class's credit to CBS_HI or 0. -/
  | shaperWrite (p : Fin 8) (c : Fin 8) (reg : Fin 4) (value : Word)
  /-- CONTEXT_ENABLE (R131). A host write setting EN of a FREE stream context enables it and advances GEN. -/
  | contextEnable (x : Fin 512)
  /-- CONTEXT_TEARDOWN (R148). Clearing EN of an ACTIVE context discards pending frames and enters QUARANTINE. -/
  | contextTeardown (x : Fin 512)
  /-- QUARANTINE_END (R148). The hold ends, the context becomes FREE and its reservation is released. -/
  | quarantineEnd (x : Fin 512)
  /-- RECOVERY_RESET (R141). The reset timer reaches RESET_MS and recovery state returns to TAKE_ANY. -/
  | recoveryReset (x : Fin 512)
  /-- LATENT_PERIOD_END (R143). At the end of a latent period the pass and discard increments are tested. -/
  | latentPeriodEnd (x : Fin 512)
  /-- TRANSMIT_HANDOVER (R137). A frame is handed to a transmit context, checked for generation and held or released. -/
  | transmitHandover (x : Fin 512) (gen : BitVec 8) (data : List Octet)
  /-- TOKEN_RELEASE (R138). The head frame is released when the token count reaches its length, getting its R-TAG. -/
  | tokenRelease (x : Fin 512)
  /-- METER_WRITE (R147). A write to a flow meter register resets its token counts. -/
  | meterWrite (m : Fin 512) (reg : Fin 5) (value : Word)
  /-- TOKEN_BUCKET_WRITE (R147). A write to STM_TB or STM_TB_BURST resets the context's token count. -/
  | tokenBucketWrite (x : Fin 512) (burst : Bool) (value : Word)
  /-- RING_CYCLE_START (R165). A ring cycle starts at the east port's gate cycle start. -/
  | ringCycleStart (r : Fin 2)
  /-- BEACON_RECEIVED (R166). A beacon copy is relayed and the first copy of a cycle is acted on. -/
  | beaconReceived (p : Fin 8) (f : RxFrame)
  /-- HOLDOFF_END (R169). A new master's claim holdoff ends. -/
  | holdoffEnd (r : Fin 2)
  /-- SLOT_SWAP (R172). A write of SHD_SLOT_CTL.SWAP arms a slot table bank change. -/
  | slotSwap (r : Fin 2)
  /-- CLAIM_START (R175). A write of SHD_CLAIM.START begins a claim for a spare slot. -/
  | claimStart (r : Fin 2)
  /-- CLAIM_SEND (R175). A claim frame is sent in a claim window with an advanced generation. -/
  | claimSend (r : Fin 2)
  /-- CLAIM_RECEIVED (R176). The master judges a claim frame as stale, refused or accepted. -/
  | claimReceived (p : Fin 8) (f : RxFrame)
  /-- WRAP (R180). A port that detected a break is wrapped and its traffic turns. A ring port, 0 to 3. -/
  | wrap (p : Fin 4)
  /-- NOTICE_TX_SEND (R182). A write of SHD_NOTICE_TX.SEND sends a software notice. -/
  | noticeTxSend (r : Fin 2) (code : BitVec 8) (subject : BitVec 16)
  /-- LINK_FAULT_INDICATION (R179). A port that detected a break sends the link fault indication in place of idle. A ring port, 0 to 3. -/
  | linkFaultIndication (p : Fin 4)
  /-- CLEAN (R183). A wrapped port clean for CLEAN_MS sets READY and makes its proposal. A ring port, 0 to 3. -/
  | clean (p : Fin 4)
  /-- LINK_FRAME_RECEIVED (R184). A link frame from the partner carries its readiness, proposal and echo. -/
  | linkFrameReceived (p : Fin 8) (f : RxFrame)
  /-- TIME_TRIGGER (R207). A cell's periodic time trigger raises an activation request. -/
  | timeTrigger (c : Fin 64)
  /-- ACTIVATION_START (R208). A waiting request starts an activation with its snapshot, event and checkpoint. -/
  | activationStart (c : Fin 64)
  /-- ACTIVATION_COMPARISON (R212). The steps end and the two engines' results are compared. -/
  | activationComparison (c : Fin 64) (agree : Bool) (ckptBad : Bool)
  /-- REEXECUTION_COMPLETE (R213). The re-execution's comparison ends; outputs are released or the block becomes GRAVE. -/
  | reexecutionComplete (c : Fin 64) (agree : Bool)
  /-- FREQ_STEP (R192). The group frequency loop changes FREQ_NOW by one step while no pair executes. -/
  | freqStep (g : Fin 17)
  /-- PAIR_RETURN (R215). A write of CEL_PAIR_CMD.RETURN makes a tested out-of-service pair spare. -/
  | pairReturn (value : Word)
  /-- CELL_BANK_SWAP (R217). A write of CEL_BANK.SWAP checks the idle bank and sets SWAP_PEND or refuses it. -/
  | cellBankSwap (c : Fin 64) (value : Word)
  /-- RESTART (R218). A write of CEL_CMD.RESTART reloads state and SM, empties the queue and enters IDLE. -/
  | restart (c : Fin 64) (value : Word)
  /-- SAMPLE_TIME_TRIGGER (R226). A periodic or absolute time trigger makes a channel read due. -/
  | sampleTimeTrigger (n : Fin 512)
  /-- ANGLE_STEP_TRIGGER (R226). The angle passes an angle-step target and a channel read becomes due. -/
  | angleStepTrigger (n : Fin 512)
  /-- TRIGGER_ARM (R226). A write of SMP_CH_TIME_HI re-arms an absolute time trigger. -/
  | triggerArm (n : Fin 512) (value : Word)
  /-- TRANSACTION_START (R224). A due transaction starts when the port is idle, in priority order. -/
  | transactionStart (k : Fin 32)
  /-- TRANSACTION_END (R223). A read or command transaction ends and its words are processed. `words` are the words read, in the order of the chip selects. -/
  | transactionEnd (k : Fin 32) (words : List Nat)
  /-- CAPTURE_WRITE_COMPLETE (R235). A capture record write completes in DRAM and SMP_CAP_COUNT advances, or fails. -/
  | captureWriteComplete (n : Fin 512) (ok : Bool)
  /-- COMMAND_SEND (R236). A write of SMP_CMD_CTL.SEND queues a command word. -/
  | commandSend (k : Fin 32) (value : Word)
  /-- COMMAND_DUE (R236). A command's time or angle target is reached. -/
  | commandDue (k : Fin 32)
  /-- FIR_SWAP (R229). A write of SMP_FIR_CTL.SWAP makes the idle coefficient bank active. -/
  | firSwap (k : Fin 32) (value : Word)
  /-- EDGE_PUSH (R238). A write of SCR_EDGE_CTL.PUSH queues an edge on a Scribe pin. `value` is the word written to SCR_EDGE_CTL. -/
  | edgePush (p : Fin 32) (value : Word)
  /-- EDGE_EXECUTE (R238). A head edge's target is reached and the pin changes. -/
  | edgeExecute (p : Fin 32)
  /-- PIN_MISMATCH (R240). A pad read-back differs from the driven level for 100 ns. -/
  | pinMismatch (p : Fin 32) (pad : Bool)
  /-- PLANNED_MOVE (R249). The Rigger makes a planned move of a cell, owner or job under its policy. -/
  | plannedMove (kind : Fin 4) (item : Fin 643) (ecc : Bool)
  /-- TEMPERATURE_MOVE (R247). A group at TEMP_HI has a cell moved out. -/
  | temperatureMove (c : Fin 64) (temps : List (Fin 17 × BitVec 8)) (ecc : Bool)
  /-- EVAC_START (R252). A write of PLC_EVAC.START begins evacuation of a bank. -/
  | evacStart (bank : Fin 32)
  /-- EVAC_FRAME_COPY (R252). A frame resting 10 ms in an evacuating bank is copied to another bank. -/
  | evacFrameCopy (d : Fin 16384)
  /-- EVAC_RETURN (R252). A write of PLC_EVAC.RETURN returns an evacuated bank to service. -/
  | evacReturn (bank : Fin 32)
  /-- SLOT_START (R253). At the start of its assigned slot a reserved frame enters the class-7 queue. -/
  | slotStart (r : Fin 2)
  /-- DOMAIN_SWITCH_OFF (R258). The Rigger switches off an empty domain. -/
  | domainSwitchOff (d : Fin 80)
  /-- ODEIVO_REQUEST_ARRIVAL (R278). An Odeivo request from a frame or mailbox is queued or dropped on overflow. `data` is the frame at step 4 of R94, from the destination address to the last payload octet. -/
  | odeivoRequestArrival (p : Fin 8) (data : List Octet)
  /-- READ (R275). Returns the committed value of an object. -/
  | read
  /-- WRITE (R269). Stages a value for an object subject to rights and limits. -/
  | write
  /-- READ_STAGED (R275). Returns the staged value of an object. -/
  | readStaged
  /-- DESCRIBE (R275). Returns type, access, commit point and default of an object. -/
  | describe
  /-- COMMIT (R270). Starts the admission check of the staged configuration. -/
  | commit
  /-- DISCARD (R269). Removes every staged value not yet admitted. -/
  | discard
  /-- TABLE_READ (R272). Reads octets of the idle or active bank of a table. -/
  | tableRead
  /-- TABLE_WRITE (R272). Writes octets directly into the idle bank of a table. -/
  | tableWrite
  /-- CRIT (R290). An authenticated critical command is checked and its inner operation carried out. -/
  | crit
  /-- ADMISSION_CHECK_END (R271). The admission check ends; staged values become admitted or the commit is refused. -/
  | admissionCheckEnd
  /-- COMMIT_POINT (R271). Admitted values are written to their backing fields at their commit point. -/
  | commitPoint (point : CommitPoint)
  /-- MAILBOX_GO (R281). A write of DCT_MBOX_CTL.GO submits the mailbox request. -/
  | mailboxGo (m : Fin 2)
  /-- TEST_CMAC_START (R299). A write of AUT_TEST_CTL.START computes a CMAC over the test message. -/
  | testCmacStart (value : Word)
  /-- TEST_CMAC_DONE (R299). The test CMAC is complete and TEST_DONE is set. -/
  | testCmacDone
  /-- SPI_WRITE (R306). An SPI frame with CMD 0x02 writes register words. `octets` are those of the frame after the address. -/
  | spiWrite (addr : BitVec 24) (octets : List Octet)
  /-- SPI_READ (R307). An SPI frame with CMD 0x0B reads register words with wait octets and markers. `words` is how many words the device answers before the frame ends, `waits` the wait octets before each marker. -/
  | spiRead (addr : BitVec 24) (words : Nat) (waits : Fin 33)
  /-- SPI_STATUS (R307). An SPI frame with CMD 0x05 returns the status octet. `n` is how many status octets the host clocks. -/
  | spiStatus (n : Nat)
  /-- SPI_BAD_FRAME (R306). An SPI frame with unknown CMD or misaligned address is ignored and BAD set. `octets` are those of the whole frame. -/
  | spiBadFrame (octets : List Octet)
  /-- JOB_EN_WRITE (R311). A write of DMA_JOB_EN enables and places jobs, or stops and removes them. -/
  | jobEnWrite (u : Fin 2) (hi : Bool) (value : Word)
  /-- DMA_START (R313). A write of DMA_CTL.START checks the job set and starts the transfer. -/
  | dmaStart (u : Fin 2) (j : Fin 64) (value : Word)
  /-- DMA_STOP (R313). A write of DMA_CTL.STOP ends the transfer at the next burst boundary. -/
  | dmaStop (u : Fin 2) (j : Fin 64) (value : Word)
  /-- SHADOW_ARM (R315). A write of DMA_SH_CTL.ARM arms the shadow set for the next transfer. -/
  | shadowArm (u : Fin 2) (j : Fin 64) (value : Word)
  /-- REQUEST_SET (R319). A write of DMA_REQ_SET adds requests to request lines. -/
  | requestSet (u : Fin 2) (w : Fin 4) (value : Word)
  /-- BURST_GRANT (R320). A unit grants its next burst to the highest eligible running job. -/
  | burstGrant (u : Fin 2)
  /-- TRANSFER_END (R316). A transfer's last byte or frame completes; DONE is set and a shadow set starts. -/
  | transferEnd (j : Fin 64)
  /-- BUS_ERROR (R321). A bus error stops the unit and every running job on it. -/
  | busError (u : Fin 2) (j : Fin 64) (kind : Fin 5) (addr : BitVec 64)
  /-- UNIT_CLEAR (R321). A write of DMA_UNIT_CTL.CLEAR returns a stopped unit to service. -/
  | unitClear (u : Fin 2)
  /-- PERST (R411). PERST_N resets only the host port. -/
  | perst (low : Bool)
  /-- RETRAIN_DUE (R331). Every RETRAIN_MS a channel runs its DQS oscillator and updates delays if drifted. -/
  | retrainDue (drift : Nat) (beyond : Bool)
  /-- MR4_READ (R332). Every MR4_MS the controller reads MR4 and sets the refresh multiplier. -/
  | mr4Read (ch : Fin 2) (code : BitVec 3)
  /-- REFRESH_DUE (R333). A refresh falls due and is issued or postponed. -/
  | refreshDue (ch : Fin 2)
  /-- DRAM_ACCESS_GRANT (R336). A channel grants one 64-byte access to the highest-ranked waiting port. -/
  | dramAccessGrant (ch : Fin 2) (rmwBad : Bool)
  /-- DRAM_READ_COMPLETE (R328). A DRAM read returns data, corrected or marked uncorrectable. `result`: 0 good, 1 corrected, 2 uncorrectable. -/
  | dramReadComplete (ch : Fin 2) (result : Fin 3)
  /-- CHANNEL_DOWN (R339). A channel's PHY loses lock and the channel goes down. -/
  | channelDown (ch : Fin 2)
  /-- CHANNEL_RETRAIN (R339). A write of MEM_CH_CTL.RETRAIN runs full training on a down channel. -/
  | channelRetrain (ch : Fin 2) (value : Word)
  /-- TRAINING_DONE (R330). A channel's training ends at a passing rate or fails. `answer` is what the channel answers with (devices and density), none when absent; `rate` the rate that passed. -/
  | trainingDone (ch : Fin 2) (answer : Option (Fin 2 × Fin 3)) (rate : Option (Fin 5))
  /-- EXTERNAL_ASSERTION (R357). A filtered fall of FAULT_N not driven by the device is logged and counted. -/
  | externalAssertion
  /-- LINE_HIGH (R356). FAULT_N driven low reads high for 1 µs. -/
  | lineHigh
  /-- LINE_STUCK (R358). FAULT_N low for LINE_WINDOW ms is ignored as stuck. -/
  | lineStuck
  /-- LINE_STUCK_CLEAR (R358). FAULT_N high for 1 ms clears LINE_STUCK. -/
  | lineStuckClear
  /-- LOG_WRITE_COMPLETE (R361). A log entry write to DRAM completes or fails. -/
  | logWriteComplete (ok : Bool)
  /-- LOG_RESUME (R362). A write of 1 to LOG_MEM_FAIL resumes writing frozen, gap and newest entries. -/
  | logResume
  /-- LOG_STAGE_FAIL (R363). A staging parity error stops logging until reset. -/
  | logStageFail
  /-- FAULT_INJECT (R364). In factory test mode a write of STA_INJECT.GO makes one fault event. -/
  | faultInject (value : Word)
  /-- STARTUP_BEGIN (R368). The later of PWR_OK and RESET_N rising starts the start-up sequence. -/
  | startupBegin
  /-- STARTUP_STEP_COMPLETE (R377). A start-up step completes and the next begins, or the sequence stops with a code. -/
  | startupStepComplete (res : StepEnd)
  /-- POWER_FAIL_RESET (R368). A fall of PWR_OK resets the device with RESET_CAUSE 2. -/
  | powerFailReset
  /-- RESET (R379). RESET_N low for 1 µs resets every block except the GRAVE latches. -/
  | reset
  /-- SUPPLY_LOW (R368). A rail below range for 1 µs records SUPPLY_LOW. -/
  | supplyLow
  /-- CORE_PLL_UNLOCK (R368). A core PLL loss of lock is recorded, or resets the device if longer than 1 µs. -/
  | corePllUnlock (long : Bool)
  /-- AVS_READING (R370). Every 10 µs the worst slack is read and VREQ adjusted. -/
  | avsReading (dom : Fin 80) (slack : BitVec 16)
  /-- RUN_CMD (R374). A PWR_CMD with TARGET 0 wakes the device from Doze. -/
  | runCmd
  /-- DOZE_CMD (R373). A PWR_CMD with TARGET 1 enters Doze or is refused. -/
  | dozeCmd
  /-- HOLD_CMD (R373). A PWR_CMD with TARGET 2 sends a 0x05 notice and enters Hold or is refused. -/
  | holdCmd
  /-- DEEP_HOLD_CMD (R373). A PWR_CMD with TARGET 3 enters Deep Hold or is refused. -/
  | deepHoldCmd
  /-- STATE_CHANGE (R372). Entry to or exit from a power state completes. -/
  | stateChange
  /-- WAKE (R374). An enabled wake source wakes the device from a standby state. -/
  | wake (source : Fin 4)
  /-- DOMAIN_SWITCH_ON (R376). A power domain begins switching on. -/
  | domainSwitchOn (d : Fin 80)
  /-- DOMAIN_ON_COMPLETE (R376). A domain reports power good, passes slack and starts its clock. -/
  | domainOnComplete (d : Fin 80) (slack : BitVec 16)
  /-- DOMAIN_FAIL (R376). A domain not reporting power good within 20 µs stays off. -/
  | domainFail (d : Fin 80)
  /-- OVERTEMP (R376). A junction sensor at 150 °C for 1 ms records OVERTEMP. -/
  | overtemp (sensor : Fin 21)
  /-- BOOT_GO (R378). A write of GLB_BOOT_CTL.GO starts loading a host-written image. -/
  | bootGo
  /-- IMAGE_WORD_WRITE (R378). A write of GLB_IMG_DATA stores an image word and advances GLB_IMG_ADDR. -/
  | imageWordWrite (value : Word)
  /-- SWEEP_DUE (R385). SWEEP_H hours pass and a test sweep starts. -/
  | sweepDue
  /-- RUN_NOW (R385). A write of IST_CMD.RUN_NOW starts a sweep at once. -/
  | runNow
  /-- TEST_ONE (R385). A run with TEST_ONE runs only test TEST. -/
  | testOne (test : Fin 8)
  /-- TEST_UNIT_START (R384). A test unit starts when its conditions allow. -/
  | testUnitStart (test : Fin 6) (unit : Fin 68)
  /-- TEST_UNIT_END (R384). A test unit passes or fails. -/
  | testUnitEnd (pass : Bool) (a : Nat) (b : Nat)
  /-- POWER_CYCLE (R388). A write of IST_CYCLE.GO empties, power-cycles and retests a domain, or refuses. -/
  | powerCycle (d : BitVec 7)
  /-- TRACE_FRAME_SEND (R396). A trace frame is sent at MAX_REC records or 100 µs after its first. -/
  | traceFrameSend
  /-- TRACE_DRAM_WRITE_COMPLETE (R396). A trace record write to DRAM completes. -/
  | traceDramWriteComplete (ok : Bool)
  /-- EXTEST (R399). JTAG EXTEST instruction, acting as BYPASS while READY is high. -/
  | extest
  /-- SAMPLE_PRELOAD (R399). JTAG SAMPLE/PRELOAD instruction. -/
  | samplePreload
  /-- IDCODE (R399). JTAG IDCODE instruction returning 0x1512_0001 with fused bits. -/
  | idcode
  /-- CLAMP (R399). JTAG CLAMP instruction, acting as BYPASS while READY is high. -/
  | clamp
  /-- HIGHZ (R399). JTAG HIGHZ instruction, acting as BYPASS while READY is high. -/
  | highz
  /-- BYPASS (R399). JTAG BYPASS instruction, also taken by every other code. -/
  | bypass (code : BitVec 4)
  /-- TIMEBASE_PLL_UNLOCK (R349). The timebase PLL loses lock and TIM fault source PLL_UNLOCK records an event. -/
  | timebasePllUnlock
  /-- EQ_LIMIT (R71). The receive equaliser loop would go beyond CTLE_MIN or CTLE_MAX, holds at the limit and records fault source EQ_LIMIT. -/
  | eqLimit (p : Fin 8) (high : Bool)
  /-- PCS_ERR (R93). The PCS error rate of a port rises above the limit of its mode and fault source PCS_ERR records an event. -/
  | pcsErr (p : Fin 8)
  /-- PCIE_AER (R349). The PCI Express endpoint detects an uncorrectable error reported through advanced error reporting, and GLB fault source PCIE_AER records an event. -/
  | pcieAer
  /-- PCIE_LINK_CHANGE (R300). The PCI Express link finishes training or goes down, changing GLB_PCIE_STAT.LINK_UP, SPEED and WIDTH. -/
  | pcieLinkChange (up : Bool) (speed : Fin 3) (x2 : Bool)
  /-- PCIE_CONFIG_WRITE (R304). A host configuration write changes Bus Master Enable, MSI-X Enable or the function's D-state. -/
  | pcieConfigWrite (busMaster : Bool) (msixEn : Bool) (msixMask : Bool) (d3 : Bool)
  /-- FAULT_N_RISE (R357). The filtered level of FAULT_N returns high while the device is not driving it, clearing SEEN_LOW and re-arming external assertion. -/
  | faultNRise
  /-- VCORE_REMOVAL (R415). VCORE stays below 0.30 V for 1 ms and the GRAVE latches, STA_GRAVE and the FAULT_N drive clear. -/
  | vcoreRemoval
  /-- TRACE_PIN_RECORD_SENT (R396). The pin output finishes sending a record on TRC_D, freeing a queue place and allowing a pending loss record. -/
  | tracePinRecordSent
  deriving DecidableEq, Repr

end Sys2Proof
end

