-- ==== Sys2Proof/Config.lean ====
section
/-! DEFINITION. What an implementation fixes and the values the spec leaves open. Free values have no body: nothing can evaluate them. -/

namespace Sys2Proof.Config

/-- A free 64-bit value, the BOOT_ID drawn at draw number `n` (R289). FREE VALUE, log entry 5. -/
opaque bootId : Nat → BitVec 64

/-- A free word for a value the spec does not state; `n` counts the uses. FREE VALUE, log entry 6. -/
opaque freeWord : Nat → BitVec 32

/-- The rational approximation of π of the servo gains (R428): this number over 10^20. DESIGN CHOICE, log entry 9. -/
def piScaled : Nat := 314159265358979323846

/-- The fused part of IDCODE, bits [11:1] (R399). FREE VALUE, log entry 7. -/
opaque jtagFuses : BitVec 11

/-- The fused vendor and subsystem identities (R300). FREE VALUE, log entry 7. -/
opaque vendorId : BitVec 16
opaque subsystemId : BitVec 16
opaque subsystemVendor : BitVec 16

end Sys2Proof.Config
end

