-- ==== Sys2Proof/Machine/RegRow.lean ====
section
/-! DEFINITION. The register map of BAR0: one address function per register and one `Fld` per field, and one `Row` per register with its reset word and the masks of its access codes.
Written from the register tables of the chapters of spec/ (the file and rule of each window are named at its section); R405 places the windows, R6 gives the access codes. -/
namespace Sys2Proof.Machine

/-- A field of a register word: the key of its word, its lowest bit and its width. -/
structure Fld where
  addr : Nat
  lo : Nat
  w : Nat
  deriving DecidableEq, Repr

/-- One register of the map. `dims` holds (stride, count) of each index, outermost first; `resets` overrides `reset` by the first index where it is not empty. The masks gather the bits of each access code of R6; `rd` the bits a read returns (not RSV, not WO). -/
structure Row where
  base : Nat
  dims : List (Nat × Nat)
  reset : Nat
  resets : List Nat
  rw : Nat
  w1c : Nat
  w1s : Nat
  wo : Nat
  rd : Nat
  deriving DecidableEq, Repr

end Sys2Proof.Machine
end

