-- ==== Sys2Proof/Machine/RegMapA.lean ====
section
/-! DEFINITION. Register addresses and fields of the windows GLB, PWR, TIM, ANG, PRT, FRM, from the register tables of spec/ (one section per window). -/

namespace Sys2Proof.Machine.Reg

/-! ### GLB: spec/ chapter 14, 17 (R323, R382) -/

/-- GLB_PCIE_ID: Device and vendor ID. -/
def GLB_PCIE_ID : Nat := 0x400
def GLB_PCIE_ID.DEVICE_ID : Fld := ⟨0x400, 16, 16⟩
def GLB_PCIE_ID.VENDOR_ID : Fld := ⟨0x400, 0, 16⟩
/-- GLB_PCIE_SUBSYS: Subsystem IDs. -/
def GLB_PCIE_SUBSYS : Nat := 0x404
def GLB_PCIE_SUBSYS.SUBSYS_ID : Fld := ⟨0x404, 16, 16⟩
def GLB_PCIE_SUBSYS.SUBSYS_VENDOR : Fld := ⟨0x404, 0, 16⟩
/-- GLB_PCIE_STAT: Link and function state. -/
def GLB_PCIE_STAT : Nat := 0x408
def GLB_PCIE_STAT.LINK_UP : Fld := ⟨0x408, 31, 1⟩
def GLB_PCIE_STAT.SPEED : Fld := ⟨0x408, 24, 4⟩
def GLB_PCIE_STAT.WIDTH : Fld := ⟨0x408, 20, 4⟩
def GLB_PCIE_STAT.D3HOT : Fld := ⟨0x408, 3, 1⟩
def GLB_PCIE_STAT.MSIX_EN : Fld := ⟨0x408, 2, 1⟩
def GLB_PCIE_STAT.MSIX_MASK : Fld := ⟨0x408, 1, 1⟩
def GLB_PCIE_STAT.BUS_MASTER : Fld := ⟨0x408, 0, 1⟩
/-- GLB_DIAG_PAGE: Locker window page. -/
def GLB_DIAG_PAGE : Nat := 0x40c
def GLB_DIAG_PAGE.PAGE : Fld := ⟨0x40c, 0, 1⟩
/-- GLB_HOST_ERR: Refused host accesses. -/
def GLB_HOST_ERR : Nat := 0x410
def GLB_HOST_ERR.COUNT : Fld := ⟨0x410, 0, 32⟩
/-- GLB_SPI_STAT: SPI frame errors. -/
def GLB_SPI_STAT : Nat := 0x414
def GLB_SPI_STAT.PARTIAL : Fld := ⟨0x414, 1, 1⟩
def GLB_SPI_STAT.BAD : Fld := ⟨0x414, 0, 1⟩
/-- GLB_SPI_ERR_CNT: Malformed SPI frames. -/
def GLB_SPI_ERR_CNT : Nat := 0x418
def GLB_SPI_ERR_CNT.COUNT : Fld := ⟨0x418, 0, 32⟩
/-- GLB_BOOT: Step and failure. -/
def GLB_BOOT : Nat := 0x100
def GLB_BOOT.STEP : Fld := ⟨0x100, 24, 8⟩
def GLB_BOOT.UNIT : Fld := ⟨0x100, 16, 8⟩
def GLB_BOOT.CODE : Fld := ⟨0x100, 0, 16⟩
/-- GLB_BOOT_CTL: Host image start. -/
def GLB_BOOT_CTL : Nat := 0x104
def GLB_BOOT_CTL.GO : Fld := ⟨0x104, 31, 1⟩
/-- GLB_IMG_ADDR: Host image word index. -/
def GLB_IMG_ADDR : Nat := 0x108
def GLB_IMG_ADDR.INDEX : Fld := ⟨0x108, 0, 21⟩
/-- GLB_IMG_DATA: Host image word. -/
def GLB_IMG_DATA : Nat := 0x10c
def GLB_IMG_DATA.WORD : Fld := ⟨0x10c, 0, 32⟩
/-- GLB_STRAP: Straps and fuses. -/
def GLB_STRAP : Nat := 0x110
def GLB_STRAP.IMG_COPY : Fld := ⟨0x110, 5, 1⟩
def GLB_STRAP.FACTORY_FUSE : Fld := ⟨0x110, 4, 1⟩
def GLB_STRAP.TESTEN : Fld := ⟨0x110, 2, 1⟩
def GLB_STRAP.BOOTSEL : Fld := ⟨0x110, 0, 2⟩
/-- GLB_BOOT_TIME: Start to READY. -/
def GLB_BOOT_TIME : Nat := 0x114
def GLB_BOOT_TIME.US : Fld := ⟨0x114, 0, 32⟩
/-- GLB_BOOT_ID_LO: BOOT_ID [31:0]; a read captures GLB_BOOT_ID_HI. -/
def GLB_BOOT_ID_LO : Nat := 0x118
def GLB_BOOT_ID_LO.BOOT_ID : Fld := ⟨0x118, 0, 32⟩
/-- GLB_BOOT_ID_HI: BOOT_ID [63:32]. -/
def GLB_BOOT_ID_HI : Nat := 0x11c
def GLB_BOOT_ID_HI.BOOT_ID : Fld := ⟨0x11c, 0, 32⟩

/-! ### PWR: spec/ chapter 17 (R381) -/

/-- PWR_CMD: State request. -/
def PWR_CMD : Nat := 0x10100
def PWR_CMD.GO : Fld := ⟨0x10100, 31, 1⟩
def PWR_CMD.TARGET : Fld := ⟨0x10100, 0, 3⟩
/-- PWR_STATE: State and last refusal. -/
def PWR_STATE : Nat := 0x10104
def PWR_STATE.STATE : Fld := ⟨0x10104, 29, 3⟩
def PWR_STATE.REFUSE : Fld := ⟨0x10104, 8, 3⟩
/-- PWR_WAKE_CFG: Wake sources. -/
def PWR_WAKE_CFG : Nat := 0x10108
def PWR_WAKE_CFG.PHY_LATCH : Fld := ⟨0x10108, 8, 1⟩
def PWR_WAKE_CFG.PCIE_EN : Fld := ⟨0x10108, 3, 1⟩
def PWR_WAKE_CFG.SPI_EN : Fld := ⟨0x10108, 2, 1⟩
def PWR_WAKE_CFG.PHY_EN : Fld := ⟨0x10108, 1, 1⟩
def PWR_WAKE_CFG.PIN_EN : Fld := ⟨0x10108, 0, 1⟩
/-- PWR_WAKE_CAUSE: Wake and reset cause. -/
def PWR_WAKE_CAUSE : Nat := 0x1010c
def PWR_WAKE_CAUSE.RESET_CAUSE : Fld := ⟨0x1010c, 28, 4⟩
def PWR_WAKE_CAUSE.WAKE : Fld := ⟨0x1010c, 0, 4⟩
/-- PWR_AVS: AVS limits. -/
def PWR_AVS : Nat := 0x10110
def PWR_AVS.FREEZE : Fld := ⟨0x10110, 31, 1⟩
def PWR_AVS.VMAX : Fld := ⟨0x10110, 24, 6⟩
def PWR_AVS.VMIN : Fld := ⟨0x10110, 16, 6⟩
def PWR_AVS.TARGET : Fld := ⟨0x10110, 8, 8⟩
/-- PWR_AVS_STAT: AVS readout. -/
def PWR_AVS_STAT : Nat := 0x10114
def PWR_AVS_STAT.VREQ : Fld := ⟨0x10114, 24, 6⟩
def PWR_AVS_STAT.WORST_DOM : Fld := ⟨0x10114, 16, 7⟩
def PWR_AVS_STAT.SLACK : Fld := ⟨0x10114, 0, 16⟩
/-- PWR_TEMP: Hottest sensor. -/
def PWR_TEMP : Nat := 0x10118
def PWR_TEMP.MAX : Fld := ⟨0x10118, 16, 8⟩
def PWR_TEMP.SENSOR : Fld := ⟨0x10118, 0, 5⟩
/-- PWR_LOOP_STAT: Chuck clock gating. -/
def PWR_LOOP_STAT : Nat := 0x1011c
def PWR_LOOP_STAT.CHK_GATED : Fld := ⟨0x1011c, 0, 8⟩
/-- PWR_DOM_ON: Domains on, w = 0 to 2. -/
def PWR_DOM_ON (w : Nat) : Nat := 0x10120 + 4 * w
def PWR_DOM_ON.DOM (w : Nat) : Fld := ⟨0x10120 + 4 * w, 0, 32⟩
/-- PWR_DOM_FAIL: Domains failed, w = 0 to 2. -/
def PWR_DOM_FAIL (w : Nat) : Nat := 0x10130 + 4 * w
def PWR_DOM_FAIL.DOM (w : Nat) : Fld := ⟨0x10130 + 4 * w, 0, 32⟩

/-! ### TIM: spec/ chapter 02 (R46) -/

/-- TIM_CFG: Servo and source configuration. -/
def TIM_CFG : Nat := 0x20100
def TIM_CFG.SERVO_BW : Fld := ⟨0x20100, 24, 4⟩
def TIM_CFG.SRC_RING : Fld := ⟨0x20100, 22, 2⟩
def TIM_CFG.BMCA_EN : Fld := ⟨0x20100, 21, 1⟩
def TIM_CFG.STEP_THR : Fld := ⟨0x20100, 0, 20⟩
/-- TIM_EPISODE: Begins an episode. -/
def TIM_EPISODE : Nat := 0x20104
def TIM_EPISODE.SET : Fld := ⟨0x20104, 1, 1⟩
def TIM_EPISODE.START : Fld := ⟨0x20104, 0, 1⟩
/-- TIM_SERVO: Servo state. -/
def TIM_SERVO : Nat := 0x20108
def TIM_SERVO.EPISODE : Fld := ⟨0x20108, 24, 8⟩
def TIM_SERVO.SLAVE_PORT : Fld := ⟨0x20108, 8, 8⟩
def TIM_SERVO.STATE : Fld := ⟨0x20108, 0, 3⟩
/-- TIM_RATE: Rate word. -/
def TIM_RATE : Nat := 0x2010c
def TIM_RATE.RATE : Fld := ⟨0x2010c, 0, 32⟩
/-- TIM_OFFSET: Last measured offset. -/
def TIM_OFFSET : Nat := 0x20110
def TIM_OFFSET.OFFSET : Fld := ⟨0x20110, 0, 32⟩
/-- TIM_HANDOVER: Remaining handover difference. -/
def TIM_HANDOVER : Nat := 0x20114
def TIM_HANDOVER.REMAIN : Fld := ⟨0x20114, 0, 32⟩
/-- TIM_NOW_LO: Distributed time [31:0]; a read captures all snapshot words. -/
def TIM_NOW_LO : Nat := 0x20120
def TIM_NOW_LO.NOW : Fld := ⟨0x20120, 0, 32⟩
/-- TIM_NOW_MID: Distributed time [63:32]. -/
def TIM_NOW_MID : Nat := 0x20124
def TIM_NOW_MID.NOW : Fld := ⟨0x20124, 0, 32⟩
/-- TIM_NOW_HI: Distributed time [95:64]. -/
def TIM_NOW_HI : Nat := 0x20128
def TIM_NOW_HI.NOW : Fld := ⟨0x20128, 0, 32⟩
/-- TIM_COMPAT: Forerunner stamp of the captured time. -/
def TIM_COMPAT : Nat := 0x2012c
def TIM_COMPAT.COMPAT : Fld := ⟨0x2012c, 0, 32⟩
/-- TIM_SET_LO: Time to load, [31:0]. -/
def TIM_SET_LO : Nat := 0x20130
def TIM_SET_LO.SET : Fld := ⟨0x20130, 0, 32⟩
/-- TIM_SET_MID: Time to load, [63:32]. -/
def TIM_SET_MID : Nat := 0x20134
def TIM_SET_MID.SET : Fld := ⟨0x20134, 0, 32⟩
/-- TIM_SET_HI: Time to load, [95:64]. -/
def TIM_SET_HI : Nat := 0x20138
def TIM_SET_HI.SET : Fld := ⟨0x20138, 0, 32⟩
/-- TIM_HAL_DIFF: Last A − B comparison. -/
def TIM_HAL_DIFF : Nat := 0x20140
def TIM_HAL_DIFF.DIFF : Fld := ⟨0x20140, 0, 32⟩
/-- TIM_FAILOVER_CNT: Failovers. -/
def TIM_FAILOVER_CNT : Nat := 0x20144
def TIM_FAILOVER_CNT.COUNT : Fld := ⟨0x20144, 0, 32⟩
/-- TIM_REFUSED_CNT: Refused steps. -/
def TIM_REFUSED_CNT : Nat := 0x20148
def TIM_REFUSED_CNT.COUNT : Fld := ⟨0x20148, 0, 32⟩
/-- TIM_DOMAIN: Domain numbers. -/
def TIM_DOMAIN : Nat := 0x20150
def TIM_DOMAIN.PTP_DOMAIN : Fld := ⟨0x20150, 8, 8⟩
def TIM_DOMAIN.GPTP_DOMAIN : Fld := ⟨0x20150, 0, 8⟩
/-- TIM_INTERVAL: Message intervals. -/
def TIM_INTERVAL : Nat := 0x20154
def TIM_INTERVAL.LOG_PDELAY : Fld := ⟨0x20154, 16, 8⟩
def TIM_INTERVAL.LOG_ANNOUNCE : Fld := ⟨0x20154, 8, 8⟩
def TIM_INTERVAL.LOG_SYNC : Fld := ⟨0x20154, 0, 8⟩
/-- TIM_PORT_SEL: Port for TIM_PORT_CFG and TIM_LAT. -/
def TIM_PORT_SEL : Nat := 0x20160
def TIM_PORT_SEL.PORT : Fld := ⟨0x20160, 0, 3⟩
/-- TIM_PORT_CFG: PTP role of the selected port. -/
def TIM_PORT_CFG (p : Nat) : Nat := 0x1240000 + 8 * p
def TIM_PORT_CFG.DELAY_E2E (p : Nat) : Fld := ⟨0x1240000 + 8 * p, 5, 1⟩
def TIM_PORT_CFG.ONE_STEP (p : Nat) : Fld := ⟨0x1240000 + 8 * p, 4, 1⟩
def TIM_PORT_CFG.ROLE (p : Nat) : Fld := ⟨0x1240000 + 8 * p, 0, 4⟩
/-- TIM_LAT: Stamp latency of the selected port. -/
def TIM_LAT (p : Nat) : Nat := 0x1240004 + 8 * p
def TIM_LAT.EGR_LAT (p : Nat) : Fld := ⟨0x1240004 + 8 * p, 16, 16⟩
def TIM_LAT.ING_LAT (p : Nat) : Fld := ⟨0x1240004 + 8 * p, 0, 16⟩
/-- TIM_COPY_ERR: Local copy reloads. -/
def TIM_COPY_ERR : Nat := 0x20170
def TIM_COPY_ERR.COUNT : Fld := ⟨0x20170, 0, 32⟩

/-! ### ANG: spec/ chapter 03 (R66) -/

/-- ANG_SRC: Source and input. -/
def ANG_SRC (n : Nat) : Nat := 0x30200 + 0x40 * n
def ANG_SRC.KIND (n : Nat) : Fld := ⟨0x30200 + 0x40 * n, 30, 2⟩
def ANG_SRC.REVS2 (n : Nat) : Fld := ⟨0x30200 + 0x40 * n, 29, 1⟩
def ANG_SRC.AUTO_RESYNC (n : Nat) : Fld := ⟨0x30200 + 0x40 * n, 28, 1⟩
def ANG_SRC.DIR_MODE (n : Nat) : Fld := ⟨0x30200 + 0x40 * n, 26, 2⟩
def ANG_SRC.CAM_EN (n : Nat) : Fld := ⟨0x30200 + 0x40 * n, 25, 1⟩
def ANG_SRC.CAM_POL (n : Nat) : Fld := ⟨0x30200 + 0x40 * n, 24, 1⟩
def ANG_SRC.EDGE (n : Nat) : Fld := ⟨0x30200 + 0x40 * n, 23, 1⟩
def ANG_SRC.INPUT (n : Nat) : Fld := ⟨0x30200 + 0x40 * n, 20, 3⟩
def ANG_SRC.COAST_TEETH (n : Nat) : Fld := ⟨0x30200 + 0x40 * n, 16, 4⟩
def ANG_SRC.FILT (n : Nat) : Fld := ⟨0x30200 + 0x40 * n, 8, 8⟩
def ANG_SRC.DIR_WIDTH (n : Nat) : Fld := ⟨0x30200 + 0x40 * n, 0, 8⟩
/-- ANG_TOOTH: Wheel and detection. -/
def ANG_TOOTH (n : Nat) : Nat := 0x30204 + 0x40 * n
def ANG_TOOTH.TEETH (n : Nat) : Fld := ⟨0x30204 + 0x40 * n, 16, 11⟩
def ANG_TOOTH.MISSING (n : Nat) : Fld := ⟨0x30204 + 0x40 * n, 14, 2⟩
def ANG_TOOTH.PAT_LIMIT (n : Nat) : Fld := ⟨0x30204 + 0x40 * n, 12, 2⟩
def ANG_TOOTH.GAP (n : Nat) : Fld := ⟨0x30204 + 0x40 * n, 8, 4⟩
def ANG_TOOTH.MISS (n : Nat) : Fld := ⟨0x30204 + 0x40 * n, 4, 4⟩
def ANG_TOOTH.HOLDOFF (n : Nat) : Fld := ⟨0x30204 + 0x40 * n, 0, 4⟩
/-- ANG_TRACK: Tracking loop. -/
def ANG_TRACK (n : Nat) : Nat := 0x30208 + 0x40 * n
def ANG_TRACK.BW_NOW (n : Nat) : Fld := ⟨0x30208 + 0x40 * n, 24, 4⟩
def ANG_TRACK.BW_MAX (n : Nat) : Fld := ⟨0x30208 + 0x40 * n, 16, 4⟩
def ANG_TRACK.BW_MIN (n : Nat) : Fld := ⟨0x30208 + 0x40 * n, 8, 4⟩
def ANG_TRACK.BW_FREEZE (n : Nat) : Fld := ⟨0x30208 + 0x40 * n, 0, 1⟩
/-- ANG_PHASE: Phase offset. -/
def ANG_PHASE (n : Nat) : Nat := 0x3020c + 0x40 * n
def ANG_PHASE.PHASE_OFS (n : Nat) : Fld := ⟨0x3020c + 0x40 * n, 0, 24⟩
/-- ANG_REMOTE: Remote source. -/
def ANG_REMOTE (n : Nat) : Nat := 0x30210 + 0x40 * n
def ANG_REMOTE.TIMEOUT (n : Nat) : Fld := ⟨0x30210 + 0x40 * n, 16, 16⟩
def ANG_REMOTE.STREAM (n : Nat) : Fld := ⟨0x30210 + 0x40 * n, 0, 9⟩
/-- ANG_PUB: Publication. -/
def ANG_PUB (n : Nat) : Nat := 0x30214 + 0x40 * n
def ANG_PUB.EN (n : Nat) : Fld := ⟨0x30214 + 0x40 * n, 31, 1⟩
def ANG_PUB.STREAM (n : Nat) : Fld := ⟨0x30214 + 0x40 * n, 16, 9⟩
def ANG_PUB.DIV (n : Nat) : Fld := ⟨0x30214 + 0x40 * n, 8, 8⟩
def ANG_PUB.MAX_REC (n : Nat) : Fld := ⟨0x30214 + 0x40 * n, 0, 6⟩
/-- ANG_STATE: State. -/
def ANG_STATE (n : Nat) : Nat := 0x30218 + 0x40 * n
def ANG_STATE.REASON (n : Nat) : Fld := ⟨0x30218 + 0x40 * n, 24, 4⟩
def ANG_STATE.PHASE_ASSUMED (n : Nat) : Fld := ⟨0x30218 + 0x40 * n, 20, 1⟩
def ANG_STATE.STATE (n : Nat) : Fld := ⟨0x30218 + 0x40 * n, 16, 3⟩
def ANG_STATE.POSITION (n : Nat) : Fld := ⟨0x30218 + 0x40 * n, 0, 11⟩
/-- ANG_NOW_LO: Angle stamp [31:0]; a read captures ANG_NOW_HI. -/
def ANG_NOW_LO (n : Nat) : Nat := 0x3021c + 0x40 * n
def ANG_NOW_LO.STAMP (n : Nat) : Fld := ⟨0x3021c + 0x40 * n, 0, 32⟩
/-- ANG_NOW_HI: Angle stamp [63:32]. -/
def ANG_NOW_HI (n : Nat) : Nat := 0x30220 + 0x40 * n
def ANG_NOW_HI.STAMP (n : Nat) : Fld := ⟨0x30220 + 0x40 * n, 0, 32⟩
/-- ANG_SPEED: Speed. -/
def ANG_SPEED (n : Nat) : Nat := 0x30224 + 0x40 * n
def ANG_SPEED.SPEED (n : Nat) : Fld := ⟨0x30224 + 0x40 * n, 0, 32⟩
/-- ANG_PATTERN_CNT: Pattern errors. -/
def ANG_PATTERN_CNT (n : Nat) : Nat := 0x30228 + 0x40 * n
def ANG_PATTERN_CNT.COUNT (n : Nat) : Fld := ⟨0x30228 + 0x40 * n, 0, 32⟩
/-- ANG_COAST_CNT: Coasting entries. -/
def ANG_COAST_CNT (n : Nat) : Nat := 0x3022c + 0x40 * n
def ANG_COAST_CNT.COUNT (n : Nat) : Fld := ⟨0x3022c + 0x40 * n, 0, 32⟩
/-- ANG_MARK_CTL: Mark banks. -/
def ANG_MARK_CTL (n : Nat) : Nat := 0x30230 + 0x40 * n
def ANG_MARK_CTL.ACTIVE_WR (n : Nat) : Fld := ⟨0x30230 + 0x40 * n, 8, 1⟩
def ANG_MARK_CTL.SWAP_PEND (n : Nat) : Fld := ⟨0x30230 + 0x40 * n, 4, 1⟩
def ANG_MARK_CTL.ACTIVE (n : Nat) : Fld := ⟨0x30230 + 0x40 * n, 1, 1⟩
def ANG_MARK_CTL.SWAP (n : Nat) : Fld := ⟨0x30230 + 0x40 * n, 0, 1⟩
/-- ANG_PUB_OVF: Dropped records. -/
def ANG_PUB_OVF (n : Nat) : Nat := 0x30234 + 0x40 * n
def ANG_PUB_OVF.COUNT (n : Nat) : Fld := ⟨0x30234 + 0x40 * n, 0, 32⟩
/-- ANG_CMD: Commands. -/
def ANG_CMD (n : Nat) : Nat := 0x30238 + 0x40 * n
def ANG_CMD.PHASE_FLIP (n : Nat) : Fld := ⟨0x30238 + 0x40 * n, 1, 1⟩
def ANG_CMD.RESYNC (n : Nat) : Fld := ⟨0x30238 + 0x40 * n, 0, 1⟩
/-- ANG_MARK: Mark entry (R59). -/
def ANG_MARK (b : Nat) (n : Nat) (e : Nat) : Nat := 0x34000 + 0x2000 * b + 0x400 * n + 4 * e
def ANG_MARK.EN (b : Nat) (n : Nat) (e : Nat) : Fld := ⟨0x34000 + 0x2000 * b + 0x400 * n + 4 * e, 31, 1⟩
def ANG_MARK.FRAC (b : Nat) (n : Nat) (e : Nat) : Fld := ⟨0x34000 + 0x2000 * b + 0x400 * n + 4 * e, 0, 24⟩

/-! ### PRT: spec/ chapter 04 (R92, R93) -/

/-- PRT_MODE: Mode, top rate, frame length. -/
def PRT_MODE (p : Nat) : Nat := 0x40100 + 0x10000 * p
def PRT_MODE.MODE (p : Nat) : Fld := ⟨0x40100 + 0x10000 * p, 24, 4⟩
def PRT_MODE.SPEED_MAX (p : Nat) : Fld := ⟨0x40100 + 0x10000 * p, 16, 3⟩
def PRT_MODE.MAX_LEN (p : Nat) : Fld := ⟨0x40100 + 0x10000 * p, 0, 14⟩
/-- PRT_LINK: Rate in use. -/
def PRT_LINK (p : Nat) : Nat := 0x40104 + 0x10000 * p
def PRT_LINK.SPEED_NOW (p : Nat) : Fld := ⟨0x40104 + 0x10000 * p, 0, 3⟩
/-- PRT_MACADDR_LO: Port MAC address [31:0]. -/
def PRT_MACADDR_LO (p : Nat) : Nat := 0x40108 + 0x10000 * p
def PRT_MACADDR_LO.ADDR (p : Nat) : Fld := ⟨0x40108 + 0x10000 * p, 0, 32⟩
/-- PRT_MACADDR_HI: Port MAC address [47:32]. -/
def PRT_MACADDR_HI (p : Nat) : Nat := 0x4010c + 0x10000 * p
def PRT_MACADDR_HI.ADDR (p : Nat) : Fld := ⟨0x4010c + 0x10000 * p, 0, 16⟩
/-- PRT_EQ: Receive equaliser. -/
def PRT_EQ (p : Nat) : Nat := 0x40110 + 0x10000 * p
def PRT_EQ.EQ_FREEZE (p : Nat) : Fld := ⟨0x40110 + 0x10000 * p, 31, 1⟩
def PRT_EQ.CTLE_MAX (p : Nat) : Fld := ⟨0x40110 + 0x10000 * p, 24, 5⟩
def PRT_EQ.CTLE_MIN (p : Nat) : Fld := ⟨0x40110 + 0x10000 * p, 16, 5⟩
def PRT_EQ.CTLE_NOW (p : Nat) : Fld := ⟨0x40110 + 0x10000 * p, 8, 5⟩
def PRT_EQ.DFE_TAP (p : Nat) : Fld := ⟨0x40110 + 0x10000 * p, 0, 8⟩
/-- PRT_SYNTH: Transmit synthiser. -/
def PRT_SYNTH (p : Nat) : Nat := 0x40114 + 0x10000 * p
def PRT_SYNTH.TUNE_NOW (p : Nat) : Fld := ⟨0x40114 + 0x10000 * p, 16, 8⟩
def PRT_SYNTH.SOFT_MARGIN (p : Nat) : Fld := ⟨0x40114 + 0x10000 * p, 8, 8⟩
def PRT_SYNTH.SOFT_REQ (p : Nat) : Fld := ⟨0x40114 + 0x10000 * p, 1, 1⟩
def PRT_SYNTH.RECAL_ACTIVE (p : Nat) : Fld := ⟨0x40114 + 0x10000 * p, 0, 1⟩
/-- PRT_CMD: Commands. -/
def PRT_CMD (p : Nat) : Nat := 0x40118 + 0x10000 * p
def PRT_CMD.CLEAR_STATS (p : Nat) : Fld := ⟨0x40118 + 0x10000 * p, 2, 1⟩
def PRT_CMD.RENEG (p : Nat) : Fld := ⟨0x40118 + 0x10000 * p, 1, 1⟩
def PRT_CMD.RECAL (p : Nat) : Fld := ⟨0x40118 + 0x10000 * p, 0, 1⟩
/-- PRT_TX_CFG: Transmit policy. -/
def PRT_TX_CFG (p : Nat) : Nat := 0x4011c + 0x10000 * p
def PRT_TX_CFG.DEFAULT_LATE (p : Nat) : Fld := ⟨0x4011c + 0x10000 * p, 0, 1⟩
/-- PRT_DS: Rate down-shift. -/
def PRT_DS (p : Nat) : Nat := 0x40120 + 0x10000 * p
def PRT_DS.DS_EN (p : Nat) : Fld := ⟨0x40120 + 0x10000 * p, 31, 1⟩
def PRT_DS.DS_FLOOR (p : Nat) : Fld := ⟨0x40120 + 0x10000 * p, 25, 3⟩
def PRT_DS.DWELL (p : Nat) : Fld := ⟨0x40120 + 0x10000 * p, 16, 8⟩
def PRT_DS.UP_PCT (p : Nat) : Fld := ⟨0x40120 + 0x10000 * p, 8, 8⟩
def PRT_DS.IDLE_PCT (p : Nat) : Fld := ⟨0x40120 + 0x10000 * p, 0, 8⟩
/-- PRT_PHY: PHY address and options. -/
def PRT_PHY (p : Nat) : Nat := 0x40124 + 0x10000 * p
def PRT_PHY.CL45 (p : Nat) : Fld := ⟨0x40124 + 0x10000 * p, 15, 1⟩
def PRT_PHY.INT_EN (p : Nat) : Fld := ⟨0x40124 + 0x10000 * p, 14, 1⟩
def PRT_PHY.WAKE_EN (p : Nat) : Fld := ⟨0x40124 + 0x10000 * p, 13, 1⟩
def PRT_PHY.PHY_ADDR (p : Nat) : Fld := ⟨0x40124 + 0x10000 * p, 0, 5⟩
/-- PRT_MDIO: Management command. -/
def PRT_MDIO (p : Nat) : Nat := 0x40128 + 0x10000 * p
def PRT_MDIO.START (p : Nat) : Fld := ⟨0x40128 + 0x10000 * p, 31, 1⟩
def PRT_MDIO.OP (p : Nat) : Fld := ⟨0x40128 + 0x10000 * p, 29, 2⟩
def PRT_MDIO.REG_DEV (p : Nat) : Fld := ⟨0x40128 + 0x10000 * p, 24, 5⟩
def PRT_MDIO.DATA (p : Nat) : Fld := ⟨0x40128 + 0x10000 * p, 0, 16⟩
/-- PRT_RECAL_CNT: Completed recalibrations. -/
def PRT_RECAL_CNT (p : Nat) : Nat := 0x40130 + 0x10000 * p
def PRT_RECAL_CNT.COUNT (p : Nat) : Fld := ⟨0x40130 + 0x10000 * p, 0, 32⟩
/-- PRT_RECAL_DEFER: Deferred recalibrations. -/
def PRT_RECAL_DEFER (p : Nat) : Nat := 0x40134 + 0x10000 * p
def PRT_RECAL_DEFER.COUNT (p : Nat) : Fld := ⟨0x40134 + 0x10000 * p, 0, 32⟩
/-- PRT_LOS_MASKED: Losses held under R78. -/
def PRT_LOS_MASKED (p : Nat) : Nat := 0x40138 + 0x10000 * p
def PRT_LOS_MASKED.COUNT (p : Nat) : Fld := ⟨0x40138 + 0x10000 * p, 0, 32⟩
/-- PRT_LINK_LOSS_CNT: Declared link losses. -/
def PRT_LINK_LOSS_CNT (p : Nat) : Nat := 0x4013c + 0x10000 * p
def PRT_LINK_LOSS_CNT.COUNT (p : Nat) : Fld := ⟨0x4013c + 0x10000 * p, 0, 32⟩
/-- PRT_DS_CNT: Rate shifts. -/
def PRT_DS_CNT (p : Nat) : Nat := 0x40140 + 0x10000 * p
def PRT_DS_CNT.COUNT (p : Nat) : Fld := ⟨0x40140 + 0x10000 * p, 0, 32⟩
/-- PRT_HALF_RX: Bit i: receive counter i passed half range. -/
def PRT_HALF_RX (p : Nat) : Nat := 0x40150 + 0x10000 * p
def PRT_HALF_RX.HALF (p : Nat) : Fld := ⟨0x40150 + 0x10000 * p, 0, 32⟩
/-- PRT_HALF_TX: Bit i: transmit counter i passed half range. -/
def PRT_HALF_TX (p : Nat) : Nat := 0x40154 + 0x10000 * p
def PRT_HALF_TX.HALF (p : Nat) : Fld := ⟨0x40154 + 0x10000 * p, 0, 32⟩
/-- PRT_RX_CNT: See the counter list. -/
def PRT_RX_CNT (p : Nat) (i : Nat) : Nat := 0x40400 + 0x10000 * p + 4 * i
def PRT_RX_CNT.COUNT (p : Nat) (i : Nat) : Fld := ⟨0x40400 + 0x10000 * p + 4 * i, 0, 32⟩
/-- PRT_TX_CNT: See the counter list. -/
def PRT_TX_CNT (p : Nat) (i : Nat) : Nat := 0x40480 + 0x10000 * p + 4 * i
def PRT_TX_CNT.COUNT (p : Nat) (i : Nat) : Fld := ⟨0x40480 + 0x10000 * p + 4 * i, 0, 32⟩

/-! ### FRM: spec/ chapter 05 (R111) -/

/-- FRM_CFG: Frame engine options. -/
def FRM_CFG : Nat := 0xc0100
def FRM_CFG.NOMATCH : Fld := ⟨0xc0100, 0, 1⟩
/-- FRM_RULE_CTL: Rule banks. -/
def FRM_RULE_CTL : Nat := 0xc0104
def FRM_RULE_CTL.ACTIVE_WR : Fld := ⟨0xc0104, 8, 1⟩
def FRM_RULE_CTL.ACTIVE : Fld := ⟨0xc0104, 1, 1⟩
def FRM_RULE_CTL.SWAP : Fld := ⟨0xc0104, 0, 1⟩
/-- FRM_ADMIT: Last Locker refusal. -/
def FRM_ADMIT : Nat := 0xc0108
def FRM_ADMIT.REASON : Fld := ⟨0xc0108, 0, 16⟩
/-- FRM_BANK_STATE: Banks in service. -/
def FRM_BANK_STATE : Nat := 0xc010c
def FRM_BANK_STATE.IN_SERVICE : Fld := ⟨0xc010c, 0, 24⟩
/-- FRM_RESV_GRAN: Sum of committed G. -/
def FRM_RESV_GRAN : Nat := 0xc0110
def FRM_RESV_GRAN.COUNT : Fld := ⟨0xc0110, 0, 16⟩
/-- FRM_RESV_DESC: Sum of committed DEPTH. -/
def FRM_RESV_DESC : Nat := 0xc0114
def FRM_RESV_DESC.COUNT : Fld := ⟨0xc0114, 0, 15⟩
/-- FRM_FREE_GRAN: Free granules in service. -/
def FRM_FREE_GRAN : Nat := 0xc0118
def FRM_FREE_GRAN.COUNT : Fld := ⟨0xc0118, 0, 16⟩
/-- FRM_FREE_DESC: Free descriptors. -/
def FRM_FREE_DESC : Nat := 0xc011c
def FRM_FREE_DESC.COUNT : Fld := ⟨0xc011c, 0, 15⟩
/-- FRM_DROP_STAGE: Drops at step 1. -/
def FRM_DROP_STAGE : Nat := 0xc0120
def FRM_DROP_STAGE.COUNT : Fld := ⟨0xc0120, 0, 32⟩
/-- FRM_DROP_RULE: Drops by rule action. -/
def FRM_DROP_RULE : Nat := 0xc0124
def FRM_DROP_RULE.COUNT : Fld := ⟨0xc0124, 0, 32⟩
/-- FRM_DROP_NOMATCH: Drops for no match. -/
def FRM_DROP_NOMATCH : Nat := 0xc0128
def FRM_DROP_NOMATCH.COUNT : Fld := ⟨0xc0128, 0, 32⟩
/-- FRM_DROP_QUEUE: Drops for a full queue. -/
def FRM_DROP_QUEUE : Nat := 0xc012c
def FRM_DROP_QUEUE.COUNT : Fld := ⟨0xc012c, 0, 32⟩
/-- FRM_DROP_DESC: Drops for lack of descriptors. -/
def FRM_DROP_DESC : Nat := 0xc0130
def FRM_DROP_DESC.COUNT : Fld := ⟨0xc0130, 0, 32⟩
/-- FRM_DROP_GRAN: Drops for lack of granules. -/
def FRM_DROP_GRAN : Nat := 0xc0134
def FRM_DROP_GRAN.COUNT : Fld := ⟨0xc0134, 0, 32⟩
/-- FRM_ECC_CORR: Corrected granule errors. -/
def FRM_ECC_CORR : Nat := 0xc0138
def FRM_ECC_CORR.COUNT : Fld := ⟨0xc0138, 0, 32⟩
/-- FRM_ECC_UNCORR: Uncorrectable granule errors. -/
def FRM_ECC_UNCORR : Nat := 0xc013c
def FRM_ECC_UNCORR.COUNT : Fld := ⟨0xc013c, 0, 32⟩
/-- FRM_NOTICE_CTL: Notice control. -/
def FRM_NOTICE_CTL : Nat := 0xc0140
def FRM_NOTICE_CTL.ACK : Fld := ⟨0xc0140, 31, 1⟩
def FRM_NOTICE_CTL.OPEN : Fld := ⟨0xc0140, 30, 1⟩
def FRM_NOTICE_CTL.HELD : Fld := ⟨0xc0140, 28, 2⟩
def FRM_NOTICE_CTL.LIMIT : Fld := ⟨0xc0140, 0, 11⟩
/-- FRM_NOTICE_INC: Open incident. -/
def FRM_NOTICE_INC : Nat := 0xc0144
def FRM_NOTICE_INC.CODE : Fld := ⟨0xc0144, 16, 8⟩
def FRM_NOTICE_INC.SUBJECT : Fld := ⟨0xc0144, 0, 16⟩
/-- FRM_NOTICE_CNT: Accepted notices. -/
def FRM_NOTICE_CNT : Nat := 0xc0148
def FRM_NOTICE_CNT.COUNT : Fld := ⟨0xc0148, 0, 32⟩
/-- FRM_NOTICE_POLICED: Policed notices. -/
def FRM_NOTICE_POLICED : Nat := 0xc014c
def FRM_NOTICE_POLICED.COUNT : Fld := ⟨0xc014c, 0, 32⟩
/-- FRM_PASS_A: Ring A pass-through reservation. -/
def FRM_PASS_A : Nat := 0xc0150
def FRM_PASS_A.EN : Fld := ⟨0xc0150, 31, 1⟩
def FRM_PASS_A.L_MAX : Fld := ⟨0xc0150, 15, 14⟩
def FRM_PASS_A.DEPTH : Fld := ⟨0xc0150, 0, 15⟩
/-- FRM_PASS_B: Ring B pass-through reservation. -/
def FRM_PASS_B : Nat := 0xc0154
def FRM_PASS_B.EN : Fld := ⟨0xc0154, 31, 1⟩
def FRM_PASS_B.L_MAX : Fld := ⟨0xc0154, 15, 14⟩
def FRM_PASS_B.DEPTH : Fld := ⟨0xc0154, 0, 15⟩
/-- FRM_RULE_A: Rule r of bank b, four words. -/
def FRM_RULE_A (b : Nat) (r : Nat) : Nat := 0xc1000 + 0x1000 * b + 0x10 * r
def FRM_RULE_A.EN (b : Nat) (r : Nat) : Fld := ⟨0xc1000 + 0x1000 * b + 0x10 * r, 31, 1⟩
def FRM_RULE_A.ACTION (b : Nat) (r : Nat) : Fld := ⟨0xc1000 + 0x1000 * b + 0x10 * r, 29, 2⟩
def FRM_RULE_A.QIDX (b : Nat) (r : Nat) : Fld := ⟨0xc1000 + 0x1000 * b + 0x10 * r, 25, 4⟩
def FRM_RULE_A.PORT_MASK (b : Nat) (r : Nat) : Fld := ⟨0xc1000 + 0x1000 * b + 0x10 * r, 16, 8⟩
def FRM_RULE_A.DA_MASK (b : Nat) (r : Nat) : Fld := ⟨0xc1000 + 0x1000 * b + 0x10 * r, 12, 4⟩
/-- FRM_RULE_B: Rule r of bank b, four words. -/
def FRM_RULE_B (b : Nat) (r : Nat) : Nat := 0xc1004 + 0x1000 * b + 0x10 * r
def FRM_RULE_B.VID (b : Nat) (r : Nat) : Fld := ⟨0xc1004 + 0x1000 * b + 0x10 * r, 16, 12⟩
def FRM_RULE_B.VID_EN (b : Nat) (r : Nat) : Fld := ⟨0xc1004 + 0x1000 * b + 0x10 * r, 15, 1⟩
def FRM_RULE_B.TAG (b : Nat) (r : Nat) : Fld := ⟨0xc1004 + 0x1000 * b + 0x10 * r, 13, 2⟩
def FRM_RULE_B.PCP_MASK (b : Nat) (r : Nat) : Fld := ⟨0xc1004 + 0x1000 * b + 0x10 * r, 0, 8⟩
/-- FRM_RULE_C: Rule r of bank b, four words. -/
def FRM_RULE_C (b : Nat) (r : Nat) : Nat := 0xc1008 + 0x1000 * b + 0x10 * r
def FRM_RULE_C.ETYPE (b : Nat) (r : Nat) : Fld := ⟨0xc1008 + 0x1000 * b + 0x10 * r, 16, 16⟩
def FRM_RULE_C.ETYPE_EN (b : Nat) (r : Nat) : Fld := ⟨0xc1008 + 0x1000 * b + 0x10 * r, 15, 1⟩
/-- FRM_RULE_D: Rule r of bank b, four words. -/
def FRM_RULE_D (b : Nat) (r : Nat) : Nat := 0xc100c + 0x1000 * b + 0x10 * r
def FRM_RULE_D.IDENT (b : Nat) (r : Nat) : Fld := ⟨0xc100c + 0x1000 * b + 0x10 * r, 30, 2⟩
def FRM_RULE_D.HANDLE (b : Nat) (r : Nat) : Fld := ⟨0xc100c + 0x1000 * b + 0x10 * r, 16, 9⟩
def FRM_RULE_D.STREAM (b : Nat) (r : Nat) : Fld := ⟨0xc100c + 0x1000 * b + 0x10 * r, 0, 9⟩
/-- FRM_Q_A: Queue q configuration. -/
def FRM_Q_A (q : Nat) : Nat := 0xc3000 + 8 * q
def FRM_Q_A.EN (q : Nat) : Fld := ⟨0xc3000 + 8 * q, 31, 1⟩
def FRM_Q_A.BIND (q : Nat) : Fld := ⟨0xc3000 + 8 * q, 29, 2⟩
def FRM_Q_A.L_MAX (q : Nat) : Fld := ⟨0xc3000 + 8 * q, 15, 14⟩
def FRM_Q_A.DEPTH (q : Nat) : Fld := ⟨0xc3000 + 8 * q, 0, 15⟩
/-- FRM_Q_B: Queue q target and fill. -/
def FRM_Q_B (q : Nat) : Nat := 0xc3004 + 8 * q
def FRM_Q_B.FILL (q : Nat) : Fld := ⟨0xc3004 + 8 * q, 16, 15⟩
def FRM_Q_B.TARGET (q : Nat) : Fld := ⟨0xc3004 + 8 * q, 0, 7⟩
/-- FRM_STM_RESV: Reservation of stream context s. -/
def FRM_STM_RESV (s : Nat) : Nat := 0xc4000 + 4 * s
def FRM_STM_RESV.EN (s : Nat) : Fld := ⟨0xc4000 + 4 * s, 31, 1⟩
def FRM_STM_RESV.L_MAX (s : Nat) : Fld := ⟨0xc4000 + 4 * s, 15, 14⟩
def FRM_STM_RESV.DEPTH (s : Nat) : Fld := ⟨0xc4000 + 4 * s, 0, 15⟩
/-- FRM_NOTICE_MAP: Notice map under R107. -/
def FRM_NOTICE_MAP (w : Nat) : Nat := 0xc8000 + 4 * w
def FRM_NOTICE_MAP.MAP (w : Nat) : Fld := ⟨0xc8000 + 4 * w, 0, 32⟩

end Sys2Proof.Machine.Reg
end

