-- ==== Sys2Proof/Machine/RegMapB.lean ====
section
/-! DEFINITION. Register addresses and fields of the windows GTE, STM, SHD, CEL, from the register tables of spec/ (one section per window). -/

namespace Sys2Proof.Machine.Reg

/-! ### GTE: spec/ chapter 06, 07 (R130, R155) -/

/-- GTE_ADMIT: Last refusal under R128. -/
def GTE_ADMIT : Nat := 0xd0100
def GTE_ADMIT.CLASS : Fld := ⟨0xd0100, 20, 3⟩
def GTE_ADMIT.PORT : Fld := ⟨0xd0100, 16, 3⟩
def GTE_ADMIT.REASON : Fld := ⟨0xd0100, 0, 16⟩
/-- GTE_LIST_SEL: Port whose list appears at 0x8000. -/
def GTE_LIST_SEL : Nat := 0xd0104
def GTE_LIST_SEL.PORT : Fld := ⟨0xd0104, 0, 3⟩
/-- GTE_PORT_CTL: Gating and default priority. -/
def GTE_PORT_CTL (p : Nat) : Nat := 0xd1000 + 0x200 * p
def GTE_PORT_CTL.PRIO_DEFAULT (p : Nat) : Fld := ⟨0xd1000 + 0x200 * p, 1, 3⟩
def GTE_PORT_CTL.GATE_EN (p : Nat) : Fld := ⟨0xd1000 + 0x200 * p, 0, 1⟩
/-- GTE_GCL_CTL: Bank control. -/
def GTE_GCL_CTL (p : Nat) : Nat := 0xd1004 + 0x200 * p
def GTE_GCL_CTL.ACTIVE_WR (p : Nat) : Fld := ⟨0xd1004 + 0x200 * p, 8, 1⟩
def GTE_GCL_CTL.SWAP_PEND (p : Nat) : Fld := ⟨0xd1004 + 0x200 * p, 4, 1⟩
def GTE_GCL_CTL.ACTIVE (p : Nat) : Fld := ⟨0xd1004 + 0x200 * p, 1, 1⟩
def GTE_GCL_CTL.SWAP (p : Nat) : Fld := ⟨0xd1004 + 0x200 * p, 0, 1⟩
/-- GTE_PRIO_MAP: Priority to class. -/
def GTE_PRIO_MAP (p : Nat) : Nat := 0xd1008 + 0x200 * p
def GTE_PRIO_MAP.CLASS_A (p : Nat) : Fld := ⟨0xd1008 + 0x200 * p, 0, 3⟩
def GTE_PRIO_MAP.CLASS_B (p : Nat) : Fld := ⟨0xd1008 + 0x200 * p, 4, 3⟩
def GTE_PRIO_MAP.CLASS_C (p : Nat) : Fld := ⟨0xd1008 + 0x200 * p, 8, 3⟩
def GTE_PRIO_MAP.CLASS_D (p : Nat) : Fld := ⟨0xd1008 + 0x200 * p, 12, 3⟩
def GTE_PRIO_MAP.CLASS_E (p : Nat) : Fld := ⟨0xd1008 + 0x200 * p, 16, 3⟩
def GTE_PRIO_MAP.CLASS_F (p : Nat) : Fld := ⟨0xd1008 + 0x200 * p, 20, 3⟩
def GTE_PRIO_MAP.CLASS_G (p : Nat) : Fld := ⟨0xd1008 + 0x200 * p, 24, 3⟩
def GTE_PRIO_MAP.CLASS_H (p : Nat) : Fld := ⟨0xd1008 + 0x200 * p, 28, 3⟩
/-- GTE_PREEMPT: Pre-emption configuration. -/
def GTE_PREEMPT (p : Nat) : Nat := 0xd100c + 0x200 * p
def GTE_PREEMPT.EXPRESS (p : Nat) : Fld := ⟨0xd100c + 0x200 * p, 16, 8⟩
def GTE_PREEMPT.VERIFY_TIME (p : Nat) : Fld := ⟨0xd100c + 0x200 * p, 4, 8⟩
def GTE_PREEMPT.ADD_FRAG (p : Nat) : Fld := ⟨0xd100c + 0x200 * p, 2, 2⟩
def GTE_PREEMPT.VERIFY_DIS (p : Nat) : Fld := ⟨0xd100c + 0x200 * p, 1, 1⟩
def GTE_PREEMPT.EN (p : Nat) : Fld := ⟨0xd100c + 0x200 * p, 0, 1⟩
/-- GTE_PREEMPT_STAT: Pre-emption state. -/
def GTE_PREEMPT_STAT (p : Nat) : Nat := 0xd1010 + 0x200 * p
def GTE_PREEMPT_STAT.HOLD_WAIT (p : Nat) : Fld := ⟨0xd1010 + 0x200 * p, 4, 1⟩
def GTE_PREEMPT_STAT.ACTIVE (p : Nat) : Fld := ⟨0xd1010 + 0x200 * p, 3, 1⟩
def GTE_PREEMPT_STAT.VERIFY_STATE (p : Nat) : Fld := ⟨0xd1010 + 0x200 * p, 0, 3⟩
/-- GTE_CHANGE_LO: Change time [31:0]. -/
def GTE_CHANGE_LO (p : Nat) : Nat := 0xd1014 + 0x200 * p
def GTE_CHANGE_LO.TIME (p : Nat) : Fld := ⟨0xd1014 + 0x200 * p, 0, 32⟩
/-- GTE_CHANGE_MID: Change time [63:32]. -/
def GTE_CHANGE_MID (p : Nat) : Nat := 0xd1018 + 0x200 * p
def GTE_CHANGE_MID.TIME (p : Nat) : Fld := ⟨0xd1018 + 0x200 * p, 0, 32⟩
/-- GTE_CHANGE_HI: Change time [95:64]. -/
def GTE_CHANGE_HI (p : Nat) : Nat := 0xd101c + 0x200 * p
def GTE_CHANGE_HI.TIME (p : Nat) : Fld := ⟨0xd101c + 0x200 * p, 0, 32⟩
/-- GTE_CUR_ENTRY: Entry in force. -/
def GTE_CUR_ENTRY (p : Nat) : Nat := 0xd1020 + 0x200 * p
def GTE_CUR_ENTRY.GATE_STATE (p : Nat) : Fld := ⟨0xd1020 + 0x200 * p, 16, 8⟩
def GTE_CUR_ENTRY.BANK (p : Nat) : Fld := ⟨0xd1020 + 0x200 * p, 12, 1⟩
def GTE_CUR_ENTRY.ENTRY (p : Nat) : Fld := ⟨0xd1020 + 0x200 * p, 0, 10⟩
/-- GTE_CYCLE_CNT: Cycles started, wraps to 0. -/
def GTE_CYCLE_CNT (p : Nat) : Nat := 0xd1024 + 0x200 * p
def GTE_CYCLE_CNT.COUNT (p : Nat) : Fld := ⟨0xd1024 + 0x200 * p, 0, 32⟩
/-- GTE_CYCLE_TIME: Cycle time in ns. -/
def GTE_CYCLE_TIME (p : Nat) (b : Nat) : Nat := 0xd1040 + 0x200 * p + 0x20 * b
def GTE_CYCLE_TIME.NS (p : Nat) (b : Nat) : Fld := ⟨0xd1040 + 0x200 * p + 0x20 * b, 0, 32⟩
/-- GTE_LIST_LEN: Entries used. -/
def GTE_LIST_LEN (p : Nat) (b : Nat) : Nat := 0xd1044 + 0x200 * p + 0x20 * b
def GTE_LIST_LEN.LEN (p : Nat) (b : Nat) : Fld := ⟨0xd1044 + 0x200 * p + 0x20 * b, 0, 11⟩
/-- GTE_BASE_LO: Base time [31:0]. -/
def GTE_BASE_LO (p : Nat) (b : Nat) : Nat := 0xd1048 + 0x200 * p + 0x20 * b
def GTE_BASE_LO.TIME (p : Nat) (b : Nat) : Fld := ⟨0xd1048 + 0x200 * p + 0x20 * b, 0, 32⟩
/-- GTE_BASE_MID: Base time [63:32]. -/
def GTE_BASE_MID (p : Nat) (b : Nat) : Nat := 0xd104c + 0x200 * p + 0x20 * b
def GTE_BASE_MID.TIME (p : Nat) (b : Nat) : Fld := ⟨0xd104c + 0x200 * p + 0x20 * b, 0, 32⟩
/-- GTE_BASE_HI: Base time [95:64]. -/
def GTE_BASE_HI (p : Nat) (b : Nat) : Nat := 0xd1050 + 0x200 * p + 0x20 * b
def GTE_BASE_HI.TIME (p : Nat) (b : Nat) : Fld := ⟨0xd1050 + 0x200 * p + 0x20 * b, 0, 32⟩
/-- GTE_CBS_CTL: Shaper enable and reset choice. -/
def GTE_CBS_CTL (p : Nat) (c : Nat) : Nat := 0xd1100 + 0x200 * p + 0x20 * c
def GTE_CBS_CTL.RESET_FULL (p : Nat) (c : Nat) : Fld := ⟨0xd1100 + 0x200 * p + 0x20 * c, 1, 1⟩
def GTE_CBS_CTL.EN (p : Nat) (c : Nat) : Fld := ⟨0xd1100 + 0x200 * p + 0x20 * c, 0, 1⟩
/-- GTE_CBS_SLOPE: Idle slope. -/
def GTE_CBS_SLOPE (p : Nat) (c : Nat) : Nat := 0xd1104 + 0x200 * p + 0x20 * c
def GTE_CBS_SLOPE.IDLE_SLOPE (p : Nat) (c : Nat) : Fld := ⟨0xd1104 + 0x200 * p + 0x20 * c, 0, 24⟩
/-- GTE_CBS_HI: Upper credit limit in bits. -/
def GTE_CBS_HI (p : Nat) (c : Nat) : Nat := 0xd1108 + 0x200 * p + 0x20 * c
def GTE_CBS_HI.HI (p : Nat) (c : Nat) : Fld := ⟨0xd1108 + 0x200 * p + 0x20 * c, 0, 32⟩
/-- GTE_CBS_LO: Lower credit limit in bits. -/
def GTE_CBS_LO (p : Nat) (c : Nat) : Nat := 0xd110c + 0x200 * p + 0x20 * c
def GTE_CBS_LO.LO (p : Nat) (c : Nat) : Fld := ⟨0xd110c + 0x200 * p + 0x20 * c, 0, 32⟩
/-- GTE_CBS_CREDIT: Present credit in bits. -/
def GTE_CBS_CREDIT (p : Nat) (c : Nat) : Nat := 0xd1110 + 0x200 * p + 0x20 * c
def GTE_CBS_CREDIT.CREDIT (p : Nat) (c : Nat) : Fld := ⟨0xd1110 + 0x200 * p + 0x20 * c, 0, 32⟩
/-- GTE_GCL_IVL: Entry word 0. -/
def GTE_GCL_IVL (p : Nat) (b : Nat) (e : Nat) : Nat := 0x1000000 + 0x4000 * p + 0x2000 * b + 8 * e
def GTE_GCL_IVL.INTERVAL (p : Nat) (b : Nat) (e : Nat) : Fld := ⟨0x1000000 + 0x4000 * p + 0x2000 * b + 8 * e, 0, 32⟩
/-- GTE_GCL_GATE: Entry word 1. -/
def GTE_GCL_GATE (p : Nat) (b : Nat) (e : Nat) : Nat := 0x1000004 + 0x4000 * p + 0x2000 * b + 8 * e
def GTE_GCL_GATE.GATE_STATE (p : Nat) (b : Nat) (e : Nat) : Fld := ⟨0x1000004 + 0x4000 * p + 0x2000 * b + 8 * e, 0, 8⟩
/-- GTE_SF_CFG: Filter configuration. -/
def GTE_SF_CFG (f : Nat) : Nat := 0xd2000 + 0x10 * f
def GTE_SF_CFG.EN (f : Nat) : Fld := ⟨0xd2000 + 0x10 * f, 31, 1⟩
def GTE_SF_CFG.HANDLE_ANY (f : Nat) : Fld := ⟨0xd2000 + 0x10 * f, 30, 1⟩
def GTE_SF_CFG.HANDLE (f : Nat) : Fld := ⟨0xd2000 + 0x10 * f, 21, 9⟩
def GTE_SF_CFG.PRIO_ANY (f : Nat) : Fld := ⟨0xd2000 + 0x10 * f, 20, 1⟩
def GTE_SF_CFG.PRIO (f : Nat) : Fld := ⟨0xd2000 + 0x10 * f, 17, 3⟩
def GTE_SF_CFG.METER_EN (f : Nat) : Fld := ⟨0xd2000 + 0x10 * f, 16, 1⟩
def GTE_SF_CFG.BLOCK_EN (f : Nat) : Fld := ⟨0xd2000 + 0x10 * f, 15, 1⟩
def GTE_SF_CFG.BLOCKED (f : Nat) : Fld := ⟨0xd2000 + 0x10 * f, 14, 1⟩
def GTE_SF_CFG.MAX_SDU (f : Nat) : Fld := ⟨0xd2000 + 0x10 * f, 0, 14⟩
/-- GTE_SF_MATCH: Matching frames. -/
def GTE_SF_MATCH (f : Nat) : Nat := 0xd2004 + 0x10 * f
def GTE_SF_MATCH.COUNT (f : Nat) : Fld := ⟨0xd2004 + 0x10 * f, 0, 32⟩
/-- GTE_SF_PASS: Passing frames. -/
def GTE_SF_PASS (f : Nat) : Nat := 0xd2008 + 0x10 * f
def GTE_SF_PASS.COUNT (f : Nat) : Fld := ⟨0xd2008 + 0x10 * f, 0, 32⟩
/-- GTE_SF_SDU_DROP: Frames discarded for size or block. -/
def GTE_SF_SDU_DROP (f : Nat) : Nat := 0xd200c + 0x10 * f
def GTE_SF_SDU_DROP.COUNT (f : Nat) : Fld := ⟨0xd200c + 0x10 * f, 0, 32⟩
/-- GTE_FM_CTL: Meter options. -/
def GTE_FM_CTL (f : Nat) : Nat := 0xd4000 + 0x20 * f
def GTE_FM_CTL.MARKED_RED (f : Nat) : Fld := ⟨0xd4000 + 0x20 * f, 5, 1⟩
def GTE_FM_CTL.MARK_RED_EN (f : Nat) : Fld := ⟨0xd4000 + 0x20 * f, 4, 1⟩
def GTE_FM_CTL.RESET_FULL (f : Nat) : Fld := ⟨0xd4000 + 0x20 * f, 2, 1⟩
def GTE_FM_CTL.CF (f : Nat) : Fld := ⟨0xd4000 + 0x20 * f, 1, 1⟩
def GTE_FM_CTL.DROP_YELLOW (f : Nat) : Fld := ⟨0xd4000 + 0x20 * f, 0, 1⟩
/-- GTE_FM_CIR: Committed rate. -/
def GTE_FM_CIR (f : Nat) : Nat := 0xd4004 + 0x20 * f
def GTE_FM_CIR.RATE (f : Nat) : Fld := ⟨0xd4004 + 0x20 * f, 0, 24⟩
/-- GTE_FM_CBS: Committed burst. -/
def GTE_FM_CBS (f : Nat) : Nat := 0xd4008 + 0x20 * f
def GTE_FM_CBS.BURST (f : Nat) : Fld := ⟨0xd4008 + 0x20 * f, 0, 24⟩
/-- GTE_FM_EIR: Excess rate. -/
def GTE_FM_EIR (f : Nat) : Nat := 0xd400c + 0x20 * f
def GTE_FM_EIR.RATE (f : Nat) : Fld := ⟨0xd400c + 0x20 * f, 0, 24⟩
/-- GTE_FM_EBS: Excess burst. -/
def GTE_FM_EBS (f : Nat) : Nat := 0xd4010 + 0x20 * f
def GTE_FM_EBS.BURST (f : Nat) : Fld := ⟨0xd4010 + 0x20 * f, 0, 24⟩
/-- GTE_FM_YELLOW: Yellow frames. -/
def GTE_FM_YELLOW (f : Nat) : Nat := 0xd4014 + 0x20 * f
def GTE_FM_YELLOW.COUNT (f : Nat) : Fld := ⟨0xd4014 + 0x20 * f, 0, 32⟩
/-- GTE_FM_RED: Red frames. -/
def GTE_FM_RED (f : Nat) : Nat := 0xd4018 + 0x20 * f
def GTE_FM_RED.COUNT (f : Nat) : Fld := ⟨0xd4018 + 0x20 * f, 0, 32⟩

/-! ### STM: spec/ chapter 07 (R155, R156) -/

/-- STM_CFG: Quarantine hold. -/
def STM_CFG : Nat := 0xe0100
def STM_CFG.HOLD : Fld := ⟨0xe0100, 0, 20⟩
/-- STM_ADMIT: Last refusal under R153. -/
def STM_ADMIT : Nat := 0xe0104
def STM_ADMIT.CTX : Fld := ⟨0xe0104, 16, 9⟩
def STM_ADMIT.REASON : Fld := ⟨0xe0104, 0, 16⟩
/-- STM_STALE_CNT: Refused references. -/
def STM_STALE_CNT : Nat := 0xe0108
def STM_STALE_CNT.COUNT : Fld := ⟨0xe0108, 0, 32⟩
/-- STM_HALF_FIRST: Lowest context with a HALF bit. -/
def STM_HALF_FIRST : Nat := 0xe010c
def STM_HALF_FIRST.ANY : Fld := ⟨0xe010c, 31, 1⟩
def STM_HALF_FIRST.CTX : Fld := ⟨0xe010c, 0, 9⟩
/-- STM_LAST_EVT: Context of the last event. -/
def STM_LAST_EVT : Nat := 0xe0110
def STM_LAST_EVT.KIND : Fld := ⟨0xe0110, 30, 2⟩
def STM_LAST_EVT.CTX : Fld := ⟨0xe0110, 0, 9⟩
/-- STM_CTX_CFG: Context configuration. -/
def STM_CTX_CFG (s : Nat) : Nat := 0xe4000 + 0x20 * s
def STM_CTX_CFG.EN (s : Nat) : Fld := ⟨0xe4000 + 0x20 * s, 31, 1⟩
def STM_CTX_CFG.DIR (s : Nat) : Fld := ⟨0xe4000 + 0x20 * s, 30, 1⟩
def STM_CTX_CFG.ID_METHOD (s : Nat) : Fld := ⟨0xe4000 + 0x20 * s, 28, 2⟩
def STM_CTX_CFG.LATE_DROP (s : Nat) : Fld := ⟨0xe4000 + 0x20 * s, 27, 1⟩
def STM_CTX_CFG.PRIO (s : Nat) : Fld := ⟨0xe4000 + 0x20 * s, 24, 3⟩
def STM_CTX_CFG.EGRESS (s : Nat) : Fld := ⟨0xe4000 + 0x20 * s, 16, 8⟩
def STM_CTX_CFG.SEQ_EN (s : Nat) : Fld := ⟨0xe4000 + 0x20 * s, 15, 1⟩
def STM_CTX_CFG.ALG (s : Nat) : Fld := ⟨0xe4000 + 0x20 * s, 14, 1⟩
def STM_CTX_CFG.IND_EN (s : Nat) : Fld := ⟨0xe4000 + 0x20 * s, 13, 1⟩
def STM_CTX_CFG.TAKE_NO_SEQ (s : Nat) : Fld := ⟨0xe4000 + 0x20 * s, 12, 1⟩
def STM_CTX_CFG.HIST_LEN (s : Nat) : Fld := ⟨0xe4000 + 0x20 * s, 6, 6⟩
/-- STM_ID_LO: Identification address [31:0]. -/
def STM_ID_LO (s : Nat) : Nat := 0xe4004 + 0x20 * s
def STM_ID_LO.ID_ADDR (s : Nat) : Fld := ⟨0xe4004 + 0x20 * s, 0, 32⟩
/-- STM_ID_HI: Identification address [47:32], tag. -/
def STM_ID_HI (s : Nat) : Nat := 0xe4008 + 0x20 * s
def STM_ID_HI.ID_ADDR (s : Nat) : Fld := ⟨0xe4008 + 0x20 * s, 16, 16⟩
def STM_ID_HI.TAG_MODE (s : Nat) : Fld := ⟨0xe4008 + 0x20 * s, 14, 2⟩
def STM_ID_HI.VID (s : Nat) : Fld := ⟨0xe4008 + 0x20 * s, 0, 12⟩
/-- STM_RESV: Reserved-stream figures. -/
def STM_RESV (s : Nat) : Nat := 0xe400c + 0x20 * s
def STM_RESV.N_S (s : Nat) : Fld := ⟨0xe400c + 0x20 * s, 16, 16⟩
def STM_RESV.L_S (s : Nat) : Fld := ⟨0xe400c + 0x20 * s, 0, 14⟩
/-- STM_TB: Token bucket rate. -/
def STM_TB (s : Nat) : Nat := 0xe4010 + 0x20 * s
def STM_TB.RESET_FULL (s : Nat) : Fld := ⟨0xe4010 + 0x20 * s, 31, 1⟩
def STM_TB.TB_EN (s : Nat) : Fld := ⟨0xe4010 + 0x20 * s, 30, 1⟩
def STM_TB.RATE (s : Nat) : Fld := ⟨0xe4010 + 0x20 * s, 0, 24⟩
/-- STM_TB_BURST: Token bucket burst. -/
def STM_TB_BURST (s : Nat) : Nat := 0xe4014 + 0x20 * s
def STM_TB_BURST.BURST (s : Nat) : Fld := ⟨0xe4014 + 0x20 * s, 0, 16⟩
/-- STM_RCV_TIMER: Reset timeout, latent period. -/
def STM_RCV_TIMER (s : Nat) : Nat := 0xe4018 + 0x20 * s
def STM_RCV_TIMER.RESET_MS (s : Nat) : Fld := ⟨0xe4018 + 0x20 * s, 16, 16⟩
def STM_RCV_TIMER.LAT_PERIOD (s : Nat) : Fld := ⟨0xe4018 + 0x20 * s, 0, 16⟩
/-- STM_DEST: Delivery, latent test. -/
def STM_DEST (s : Nat) : Nat := 0xe401c + 0x20 * s
def STM_DEST.KIND (s : Nat) : Fld := ⟨0xe401c + 0x20 * s, 30, 2⟩
def STM_DEST.TARGET (s : Nat) : Fld := ⟨0xe401c + 0x20 * s, 23, 7⟩
def STM_DEST.LAT_PATHS (s : Nat) : Fld := ⟨0xe401c + 0x20 * s, 16, 4⟩
def STM_DEST.LAT_DIFF (s : Nat) : Fld := ⟨0xe401c + 0x20 * s, 0, 16⟩
/-- STM_CNT: Counter i. -/
def STM_CNT (s : Nat) (i : Nat) : Nat := 0xe8000 + 0x40 * s + 4 * i
def STM_CNT.COUNT (s : Nat) (i : Nat) : Fld := ⟨0xe8000 + 0x40 * s + 4 * i, 0, 32⟩
/-- STM_CTX_STAT: State, generation, half-range. -/
def STM_CTX_STAT (s : Nat) : Nat := 0xe8030 + 0x40 * s
def STM_CTX_STAT.STATE (s : Nat) : Fld := ⟨0xe8030 + 0x40 * s, 30, 2⟩
def STM_CTX_STAT.GEN (s : Nat) : Fld := ⟨0xe8030 + 0x40 * s, 16, 8⟩
def STM_CTX_STAT.HALF (s : Nat) : Fld := ⟨0xe8030 + 0x40 * s, 0, 12⟩
/-- STM_SEQ: Recovery or generation state. -/
def STM_SEQ (s : Nat) : Nat := 0xe8034 + 0x40 * s
def STM_SEQ.TAKE_ANY (s : Nat) : Fld := ⟨0xe8034 + 0x40 * s, 31, 1⟩
def STM_SEQ.VALID (s : Nat) : Fld := ⟨0xe8034 + 0x40 * s, 16, 7⟩
def STM_SEQ.SEQ (s : Nat) : Fld := ⟨0xe8034 + 0x40 * s, 0, 16⟩
/-- STM_HIST_LO: HIST [31:0]. -/
def STM_HIST_LO (s : Nat) : Nat := 0xe8038 + 0x40 * s
def STM_HIST_LO.HIST (s : Nat) : Fld := ⟨0xe8038 + 0x40 * s, 0, 32⟩
/-- STM_HIST_HI: HIST [63:32]. -/
def STM_HIST_HI (s : Nat) : Nat := 0xe803c + 0x40 * s
def STM_HIST_HI.HIST (s : Nat) : Fld := ⟨0xe803c + 0x40 * s, 0, 32⟩

/-! ### SHD: spec/ chapter 08 (R189) -/

/-- SHD_CFG: EtherType and system address. -/
def SHD_CFG : Nat := 0xf0100
def SHD_CFG.ETYPE : Fld := ⟨0xf0100, 16, 16⟩
def SHD_CFG.RING_ID : Fld := ⟨0xf0100, 8, 8⟩
def SHD_CFG.NODE_ID : Fld := ⟨0xf0100, 0, 8⟩
/-- SHD_SLOT_SEL: Ring and bank shown at 0x8000. -/
def SHD_SLOT_SEL : Nat := 0xf0104
def SHD_SLOT_SEL.RING : Fld := ⟨0xf0104, 1, 1⟩
def SHD_SLOT_SEL.BANK : Fld := ⟨0xf0104, 0, 1⟩
/-- SHD_ADMIT: Last refusal under R187. -/
def SHD_ADMIT : Nat := 0xf0108
def SHD_ADMIT.SLOT : Fld := ⟨0xf0108, 20, 12⟩
def SHD_ADMIT.RING : Fld := ⟨0xf0108, 16, 1⟩
def SHD_ADMIT.REASON : Fld := ⟨0xf0108, 0, 16⟩
/-- SHD_RING_CFG: Ring enable, role, hop limit. -/
def SHD_RING_CFG (r : Nat) : Nat := 0xf0200 + 0x200 * r
def SHD_RING_CFG.EN (r : Nat) : Fld := ⟨0xf0200 + 0x200 * r, 31, 1⟩
def SHD_RING_CFG.ROLE (r : Nat) : Fld := ⟨0xf0200 + 0x200 * r, 29, 2⟩
def SHD_RING_CFG.HOP_LIMIT (r : Nat) : Fld := ⟨0xf0200 + 0x200 * r, 16, 10⟩
def SHD_RING_CFG.MASTER_NODE (r : Nat) : Fld := ⟨0xf0200 + 0x200 * r, 8, 8⟩
/-- SHD_TIMING: Beacon and claim timing, master holdoff. -/
def SHD_TIMING (r : Nat) : Nat := 0xf0204 + 0x200 * r
def SHD_TIMING.BACKUP_MISS (r : Nat) : Fld := ⟨0xf0204 + 0x200 * r, 28, 4⟩
def SHD_TIMING.CLAIM_WAIT (r : Nat) : Fld := ⟨0xf0204 + 0x200 * r, 24, 4⟩
def SHD_TIMING.CLAIM_TRIES (r : Nat) : Fld := ⟨0xf0204 + 0x200 * r, 20, 4⟩
def SHD_TIMING.HOLDOFF_MS (r : Nat) : Fld := ⟨0xf0204 + 0x200 * r, 12, 8⟩
def SHD_TIMING.BCN_TOL (r : Nat) : Fld := ⟨0xf0204 + 0x200 * r, 0, 12⟩
/-- SHD_CLEAN: Restoration. -/
def SHD_CLEAN (r : Nat) : Nat := 0xf0208 + 0x200 * r
def SHD_CLEAN.UNWRAP_LEAD (r : Nat) : Fld := ⟨0xf0208 + 0x200 * r, 16, 8⟩
def SHD_CLEAN.CLEAN_MS (r : Nat) : Fld := ⟨0xf0208 + 0x200 * r, 0, 16⟩
/-- SHD_STATE: Ring state. -/
def SHD_STATE (r : Nat) : Nat := 0xf020c + 0x200 * r
def SHD_STATE.WEST_NB (r : Nat) : Fld := ⟨0xf020c + 0x200 * r, 24, 8⟩
def SHD_STATE.EAST_NB (r : Nat) : Fld := ⟨0xf020c + 0x200 * r, 16, 8⟩
def SHD_STATE.ROLE_NOW (r : Nat) : Fld := ⟨0xf020c + 0x200 * r, 8, 2⟩
def SHD_STATE.HOLDOFF (r : Nat) : Fld := ⟨0xf020c + 0x200 * r, 7, 1⟩
def SHD_STATE.ACTIVE_BANK (r : Nat) : Fld := ⟨0xf020c + 0x200 * r, 6, 1⟩
def SHD_STATE.TABLE_MISMATCH (r : Nat) : Fld := ⟨0xf020c + 0x200 * r, 5, 1⟩
def SHD_STATE.MASTER_LOST (r : Nat) : Fld := ⟨0xf020c + 0x200 * r, 4, 1⟩
def SHD_STATE.READY_E (r : Nat) : Fld := ⟨0xf020c + 0x200 * r, 3, 1⟩
def SHD_STATE.READY_W (r : Nat) : Fld := ⟨0xf020c + 0x200 * r, 2, 1⟩
def SHD_STATE.WRAP_E (r : Nat) : Fld := ⟨0xf020c + 0x200 * r, 1, 1⟩
def SHD_STATE.WRAP_W (r : Nat) : Fld := ⟨0xf020c + 0x200 * r, 0, 1⟩
/-- SHD_CYCLE_NOW: Cycle number of the last first copy. -/
def SHD_CYCLE_NOW (r : Nat) : Nat := 0xf0210 + 0x200 * r
def SHD_CYCLE_NOW.CYCLE (r : Nat) : Fld := ⟨0xf0210 + 0x200 * r, 0, 32⟩
/-- SHD_TABLE_GEN: Slot table generations. -/
def SHD_TABLE_GEN (r : Nat) : Nat := 0xf0214 + 0x200 * r
def SHD_TABLE_GEN.BANK_ONE_GEN (r : Nat) : Fld := ⟨0xf0214 + 0x200 * r, 16, 16⟩
def SHD_TABLE_GEN.BANK_ZERO_GEN (r : Nat) : Fld := ⟨0xf0214 + 0x200 * r, 0, 16⟩
/-- SHD_SLOT_CTL: Slot table banks. -/
def SHD_SLOT_CTL (r : Nat) : Nat := 0xf0218 + 0x200 * r
def SHD_SLOT_CTL.ACTIVE_WR (r : Nat) : Fld := ⟨0xf0218 + 0x200 * r, 8, 1⟩
def SHD_SLOT_CTL.SWAP_PEND (r : Nat) : Fld := ⟨0xf0218 + 0x200 * r, 4, 1⟩
def SHD_SLOT_CTL.SWAP (r : Nat) : Fld := ⟨0xf0218 + 0x200 * r, 0, 1⟩
/-- SHD_CLAIM: Claim request. -/
def SHD_CLAIM (r : Nat) : Nat := 0xf021c + 0x200 * r
def SHD_CLAIM.START (r : Nat) : Fld := ⟨0xf021c + 0x200 * r, 31, 1⟩
def SHD_CLAIM.RELEASE (r : Nat) : Fld := ⟨0xf021c + 0x200 * r, 30, 1⟩
def SHD_CLAIM.CLAIM_ID (r : Nat) : Fld := ⟨0xf021c + 0x200 * r, 16, 8⟩
def SHD_CLAIM.SLOT (r : Nat) : Fld := ⟨0xf021c + 0x200 * r, 0, 12⟩
/-- SHD_CLAIM_STAT: Claim state. -/
def SHD_CLAIM_STAT (r : Nat) : Nat := 0xf0220 + 0x200 * r
def SHD_CLAIM_STAT.GEN (r : Nat) : Fld := ⟨0xf0220 + 0x200 * r, 24, 8⟩
def SHD_CLAIM_STAT.GEN_FIRST (r : Nat) : Fld := ⟨0xf0220 + 0x200 * r, 16, 8⟩
def SHD_CLAIM_STAT.TRIES_USED (r : Nat) : Fld := ⟨0xf0220 + 0x200 * r, 8, 4⟩
def SHD_CLAIM_STAT.RESULT (r : Nat) : Fld := ⟨0xf0220 + 0x200 * r, 0, 2⟩
/-- SHD_BCN_OFS: Last beacon offset. -/
def SHD_BCN_OFS (r : Nat) : Nat := 0xf0224 + 0x200 * r
def SHD_BCN_OFS.OFFSET (r : Nat) : Fld := ⟨0xf0224 + 0x200 * r, 0, 32⟩
/-- SHD_LINK_DELAY: Mean link delays. -/
def SHD_LINK_DELAY (r : Nat) : Nat := 0xf0228 + 0x200 * r
def SHD_LINK_DELAY.EAST (r : Nat) : Fld := ⟨0xf0228 + 0x200 * r, 16, 16⟩
def SHD_LINK_DELAY.WEST (r : Nat) : Fld := ⟨0xf0228 + 0x200 * r, 0, 16⟩
/-- SHD_NOTICE_TX: Software notice. -/
def SHD_NOTICE_TX (r : Nat) : Nat := 0xf022c + 0x200 * r
def SHD_NOTICE_TX.SEND (r : Nat) : Fld := ⟨0xf022c + 0x200 * r, 31, 1⟩
def SHD_NOTICE_TX.CODE (r : Nat) : Fld := ⟨0xf022c + 0x200 * r, 16, 8⟩
def SHD_NOTICE_TX.SUBJECT (r : Nat) : Fld := ⟨0xf022c + 0x200 * r, 0, 16⟩
/-- SHD_WRAP_CNT: Wraps. -/
def SHD_WRAP_CNT (r : Nat) : Nat := 0xf0240 + 0x200 * r
def SHD_WRAP_CNT.COUNT (r : Nat) : Fld := ⟨0xf0240 + 0x200 * r, 0, 32⟩
/-- SHD_UNWRAP_CNT: Unwraps. -/
def SHD_UNWRAP_CNT (r : Nat) : Nat := 0xf0244 + 0x200 * r
def SHD_UNWRAP_CNT.COUNT (r : Nat) : Fld := ⟨0xf0244 + 0x200 * r, 0, 32⟩
/-- SHD_BCN_MISS: Master losses. -/
def SHD_BCN_MISS (r : Nat) : Nat := 0xf0248 + 0x200 * r
def SHD_BCN_MISS.COUNT (r : Nat) : Fld := ⟨0xf0248 + 0x200 * r, 0, 32⟩
/-- SHD_BCN_SKEW: Beacon offsets beyond BCN_TOL. -/
def SHD_BCN_SKEW (r : Nat) : Nat := 0xf024c + 0x200 * r
def SHD_BCN_SKEW.COUNT (r : Nat) : Fld := ⟨0xf024c + 0x200 * r, 0, 32⟩
/-- SHD_STRIP_HOPS: Frames removed by hop limit. -/
def SHD_STRIP_HOPS (r : Nat) : Nat := 0xf0250 + 0x200 * r
def SHD_STRIP_HOPS.COUNT (r : Nat) : Fld := ⟨0xf0250 + 0x200 * r, 0, 32⟩
/-- SHD_CLAIM_STALE: Stale claims. -/
def SHD_CLAIM_STALE (r : Nat) : Nat := 0xf0254 + 0x200 * r
def SHD_CLAIM_STALE.COUNT (r : Nat) : Fld := ⟨0xf0254 + 0x200 * r, 0, 32⟩
/-- SHD_CLAIM_ACCEPT: Accepted claims. -/
def SHD_CLAIM_ACCEPT (r : Nat) : Nat := 0xf0258 + 0x200 * r
def SHD_CLAIM_ACCEPT.COUNT (r : Nat) : Fld := ⟨0xf0258 + 0x200 * r, 0, 32⟩
/-- SHD_CLAIM_REFUSED: Refused claims. -/
def SHD_CLAIM_REFUSED (r : Nat) : Nat := 0xf025c + 0x200 * r
def SHD_CLAIM_REFUSED.COUNT (r : Nat) : Fld := ⟨0xf025c + 0x200 * r, 0, 32⟩
/-- SHD_PASS_LATE: Relayed class-7 frames late; frames of a cut-off node. -/
def SHD_PASS_LATE (r : Nat) : Nat := 0xf0260 + 0x200 * r
def SHD_PASS_LATE.COUNT (r : Nat) : Fld := ⟨0xf0260 + 0x200 * r, 0, 32⟩
/-- SHD_REV_RX: Frames received with REV = 1. -/
def SHD_REV_RX (r : Nat) : Nat := 0xf0264 + 0x200 * r
def SHD_REV_RX.COUNT (r : Nat) : Fld := ⟨0xf0264 + 0x200 * r, 0, 32⟩
/-- SHD_WRAP_RX_DROP: Frames discarded at a wrapped port. -/
def SHD_WRAP_RX_DROP (r : Nat) : Nat := 0xf0268 + 0x200 * r
def SHD_WRAP_RX_DROP.COUNT (r : Nat) : Fld := ⟨0xf0268 + 0x200 * r, 0, 32⟩
/-- SHD_UNTAGGED: Untagged or unknown frames discarded. -/
def SHD_UNTAGGED (r : Nat) : Nat := 0xf026c + 0x200 * r
def SHD_UNTAGGED.COUNT (r : Nat) : Fld := ⟨0xf026c + 0x200 * r, 0, 32⟩
/-- SHD_NOTICE_SENT: Notices sent. -/
def SHD_NOTICE_SENT (r : Nat) : Nat := 0xf0270 + 0x200 * r
def SHD_NOTICE_SENT.COUNT (r : Nat) : Fld := ⟨0xf0270 + 0x200 * r, 0, 32⟩
/-- SHD_ROLL: Roll, w = 0 to 7. -/
def SHD_ROLL (r : Nat) (w : Nat) : Nat := 0xf0280 + 0x200 * r + 4 * w
def SHD_ROLL.ROLL (r : Nat) (w : Nat) : Fld := ⟨0xf0280 + 0x200 * r + 4 * w, 0, 32⟩
/-- SHD_CLAIM_REC: Claim records, w = 0 to 63. -/
def SHD_CLAIM_REC (r : Nat) (w : Nat) : Nat := 0xf0300 + 0x200 * r + 4 * w
def SHD_CLAIM_REC.REC_A (r : Nat) (w : Nat) : Fld := ⟨0xf0300 + 0x200 * r + 4 * w, 0, 8⟩
def SHD_CLAIM_REC.REC_B (r : Nat) (w : Nat) : Fld := ⟨0xf0300 + 0x200 * r + 4 * w, 8, 8⟩
def SHD_CLAIM_REC.REC_C (r : Nat) (w : Nat) : Fld := ⟨0xf0300 + 0x200 * r + 4 * w, 16, 8⟩
def SHD_CLAIM_REC.REC_D (r : Nat) (w : Nat) : Fld := ⟨0xf0300 + 0x200 * r + 4 * w, 24, 8⟩
/-- SHD_SLOT_OFS: Slot i, word 0. -/
def SHD_SLOT_OFS (r : Nat) (b : Nat) (i : Nat) : Nat := 0x1040000 + 0x10000 * r + 0x8000 * b + 8 * i
def SHD_SLOT_OFS.OFFSET (r : Nat) (b : Nat) (i : Nat) : Fld := ⟨0x1040000 + 0x10000 * r + 0x8000 * b + 8 * i, 0, 32⟩
/-- SHD_SLOT_DESC: Slot i, word 1. -/
def SHD_SLOT_DESC (r : Nat) (b : Nat) (i : Nat) : Nat := 0x1040004 + 0x10000 * r + 0x8000 * b + 8 * i
def SHD_SLOT_DESC.KIND (r : Nat) (b : Nat) (i : Nat) : Fld := ⟨0x1040004 + 0x10000 * r + 0x8000 * b + 8 * i, 30, 2⟩
def SHD_SLOT_DESC.OWNER (r : Nat) (b : Nat) (i : Nat) : Fld := ⟨0x1040004 + 0x10000 * r + 0x8000 * b + 8 * i, 16, 8⟩
def SHD_SLOT_DESC.DUR (r : Nat) (b : Nat) (i : Nat) : Fld := ⟨0x1040004 + 0x10000 * r + 0x8000 * b + 8 * i, 0, 16⟩

/-! ### CEL: spec/ chapter 09 (R221) -/

/-- CEL_ADMIT: Last refusal. -/
def CEL_ADMIT : Nat := 0x100100
def CEL_ADMIT.STEP : Fld := ⟨0x100100, 24, 6⟩
def CEL_ADMIT.CELL : Fld := ⟨0x100100, 16, 6⟩
def CEL_ADMIT.REASON : Fld := ⟨0x100100, 0, 16⟩
/-- CEL_SPARES: Spare and removed pairs. -/
def CEL_SPARES : Nat := 0x100104
def CEL_SPARES.OUT_NOW : Fld := ⟨0x100104, 8, 7⟩
def CEL_SPARES.SPARE_NOW : Fld := ⟨0x100104, 0, 7⟩
/-- CEL_MISMATCH_CNT: Mismatches. -/
def CEL_MISMATCH_CNT : Nat := 0x100108
def CEL_MISMATCH_CNT.COUNT : Fld := ⟨0x100108, 0, 32⟩
/-- CEL_LAST_MISMATCH: Last mismatch. -/
def CEL_LAST_MISMATCH : Nat := 0x10010c
def CEL_LAST_MISMATCH.FROM_PAIR : Fld := ⟨0x10010c, 16, 7⟩
def CEL_LAST_MISMATCH.TO_PAIR : Fld := ⟨0x10010c, 8, 7⟩
def CEL_LAST_MISMATCH.CELL : Fld := ⟨0x10010c, 0, 6⟩
/-- CEL_PAIR_CMD: Pair commands. -/
def CEL_PAIR_CMD : Nat := 0x100110
def CEL_PAIR_CMD.RETURN : Fld := ⟨0x100110, 31, 1⟩
def CEL_PAIR_CMD.PAIR : Fld := ⟨0x100110, 0, 7⟩
/-- CEL_TBL_SEL: Cell and bank shown at 0x1_0000. -/
def CEL_TBL_SEL : Nat := 0x100114
def CEL_TBL_SEL.BANK : Fld := ⟨0x100114, 8, 1⟩
def CEL_TBL_SEL.CELL : Fld := ⟨0x100114, 0, 6⟩
/-- CEL_PAIR_STAT: Pair p, p = 0 to 67. -/
def CEL_PAIR_STAT (p : Nat) : Nat := 0x100200 + 4 * p
def CEL_PAIR_STAT.STATE (p : Nat) : Fld := ⟨0x100200 + 4 * p, 30, 2⟩
def CEL_PAIR_STAT.TESTED (p : Nat) : Fld := ⟨0x100200 + 4 * p, 29, 1⟩
def CEL_PAIR_STAT.MISMATCH (p : Nat) : Fld := ⟨0x100200 + 4 * p, 8, 8⟩
def CEL_PAIR_STAT.CELL (p : Nat) : Fld := ⟨0x100200 + 4 * p, 0, 6⟩
/-- CEL_GRP_DVFS: Group g, g = 0 to 16. -/
def CEL_GRP_DVFS (g : Nat) : Nat := 0x100400 + 4 * g
def CEL_GRP_DVFS.FREEZE (g : Nat) : Fld := ⟨0x100400 + 4 * g, 31, 1⟩
def CEL_GRP_DVFS.FREQ_NOW (g : Nat) : Fld := ⟨0x100400 + 4 * g, 24, 4⟩
def CEL_GRP_DVFS.FREQ_MAX (g : Nat) : Fld := ⟨0x100400 + 4 * g, 16, 4⟩
def CEL_GRP_DVFS.FREQ_MIN (g : Nat) : Fld := ⟨0x100400 + 4 * g, 8, 4⟩
/-- CEL_CFG: Enable and trigger. -/
def CEL_CFG (c : Nat) : Nat := 0x101000 + 0x80 * c
def CEL_CFG.EN (c : Nat) : Fld := ⟨0x101000 + 0x80 * c, 31, 1⟩
def CEL_CFG.TRIG (c : Nat) : Fld := ⟨0x101000 + 0x80 * c, 29, 2⟩
def CEL_CFG.DOM (c : Nat) : Fld := ⟨0x101000 + 0x80 * c, 26, 3⟩
def CEL_CFG.INV_POLICY (c : Nat) : Fld := ⟨0x101000 + 0x80 * c, 24, 2⟩
def CEL_CFG.MARK_FIRST (c : Nat) : Fld := ⟨0x101000 + 0x80 * c, 16, 8⟩
def CEL_CFG.MARK_LAST (c : Nat) : Fld := ⟨0x101000 + 0x80 * c, 8, 8⟩
/-- CEL_DEADLINE: Deadline. -/
def CEL_DEADLINE (c : Nat) : Nat := 0x101004 + 0x80 * c
def CEL_DEADLINE.DEADLINE (c : Nat) : Fld := ⟨0x101004 + 0x80 * c, 0, 20⟩
/-- CEL_PERIOD: Period in ns. -/
def CEL_PERIOD (c : Nat) : Nat := 0x101008 + 0x80 * c
def CEL_PERIOD.PERIOD (c : Nat) : Fld := ⟨0x101008 + 0x80 * c, 0, 32⟩
/-- CEL_BASE_LO: Base time [31:0]. -/
def CEL_BASE_LO (c : Nat) : Nat := 0x10100c + 0x80 * c
def CEL_BASE_LO.TIME (c : Nat) : Fld := ⟨0x10100c + 0x80 * c, 0, 32⟩
/-- CEL_BASE_MID: Base time [63:32]. -/
def CEL_BASE_MID (c : Nat) : Nat := 0x101010 + 0x80 * c
def CEL_BASE_MID.TIME (c : Nat) : Fld := ⟨0x101010 + 0x80 * c, 0, 32⟩
/-- CEL_BASE_HI: Base time [95:64]. -/
def CEL_BASE_HI (c : Nat) : Nat := 0x101014 + 0x80 * c
def CEL_BASE_HI.TIME (c : Nat) : Fld := ⟨0x101014 + 0x80 * c, 0, 32⟩
/-- CEL_BANK: Table banks. -/
def CEL_BANK (c : Nat) : Nat := 0x101018 + 0x80 * c
def CEL_BANK.ACTIVE_WR (c : Nat) : Fld := ⟨0x101018 + 0x80 * c, 8, 1⟩
def CEL_BANK.REINIT (c : Nat) : Fld := ⟨0x101018 + 0x80 * c, 5, 1⟩
def CEL_BANK.SWAP_PEND (c : Nat) : Fld := ⟨0x101018 + 0x80 * c, 4, 1⟩
def CEL_BANK.SWAP_AT (c : Nat) : Fld := ⟨0x101018 + 0x80 * c, 3, 1⟩
def CEL_BANK.ACTIVE (c : Nat) : Fld := ⟨0x101018 + 0x80 * c, 1, 1⟩
def CEL_BANK.SWAP (c : Nat) : Fld := ⟨0x101018 + 0x80 * c, 0, 1⟩
/-- CEL_CMD: Commands. -/
def CEL_CMD (c : Nat) : Nat := 0x10101c + 0x80 * c
def CEL_CMD.RESTART (c : Nat) : Fld := ⟨0x10101c + 0x80 * c, 0, 1⟩
/-- CEL_STAT: State. -/
def CEL_STAT (c : Nat) : Nat := 0x101020 + 0x80 * c
def CEL_STAT.STATE (c : Nat) : Fld := ⟨0x101020 + 0x80 * c, 29, 3⟩
def CEL_STAT.EVT_FILL (c : Nat) : Fld := ⟨0x101020 + 0x80 * c, 24, 3⟩
def CEL_STAT.PAIR (c : Nat) : Fld := ⟨0x101020 + 0x80 * c, 16, 7⟩
def CEL_STAT.STEPS (c : Nat) : Fld := ⟨0x101020 + 0x80 * c, 8, 7⟩
def CEL_STAT.SM_STATE (c : Nat) : Fld := ⟨0x101020 + 0x80 * c, 0, 6⟩
/-- CEL_EXEC: Execution times. -/
def CEL_EXEC (c : Nat) : Nat := 0x101024 + 0x80 * c
def CEL_EXEC.MAX_NS (c : Nat) : Fld := ⟨0x101024 + 0x80 * c, 16, 16⟩
def CEL_EXEC.LAST_NS (c : Nat) : Fld := ⟨0x101024 + 0x80 * c, 0, 16⟩
/-- CEL_IN: Input i, i = 0 to 7. -/
def CEL_IN (c : Nat) (i : Nat) : Nat := 0x101028 + 0x80 * c + 4 * i
def CEL_IN.EN (c : Nat) (i : Nat) : Fld := ⟨0x101028 + 0x80 * c + 4 * i, 31, 1⟩
def CEL_IN.ACTIVATE (c : Nat) (i : Nat) : Fld := ⟨0x101028 + 0x80 * c + 4 * i, 30, 1⟩
def CEL_IN.SRC (c : Nat) (i : Nat) : Fld := ⟨0x101028 + 0x80 * c + 4 * i, 0, 11⟩
/-- CEL_ACT_CNT: Activations released. -/
def CEL_ACT_CNT (c : Nat) : Nat := 0x101048 + 0x80 * c
def CEL_ACT_CNT.COUNT (c : Nat) : Fld := ⟨0x101048 + 0x80 * c, 0, 32⟩
/-- CEL_LATE: Late or discarded work. -/
def CEL_LATE (c : Nat) : Nat := 0x10104c + 0x80 * c
def CEL_LATE.COUNT (c : Nat) : Fld := ⟨0x10104c + 0x80 * c, 0, 32⟩
/-- CEL_EVT_OVF: Events dropped, queue full. -/
def CEL_EVT_OVF (c : Nat) : Nat := 0x101050 + 0x80 * c
def CEL_EVT_OVF.COUNT (c : Nat) : Fld := ⟨0x101050 + 0x80 * c, 0, 32⟩
/-- CEL_TRIG_OVF: Merged triggers. -/
def CEL_TRIG_OVF (c : Nat) : Nat := 0x101054 + 0x80 * c
def CEL_TRIG_OVF.COUNT (c : Nat) : Fld := ⟨0x101054 + 0x80 * c, 0, 32⟩
/-- CEL_REEXEC: Re-executions. -/
def CEL_REEXEC (c : Nat) : Nat := 0x101058 + 0x80 * c
def CEL_REEXEC.COUNT (c : Nat) : Fld := ⟨0x101058 + 0x80 * c, 0, 32⟩
/-- CEL_EVT_UNBOUND: Events with no input. -/
def CEL_EVT_UNBOUND (c : Nat) : Nat := 0x10105c + 0x80 * c
def CEL_EVT_UNBOUND.COUNT (c : Nat) : Fld := ⟨0x10105c + 0x80 * c, 0, 32⟩
/-- CEL_OUT_VAL: Last released value of output o. -/
def CEL_OUT_VAL (c : Nat) (o : Nat) : Nat := 0x101060 + 0x80 * c + 4 * o
def CEL_OUT_VAL.VALUE (c : Nat) (o : Nat) : Fld := ⟨0x101060 + 0x80 * c + 4 * o, 0, 32⟩
/-- CEL_FMT_A: Entry enable, context, length. -/
def CEL_FMT_A (f : Nat) : Nat := 0x108000 + 0x20 * f
def CEL_FMT_A.EN (f : Nat) : Fld := ⟨0x108000 + 0x20 * f, 31, 1⟩
def CEL_FMT_A.CTX (f : Nat) : Fld := ⟨0x108000 + 0x20 * f, 16, 9⟩
def CEL_FMT_A.LEN (f : Nat) : Fld := ⟨0x108000 + 0x20 * f, 0, 9⟩
/-- CEL_FMT_B: DA [31:0]. -/
def CEL_FMT_B (f : Nat) : Nat := 0x108004 + 0x20 * f
def CEL_FMT_B.DA (f : Nat) : Fld := ⟨0x108004 + 0x20 * f, 0, 32⟩
/-- CEL_FMT_C: DA [47:32], tag. -/
def CEL_FMT_C (f : Nat) : Nat := 0x108008 + 0x20 * f
def CEL_FMT_C.TAG_EN (f : Nat) : Fld := ⟨0x108008 + 0x20 * f, 31, 1⟩
def CEL_FMT_C.PCP (f : Nat) : Fld := ⟨0x108008 + 0x20 * f, 28, 3⟩
def CEL_FMT_C.VID (f : Nat) : Fld := ⟨0x108008 + 0x20 * f, 16, 12⟩
def CEL_FMT_C.DA (f : Nat) : Fld := ⟨0x108008 + 0x20 * f, 0, 16⟩
/-- CEL_FMT_D: EtherType. -/
def CEL_FMT_D (f : Nat) : Nat := 0x10800c + 0x20 * f
def CEL_FMT_D.ETYPE (f : Nat) : Fld := ⟨0x10800c + 0x20 * f, 0, 16⟩
/-- CEL_PAYLOAD: Payload image, 64 words. -/
def CEL_PAYLOAD (f : Nat) (w : Nat) : Nat := 0x10c000 + 0x100 * f + 4 * w
def CEL_PAYLOAD.OCTETS (f : Nat) (w : Nat) : Fld := ⟨0x10c000 + 0x100 * f + 4 * w, 0, 32⟩
/-- CEL_TBL: Chosen bank under R194 and R217. -/
def CEL_TBL (c : Nat) (b : Nat) (w : Nat) : Nat := 0x1080000 + 0x4000 * c + 0x2000 * b + 4 * w
def CEL_TBL.WORD (c : Nat) (b : Nat) (w : Nat) : Fld := ⟨0x1080000 + 0x4000 * c + 0x2000 * b + 4 * w, 0, 32⟩
/-- CEL_STATE_WORD: State word j of the chosen cell. -/
def CEL_STATE_WORD (c : Nat) (j : Nat) : Nat := 0x1180000 + 0x80 * c + 4 * j
def CEL_STATE_WORD.VALUE (c : Nat) (j : Nat) : Fld := ⟨0x1180000 + 0x80 * c + 4 * j, 0, 32⟩

end Sys2Proof.Machine.Reg
end

