-- ==== Sys2Proof/Machine/RegMapC.lean ====
section
/-! DEFINITION. Register addresses and fields of the windows SMP, SCR, PLC, DCT, AUT, DMA, MEM, STA, TRC, IST, from the register tables of spec/ (one section per window). -/

namespace Sys2Proof.Machine.Reg

/-! ### SMP: spec/ chapter 10 (R243) -/

/-- SMP_ADMIT: Last refusal. -/
def SMP_ADMIT : Nat := 0x200100
def SMP_ADMIT.PORT : Fld := ⟨0x200100, 21, 5⟩
def SMP_ADMIT.CHAN : Fld := ⟨0x200100, 17, 4⟩
def SMP_ADMIT.REASON : Fld := ⟨0x200100, 0, 16⟩
/-- SMP_SPEED_LIM: Admission speed of domain d. -/
def SMP_SPEED_LIM (d : Nat) : Nat := 0x200110 + 4 * d
def SMP_SPEED_LIM.SPEED (d : Nat) : Fld := ⟨0x200110 + 4 * d, 0, 32⟩
/-- SMP_PORT_CFG: Port mode. -/
def SMP_PORT_CFG (k : Nat) : Nat := 0x202000 + 0x4000 * k
def SMP_PORT_CFG.EN (k : Nat) : Fld := ⟨0x202000 + 0x4000 * k, 31, 1⟩
def SMP_PORT_CFG.MODE (k : Nat) : Fld := ⟨0x202000 + 0x4000 * k, 29, 2⟩
def SMP_PORT_CFG.INV_POLICY (k : Nat) : Fld := ⟨0x202000 + 0x4000 * k, 27, 2⟩
def SMP_PORT_CFG.CMD_LATE (k : Nat) : Fld := ⟨0x202000 + 0x4000 * k, 26, 1⟩
def SMP_PORT_CFG.CLK_DIV (k : Nat) : Fld := ⟨0x202000 + 0x4000 * k, 0, 8⟩
/-- SMP_STAMP_OFS: Stamp offset. -/
def SMP_STAMP_OFS (k : Nat) : Nat := 0x202004 + 0x4000 * k
def SMP_STAMP_OFS.OFS (k : Nat) : Fld := ⟨0x202004 + 0x4000 * k, 0, 32⟩
/-- SMP_PORT_STAT: Port state. -/
def SMP_PORT_STAT (k : Nat) : Nat := 0x202008 + 0x4000 * k
def SMP_PORT_STAT.SAFE (k : Nat) : Fld := ⟨0x202008 + 0x4000 * k, 31, 1⟩
def SMP_PORT_STAT.BUSY (k : Nat) : Fld := ⟨0x202008 + 0x4000 * k, 30, 1⟩
def SMP_PORT_STAT.CMD_FILL (k : Nat) : Fld := ⟨0x202008 + 0x4000 * k, 16, 5⟩
/-- SMP_CS_CFG: Safe word use. -/
def SMP_CS_CFG (k : Nat) (cs : Nat) : Nat := 0x202010 + 0x4000 * k + 4 * cs
def SMP_CS_CFG.SAFE_EN (k : Nat) (cs : Nat) : Fld := ⟨0x202010 + 0x4000 * k + 4 * cs, 31, 1⟩
def SMP_CS_CFG.SAFE_W32 (k : Nat) (cs : Nat) : Fld := ⟨0x202010 + 0x4000 * k + 4 * cs, 30, 1⟩
/-- SMP_CS_SAFE: SAFE_WORD. -/
def SMP_CS_SAFE (k : Nat) (cs : Nat) : Nat := 0x202020 + 0x4000 * k + 4 * cs
def SMP_CS_SAFE.SAFE_WORD (k : Nat) (cs : Nat) : Fld := ⟨0x202020 + 0x4000 * k + 4 * cs, 0, 32⟩
/-- SMP_CMD_CTL: Host command. -/
def SMP_CMD_CTL (k : Nat) : Nat := 0x202030 + 0x4000 * k
def SMP_CMD_CTL.SEND (k : Nat) : Fld := ⟨0x202030 + 0x4000 * k, 31, 1⟩
def SMP_CMD_CTL.WHEN (k : Nat) : Fld := ⟨0x202030 + 0x4000 * k, 29, 2⟩
def SMP_CMD_CTL.DOM (k : Nat) : Fld := ⟨0x202030 + 0x4000 * k, 26, 3⟩
def SMP_CMD_CTL.CS (k : Nat) : Fld := ⟨0x202030 + 0x4000 * k, 24, 2⟩
def SMP_CMD_CTL.W32 (k : Nat) : Fld := ⟨0x202030 + 0x4000 * k, 23, 1⟩
/-- SMP_CMD_WORD: Host command word. -/
def SMP_CMD_WORD (k : Nat) : Nat := 0x202034 + 0x4000 * k
def SMP_CMD_WORD.WORD (k : Nat) : Fld := ⟨0x202034 + 0x4000 * k, 0, 32⟩
/-- SMP_CMD_TGT_LO: Target [31:0]. -/
def SMP_CMD_TGT_LO (k : Nat) : Nat := 0x202038 + 0x4000 * k
def SMP_CMD_TGT_LO.TARGET (k : Nat) : Fld := ⟨0x202038 + 0x4000 * k, 0, 32⟩
/-- SMP_CMD_TGT_MID: Target [63:32]. -/
def SMP_CMD_TGT_MID (k : Nat) : Nat := 0x20203c + 0x4000 * k
def SMP_CMD_TGT_MID.TARGET (k : Nat) : Fld := ⟨0x20203c + 0x4000 * k, 0, 32⟩
/-- SMP_CMD_TGT_HI: Target [95:64]. -/
def SMP_CMD_TGT_HI (k : Nat) : Nat := 0x202040 + 0x4000 * k
def SMP_CMD_TGT_HI.TARGET (k : Nat) : Fld := ⟨0x202040 + 0x4000 * k, 0, 32⟩
/-- SMP_FIR_CTL: FIR banks. -/
def SMP_FIR_CTL (k : Nat) : Nat := 0x202044 + 0x4000 * k
def SMP_FIR_CTL.ACTIVE_WR (k : Nat) : Fld := ⟨0x202044 + 0x4000 * k, 8, 1⟩
def SMP_FIR_CTL.ACTIVE (k : Nat) : Fld := ⟨0x202044 + 0x4000 * k, 1, 1⟩
def SMP_FIR_CTL.SWAP (k : Nat) : Fld := ⟨0x202044 + 0x4000 * k, 0, 1⟩
/-- SMP_CMD_RESP: Last MISO word of a command. -/
def SMP_CMD_RESP (k : Nat) (cs : Nat) : Nat := 0x202050 + 0x4000 * k + 4 * cs
def SMP_CMD_RESP.WORD (k : Nat) (cs : Nat) : Fld := ⟨0x202050 + 0x4000 * k + 4 * cs, 0, 32⟩
/-- SMP_CMD_LATE: Late entries. -/
def SMP_CMD_LATE (k : Nat) : Nat := 0x202060 + 0x4000 * k
def SMP_CMD_LATE.COUNT (k : Nat) : Fld := ⟨0x202060 + 0x4000 * k, 0, 32⟩
/-- SMP_CMD_OVF: Dropped entries. -/
def SMP_CMD_OVF (k : Nat) : Nat := 0x202064 + 0x4000 * k
def SMP_CMD_OVF.COUNT (k : Nat) : Fld := ⟨0x202064 + 0x4000 * k, 0, 32⟩
/-- SMP_TRIG_OVF: Merged triggers. -/
def SMP_TRIG_OVF (k : Nat) : Nat := 0x202068 + 0x4000 * k
def SMP_TRIG_OVF.COUNT (k : Nat) : Fld := ⟨0x202068 + 0x4000 * k, 0, 32⟩
/-- SMP_CMD_SENT: Command transactions. -/
def SMP_CMD_SENT (k : Nat) : Nat := 0x20206c + 0x4000 * k
def SMP_CMD_SENT.COUNT (k : Nat) : Fld := ⟨0x20206c + 0x4000 * k, 0, 32⟩
/-- SMP_FIR: Coefficient. -/
def SMP_FIR (k : Nat) (b : Nat) (t : Nat) (j : Nat) : Nat := 0x202100 + 0x4000 * k + 0x80 * b + 0x20 * t + 4 * j
def SMP_FIR.COEF (k : Nat) (b : Nat) (t : Nat) (j : Nat) : Fld := ⟨0x202100 + 0x4000 * k + 0x80 * b + 0x20 * t + 4 * j, 0, 24⟩
/-- SMP_CH_CFG: Channel configuration. -/
def SMP_CH_CFG (k : Nat) (i : Nat) : Nat := 0x202400 + 0x4000 * k + 0x80 * i
def SMP_CH_CFG.EN (k : Nat) (i : Nat) : Fld := ⟨0x202400 + 0x4000 * k + 0x80 * i, 31, 1⟩
def SMP_CH_CFG.TRIG (k : Nat) (i : Nat) : Fld := ⟨0x202400 + 0x4000 * k + 0x80 * i, 28, 3⟩
def SMP_CH_CFG.WIDTH (k : Nat) (i : Nat) : Fld := ⟨0x202400 + 0x4000 * k + 0x80 * i, 26, 2⟩
def SMP_CH_CFG.SIGNED (k : Nat) (i : Nat) : Fld := ⟨0x202400 + 0x4000 * k + 0x80 * i, 25, 1⟩
def SMP_CH_CFG.CS (k : Nat) (i : Nat) : Fld := ⟨0x202400 + 0x4000 * k + 0x80 * i, 23, 2⟩
def SMP_CH_CFG.SLOT (k : Nat) (i : Nat) : Fld := ⟨0x202400 + 0x4000 * k + 0x80 * i, 19, 4⟩
def SMP_CH_CFG.DOM (k : Nat) (i : Nat) : Fld := ⟨0x202400 + 0x4000 * k + 0x80 * i, 16, 3⟩
def SMP_CH_CFG.INV_POLICY (k : Nat) (i : Nat) : Fld := ⟨0x202400 + 0x4000 * k + 0x80 * i, 14, 2⟩
def SMP_CH_CFG.EVT_SEL (k : Nat) (i : Nat) : Fld := ⟨0x202400 + 0x4000 * k + 0x80 * i, 11, 3⟩
/-- SMP_CH_TRIG_A: Trigger argument. -/
def SMP_CH_TRIG_A (k : Nat) (i : Nat) : Nat := 0x202404 + 0x4000 * k + 0x80 * i
def SMP_CH_TRIG_A.ARG (k : Nat) (i : Nat) : Fld := ⟨0x202404 + 0x4000 * k + 0x80 * i, 0, 32⟩
/-- SMP_CH_TRIG_B: START. -/
def SMP_CH_TRIG_B (k : Nat) (i : Nat) : Nat := 0x202408 + 0x4000 * k + 0x80 * i
def SMP_CH_TRIG_B.START (k : Nat) (i : Nat) : Fld := ⟨0x202408 + 0x4000 * k + 0x80 * i, 0, 24⟩
/-- SMP_CH_TIME_LO: TIME [31:0]. -/
def SMP_CH_TIME_LO (k : Nat) (i : Nat) : Nat := 0x20240c + 0x4000 * k + 0x80 * i
def SMP_CH_TIME_LO.TIME (k : Nat) (i : Nat) : Fld := ⟨0x20240c + 0x4000 * k + 0x80 * i, 0, 32⟩
/-- SMP_CH_TIME_MID: TIME [63:32]. -/
def SMP_CH_TIME_MID (k : Nat) (i : Nat) : Nat := 0x202410 + 0x4000 * k + 0x80 * i
def SMP_CH_TIME_MID.TIME (k : Nat) (i : Nat) : Fld := ⟨0x202410 + 0x4000 * k + 0x80 * i, 0, 32⟩
/-- SMP_CH_TIME_HI: TIME [95:64]. -/
def SMP_CH_TIME_HI (k : Nat) (i : Nat) : Nat := 0x202414 + 0x4000 * k + 0x80 * i
def SMP_CH_TIME_HI.TIME (k : Nat) (i : Nat) : Fld := ⟨0x202414 + 0x4000 * k + 0x80 * i, 0, 32⟩
/-- SMP_CH_FILT: Filter. -/
def SMP_CH_FILT (k : Nat) (i : Nat) : Nat := 0x202418 + 0x4000 * k + 0x80 * i
def SMP_CH_FILT.CIC_N (k : Nat) (i : Nat) : Fld := ⟨0x202418 + 0x4000 * k + 0x80 * i, 8, 3⟩
def SMP_CH_FILT.RLOG (k : Nat) (i : Nat) : Fld := ⟨0x202418 + 0x4000 * k + 0x80 * i, 4, 3⟩
def SMP_CH_FILT.FIR_EN (k : Nat) (i : Nat) : Fld := ⟨0x202418 + 0x4000 * k + 0x80 * i, 3, 1⟩
def SMP_CH_FILT.FIR_TAB (k : Nat) (i : Nat) : Fld := ⟨0x202418 + 0x4000 * k + 0x80 * i, 0, 2⟩
/-- SMP_CH_GAIN: GAIN. -/
def SMP_CH_GAIN (k : Nat) (i : Nat) : Nat := 0x20241c + 0x4000 * k + 0x80 * i
def SMP_CH_GAIN.VALUE (k : Nat) (i : Nat) : Fld := ⟨0x20241c + 0x4000 * k + 0x80 * i, 0, 32⟩
/-- SMP_CH_OFFSET: OFFSET. -/
def SMP_CH_OFFSET (k : Nat) (i : Nat) : Nat := 0x202420 + 0x4000 * k + 0x80 * i
def SMP_CH_OFFSET.VALUE (k : Nat) (i : Nat) : Fld := ⟨0x202420 + 0x4000 * k + 0x80 * i, 0, 32⟩
/-- SMP_CMP_A_CFG: Comparator. -/
def SMP_CMP_A_CFG (k : Nat) (i : Nat) : Nat := 0x202424 + 0x4000 * k + 0x80 * i
def SMP_CMP_A_CFG.EN (k : Nat) (i : Nat) : Fld := ⟨0x202424 + 0x4000 * k + 0x80 * i, 31, 1⟩
def SMP_CMP_A_CFG.RECT (k : Nat) (i : Nat) : Fld := ⟨0x202424 + 0x4000 * k + 0x80 * i, 30, 1⟩
def SMP_CMP_A_CFG.ADAPT (k : Nat) (i : Nat) : Fld := ⟨0x202424 + 0x4000 * k + 0x80 * i, 29, 1⟩
def SMP_CMP_A_CFG.TC (k : Nat) (i : Nat) : Fld := ⟨0x202424 + 0x4000 * k + 0x80 * i, 0, 4⟩
/-- SMP_CMP_B_CFG: Comparator. -/
def SMP_CMP_B_CFG (k : Nat) (i : Nat) : Nat := 0x202434 + 0x4000 * k + 0x80 * i
def SMP_CMP_B_CFG.EN (k : Nat) (i : Nat) : Fld := ⟨0x202434 + 0x4000 * k + 0x80 * i, 31, 1⟩
def SMP_CMP_B_CFG.RECT (k : Nat) (i : Nat) : Fld := ⟨0x202434 + 0x4000 * k + 0x80 * i, 30, 1⟩
def SMP_CMP_B_CFG.ADAPT (k : Nat) (i : Nat) : Fld := ⟨0x202434 + 0x4000 * k + 0x80 * i, 29, 1⟩
def SMP_CMP_B_CFG.TC (k : Nat) (i : Nat) : Fld := ⟨0x202434 + 0x4000 * k + 0x80 * i, 0, 4⟩
/-- SMP_CMP_A_RATIO: RATIO. -/
def SMP_CMP_A_RATIO (k : Nat) (i : Nat) : Nat := 0x202428 + 0x4000 * k + 0x80 * i
def SMP_CMP_A_RATIO.VALUE (k : Nat) (i : Nat) : Fld := ⟨0x202428 + 0x4000 * k + 0x80 * i, 0, 32⟩
/-- SMP_CMP_B_RATIO: RATIO. -/
def SMP_CMP_B_RATIO (k : Nat) (i : Nat) : Nat := 0x202438 + 0x4000 * k + 0x80 * i
def SMP_CMP_B_RATIO.VALUE (k : Nat) (i : Nat) : Fld := ⟨0x202438 + 0x4000 * k + 0x80 * i, 0, 32⟩
/-- SMP_CMP_A_MARGIN: MARGIN. -/
def SMP_CMP_A_MARGIN (k : Nat) (i : Nat) : Nat := 0x20242c + 0x4000 * k + 0x80 * i
def SMP_CMP_A_MARGIN.VALUE (k : Nat) (i : Nat) : Fld := ⟨0x20242c + 0x4000 * k + 0x80 * i, 0, 32⟩
/-- SMP_CMP_B_MARGIN: MARGIN. -/
def SMP_CMP_B_MARGIN (k : Nat) (i : Nat) : Nat := 0x20243c + 0x4000 * k + 0x80 * i
def SMP_CMP_B_MARGIN.VALUE (k : Nat) (i : Nat) : Fld := ⟨0x20243c + 0x4000 * k + 0x80 * i, 0, 32⟩
/-- SMP_CMP_A_HYST: HYST. -/
def SMP_CMP_A_HYST (k : Nat) (i : Nat) : Nat := 0x202430 + 0x4000 * k + 0x80 * i
def SMP_CMP_A_HYST.VALUE (k : Nat) (i : Nat) : Fld := ⟨0x202430 + 0x4000 * k + 0x80 * i, 0, 32⟩
/-- SMP_CMP_B_HYST: HYST. -/
def SMP_CMP_B_HYST (k : Nat) (i : Nat) : Nat := 0x202440 + 0x4000 * k + 0x80 * i
def SMP_CMP_B_HYST.VALUE (k : Nat) (i : Nat) : Fld := ⟨0x202440 + 0x4000 * k + 0x80 * i, 0, 32⟩
/-- SMP_CH_FLAT: Flat-line. -/
def SMP_CH_FLAT (k : Nat) (i : Nat) : Nat := 0x202444 + 0x4000 * k + 0x80 * i
def SMP_CH_FLAT.EN (k : Nat) (i : Nat) : Fld := ⟨0x202444 + 0x4000 * k + 0x80 * i, 31, 1⟩
def SMP_CH_FLAT.TOL (k : Nat) (i : Nat) : Fld := ⟨0x202444 + 0x4000 * k + 0x80 * i, 16, 8⟩
def SMP_CH_FLAT.N (k : Nat) (i : Nat) : Fld := ⟨0x202444 + 0x4000 * k + 0x80 * i, 0, 16⟩
/-- SMP_CH_DEST: Destinations. -/
def SMP_CH_DEST (k : Nat) (i : Nat) : Nat := 0x202448 + 0x4000 * k + 0x80 * i
def SMP_CH_DEST.CAP_EN (k : Nat) (i : Nat) : Fld := ⟨0x202448 + 0x4000 * k + 0x80 * i, 31, 1⟩
def SMP_CH_DEST.CAP_LOG (k : Nat) (i : Nat) : Fld := ⟨0x202448 + 0x4000 * k + 0x80 * i, 24, 5⟩
def SMP_CH_DEST.STREAM_EN (k : Nat) (i : Nat) : Fld := ⟨0x202448 + 0x4000 * k + 0x80 * i, 23, 1⟩
def SMP_CH_DEST.MAX_REC (k : Nat) (i : Nat) : Fld := ⟨0x202448 + 0x4000 * k + 0x80 * i, 16, 6⟩
def SMP_CH_DEST.STREAM (k : Nat) (i : Nat) : Fld := ⟨0x202448 + 0x4000 * k + 0x80 * i, 0, 9⟩
/-- SMP_CH_VALUE: y. -/
def SMP_CH_VALUE (k : Nat) (i : Nat) : Nat := 0x20244c + 0x4000 * k + 0x80 * i
def SMP_CH_VALUE.VALUE (k : Nat) (i : Nat) : Fld := ⟨0x20244c + 0x4000 * k + 0x80 * i, 0, 32⟩
/-- SMP_CH_STAMP_LO: Time stamp. -/
def SMP_CH_STAMP_LO (k : Nat) (i : Nat) : Nat := 0x202450 + 0x4000 * k + 0x80 * i
def SMP_CH_STAMP_LO.STAMP (k : Nat) (i : Nat) : Fld := ⟨0x202450 + 0x4000 * k + 0x80 * i, 0, 32⟩
/-- SMP_CH_STAMP_MID: Time stamp. -/
def SMP_CH_STAMP_MID (k : Nat) (i : Nat) : Nat := 0x202454 + 0x4000 * k + 0x80 * i
def SMP_CH_STAMP_MID.STAMP (k : Nat) (i : Nat) : Fld := ⟨0x202454 + 0x4000 * k + 0x80 * i, 0, 32⟩
/-- SMP_CH_STAMP_HI: Time stamp. -/
def SMP_CH_STAMP_HI (k : Nat) (i : Nat) : Nat := 0x202458 + 0x4000 * k + 0x80 * i
def SMP_CH_STAMP_HI.STAMP (k : Nat) (i : Nat) : Fld := ⟨0x202458 + 0x4000 * k + 0x80 * i, 0, 32⟩
/-- SMP_CH_ANG_LO: Angle stamp. -/
def SMP_CH_ANG_LO (k : Nat) (i : Nat) : Nat := 0x20245c + 0x4000 * k + 0x80 * i
def SMP_CH_ANG_LO.STAMP (k : Nat) (i : Nat) : Fld := ⟨0x20245c + 0x4000 * k + 0x80 * i, 0, 32⟩
/-- SMP_CH_ANG_HI: Angle stamp. -/
def SMP_CH_ANG_HI (k : Nat) (i : Nat) : Nat := 0x202460 + 0x4000 * k + 0x80 * i
def SMP_CH_ANG_HI.STAMP (k : Nat) (i : Nat) : Fld := ⟨0x202460 + 0x4000 * k + 0x80 * i, 0, 32⟩
/-- SMP_CH_STAT: Channel state. -/
def SMP_CH_STAT (k : Nat) (i : Nat) : Nat := 0x202464 + 0x4000 * k + 0x80 * i
def SMP_CH_STAT.CMP_A (k : Nat) (i : Nat) : Fld := ⟨0x202464 + 0x4000 * k + 0x80 * i, 31, 1⟩
def SMP_CH_STAT.CMP_B (k : Nat) (i : Nat) : Fld := ⟨0x202464 + 0x4000 * k + 0x80 * i, 30, 1⟩
def SMP_CH_STAT.FLAT (k : Nat) (i : Nat) : Fld := ⟨0x202464 + 0x4000 * k + 0x80 * i, 29, 1⟩
def SMP_CH_STAT.WAIT (k : Nat) (i : Nat) : Fld := ⟨0x202464 + 0x4000 * k + 0x80 * i, 28, 1⟩
/-- SMP_FLOOR_A: Floors. -/
def SMP_FLOOR_A (k : Nat) (i : Nat) : Nat := 0x202468 + 0x4000 * k + 0x80 * i
def SMP_FLOOR_A.VALUE (k : Nat) (i : Nat) : Fld := ⟨0x202468 + 0x4000 * k + 0x80 * i, 0, 32⟩
/-- SMP_FLOOR_B: Floors. -/
def SMP_FLOOR_B (k : Nat) (i : Nat) : Nat := 0x20246c + 0x4000 * k + 0x80 * i
def SMP_FLOOR_B.VALUE (k : Nat) (i : Nat) : Fld := ⟨0x20246c + 0x4000 * k + 0x80 * i, 0, 32⟩
/-- SMP_CAP_COUNT: Records written. -/
def SMP_CAP_COUNT (k : Nat) (i : Nat) : Nat := 0x202470 + 0x4000 * k + 0x80 * i
def SMP_CAP_COUNT.COUNT (k : Nat) (i : Nat) : Fld := ⟨0x202470 + 0x4000 * k + 0x80 * i, 0, 32⟩
/-- SMP_CAP_ADDR: Buffer address. -/
def SMP_CAP_ADDR (k : Nat) (i : Nat) : Nat := 0x202474 + 0x4000 * k + 0x80 * i
def SMP_CAP_ADDR.ADDR (k : Nat) (i : Nat) : Fld := ⟨0x202474 + 0x4000 * k + 0x80 * i, 0, 32⟩
/-- SMP_CH_CNT: Outputs produced. -/
def SMP_CH_CNT (k : Nat) (i : Nat) : Nat := 0x202478 + 0x4000 * k + 0x80 * i
def SMP_CH_CNT.COUNT (k : Nat) (i : Nat) : Fld := ⟨0x202478 + 0x4000 * k + 0x80 * i, 0, 32⟩
/-- SMP_CH_DROP: Records lost. -/
def SMP_CH_DROP (k : Nat) (i : Nat) : Nat := 0x20247c + 0x4000 * k + 0x80 * i
def SMP_CH_DROP.COUNT (k : Nat) (i : Nat) : Fld := ⟨0x20247c + 0x4000 * k + 0x80 * i, 0, 32⟩

/-! ### SCR: spec/ chapter 10 (R244) -/

/-- SCR_SAFE_STAT: Bit p: pin p at SAFE_LVL. -/
def SCR_SAFE_STAT : Nat := 0x27c100
def SCR_SAFE_STAT.PIN : Fld := ⟨0x27c100, 0, 32⟩
/-- SCR_LEVEL: Bit p: read-back level of pin p. -/
def SCR_LEVEL : Nat := 0x27c104
def SCR_LEVEL.PIN : Fld := ⟨0x27c104, 0, 32⟩
/-- SCR_PIN_CFG: Pin configuration. -/
def SCR_PIN_CFG (p : Nat) : Nat := 0x27c200 + 0x20 * p
def SCR_PIN_CFG.EN (p : Nat) : Fld := ⟨0x27c200 + 0x20 * p, 31, 1⟩
def SCR_PIN_CFG.SAFE_LVL (p : Nat) : Fld := ⟨0x27c200 + 0x20 * p, 29, 2⟩
def SCR_PIN_CFG.INV_POLICY (p : Nat) : Fld := ⟨0x27c200 + 0x20 * p, 27, 2⟩
def SCR_PIN_CFG.EDGE_LATE (p : Nat) : Fld := ⟨0x27c200 + 0x20 * p, 26, 1⟩
/-- SCR_PIN_STAT: Pin state. -/
def SCR_PIN_STAT (p : Nat) : Nat := 0x27c204 + 0x20 * p
def SCR_PIN_STAT.SAFE (p : Nat) : Fld := ⟨0x27c204 + 0x20 * p, 31, 1⟩
def SCR_PIN_STAT.LEVEL (p : Nat) : Fld := ⟨0x27c204 + 0x20 * p, 30, 1⟩
def SCR_PIN_STAT.FILL (p : Nat) : Fld := ⟨0x27c204 + 0x20 * p, 0, 2⟩
/-- SCR_EDGE_CTL: Host edge. -/
def SCR_EDGE_CTL (p : Nat) : Nat := 0x27c208 + 0x20 * p
def SCR_EDGE_CTL.PUSH (p : Nat) : Fld := ⟨0x27c208 + 0x20 * p, 31, 1⟩
def SCR_EDGE_CTL.LEVEL (p : Nat) : Fld := ⟨0x27c208 + 0x20 * p, 30, 1⟩
def SCR_EDGE_CTL.WHEN (p : Nat) : Fld := ⟨0x27c208 + 0x20 * p, 28, 2⟩
def SCR_EDGE_CTL.COMPAT (p : Nat) : Fld := ⟨0x27c208 + 0x20 * p, 27, 1⟩
def SCR_EDGE_CTL.DOM (p : Nat) : Fld := ⟨0x27c208 + 0x20 * p, 24, 3⟩
/-- SCR_EDGE_LO: Edge target. -/
def SCR_EDGE_LO (p : Nat) : Nat := 0x27c20c + 0x20 * p
def SCR_EDGE_LO.TARGET (p : Nat) : Fld := ⟨0x27c20c + 0x20 * p, 0, 32⟩
/-- SCR_EDGE_MID: Edge target. -/
def SCR_EDGE_MID (p : Nat) : Nat := 0x27c210 + 0x20 * p
def SCR_EDGE_MID.TARGET (p : Nat) : Fld := ⟨0x27c210 + 0x20 * p, 0, 32⟩
/-- SCR_EDGE_HI: Edge target. -/
def SCR_EDGE_HI (p : Nat) : Nat := 0x27c214 + 0x20 * p
def SCR_EDGE_HI.TARGET (p : Nat) : Fld := ⟨0x27c214 + 0x20 * p, 0, 32⟩
/-- SCR_LATE: Late edges. -/
def SCR_LATE (p : Nat) : Nat := 0x27c218 + 0x20 * p
def SCR_LATE.COUNT (p : Nat) : Fld := ⟨0x27c218 + 0x20 * p, 0, 32⟩
/-- SCR_OVF: Dropped edges. -/
def SCR_OVF (p : Nat) : Nat := 0x27c21c + 0x20 * p
def SCR_OVF.COUNT (p : Nat) : Fld := ⟨0x27c21c + 0x20 * p, 0, 32⟩

/-! ### PLC: spec/ chapter 11 -/

/-- PLC_POLICY: Mode, power, move gap, temperatures. -/
def PLC_POLICY : Nat := 0x280100
def PLC_POLICY.TEMP_LO : Fld := ⟨0x280100, 24, 8⟩
def PLC_POLICY.TEMP_HI : Fld := ⟨0x280100, 16, 8⟩
def PLC_POLICY.MOVE_GAP : Fld := ⟨0x280100, 8, 8⟩
def PLC_POLICY.POWER_EN : Fld := ⟨0x280100, 2, 1⟩
def PLC_POLICY.MODE : Fld := ⟨0x280100, 0, 2⟩
/-- PLC_ADMIT: Last refusal under R261. -/
def PLC_ADMIT : Nat := 0x280104
def PLC_ADMIT.ITEM : Fld := ⟨0x280104, 16, 10⟩
def PLC_ADMIT.REASON : Fld := ⟨0x280104, 0, 16⟩
/-- PLC_EVAC: Bank evacuation. -/
def PLC_EVAC : Nat := 0x280108
def PLC_EVAC.START : Fld := ⟨0x280108, 31, 1⟩
def PLC_EVAC.RETURN : Fld := ⟨0x280108, 30, 1⟩
def PLC_EVAC.BANK : Fld := ⟨0x280108, 0, 5⟩
/-- PLC_MOVE_CNT: Moves. -/
def PLC_MOVE_CNT : Nat := 0x28010c
def PLC_MOVE_CNT.COUNT : Fld := ⟨0x28010c, 0, 32⟩
/-- PLC_MOVE_LAST: Last move. -/
def PLC_MOVE_LAST : Nat := 0x280110
def PLC_MOVE_LAST.KIND : Fld := ⟨0x280110, 28, 4⟩
def PLC_MOVE_LAST.CAUSE : Fld := ⟨0x280110, 24, 4⟩
def PLC_MOVE_LAST.TO : Fld := ⟨0x280110, 16, 8⟩
def PLC_MOVE_LAST.FROM : Fld := ⟨0x280110, 8, 8⟩
def PLC_MOVE_LAST.ITEM : Fld := ⟨0x280110, 0, 8⟩
/-- PLC_SLOT_MISS: Deadline misses under R254. -/
def PLC_SLOT_MISS : Nat := 0x280114
def PLC_SLOT_MISS.COUNT : Fld := ⟨0x280114, 0, 32⟩
/-- PLC_DOM_OFF: Domains held off, w = 0 to 2. -/
def PLC_DOM_OFF (w : Nat) : Nat := 0x280120 + 4 * w
def PLC_DOM_OFF.OFF (w : Nat) : Fld := ⟨0x280120 + 4 * w, 0, 32⟩
/-- PLC_OWNER_SEL: Owner shown in PLC_OWNER_BANKS. -/
def PLC_OWNER_SEL : Nat := 0x280130
def PLC_OWNER_SEL.OWNER : Fld := ⟨0x280130, 0, 10⟩
/-- PLC_OWNER_BANKS: Bank set of that owner. -/
def PLC_OWNER_BANKS (o : Nat) : Nat := 0x1250000 + 4 * o
def PLC_OWNER_BANKS.BANKS (o : Nat) : Fld := ⟨0x1250000 + 4 * o, 0, 24⟩
/-- PLC_CAP_BASE: Capture area base, ch = 0, 1. -/
def PLC_CAP_BASE (ch : Nat) : Nat := 0x280140 + 8 * ch
def PLC_CAP_BASE.BASE (ch : Nat) : Fld := ⟨0x280140 + 8 * ch, 0, 32⟩
/-- PLC_CAP_SIZE: Capture area size. -/
def PLC_CAP_SIZE (ch : Nat) : Nat := 0x280144 + 8 * ch
def PLC_CAP_SIZE.SIZE (ch : Nat) : Fld := ⟨0x280144 + 8 * ch, 0, 32⟩
/-- PLC_JOB_MAP: Job j, j = 0 to 63. -/
def PLC_JOB_MAP (j : Nat) : Nat := 0x280180 + 4 * j
def PLC_JOB_MAP.STATE (j : Nat) : Fld := ⟨0x280180 + 4 * j, 30, 2⟩
def PLC_JOB_MAP.UNIT (j : Nat) : Fld := ⟨0x280180 + 4 * j, 8, 1⟩
def PLC_JOB_MAP.CHAN (j : Nat) : Fld := ⟨0x280180 + 4 * j, 0, 5⟩
/-- PLC_GRP_TEMP: Group g, g = 0 to 16. -/
def PLC_GRP_TEMP (g : Nat) : Nat := 0x280300 + 4 * g
def PLC_GRP_TEMP.OFF (g : Nat) : Fld := ⟨0x280300 + 4 * g, 31, 1⟩
def PLC_GRP_TEMP.TEMP (g : Nat) : Fld := ⟨0x280300 + 4 * g, 0, 8⟩
/-- PLC_STM_DL: Deadline of context s. -/
def PLC_STM_DL (s : Nat) : Nat := 0x280800 + 4 * s
def PLC_STM_DL.DL (s : Nat) : Fld := ⟨0x280800 + 4 * s, 0, 24⟩
/-- PLC_PIN_A: Pin e, word 0, e = 0 to 31. -/
def PLC_PIN_A (e : Nat) : Nat := 0x281000 + 8 * e
def PLC_PIN_A.EN (e : Nat) : Fld := ⟨0x281000 + 8 * e, 31, 1⟩
def PLC_PIN_A.KIND (e : Nat) : Fld := ⟨0x281000 + 8 * e, 28, 3⟩
def PLC_PIN_A.ITEM (e : Nat) : Fld := ⟨0x281000 + 8 * e, 0, 10⟩
/-- PLC_PIN_B: Pin e, word 1. -/
def PLC_PIN_B (e : Nat) : Nat := 0x281004 + 8 * e
def PLC_PIN_B.TARGET (e : Nat) : Fld := ⟨0x281004 + 8 * e, 0, 24⟩

/-! ### DCT: spec/ chapter 12 (R284) -/

/-- DCT_CFG: EtherType and ports. -/
def DCT_CFG : Nat := 0x290100
def DCT_CFG.ETYPE : Fld := ⟨0x290100, 16, 16⟩
def DCT_CFG.PORTS : Fld := ⟨0x290100, 8, 8⟩
def DCT_CFG.OPEN : Fld := ⟨0x290100, 0, 8⟩
/-- DCT_CFG_B: Reply priority, cycle port. -/
def DCT_CFG_B : Nat := 0x290104
def DCT_CFG_B.CYCLE_PORT : Fld := ⟨0x290104, 4, 3⟩
def DCT_CFG_B.REPLY_PRIO : Fld := ⟨0x290104, 0, 3⟩
/-- DCT_CRIT_MASK: Regions made CRIT. -/
def DCT_CRIT_MASK : Nat := 0x290108
def DCT_CRIT_MASK.REGION : Fld := ⟨0x290108, 0, 11⟩
/-- DCT_ADMIT: Last refusal. -/
def DCT_ADMIT : Nat := 0x29010c
def DCT_ADMIT.BLOCK : Fld := ⟨0x29010c, 24, 8⟩
def DCT_ADMIT.REASON : Fld := ⟨0x29010c, 0, 16⟩
/-- DCT_COMMIT_CNT: Admitted commits. -/
def DCT_COMMIT_CNT : Nat := 0x290110
def DCT_COMMIT_CNT.COUNT : Fld := ⟨0x290110, 0, 32⟩
/-- DCT_REFUSE_CNT: Refused commits. -/
def DCT_REFUSE_CNT : Nat := 0x290114
def DCT_REFUSE_CNT.COUNT : Fld := ⟨0x290114, 0, 32⟩
/-- DCT_STAGED: Staged and waiting values. -/
def DCT_STAGED : Nat := 0x290118
def DCT_STAGED.WAITING : Fld := ⟨0x290118, 16, 16⟩
def DCT_STAGED.STAGED : Fld := ⟨0x290118, 0, 16⟩
/-- DCT_RX_CNT: Requests taken. -/
def DCT_RX_CNT : Nat := 0x29011c
def DCT_RX_CNT.COUNT : Fld := ⟨0x29011c, 0, 32⟩
/-- DCT_RX_OVF: Requests dropped. -/
def DCT_RX_OVF : Nat := 0x290120
def DCT_RX_OVF.COUNT : Fld := ⟨0x290120, 0, 32⟩
/-- DCT_DUP: Repeated requests. -/
def DCT_DUP : Nat := 0x290124
def DCT_DUP.COUNT : Fld := ⟨0x290124, 0, 32⟩
/-- DCT_ERR_CNT: Replies with status not 0, and discarded requests. -/
def DCT_ERR_CNT : Nat := 0x290128
def DCT_ERR_CNT.COUNT : Fld := ⟨0x290128, 0, 32⟩
/-- DCT_MBOX_CTL: Mailbox m control. -/
def DCT_MBOX_CTL (m : Nat) : Nat := 0x290200 + 0x10 * m
def DCT_MBOX_CTL.GO (m : Nat) : Fld := ⟨0x290200 + 0x10 * m, 31, 1⟩
/-- DCT_MBOX: Mailbox m data. -/
def DCT_MBOX (m : Nat) (w : Nat) : Nat := 0x291000 + 0x800 * m + 4 * w
def DCT_MBOX.OCTETS (m : Nat) (w : Nat) : Fld := ⟨0x291000 + 0x800 * m + 4 * w, 0, 32⟩

/-! ### AUT: spec/ chapter 13 (R299) -/

/-- AUT_CFG: Device address. -/
def AUT_CFG : Nat := 0x2a0100
def AUT_CFG.DEV_ADDR : Fld := ⟨0x2a0100, 0, 16⟩
/-- AUT_ADMIT: Last refusal under R294. -/
def AUT_ADMIT : Nat := 0x2a0104
def AUT_ADMIT.CLIENT : Fld := ⟨0x2a0104, 16, 12⟩
def AUT_ADMIT.REASON : Fld := ⟨0x2a0104, 0, 16⟩
/-- AUT_OK_CNT: Commands passing R290. -/
def AUT_OK_CNT : Nat := 0x2a0108
def AUT_OK_CNT.COUNT : Fld := ⟨0x2a0108, 0, 32⟩
/-- AUT_FAIL_CNT: Commands refused under R290. -/
def AUT_FAIL_CNT : Nat := 0x2a010c
def AUT_FAIL_CNT.COUNT : Fld := ⟨0x2a010c, 0, 32⟩
/-- AUT_LAST_FAIL: Last refusal of a command. -/
def AUT_LAST_FAIL : Nat := 0x2a0110
def AUT_LAST_FAIL.STATUS : Fld := ⟨0x2a0110, 24, 8⟩
def AUT_LAST_FAIL.PORT : Fld := ⟨0x2a0110, 16, 4⟩
def AUT_LAST_FAIL.CLIENT : Fld := ⟨0x2a0110, 0, 12⟩
/-- AUT_CLIENT_SEL: Client shown at 0x200. -/
def AUT_CLIENT_SEL : Nat := 0x2a0114
def AUT_CLIENT_SEL.CLIENT : Fld := ⟨0x2a0114, 0, 12⟩
/-- AUT_IMAGE_ID: IMAGE_ID of the loaded image. -/
def AUT_IMAGE_ID : Nat := 0x2a0118
def AUT_IMAGE_ID.ID : Fld := ⟨0x2a0118, 0, 32⟩
/-- AUT_TEST_CTL: Test CMAC. -/
def AUT_TEST_CTL : Nat := 0x2a0120
def AUT_TEST_CTL.START : Fld := ⟨0x2a0120, 31, 1⟩
def AUT_TEST_CTL.LEN : Fld := ⟨0x2a0120, 0, 7⟩
/-- AUT_TEST_KEY: Test key, w = 0 to 3. -/
def AUT_TEST_KEY (w : Nat) : Nat := 0x2a0130 + 4 * w
def AUT_TEST_KEY.OCTETS (w : Nat) : Fld := ⟨0x2a0130 + 4 * w, 0, 32⟩
/-- AUT_TEST_MSG: Test message, w = 0 to 15. -/
def AUT_TEST_MSG (w : Nat) : Nat := 0x2a0140 + 4 * w
def AUT_TEST_MSG.OCTETS (w : Nat) : Fld := ⟨0x2a0140 + 4 * w, 0, 32⟩
/-- AUT_TEST_MAC: Test CMAC, w = 0 to 3. -/
def AUT_TEST_MAC (w : Nat) : Nat := 0x2a0180 + 4 * w
def AUT_TEST_MAC.OCTETS (w : Nat) : Fld := ⟨0x2a0180 + 4 * w, 0, 32⟩
/-- AUT_CL_CFG: State, generation, rights. -/
def AUT_CL_CFG (id : Nat) : Nat := 0x1200000 + 0x20 * id
def AUT_CL_CFG.STATE (id : Nat) : Fld := ⟨0x1200000 + 0x20 * id, 30, 2⟩
def AUT_CL_CFG.KEY_GEN (id : Nat) : Fld := ⟨0x1200000 + 0x20 * id, 24, 4⟩
def AUT_CL_CFG.RIGHTS (id : Nat) : Fld := ⟨0x1200000 + 0x20 * id, 0, 10⟩
/-- AUT_CL_CTR_LO: LAST [31:0]. -/
def AUT_CL_CTR_LO (id : Nat) : Nat := 0x1200004 + 0x20 * id
def AUT_CL_CTR_LO.LAST (id : Nat) : Fld := ⟨0x1200004 + 0x20 * id, 0, 32⟩
/-- AUT_CL_CTR_HI: LAST [47:32]. -/
def AUT_CL_CTR_HI (id : Nat) : Nat := 0x1200008 + 0x20 * id
def AUT_CL_CTR_HI.LAST (id : Nat) : Fld := ⟨0x1200008 + 0x20 * id, 0, 16⟩
/-- AUT_CL_OWN: Ownership range i, i = 0 to 3. -/
def AUT_CL_OWN (id : Nat) (i : Nat) : Nat := 0x120000c + 0x20 * id + 4 * i
def AUT_CL_OWN.FIRST (id : Nat) (i : Nat) : Fld := ⟨0x120000c + 0x20 * id + 4 * i, 16, 9⟩
def AUT_CL_OWN.LAST (id : Nat) (i : Nat) : Fld := ⟨0x120000c + 0x20 * id + 4 * i, 0, 9⟩

/-! ### DMA: spec/ chapter 14 (R324) -/

/-- DMA_JOB_EN_LO: Jobs 0–31 enabled. -/
def DMA_JOB_EN_LO : Nat := 0x2b0100
def DMA_JOB_EN_LO.EN : Fld := ⟨0x2b0100, 0, 32⟩
/-- DMA_JOB_EN_HI: Jobs 32–63 enabled. -/
def DMA_JOB_EN_HI : Nat := 0x2b0104
def DMA_JOB_EN_HI.EN : Fld := ⟨0x2b0104, 0, 32⟩
/-- DMA_UNIT_CTL: Unit stop and clear. -/
def DMA_UNIT_CTL (u : Nat) : Nat := 0x2b0108 + 0x10000 * u
def DMA_UNIT_CTL.CLEAR (u : Nat) : Fld := ⟨0x2b0108 + 0x10000 * u, 31, 1⟩
def DMA_UNIT_CTL.STOPPED (u : Nat) : Fld := ⟨0x2b0108 + 0x10000 * u, 0, 1⟩
/-- DMA_BUS_ERR_A: First bus error. -/
def DMA_BUS_ERR_A (u : Nat) : Nat := 0x2b010c + 0x10000 * u
def DMA_BUS_ERR_A.KIND (u : Nat) : Fld := ⟨0x2b010c + 0x10000 * u, 28, 4⟩
def DMA_BUS_ERR_A.SPACE (u : Nat) : Fld := ⟨0x2b010c + 0x10000 * u, 26, 2⟩
def DMA_BUS_ERR_A.JOB (u : Nat) : Fld := ⟨0x2b010c + 0x10000 * u, 0, 6⟩
/-- DMA_BUS_ERR_LO: Its address [31:0]. -/
def DMA_BUS_ERR_LO (u : Nat) : Nat := 0x2b0110 + 0x10000 * u
def DMA_BUS_ERR_LO.ADDR (u : Nat) : Fld := ⟨0x2b0110 + 0x10000 * u, 0, 32⟩
/-- DMA_BUS_ERR_HI: Its address [63:32]. -/
def DMA_BUS_ERR_HI (u : Nat) : Nat := 0x2b0114 + 0x10000 * u
def DMA_BUS_ERR_HI.ADDR (u : Nat) : Fld := ⟨0x2b0114 + 0x10000 * u, 0, 32⟩
/-- DMA_DONE_LO: Bit j: job j done. -/
def DMA_DONE_LO (u : Nat) : Nat := 0x2b0118 + 0x10000 * u
def DMA_DONE_LO.DONE (u : Nat) : Fld := ⟨0x2b0118 + 0x10000 * u, 0, 32⟩
/-- DMA_DONE_HI: Bit j − 32: job j done. -/
def DMA_DONE_HI (u : Nat) : Nat := 0x2b011c + 0x10000 * u
def DMA_DONE_HI.DONE (u : Nat) : Fld := ⟨0x2b011c + 0x10000 * u, 0, 32⟩
/-- DMA_REQ_OVF: Requests lost. -/
def DMA_REQ_OVF : Nat := 0x2b0120
def DMA_REQ_OVF.COUNT : Fld := ⟨0x2b0120, 0, 32⟩
/-- DMA_BURST_CNT: Bursts granted by the unit. -/
def DMA_BURST_CNT (u : Nat) : Nat := 0x2b0124 + 0x10000 * u
def DMA_BURST_CNT.COUNT (u : Nat) : Fld := ⟨0x2b0124 + 0x10000 * u, 0, 32⟩
/-- DMA_REQ_SET: Requests, w = 0 to 3. -/
def DMA_REQ_SET (w : Nat) : Nat := 0x2b0140 + 4 * w
def DMA_REQ_SET.SET (w : Nat) : Fld := ⟨0x2b0140 + 4 * w, 0, 32⟩
/-- DMA_REQ_CNT: Line r, r = 0 to 127. -/
def DMA_REQ_CNT (r : Nat) : Nat := 0x2b0200 + 4 * r
def DMA_REQ_CNT.COUNT (r : Nat) : Fld := ⟨0x2b0200 + 4 * r, 0, 8⟩
/-- DMA_SRC_LO: Source [31:0]. -/
def DMA_SRC_LO (j : Nat) : Nat := 0x1270000 + 0x80 * j
def DMA_SRC_LO.ADDR (j : Nat) : Fld := ⟨0x1270000 + 0x80 * j, 0, 32⟩
/-- DMA_SRC_HI: Source [63:32]. -/
def DMA_SRC_HI (j : Nat) : Nat := 0x1270004 + 0x80 * j
def DMA_SRC_HI.ADDR (j : Nat) : Fld := ⟨0x1270004 + 0x80 * j, 0, 32⟩
/-- DMA_DST_LO: Destination [31:0]. -/
def DMA_DST_LO (j : Nat) : Nat := 0x1270008 + 0x80 * j
def DMA_DST_LO.ADDR (j : Nat) : Fld := ⟨0x1270008 + 0x80 * j, 0, 32⟩
/-- DMA_DST_HI: Destination [63:32]. -/
def DMA_DST_HI (j : Nat) : Nat := 0x127000c + 0x80 * j
def DMA_DST_HI.ADDR (j : Nat) : Fld := ⟨0x127000c + 0x80 * j, 0, 32⟩
/-- DMA_CNT: Bytes. -/
def DMA_CNT (j : Nat) : Nat := 0x1270010 + 0x80 * j
def DMA_CNT.CNT (j : Nat) : Fld := ⟨0x1270010 + 0x80 * j, 0, 28⟩
/-- DMA_CTL: Control. -/
def DMA_CTL (j : Nat) : Nat := 0x1270014 + 0x80 * j
def DMA_CTL.START (j : Nat) : Fld := ⟨0x1270014 + 0x80 * j, 31, 1⟩
def DMA_CTL.STOP (j : Nat) : Fld := ⟨0x1270014 + 0x80 * j, 30, 1⟩
def DMA_CTL.SRC_SPACE (j : Nat) : Fld := ⟨0x1270014 + 0x80 * j, 28, 2⟩
def DMA_CTL.DST_SPACE (j : Nat) : Fld := ⟨0x1270014 + 0x80 * j, 26, 2⟩
def DMA_CTL.SWAP (j : Nat) : Fld := ⟨0x1270014 + 0x80 * j, 24, 2⟩
def DMA_CTL.PACED (j : Nat) : Fld := ⟨0x1270014 + 0x80 * j, 23, 1⟩
def DMA_CTL.REQ_LINE (j : Nat) : Fld := ⟨0x1270014 + 0x80 * j, 16, 7⟩
def DMA_CTL.IRQ_EN (j : Nat) : Fld := ⟨0x1270014 + 0x80 * j, 15, 1⟩
def DMA_CTL.PRIO (j : Nat) : Fld := ⟨0x1270014 + 0x80 * j, 12, 3⟩
def DMA_CTL.BURST (j : Nat) : Fld := ⟨0x1270014 + 0x80 * j, 8, 3⟩
/-- DMA_SRC_2D: Source line shape. -/
def DMA_SRC_2D (j : Nat) : Nat := 0x1270018 + 0x80 * j
def DMA_SRC_2D.LINE_LEN (j : Nat) : Fld := ⟨0x1270018 + 0x80 * j, 16, 16⟩
def DMA_SRC_2D.LINES (j : Nat) : Fld := ⟨0x1270018 + 0x80 * j, 0, 16⟩
/-- DMA_SRC_STRIDE: Source stride. -/
def DMA_SRC_STRIDE (j : Nat) : Nat := 0x127001c + 0x80 * j
def DMA_SRC_STRIDE.STRIDE (j : Nat) : Fld := ⟨0x127001c + 0x80 * j, 0, 32⟩
/-- DMA_DST_2D: Destination line shape. -/
def DMA_DST_2D (j : Nat) : Nat := 0x1270020 + 0x80 * j
def DMA_DST_2D.LINE_LEN (j : Nat) : Fld := ⟨0x1270020 + 0x80 * j, 16, 16⟩
def DMA_DST_2D.LINES (j : Nat) : Fld := ⟨0x1270020 + 0x80 * j, 0, 16⟩
/-- DMA_DST_STRIDE: Destination stride. -/
def DMA_DST_STRIDE (j : Nat) : Nat := 0x1270024 + 0x80 * j
def DMA_DST_STRIDE.STRIDE (j : Nat) : Fld := ⟨0x1270024 + 0x80 * j, 0, 32⟩
/-- DMA_STAT: Job state. -/
def DMA_STAT (j : Nat) : Nat := 0x1270028 + 0x80 * j
def DMA_STAT.STATE (j : Nat) : Fld := ⟨0x1270028 + 0x80 * j, 30, 2⟩
def DMA_STAT.ARMED (j : Nat) : Fld := ⟨0x1270028 + 0x80 * j, 29, 1⟩
def DMA_STAT.SHORT (j : Nat) : Fld := ⟨0x1270028 + 0x80 * j, 28, 1⟩
def DMA_STAT.WR_IGNORED (j : Nat) : Fld := ⟨0x1270028 + 0x80 * j, 27, 1⟩
def DMA_STAT.ERR (j : Nat) : Fld := ⟨0x1270028 + 0x80 * j, 16, 4⟩
def DMA_STAT.GEN (j : Nat) : Fld := ⟨0x1270028 + 0x80 * j, 8, 8⟩
/-- DMA_DONE_CNT: Transfers ended. -/
def DMA_DONE_CNT (j : Nat) : Nat := 0x127002c + 0x80 * j
def DMA_DONE_CNT.COUNT (j : Nat) : Fld := ⟨0x127002c + 0x80 * j, 0, 32⟩
/-- SH_SRC_LO: Shadow set (R324). -/
def SH_SRC_LO (j : Nat) : Nat := 0x1270040 + 0x80 * j
def SH_SRC_LO.ADDR (j : Nat) : Fld := ⟨0x1270040 + 0x80 * j, 0, 32⟩
/-- SH_SRC_HI: Shadow set (R324). -/
def SH_SRC_HI (j : Nat) : Nat := 0x1270044 + 0x80 * j
def SH_SRC_HI.ADDR (j : Nat) : Fld := ⟨0x1270044 + 0x80 * j, 0, 32⟩
/-- SH_DST_LO: Shadow set (R324). -/
def SH_DST_LO (j : Nat) : Nat := 0x1270048 + 0x80 * j
def SH_DST_LO.ADDR (j : Nat) : Fld := ⟨0x1270048 + 0x80 * j, 0, 32⟩
/-- SH_DST_HI: Shadow set (R324). -/
def SH_DST_HI (j : Nat) : Nat := 0x127004c + 0x80 * j
def SH_DST_HI.ADDR (j : Nat) : Fld := ⟨0x127004c + 0x80 * j, 0, 32⟩
/-- SH_CNT: Shadow set (R324). -/
def SH_CNT (j : Nat) : Nat := 0x1270050 + 0x80 * j
def SH_CNT.CNT (j : Nat) : Fld := ⟨0x1270050 + 0x80 * j, 0, 28⟩
/-- SH_CTL: Shadow set (R324). -/
def SH_CTL (j : Nat) : Nat := 0x1270054 + 0x80 * j
def SH_CTL.SRC_SPACE (j : Nat) : Fld := ⟨0x1270054 + 0x80 * j, 28, 2⟩
def SH_CTL.DST_SPACE (j : Nat) : Fld := ⟨0x1270054 + 0x80 * j, 26, 2⟩
def SH_CTL.SWAP (j : Nat) : Fld := ⟨0x1270054 + 0x80 * j, 24, 2⟩
def SH_CTL.PACED (j : Nat) : Fld := ⟨0x1270054 + 0x80 * j, 23, 1⟩
def SH_CTL.REQ_LINE (j : Nat) : Fld := ⟨0x1270054 + 0x80 * j, 16, 7⟩
def SH_CTL.IRQ_EN (j : Nat) : Fld := ⟨0x1270054 + 0x80 * j, 15, 1⟩
def SH_CTL.PRIO (j : Nat) : Fld := ⟨0x1270054 + 0x80 * j, 12, 3⟩
def SH_CTL.BURST (j : Nat) : Fld := ⟨0x1270054 + 0x80 * j, 8, 3⟩
def SH_CTL.ARM (j : Nat) : Fld := ⟨0x1270054 + 0x80 * j, 31, 1⟩
/-- SH_SRC_2D: Shadow set (R324). -/
def SH_SRC_2D (j : Nat) : Nat := 0x1270058 + 0x80 * j
def SH_SRC_2D.LINE_LEN (j : Nat) : Fld := ⟨0x1270058 + 0x80 * j, 16, 16⟩
def SH_SRC_2D.LINES (j : Nat) : Fld := ⟨0x1270058 + 0x80 * j, 0, 16⟩
/-- SH_SRC_STRIDE: Shadow set (R324). -/
def SH_SRC_STRIDE (j : Nat) : Nat := 0x127005c + 0x80 * j
def SH_SRC_STRIDE.STRIDE (j : Nat) : Fld := ⟨0x127005c + 0x80 * j, 0, 32⟩
/-- SH_DST_2D: Shadow set (R324). -/
def SH_DST_2D (j : Nat) : Nat := 0x1270060 + 0x80 * j
def SH_DST_2D.LINE_LEN (j : Nat) : Fld := ⟨0x1270060 + 0x80 * j, 16, 16⟩
def SH_DST_2D.LINES (j : Nat) : Fld := ⟨0x1270060 + 0x80 * j, 0, 16⟩
/-- SH_DST_STRIDE: Shadow set (R324). -/
def SH_DST_STRIDE (j : Nat) : Nat := 0x1270064 + 0x80 * j
def SH_DST_STRIDE.STRIDE (j : Nat) : Fld := ⟨0x1270064 + 0x80 * j, 0, 32⟩

/-! ### MEM: spec/ chapter 15 (R344) -/

/-- MEM_CFG: Retraining, MR4, admission multiplier, refresh mode. -/
def MEM_CFG : Nat := 0x2d0100
def MEM_CFG.RETRAIN_MS : Fld := ⟨0x2d0100, 24, 8⟩
def MEM_CFG.MR4_MS : Fld := ⟨0x2d0100, 16, 8⟩
def MEM_CFG.DRIFT_TOL : Fld := ⟨0x2d0100, 8, 8⟩
def MEM_CFG.ADMIT_MULT : Fld := ⟨0x2d0100, 4, 2⟩
def MEM_CFG.REFRESH_MODE : Fld := ⟨0x2d0100, 0, 1⟩
/-- MEM_ADMIT: Last refusal under R342. -/
def MEM_ADMIT : Nat := 0x2d0104
def MEM_ADMIT.CH : Fld := ⟨0x2d0104, 16, 1⟩
def MEM_ADMIT.REASON : Fld := ⟨0x2d0104, 0, 16⟩
/-- MEM_RT1_CFG: RT1 channel and reservation. -/
def MEM_RT1_CFG : Nat := 0x2d0108
def MEM_RT1_CFG.CH : Fld := ⟨0x2d0108, 16, 1⟩
def MEM_RT1_CFG.RESV : Fld := ⟨0x2d0108, 0, 16⟩
/-- MEM_CH_STAT: Channel state. -/
def MEM_CH_STAT (ch : Nat) : Nat := 0x2d0140 + 0x40 * ch
def MEM_CH_STAT.STATE (ch : Nat) : Fld := ⟨0x2d0140 + 0x40 * ch, 29, 3⟩
def MEM_CH_STAT.TYPE (ch : Nat) : Fld := ⟨0x2d0140 + 0x40 * ch, 28, 1⟩
def MEM_CH_STAT.DENSITY (ch : Nat) : Fld := ⟨0x2d0140 + 0x40 * ch, 26, 2⟩
def MEM_CH_STAT.RATE_NOW (ch : Nat) : Fld := ⟨0x2d0140 + 0x40 * ch, 23, 3⟩
def MEM_CH_STAT.REF_MULT (ch : Nat) : Fld := ⟨0x2d0140 + 0x40 * ch, 21, 2⟩
def MEM_CH_STAT.MR4_RATE (ch : Nat) : Fld := ⟨0x2d0140 + 0x40 * ch, 18, 3⟩
/-- MEM_CH_USABLE: Usable size. -/
def MEM_CH_USABLE (ch : Nat) : Nat := 0x2d0144 + 0x40 * ch
def MEM_CH_USABLE.SIZE (ch : Nat) : Fld := ⟨0x2d0144 + 0x40 * ch, 0, 32⟩
/-- MEM_CH_RESV: Committed reservations. -/
def MEM_CH_RESV (ch : Nat) : Nat := 0x2d0148 + 0x40 * ch
def MEM_CH_RESV.RT_ONE (ch : Nat) : Fld := ⟨0x2d0148 + 0x40 * ch, 16, 16⟩
def MEM_CH_RESV.RT_ZERO (ch : Nat) : Fld := ⟨0x2d0148 + 0x40 * ch, 0, 16⟩
/-- MEM_CH_LIMIT: 0.8 × B_d. -/
def MEM_CH_LIMIT (ch : Nat) : Nat := 0x2d014c + 0x40 * ch
def MEM_CH_LIMIT.LIMIT (ch : Nat) : Fld := ⟨0x2d014c + 0x40 * ch, 0, 16⟩
/-- MEM_ECC_CORR: Corrected errors. -/
def MEM_ECC_CORR (ch : Nat) : Nat := 0x2d0150 + 0x40 * ch
def MEM_ECC_CORR.COUNT (ch : Nat) : Fld := ⟨0x2d0150 + 0x40 * ch, 0, 32⟩
/-- MEM_ECC_UNCORR: Uncorrectable errors. -/
def MEM_ECC_UNCORR (ch : Nat) : Nat := 0x2d0154 + 0x40 * ch
def MEM_ECC_UNCORR.COUNT (ch : Nat) : Fld := ⟨0x2d0154 + 0x40 * ch, 0, 32⟩
/-- MEM_ECC_ADDR: Last uncorrectable block. -/
def MEM_ECC_ADDR (ch : Nat) : Nat := 0x2d0158 + 0x40 * ch
def MEM_ECC_ADDR.ADDR (ch : Nat) : Fld := ⟨0x2d0158 + 0x40 * ch, 0, 32⟩
/-- MEM_REF_SPLIT: Catch-ups. -/
def MEM_REF_SPLIT (ch : Nat) : Nat := 0x2d015c + 0x40 * ch
def MEM_REF_SPLIT.COUNT (ch : Nat) : Fld := ⟨0x2d015c + 0x40 * ch, 0, 32⟩
/-- MEM_RETRAIN_CNT: Delay updates. -/
def MEM_RETRAIN_CNT (ch : Nat) : Nat := 0x2d0160 + 0x40 * ch
def MEM_RETRAIN_CNT.COUNT (ch : Nat) : Fld := ⟨0x2d0160 + 0x40 * ch, 0, 32⟩
/-- MEM_RAW_WAIT: Reads held under R340. -/
def MEM_RAW_WAIT (ch : Nat) : Nat := 0x2d0164 + 0x40 * ch
def MEM_RAW_WAIT.COUNT (ch : Nat) : Fld := ⟨0x2d0164 + 0x40 * ch, 0, 32⟩
/-- MEM_MAX_STALL: Longest real-time stall. -/
def MEM_MAX_STALL (ch : Nat) : Nat := 0x2d0168 + 0x40 * ch
def MEM_MAX_STALL.NS (ch : Nat) : Fld := ⟨0x2d0168 + 0x40 * ch, 0, 32⟩
/-- MEM_CH_CTL: Channel commands. -/
def MEM_CH_CTL (ch : Nat) : Nat := 0x2d016c + 0x40 * ch
def MEM_CH_CTL.RETRAIN (ch : Nat) : Fld := ⟨0x2d016c + 0x40 * ch, 31, 1⟩
/-- MEM_PORT_CFG: Priority and panic levels. -/
def MEM_PORT_CFG (q : Nat) : Nat := 0x2d0200 + 0x10 * q
def MEM_PORT_CFG.PRIO (q : Nat) : Fld := ⟨0x2d0200 + 0x10 * q, 24, 3⟩
def MEM_PORT_CFG.PANIC_LEVEL (q : Nat) : Fld := ⟨0x2d0200 + 0x10 * q, 16, 8⟩
def MEM_PORT_CFG.PANIC_CLEAR (q : Nat) : Fld := ⟨0x2d0200 + 0x10 * q, 8, 8⟩
/-- MEM_PORT_STAT: Panic and fill. -/
def MEM_PORT_STAT (q : Nat) : Nat := 0x2d0204 + 0x10 * q
def MEM_PORT_STAT.PANIC_ONE (q : Nat) : Fld := ⟨0x2d0204 + 0x10 * q, 31, 1⟩
def MEM_PORT_STAT.PANIC_ZERO (q : Nat) : Fld := ⟨0x2d0204 + 0x10 * q, 30, 1⟩
def MEM_PORT_STAT.FILL_ONE (q : Nat) : Fld := ⟨0x2d0204 + 0x10 * q, 16, 8⟩
def MEM_PORT_STAT.FILL_ZERO (q : Nat) : Fld := ⟨0x2d0204 + 0x10 * q, 0, 8⟩
/-- MEM_PANIC_CNT: Panic entries. -/
def MEM_PANIC_CNT (q : Nat) : Nat := 0x2d0208 + 0x10 * q
def MEM_PANIC_CNT.COUNT (q : Nat) : Fld := ⟨0x2d0208 + 0x10 * q, 0, 32⟩
/-- MEM_PORT_OVF: Writes not taken. -/
def MEM_PORT_OVF (q : Nat) : Nat := 0x2d020c + 0x10 * q
def MEM_PORT_OVF.COUNT (q : Nat) : Fld := ⟨0x2d020c + 0x10 * q, 0, 32⟩

/-! ### STA: spec/ chapter 16 (R366) -/

/-- STA_LOG_CFG: Log enable and ring size. -/
def STA_LOG_CFG : Nat := 0x2e0100
def STA_LOG_CFG.EN : Fld := ⟨0x2e0100, 31, 1⟩
def STA_LOG_CFG.SIZE_LOG : Fld := ⟨0x2e0100, 0, 5⟩
/-- STA_LOG_BASE: Ring base. -/
def STA_LOG_BASE : Nat := 0x2e0104
def STA_LOG_BASE.BASE : Fld := ⟨0x2e0104, 0, 32⟩
/-- STA_LOG_WR: Entries written. -/
def STA_LOG_WR : Nat := 0x2e0108
def STA_LOG_WR.COUNT : Fld := ⟨0x2e0108, 0, 32⟩
/-- STA_LOG_LOST: Entries lost. -/
def STA_LOG_LOST : Nat := 0x2e010c
def STA_LOG_LOST.COUNT : Fld := ⟨0x2e010c, 0, 32⟩
/-- STA_LOG_STAGE: Staging state. -/
def STA_LOG_STAGE : Nat := 0x2e0110
def STA_LOG_STAGE.FROZEN : Fld := ⟨0x2e0110, 8, 4⟩
def STA_LOG_STAGE.FILL : Fld := ⟨0x2e0110, 0, 7⟩
/-- STA_FLINE: FAULT_N monitor. -/
def STA_FLINE : Nat := 0x2e0114
def STA_FLINE.LINE_WINDOW : Fld := ⟨0x2e0114, 16, 16⟩
def STA_FLINE.HIGH_FAULT : Fld := ⟨0x2e0114, 3, 1⟩
def STA_FLINE.IGNORING : Fld := ⟨0x2e0114, 2, 1⟩
def STA_FLINE.SEEN_LOW : Fld := ⟨0x2e0114, 1, 1⟩
def STA_FLINE.DRIVING : Fld := ⟨0x2e0114, 0, 1⟩
/-- STA_EXT_CNT: External assertions. -/
def STA_EXT_CNT : Nat := 0x2e0118
def STA_EXT_CNT.COUNT : Fld := ⟨0x2e0118, 0, 32⟩
/-- STA_GRAVE: GRAVE blocks. -/
def STA_GRAVE : Nat := 0x2e011c
def STA_GRAVE.BLOCK : Fld := ⟨0x2e011c, 0, 28⟩
/-- STA_GRAVE_OWN: Blocks GRAVE by their own source. -/
def STA_GRAVE_OWN : Nat := 0x2e0120
def STA_GRAVE_OWN.BLOCK : Fld := ⟨0x2e0120, 0, 28⟩
/-- STA_INJECT: Fault injection. -/
def STA_INJECT : Nat := 0x2e0124
def STA_INJECT.GO : Fld := ⟨0x2e0124, 31, 1⟩
def STA_INJECT.AVAIL : Fld := ⟨0x2e0124, 30, 1⟩
def STA_INJECT.SRC : Fld := ⟨0x2e0124, 8, 5⟩
def STA_INJECT.BLOCK : Fld := ⟨0x2e0124, 0, 5⟩

/-! ### TRC: spec/ chapter 19 (R404) -/

/-- TRC_OUT: Outputs. -/
def TRC_OUT : Nat := 0x2f0100
def TRC_OUT.PIN_EN : Fld := ⟨0x2f0100, 31, 1⟩
def TRC_OUT.PORT_EN : Fld := ⟨0x2f0100, 30, 1⟩
def TRC_OUT.DRAM_EN : Fld := ⟨0x2f0100, 29, 1⟩
def TRC_OUT.PORT : Fld := ⟨0x2f0100, 24, 3⟩
def TRC_OUT.CLK_DIV : Fld := ⟨0x2f0100, 16, 4⟩
def TRC_OUT.PRIO : Fld := ⟨0x2f0100, 8, 3⟩
def TRC_OUT.MAX_REC : Fld := ⟨0x2f0100, 0, 6⟩
/-- TRC_ETYPE: Trace frame EtherType. -/
def TRC_ETYPE : Nat := 0x2f0104
def TRC_ETYPE.ETYPE : Fld := ⟨0x2f0104, 0, 16⟩
/-- TRC_DA_LO: TRC_DA [31:0]. -/
def TRC_DA_LO : Nat := 0x2f0108
def TRC_DA_LO.DA : Fld := ⟨0x2f0108, 0, 32⟩
/-- TRC_DA_HI: TRC_DA [47:32]. -/
def TRC_DA_HI : Nat := 0x2f010c
def TRC_DA_HI.DA : Fld := ⟨0x2f010c, 0, 16⟩
/-- TRC_DRAM_BASE: Ring base. -/
def TRC_DRAM_BASE : Nat := 0x2f0110
def TRC_DRAM_BASE.BASE : Fld := ⟨0x2f0110, 0, 32⟩
/-- TRC_DRAM_CFG: Ring size. -/
def TRC_DRAM_CFG : Nat := 0x2f0114
def TRC_DRAM_CFG.SIZE_LOG : Fld := ⟨0x2f0114, 0, 5⟩
/-- TRC_DRAM_WR: Records written. -/
def TRC_DRAM_WR : Nat := 0x2f0118
def TRC_DRAM_WR.COUNT : Fld := ⟨0x2f0118, 0, 32⟩
/-- TRC_LOST: Records lost. -/
def TRC_LOST : Nat := 0x2f011c
def TRC_LOST.COUNT : Fld := ⟨0x2f011c, 0, 32⟩
/-- TRC_FILL: Queue fills. -/
def TRC_FILL : Nat := 0x2f0120
def TRC_FILL.DRAM : Fld := ⟨0x2f0120, 18, 9⟩
def TRC_FILL.PORT : Fld := ⟨0x2f0120, 9, 9⟩
def TRC_FILL.PIN : Fld := ⟨0x2f0120, 0, 9⟩
/-- TRC_SRC_CTL: Source enable. -/
def TRC_SRC_CTL (s : Nat) : Nat := 0x2f0200 + 0x10 * s
def TRC_SRC_CTL.EN (s : Nat) : Fld := ⟨0x2f0200 + 0x10 * s, 31, 1⟩
/-- TRC_SRC_MASK_LO: Mask bits [31:0]. -/
def TRC_SRC_MASK_LO (s : Nat) : Nat := 0x2f0204 + 0x10 * s
def TRC_SRC_MASK_LO.MASK (s : Nat) : Fld := ⟨0x2f0204 + 0x10 * s, 0, 32⟩
/-- TRC_SRC_MASK_HI: Mask bits [63:32]. -/
def TRC_SRC_MASK_HI (s : Nat) : Nat := 0x2f0208 + 0x10 * s
def TRC_SRC_MASK_HI.MASK (s : Nat) : Fld := ⟨0x2f0208 + 0x10 * s, 0, 32⟩

/-! ### IST: spec/ chapter 18 (R391) -/

/-- IST_CFG: Sweep period and tests. -/
def IST_CFG : Nat := 0x300100
def IST_CFG.SWEEP_H : Fld := ⟨0x300100, 24, 8⟩
def IST_CFG.TEST_EN : Fld := ⟨0x300100, 8, 6⟩
def IST_CFG.EN : Fld := ⟨0x300100, 0, 1⟩
/-- IST_CMD: Commands. -/
def IST_CMD : Nat := 0x300104
def IST_CMD.RUN_NOW : Fld := ⟨0x300104, 31, 1⟩
def IST_CMD.TEST_ONE : Fld := ⟨0x300104, 30, 1⟩
def IST_CMD.TEST : Fld := ⟨0x300104, 0, 3⟩
/-- IST_STATE: Test in progress. -/
def IST_STATE : Nat := 0x300108
def IST_STATE.BUSY : Fld := ⟨0x300108, 31, 1⟩
def IST_STATE.TEST : Fld := ⟨0x300108, 24, 3⟩
def IST_STATE.UNIT : Fld := ⟨0x300108, 16, 8⟩
def IST_STATE.PERCENT : Fld := ⟨0x300108, 0, 8⟩
/-- IST_SWEEP_CNT: Sweeps completed. -/
def IST_SWEEP_CNT : Nat := 0x30010c
def IST_SWEEP_CNT.COUNT : Fld := ⟨0x30010c, 0, 32⟩
/-- IST_RESULT: Test t, t = 0 to 5. -/
def IST_RESULT (t : Nat) : Nat := 0x300120 + 4 * t
def IST_RESULT.LAST (t : Nat) : Fld := ⟨0x300120 + 4 * t, 30, 2⟩
def IST_RESULT.UNIT (t : Nat) : Fld := ⟨0x300120 + 4 * t, 16, 8⟩
def IST_RESULT.FAIL_CNT (t : Nat) : Fld := ⟨0x300120 + 4 * t, 0, 16⟩
/-- IST_CYCLE: Domain power-cycle. -/
def IST_CYCLE : Nat := 0x300140
def IST_CYCLE.GO : Fld := ⟨0x300140, 31, 1⟩
def IST_CYCLE.REFUSE : Fld := ⟨0x300140, 24, 4⟩
def IST_CYCLE.DOM : Fld := ⟨0x300140, 0, 7⟩
/-- IST_SCRUB_POS: Scrub position. -/
def IST_SCRUB_POS : Nat := 0x300144
def IST_SCRUB_POS.CH : Fld := ⟨0x300144, 31, 1⟩
def IST_SCRUB_POS.BLOCK : Fld := ⟨0x300144, 0, 25⟩
/-- IST_EYE_SEL: Lane shown in IST_EYE. -/
def IST_EYE_SEL : Nat := 0x300148
def IST_EYE_SEL.LANE : Fld := ⟨0x300148, 0, 3⟩
/-- IST_EYE: Last eye margins. -/
def IST_EYE (l : Nat) : Nat := 0x1280000 + 4 * l
def IST_EYE.H_MARGIN (l : Nat) : Fld := ⟨0x1280000 + 4 * l, 16, 16⟩
def IST_EYE.V_MARGIN (l : Nat) : Fld := ⟨0x1280000 + 4 * l, 0, 16⟩
/-- IST_EYE_LIMIT: Eye pass limits. -/
def IST_EYE_LIMIT : Nat := 0x300150
def IST_EYE_LIMIT.H_MIN : Fld := ⟨0x300150, 16, 16⟩
def IST_EYE_LIMIT.V_MIN : Fld := ⟨0x300150, 0, 16⟩

end Sys2Proof.Machine.Reg
end

