-- ==== Sys2Proof/Machine/RegRows.lean ====
section
/-! DEFINITION. The rows of the register map (reset words and access masks), per window, and their lookup by key. -/

namespace Sys2Proof.Machine

def rowsTIM : List Row :=
  [ ⟨0x20100, [], 0x22003e8, [], 0xfefffff, 0, 0, 0, 0xfefffff⟩ -- TIM_CFG
  , ⟨0x20104, [], 0, [], 0, 0, 0, 3, 0⟩ -- TIM_EPISODE
  , ⟨0x20108, [], 0xff00, [], 0, 0, 0, 0, 0xff00ff07⟩ -- TIM_SERVO
  , ⟨0x2010c, [], 0, [], 0xffffffff, 0, 0, 0, 0xffffffff⟩ -- TIM_RATE
  , ⟨0x20110, [], 0, [], 0, 0, 0, 0, 0xffffffff⟩ -- TIM_OFFSET
  , ⟨0x20114, [], 0, [], 0, 0, 0, 0, 0xffffffff⟩ -- TIM_HANDOVER
  , ⟨0x20120, [], 0, [], 0, 0, 0, 0, 0xffffffff⟩ -- TIM_NOW_LO
  , ⟨0x20124, [], 0, [], 0, 0, 0, 0, 0xffffffff⟩ -- TIM_NOW_MID
  , ⟨0x20128, [], 0, [], 0, 0, 0, 0, 0xffffffff⟩ -- TIM_NOW_HI
  , ⟨0x2012c, [], 0, [], 0, 0, 0, 0, 0xffffffff⟩ -- TIM_COMPAT
  , ⟨0x20130, [], 0, [], 0xffffffff, 0, 0, 0, 0xffffffff⟩ -- TIM_SET_LO
  , ⟨0x20134, [], 0, [], 0xffffffff, 0, 0, 0, 0xffffffff⟩ -- TIM_SET_MID
  , ⟨0x20138, [], 0, [], 0xffffffff, 0, 0, 0, 0xffffffff⟩ -- TIM_SET_HI
  , ⟨0x20140, [], 0, [], 0, 0, 0, 0, 0xffffffff⟩ -- TIM_HAL_DIFF
  , ⟨0x20144, [], 0, [], 0, 0, 0, 0, 0xffffffff⟩ -- TIM_FAILOVER_CNT
  , ⟨0x20148, [], 0, [], 0, 0, 0, 0, 0xffffffff⟩ -- TIM_REFUSED_CNT
  , ⟨0x20150, [], 0, [], 0xffff, 0, 0, 0, 0xffff⟩ -- TIM_DOMAIN
  , ⟨0x20154, [], 0xfd, [], 0xffffff, 0, 0, 0, 0xffffff⟩ -- TIM_INTERVAL
  , ⟨0x20160, [], 0, [], 7, 0, 0, 0, 7⟩ -- TIM_PORT_SEL
  , ⟨0x20170, [], 0, [], 0, 0, 0, 0, 0xffffffff⟩ -- TIM_COPY_ERR
  ]

def rowsV_0x124 : List Row :=
  [ ⟨0x1240000, [(8, 8)], 0, [1, 1, 1, 1, 0, 0, 0, 0], 0x3f, 0, 0, 0, 0x3f⟩ -- TIM_PORT_CFG
  , ⟨0x1240004, [(8, 8)], 0, [], 0xffffffff, 0, 0, 0, 0xffffffff⟩ -- TIM_LAT
  ]

def rowsANG : List Row :=
  [ ⟨0x30200, [(0x40, 8)], 0, [0x10030a00, 0x10130a00, 0x10230a00, 0x10330a00, 0x10430a00, 0x10530a00, 0x10630a00, 0x10730a00], 0xffffffff, 0, 0, 0, 0xffffffff⟩ -- ANG_SRC
  , ⟨0x30204, [(0x40, 8)], 0x3ca444, [], 0x7ffffff, 0, 0, 0, 0x7ffffff⟩ -- ANG_TOOTH
  , ⟨0x30208, [(0x40, 8)], 0x20c0200, [], 0xf0f01, 0, 0, 0, 0xf0f0f01⟩ -- ANG_TRACK
  , ⟨0x3020c, [(0x40, 8)], 0, [], 0xffffff, 0, 0, 0, 0xffffff⟩ -- ANG_PHASE
  , ⟨0x30210, [(0x40, 8)], 0x7d00000, [], 0xffff01ff, 0, 0, 0, 0xffff01ff⟩ -- ANG_REMOTE
  , ⟨0x30214, [(0x40, 8)], 0x20, [], 0x81ffff3f, 0, 0, 0, 0x81ffff3f⟩ -- ANG_PUB
  , ⟨0x30218, [(0x40, 8)], 0, [], 0, 0, 0, 0, 0xf1707ff⟩ -- ANG_STATE
  , ⟨0x3021c, [(0x40, 8)], 0, [], 0, 0, 0, 0, 0xffffffff⟩ -- ANG_NOW_LO
  , ⟨0x30220, [(0x40, 8)], 0, [], 0, 0, 0, 0, 0xffffffff⟩ -- ANG_NOW_HI
  , ⟨0x30224, [(0x40, 8)], 0, [], 0, 0, 0, 0, 0xffffffff⟩ -- ANG_SPEED
  , ⟨0x30228, [(0x40, 8)], 0, [], 0, 0, 0, 0, 0xffffffff⟩ -- ANG_PATTERN_CNT
  , ⟨0x3022c, [(0x40, 8)], 0, [], 0, 0, 0, 0, 0xffffffff⟩ -- ANG_COAST_CNT
  , ⟨0x30230, [(0x40, 8)], 0, [], 0, 0x100, 0, 1, 0x112⟩ -- ANG_MARK_CTL
  , ⟨0x30234, [(0x40, 8)], 0, [], 0, 0, 0, 0, 0xffffffff⟩ -- ANG_PUB_OVF
  , ⟨0x30238, [(0x40, 8)], 0, [], 0, 0, 0, 3, 0⟩ -- ANG_CMD
  , ⟨0x34000, [(0x2000, 2), (0x400, 8), (4, 256)], 0, [], 0x80ffffff, 0, 0, 0, 0x80ffffff⟩ -- ANG_MARK
  ]

def rowsPRT : List Row :=
  [ ⟨0x40100, [(0x10000, 8)], 0, [0x42400, 0x42400, 0x42400, 0x42400, 0x32400, 0x32400, 0x32400, 0x32400], 0xf073fff, 0, 0, 0, 0xf073fff⟩ -- PRT_MODE
  , ⟨0x40104, [(0x10000, 8)], 0, [], 0, 0, 0, 0, 7⟩ -- PRT_LINK
  , ⟨0x40108, [(0x10000, 8)], 0, [], 0xffffffff, 0, 0, 0, 0xffffffff⟩ -- PRT_MACADDR_LO
  , ⟨0x4010c, [(0x10000, 8)], 0, [], 0xffff, 0, 0, 0, 0xffff⟩ -- PRT_MACADDR_HI
  , ⟨0x40110, [(0x10000, 8)], 0x1f000000, [], 0x9f1f0000, 0, 0, 0, 0x9f1f1fff⟩ -- PRT_EQ
  , ⟨0x40114, [(0x10000, 8)], 0x2000, [], 0xff00, 0, 0, 0, 0xffff03⟩ -- PRT_SYNTH
  , ⟨0x40118, [(0x10000, 8)], 0, [], 0, 0, 0, 7, 0⟩ -- PRT_CMD
  , ⟨0x4011c, [(0x10000, 8)], 0, [], 1, 0, 0, 0, 1⟩ -- PRT_TX_CFG
  , ⟨0x40120, [(0x10000, 8)], 0, [0, 0, 0, 0, 0x23c320a, 0x23c320a, 0x23c320a, 0x23c320a], 0x8effffff, 0, 0, 0, 0x8effffff⟩ -- PRT_DS
  , ⟨0x40124, [(0x10000, 8)], 0, [0, 1, 2, 3, 4, 5, 6, 7], 0xe01f, 0, 0, 0, 0xe01f⟩ -- PRT_PHY
  , ⟨0x40128, [(0x10000, 8)], 0, [], 0x7f00ffff, 0, 0x80000000, 0, 0xff00ffff⟩ -- PRT_MDIO
  , ⟨0x40130, [(0x10000, 8)], 0, [], 0, 0, 0, 0, 0xffffffff⟩ -- PRT_RECAL_CNT
  , ⟨0x40134, [(0x10000, 8)], 0, [], 0, 0, 0, 0, 0xffffffff⟩ -- PRT_RECAL_DEFER
  , ⟨0x40138, [(0x10000, 8)], 0, [], 0, 0, 0, 0, 0xffffffff⟩ -- PRT_LOS_MASKED
  , ⟨0x4013c, [(0x10000, 8)], 0, [], 0, 0, 0, 0, 0xffffffff⟩ -- PRT_LINK_LOSS_CNT
  , ⟨0x40140, [(0x10000, 8)], 0, [], 0, 0, 0, 0, 0xffffffff⟩ -- PRT_DS_CNT
  , ⟨0x40150, [(0x10000, 8)], 0, [], 0, 0xffffffff, 0, 0, 0xffffffff⟩ -- PRT_HALF_RX
  , ⟨0x40154, [(0x10000, 8)], 0, [], 0, 0xffffffff, 0, 0, 0xffffffff⟩ -- PRT_HALF_TX
  , ⟨0x40400, [(0x10000, 8), (4, 22)], 0, [], 0, 0, 0, 0, 0xffffffff⟩ -- PRT_RX_CNT
  , ⟨0x40480, [(0x10000, 8), (4, 19)], 0, [], 0, 0, 0, 0, 0xffffffff⟩ -- PRT_TX_CNT
  ]

def rowsFRM_a : List Row :=
  [ ⟨0xc0100, [], 0, [], 1, 0, 0, 0, 1⟩ -- FRM_CFG
  , ⟨0xc0104, [], 0, [], 0, 0x100, 0, 1, 0x102⟩ -- FRM_RULE_CTL
  , ⟨0xc0108, [], 0, [], 0, 0, 0, 0, 0xffff⟩ -- FRM_ADMIT
  , ⟨0xc010c, [], 0xffffff, [], 0, 0, 0, 0, 0xffffff⟩ -- FRM_BANK_STATE
  , ⟨0xc0110, [], 0, [], 0, 0, 0, 0, 0xffff⟩ -- FRM_RESV_GRAN
  , ⟨0xc0114, [], 0, [], 0, 0, 0, 0, 0x7fff⟩ -- FRM_RESV_DESC
  , ⟨0xc0118, [], 0xbe00, [], 0, 0, 0, 0, 0xffff⟩ -- FRM_FREE_GRAN
  , ⟨0xc011c, [], 0x3e00, [], 0, 0, 0, 0, 0x7fff⟩ -- FRM_FREE_DESC
  , ⟨0xc0120, [], 0, [], 0, 0, 0, 0, 0xffffffff⟩ -- FRM_DROP_STAGE
  , ⟨0xc0124, [], 0, [], 0, 0, 0, 0, 0xffffffff⟩ -- FRM_DROP_RULE
  , ⟨0xc0128, [], 0, [], 0, 0, 0, 0, 0xffffffff⟩ -- FRM_DROP_NOMATCH
  , ⟨0xc012c, [], 0, [], 0, 0, 0, 0, 0xffffffff⟩ -- FRM_DROP_QUEUE
  , ⟨0xc0130, [], 0, [], 0, 0, 0, 0, 0xffffffff⟩ -- FRM_DROP_DESC
  , ⟨0xc0134, [], 0, [], 0, 0, 0, 0, 0xffffffff⟩ -- FRM_DROP_GRAN
  , ⟨0xc0138, [], 0, [], 0, 0, 0, 0, 0xffffffff⟩ -- FRM_ECC_CORR
  , ⟨0xc013c, [], 0, [], 0, 0, 0, 0, 0xffffffff⟩ -- FRM_ECC_UNCORR
  , ⟨0xc0140, [], 0x400, [], 0x7ff, 0, 0, 0x80000000, 0x700007ff⟩ -- FRM_NOTICE_CTL
  , ⟨0xc0144, [], 0, [], 0, 0, 0, 0, 0xffffff⟩ -- FRM_NOTICE_INC
  , ⟨0xc0148, [], 0, [], 0, 0, 0, 0, 0xffffffff⟩ -- FRM_NOTICE_CNT
  , ⟨0xc014c, [], 0, [], 0, 0, 0, 0, 0xffffffff⟩ -- FRM_NOTICE_POLICED
  , ⟨0xc0150, [], 0, [], 0x9fffffff, 0, 0, 0, 0x9fffffff⟩ -- FRM_PASS_A
  , ⟨0xc0154, [], 0, [], 0x9fffffff, 0, 0, 0, 0x9fffffff⟩ -- FRM_PASS_B
  , ⟨0xc1000, [(0x1000, 2), (0x10, 256)], 0, [], 0xfefff000, 0, 0, 0, 0xfefff000⟩ -- FRM_RULE_A
  , ⟨0xc1004, [(0x1000, 2), (0x10, 256)], 0, [], 0xfffe0ff, 0, 0, 0, 0xfffe0ff⟩ -- FRM_RULE_B
  ]

def rowsFRM_b : List Row :=
  [ ⟨0xc1008, [(0x1000, 2), (0x10, 256)], 0, [], 0xffff8000, 0, 0, 0, 0xffff8000⟩ -- FRM_RULE_C
  , ⟨0xc100c, [(0x1000, 2), (0x10, 256)], 0, [], 0xc1ff01ff, 0, 0, 0, 0xc1ff01ff⟩ -- FRM_RULE_D
  , ⟨0xc3000, [(8, 128)], 0, [], 0xffffffff, 0, 0, 0, 0xffffffff⟩ -- FRM_Q_A
  , ⟨0xc3004, [(8, 128)], 0, [], 0x7f, 0, 0, 0, 0x7fff007f⟩ -- FRM_Q_B
  , ⟨0xc4000, [(4, 512)], 0, [], 0x9fffffff, 0, 0, 0, 0x9fffffff⟩ -- FRM_STM_RESV
  , ⟨0xc8000, [(4, 2048)], 0, [], 0, 0xffffffff, 0, 0, 0xffffffff⟩ -- FRM_NOTICE_MAP
  ]

def rowsFRM : List Row := rowsFRM_a ++ rowsFRM_b

def rowsGTE_a : List Row :=
  [ ⟨0xd0100, [], 0, [], 0, 0, 0, 0, 0x77ffff⟩ -- GTE_ADMIT
  , ⟨0xd0104, [], 0, [], 7, 0, 0, 0, 7⟩ -- GTE_LIST_SEL
  , ⟨0xd1000, [(0x200, 8)], 0, [], 0xf, 0, 0, 0, 0xf⟩ -- GTE_PORT_CTL
  , ⟨0xd1004, [(0x200, 8)], 0, [], 0, 0x100, 0, 1, 0x112⟩ -- GTE_GCL_CTL
  , ⟨0xd1008, [(0x200, 8)], 0x76543201, [], 0x77777777, 0, 0, 0, 0x77777777⟩ -- GTE_PRIO_MAP
  , ⟨0xd100c, [(0x200, 8)], 0xc000a0, [], 0xff0fff, 0, 0, 0, 0xff0fff⟩ -- GTE_PREEMPT
  , ⟨0xd1010, [(0x200, 8)], 0, [], 0, 0, 0, 0, 0x1f⟩ -- GTE_PREEMPT_STAT
  , ⟨0xd1014, [(0x200, 8)], 0, [], 0xffffffff, 0, 0, 0, 0xffffffff⟩ -- GTE_CHANGE_LO
  , ⟨0xd1018, [(0x200, 8)], 0, [], 0xffffffff, 0, 0, 0, 0xffffffff⟩ -- GTE_CHANGE_MID
  , ⟨0xd101c, [(0x200, 8)], 0, [], 0xffffffff, 0, 0, 0, 0xffffffff⟩ -- GTE_CHANGE_HI
  , ⟨0xd1020, [(0x200, 8)], 0xff0000, [], 0, 0, 0, 0, 0xff13ff⟩ -- GTE_CUR_ENTRY
  , ⟨0xd1024, [(0x200, 8)], 0, [], 0, 0, 0, 0, 0xffffffff⟩ -- GTE_CYCLE_CNT
  , ⟨0xd1040, [(0x200, 8), (0x20, 2)], 0x3d090, [], 0xffffffff, 0, 0, 0, 0xffffffff⟩ -- GTE_CYCLE_TIME
  , ⟨0xd1044, [(0x200, 8), (0x20, 2)], 1, [], 0x7ff, 0, 0, 0, 0x7ff⟩ -- GTE_LIST_LEN
  , ⟨0xd1048, [(0x200, 8), (0x20, 2)], 0, [], 0xffffffff, 0, 0, 0, 0xffffffff⟩ -- GTE_BASE_LO
  , ⟨0xd104c, [(0x200, 8), (0x20, 2)], 0, [], 0xffffffff, 0, 0, 0, 0xffffffff⟩ -- GTE_BASE_MID
  , ⟨0xd1050, [(0x200, 8), (0x20, 2)], 0, [], 0xffffffff, 0, 0, 0, 0xffffffff⟩ -- GTE_BASE_HI
  , ⟨0xd1100, [(0x200, 8), (0x20, 8)], 0, [], 3, 0, 0, 0, 3⟩ -- GTE_CBS_CTL
  , ⟨0xd1104, [(0x200, 8), (0x20, 8)], 0, [], 0xffffff, 0, 0, 0, 0xffffff⟩ -- GTE_CBS_SLOPE
  , ⟨0xd1108, [(0x200, 8), (0x20, 8)], 0x2f80, [], 0xffffffff, 0, 0, 0, 0xffffffff⟩ -- GTE_CBS_HI
  , ⟨0xd110c, [(0x200, 8), (0x20, 8)], 0xffffd080, [], 0xffffffff, 0, 0, 0, 0xffffffff⟩ -- GTE_CBS_LO
  , ⟨0xd1110, [(0x200, 8), (0x20, 8)], 0, [], 0, 0, 0, 0, 0xffffffff⟩ -- GTE_CBS_CREDIT
  , ⟨0xd2000, [(0x10, 512)], 0, [], 0xffffbfff, 0x4000, 0, 0, 0xffffffff⟩ -- GTE_SF_CFG
  , ⟨0xd2004, [(0x10, 512)], 0, [], 0, 0, 0, 0, 0xffffffff⟩ -- GTE_SF_MATCH
  ]

def rowsGTE_b : List Row :=
  [ ⟨0xd2008, [(0x10, 512)], 0, [], 0, 0, 0, 0, 0xffffffff⟩ -- GTE_SF_PASS
  , ⟨0xd200c, [(0x10, 512)], 0, [], 0, 0, 0, 0, 0xffffffff⟩ -- GTE_SF_SDU_DROP
  , ⟨0xd4000, [(0x20, 512)], 0, [], 0x17, 0x20, 0, 0, 0x37⟩ -- GTE_FM_CTL
  , ⟨0xd4004, [(0x20, 512)], 0, [], 0xffffff, 0, 0, 0, 0xffffff⟩ -- GTE_FM_CIR
  , ⟨0xd4008, [(0x20, 512)], 0, [], 0xffffff, 0, 0, 0, 0xffffff⟩ -- GTE_FM_CBS
  , ⟨0xd400c, [(0x20, 512)], 0, [], 0xffffff, 0, 0, 0, 0xffffff⟩ -- GTE_FM_EIR
  , ⟨0xd4010, [(0x20, 512)], 0, [], 0xffffff, 0, 0, 0, 0xffffff⟩ -- GTE_FM_EBS
  , ⟨0xd4014, [(0x20, 512)], 0, [], 0, 0, 0, 0, 0xffffffff⟩ -- GTE_FM_YELLOW
  , ⟨0xd4018, [(0x20, 512)], 0, [], 0, 0, 0, 0, 0xffffffff⟩ -- GTE_FM_RED
  ]

def rowsGTE : List Row := rowsGTE_a ++ rowsGTE_b

def rowsV_0x100 : List Row :=
  [ ⟨0x1000000, [(0x4000, 8), (0x2000, 2), (8, 1024)], 0, [], 0xffffffff, 0, 0, 0, 0xffffffff⟩ -- GTE_GCL_IVL
  , ⟨0x1000004, [(0x4000, 8), (0x2000, 2), (8, 1024)], 0xff, [], 0xff, 0, 0, 0, 0xff⟩ -- GTE_GCL_GATE
  ]

def rowsSTM : List Row :=
  [ ⟨0xe0100, [], 0x7d0, [], 0xfffff, 0, 0, 0, 0xfffff⟩ -- STM_CFG
  , ⟨0xe0104, [], 0, [], 0, 0, 0, 0, 0x1ffffff⟩ -- STM_ADMIT
  , ⟨0xe0108, [], 0, [], 0, 0, 0, 0, 0xffffffff⟩ -- STM_STALE_CNT
  , ⟨0xe010c, [], 0, [], 0, 0, 0, 0, 0x800001ff⟩ -- STM_HALF_FIRST
  , ⟨0xe0110, [], 0, [], 0, 0, 0, 0, 0xc00001ff⟩ -- STM_LAST_EVT
  , ⟨0xe4000, [(0x20, 512)], 0, [], 0xffffffc0, 0, 0, 0, 0xffffffc0⟩ -- STM_CTX_CFG
  , ⟨0xe4004, [(0x20, 512)], 0, [], 0xffffffff, 0, 0, 0, 0xffffffff⟩ -- STM_ID_LO
  , ⟨0xe4008, [(0x20, 512)], 0, [], 0xffffcfff, 0, 0, 0, 0xffffcfff⟩ -- STM_ID_HI
  , ⟨0xe400c, [(0x20, 512)], 0, [], 0xffff3fff, 0, 0, 0, 0xffff3fff⟩ -- STM_RESV
  , ⟨0xe4010, [(0x20, 512)], 0, [], 0xc0ffffff, 0, 0, 0, 0xc0ffffff⟩ -- STM_TB
  , ⟨0xe4014, [(0x20, 512)], 0, [], 0xffff, 0, 0, 0, 0xffff⟩ -- STM_TB_BURST
  , ⟨0xe4018, [(0x20, 512)], 0x640000, [], 0xffffffff, 0, 0, 0, 0xffffffff⟩ -- STM_RCV_TIMER
  , ⟨0xe401c, [(0x20, 512)], 0x20000, [], 0xff8fffff, 0, 0, 0, 0xff8fffff⟩ -- STM_DEST
  , ⟨0xe8000, [(0x40, 512), (4, 12)], 0, [], 0, 0, 0, 0, 0xffffffff⟩ -- STM_CNT
  , ⟨0xe8030, [(0x40, 512)], 0, [], 0, 0xfff, 0, 0, 0xc0ff0fff⟩ -- STM_CTX_STAT
  , ⟨0xe8034, [(0x40, 512)], 0x80000000, [], 0, 0, 0, 0, 0x807fffff⟩ -- STM_SEQ
  , ⟨0xe8038, [(0x40, 512)], 0, [], 0, 0, 0, 0, 0xffffffff⟩ -- STM_HIST_LO
  , ⟨0xe803c, [(0x40, 512)], 0, [], 0, 0, 0, 0, 0xffffffff⟩ -- STM_HIST_HI
  ]

def rowsSHD_a : List Row :=
  [ ⟨0xf0100, [], 0x88b60000, [], 0xffffffff, 0, 0, 0, 0xffffffff⟩ -- SHD_CFG
  , ⟨0xf0104, [], 0, [], 3, 0, 0, 0, 3⟩ -- SHD_SLOT_SEL
  , ⟨0xf0108, [], 0, [], 0, 0, 0, 0, 0xfff1ffff⟩ -- SHD_ADMIT
  , ⟨0xf0200, [(0x200, 2)], 0x1fe0000, [], 0xe3ffff00, 0, 0, 0, 0xe3ffff00⟩ -- SHD_RING_CFG
  , ⟨0xf0204, [(0x200, 2)], 0x343020c8, [], 0xffffffff, 0, 0, 0, 0xffffffff⟩ -- SHD_TIMING
  , ⟨0xf0208, [(0x200, 2)], 0x403e8, [], 0xffffff, 0, 0, 0, 0xffffff⟩ -- SHD_CLEAN
  , ⟨0xf020c, [(0x200, 2)], 0, [], 0, 0, 0, 0, 0xffff03ff⟩ -- SHD_STATE
  , ⟨0xf0210, [(0x200, 2)], 0, [], 0, 0, 0, 0, 0xffffffff⟩ -- SHD_CYCLE_NOW
  , ⟨0xf0214, [(0x200, 2)], 0, [], 0xffffffff, 0, 0, 0, 0xffffffff⟩ -- SHD_TABLE_GEN
  , ⟨0xf0218, [(0x200, 2)], 0, [], 0, 0x100, 0, 1, 0x110⟩ -- SHD_SLOT_CTL
  , ⟨0xf021c, [(0x200, 2)], 0, [], 0x40ff0fff, 0, 0x80000000, 0, 0xc0ff0fff⟩ -- SHD_CLAIM
  , ⟨0xf0220, [(0x200, 2)], 0, [], 0, 0, 0, 0, 0xffff0f03⟩ -- SHD_CLAIM_STAT
  , ⟨0xf0224, [(0x200, 2)], 0, [], 0, 0, 0, 0, 0xffffffff⟩ -- SHD_BCN_OFS
  , ⟨0xf0228, [(0x200, 2)], 0, [], 0, 0, 0, 0, 0xffffffff⟩ -- SHD_LINK_DELAY
  , ⟨0xf022c, [(0x200, 2)], 0, [], 0, 0, 0, 0x80ffffff, 0⟩ -- SHD_NOTICE_TX
  , ⟨0xf0240, [(0x200, 2)], 0, [], 0, 0, 0, 0, 0xffffffff⟩ -- SHD_WRAP_CNT
  , ⟨0xf0244, [(0x200, 2)], 0, [], 0, 0, 0, 0, 0xffffffff⟩ -- SHD_UNWRAP_CNT
  , ⟨0xf0248, [(0x200, 2)], 0, [], 0, 0, 0, 0, 0xffffffff⟩ -- SHD_BCN_MISS
  , ⟨0xf024c, [(0x200, 2)], 0, [], 0, 0, 0, 0, 0xffffffff⟩ -- SHD_BCN_SKEW
  , ⟨0xf0250, [(0x200, 2)], 0, [], 0, 0, 0, 0, 0xffffffff⟩ -- SHD_STRIP_HOPS
  , ⟨0xf0254, [(0x200, 2)], 0, [], 0, 0, 0, 0, 0xffffffff⟩ -- SHD_CLAIM_STALE
  , ⟨0xf0258, [(0x200, 2)], 0, [], 0, 0, 0, 0, 0xffffffff⟩ -- SHD_CLAIM_ACCEPT
  , ⟨0xf025c, [(0x200, 2)], 0, [], 0, 0, 0, 0, 0xffffffff⟩ -- SHD_CLAIM_REFUSED
  , ⟨0xf0260, [(0x200, 2)], 0, [], 0, 0, 0, 0, 0xffffffff⟩ -- SHD_PASS_LATE
  ]

def rowsSHD_b : List Row :=
  [ ⟨0xf0264, [(0x200, 2)], 0, [], 0, 0, 0, 0, 0xffffffff⟩ -- SHD_REV_RX
  , ⟨0xf0268, [(0x200, 2)], 0, [], 0, 0, 0, 0, 0xffffffff⟩ -- SHD_WRAP_RX_DROP
  , ⟨0xf026c, [(0x200, 2)], 0, [], 0, 0, 0, 0, 0xffffffff⟩ -- SHD_UNTAGGED
  , ⟨0xf0270, [(0x200, 2)], 0, [], 0, 0, 0, 0, 0xffffffff⟩ -- SHD_NOTICE_SENT
  , ⟨0xf0280, [(0x200, 2), (4, 8)], 0, [], 0, 0, 0, 0, 0xffffffff⟩ -- SHD_ROLL
  , ⟨0xf0300, [(0x200, 2), (4, 64)], 0, [], 0, 0, 0, 0, 0xffffffff⟩ -- SHD_CLAIM_REC
  ]

def rowsSHD : List Row := rowsSHD_a ++ rowsSHD_b

def rowsV_0x104 : List Row :=
  [ ⟨0x1040000, [(0x10000, 2), (0x8000, 2), (8, 4096)], 0, [], 0xffffffff, 0, 0, 0, 0xffffffff⟩ -- SHD_SLOT_OFS
  , ⟨0x1040004, [(0x10000, 2), (0x8000, 2), (8, 4096)], 0, [], 0xc0ffffff, 0, 0, 0, 0xc0ffffff⟩ -- SHD_SLOT_DESC
  ]

def rowsCEL_a : List Row :=
  [ ⟨0x100100, [], 0, [], 0, 0, 0, 0, 0x3f3fffff⟩ -- CEL_ADMIT
  , ⟨0x100104, [], 0x44, [], 0, 0, 0, 0, 0x7f7f⟩ -- CEL_SPARES
  , ⟨0x100108, [], 0, [], 0, 0, 0, 0, 0xffffffff⟩ -- CEL_MISMATCH_CNT
  , ⟨0x10010c, [], 0, [], 0, 0, 0, 0, 0x7f7f3f⟩ -- CEL_LAST_MISMATCH
  , ⟨0x100110, [], 0, [], 0, 0, 0, 0x8000007f, 0⟩ -- CEL_PAIR_CMD
  , ⟨0x100114, [], 0, [], 0x13f, 0, 0, 0, 0x13f⟩ -- CEL_TBL_SEL
  , ⟨0x100200, [(4, 68)], 0, [], 0, 0, 0, 0, 0xe000ff3f⟩ -- CEL_PAIR_STAT
  , ⟨0x100400, [(4, 17)], 0x8080200, [], 0x800f0f00, 0, 0, 0, 0x8f0f0f00⟩ -- CEL_GRP_DVFS
  , ⟨0x101000, [(0x80, 64)], 0, [], 0xffffff00, 0, 0, 0, 0xffffff00⟩ -- CEL_CFG
  , ⟨0x101004, [(0x80, 64)], 0x3e8, [], 0xfffff, 0, 0, 0, 0xfffff⟩ -- CEL_DEADLINE
  , ⟨0x101008, [(0x80, 64)], 0xf4240, [], 0xffffffff, 0, 0, 0, 0xffffffff⟩ -- CEL_PERIOD
  , ⟨0x10100c, [(0x80, 64)], 0, [], 0xffffffff, 0, 0, 0, 0xffffffff⟩ -- CEL_BASE_LO
  , ⟨0x101010, [(0x80, 64)], 0, [], 0xffffffff, 0, 0, 0, 0xffffffff⟩ -- CEL_BASE_MID
  , ⟨0x101014, [(0x80, 64)], 0, [], 0xffffffff, 0, 0, 0, 0xffffffff⟩ -- CEL_BASE_HI
  , ⟨0x101018, [(0x80, 64)], 0, [], 0x28, 0x100, 0, 1, 0x13a⟩ -- CEL_BANK
  , ⟨0x10101c, [(0x80, 64)], 0, [], 0, 0, 0, 1, 0⟩ -- CEL_CMD
  , ⟨0x101020, [(0x80, 64)], 0x7f0000, [], 0, 0, 0, 0, 0xe77f7f3f⟩ -- CEL_STAT
  , ⟨0x101024, [(0x80, 64)], 0, [], 0, 0, 0, 0, 0xffffffff⟩ -- CEL_EXEC
  , ⟨0x101028, [(0x80, 64), (4, 8)], 0, [], 0xc00007ff, 0, 0, 0, 0xc00007ff⟩ -- CEL_IN
  , ⟨0x101048, [(0x80, 64)], 0, [], 0, 0, 0, 0, 0xffffffff⟩ -- CEL_ACT_CNT
  , ⟨0x10104c, [(0x80, 64)], 0, [], 0, 0, 0, 0, 0xffffffff⟩ -- CEL_LATE
  , ⟨0x101050, [(0x80, 64)], 0, [], 0, 0, 0, 0, 0xffffffff⟩ -- CEL_EVT_OVF
  , ⟨0x101054, [(0x80, 64)], 0, [], 0, 0, 0, 0, 0xffffffff⟩ -- CEL_TRIG_OVF
  , ⟨0x101058, [(0x80, 64)], 0, [], 0, 0, 0, 0, 0xffffffff⟩ -- CEL_REEXEC
  ]

def rowsCEL_b : List Row :=
  [ ⟨0x10105c, [(0x80, 64)], 0, [], 0, 0, 0, 0, 0xffffffff⟩ -- CEL_EVT_UNBOUND
  , ⟨0x101060, [(0x80, 64), (4, 8)], 0, [], 0, 0, 0, 0, 0xffffffff⟩ -- CEL_OUT_VAL
  , ⟨0x108000, [(0x20, 64)], 0, [], 0x81ff01ff, 0, 0, 0, 0x81ff01ff⟩ -- CEL_FMT_A
  , ⟨0x108004, [(0x20, 64)], 0, [], 0xffffffff, 0, 0, 0, 0xffffffff⟩ -- CEL_FMT_B
  , ⟨0x108008, [(0x20, 64)], 0, [], 0xffffffff, 0, 0, 0, 0xffffffff⟩ -- CEL_FMT_C
  , ⟨0x10800c, [(0x20, 64)], 0, [], 0xffff, 0, 0, 0, 0xffff⟩ -- CEL_FMT_D
  , ⟨0x10c000, [(0x100, 64), (4, 64)], 0, [], 0xffffffff, 0, 0, 0, 0xffffffff⟩ -- CEL_PAYLOAD
  ]

def rowsCEL : List Row := rowsCEL_a ++ rowsCEL_b

def rowsV_0x108 : List Row :=
  [ ⟨0x1080000, [(0x4000, 64), (0x2000, 2), (4, 2048)], 0, [], 0xffffffff, 0, 0, 0, 0xffffffff⟩ -- CEL_TBL
  ]

def rowsV_0x118 : List Row :=
  [ ⟨0x1180000, [(0x80, 64), (4, 32)], 0, [], 0, 0, 0, 0, 0xffffffff⟩ -- CEL_STATE_WORD
  ]

def rowsSMP_a : List Row :=
  [ ⟨0x200100, [], 0, [], 0, 0, 0, 0, 0x3feffff⟩ -- SMP_ADMIT
  , ⟨0x200110, [(4, 8)], 0, [], 0xffffffff, 0, 0, 0, 0xffffffff⟩ -- SMP_SPEED_LIM
  , ⟨0x202000, [(0x4000, 32)], 0xf, [], 0xfc0000ff, 0, 0, 0, 0xfc0000ff⟩ -- SMP_PORT_CFG
  , ⟨0x202004, [(0x4000, 32)], 0, [], 0xffffffff, 0, 0, 0, 0xffffffff⟩ -- SMP_STAMP_OFS
  , ⟨0x202008, [(0x4000, 32)], 0, [], 0, 0, 0, 0, 0xc01f0000⟩ -- SMP_PORT_STAT
  , ⟨0x202010, [(0x4000, 32), (4, 4)], 0, [], 0xc0000000, 0, 0, 0, 0xc0000000⟩ -- SMP_CS_CFG
  , ⟨0x202020, [(0x4000, 32), (4, 4)], 0, [], 0xffffffff, 0, 0, 0, 0xffffffff⟩ -- SMP_CS_SAFE
  , ⟨0x202030, [(0x4000, 32)], 0, [], 0, 0, 0, 0xff800000, 0⟩ -- SMP_CMD_CTL
  , ⟨0x202034, [(0x4000, 32)], 0, [], 0xffffffff, 0, 0, 0, 0xffffffff⟩ -- SMP_CMD_WORD
  , ⟨0x202038, [(0x4000, 32)], 0, [], 0xffffffff, 0, 0, 0, 0xffffffff⟩ -- SMP_CMD_TGT_LO
  , ⟨0x20203c, [(0x4000, 32)], 0, [], 0xffffffff, 0, 0, 0, 0xffffffff⟩ -- SMP_CMD_TGT_MID
  , ⟨0x202040, [(0x4000, 32)], 0, [], 0xffffffff, 0, 0, 0, 0xffffffff⟩ -- SMP_CMD_TGT_HI
  , ⟨0x202044, [(0x4000, 32)], 0, [], 0, 0x100, 0, 1, 0x102⟩ -- SMP_FIR_CTL
  , ⟨0x202050, [(0x4000, 32), (4, 4)], 0, [], 0, 0, 0, 0, 0xffffffff⟩ -- SMP_CMD_RESP
  , ⟨0x202060, [(0x4000, 32)], 0, [], 0, 0, 0, 0, 0xffffffff⟩ -- SMP_CMD_LATE
  , ⟨0x202064, [(0x4000, 32)], 0, [], 0, 0, 0, 0, 0xffffffff⟩ -- SMP_CMD_OVF
  , ⟨0x202068, [(0x4000, 32)], 0, [], 0, 0, 0, 0, 0xffffffff⟩ -- SMP_TRIG_OVF
  , ⟨0x20206c, [(0x4000, 32)], 0, [], 0, 0, 0, 0, 0xffffffff⟩ -- SMP_CMD_SENT
  , ⟨0x202100, [(0x4000, 32), (0x80, 2), (0x20, 4), (4, 8)], 0, [], 0xffffff, 0, 0, 0, 0xffffff⟩ -- SMP_FIR
  , ⟨0x202400, [(0x4000, 32), (0x80, 16)], 0, [], 0xfffff800, 0, 0, 0, 0xfffff800⟩ -- SMP_CH_CFG
  , ⟨0x202404, [(0x4000, 32), (0x80, 16)], 0, [], 0xffffffff, 0, 0, 0, 0xffffffff⟩ -- SMP_CH_TRIG_A
  , ⟨0x202408, [(0x4000, 32), (0x80, 16)], 0, [], 0xffffff, 0, 0, 0, 0xffffff⟩ -- SMP_CH_TRIG_B
  , ⟨0x20240c, [(0x4000, 32), (0x80, 16)], 0, [], 0xffffffff, 0, 0, 0, 0xffffffff⟩ -- SMP_CH_TIME_LO
  , ⟨0x202410, [(0x4000, 32), (0x80, 16)], 0, [], 0xffffffff, 0, 0, 0, 0xffffffff⟩ -- SMP_CH_TIME_MID
  ]

def rowsSMP_b : List Row :=
  [ ⟨0x202414, [(0x4000, 32), (0x80, 16)], 0, [], 0xffffffff, 0, 0, 0, 0xffffffff⟩ -- SMP_CH_TIME_HI
  , ⟨0x202418, [(0x4000, 32), (0x80, 16)], 0, [], 0x77b, 0, 0, 0, 0x77b⟩ -- SMP_CH_FILT
  , ⟨0x20241c, [(0x4000, 32), (0x80, 16)], 0x10000, [], 0xffffffff, 0, 0, 0, 0xffffffff⟩ -- SMP_CH_GAIN
  , ⟨0x202420, [(0x4000, 32), (0x80, 16)], 0, [], 0xffffffff, 0, 0, 0, 0xffffffff⟩ -- SMP_CH_OFFSET
  , ⟨0x202424, [(0x4000, 32), (0x80, 16)], 0, [], 0xe000000f, 0, 0, 0, 0xe000000f⟩ -- SMP_CMP_A_CFG
  , ⟨0x202434, [(0x4000, 32), (0x80, 16)], 0, [], 0xe000000f, 0, 0, 0, 0xe000000f⟩ -- SMP_CMP_B_CFG
  , ⟨0x202428, [(0x4000, 32), (0x80, 16)], 0x10000, [], 0xffffffff, 0, 0, 0, 0xffffffff⟩ -- SMP_CMP_A_RATIO
  , ⟨0x202438, [(0x4000, 32), (0x80, 16)], 0x10000, [], 0xffffffff, 0, 0, 0, 0xffffffff⟩ -- SMP_CMP_B_RATIO
  , ⟨0x20242c, [(0x4000, 32), (0x80, 16)], 0, [], 0xffffffff, 0, 0, 0, 0xffffffff⟩ -- SMP_CMP_A_MARGIN
  , ⟨0x20243c, [(0x4000, 32), (0x80, 16)], 0, [], 0xffffffff, 0, 0, 0, 0xffffffff⟩ -- SMP_CMP_B_MARGIN
  , ⟨0x202430, [(0x4000, 32), (0x80, 16)], 0, [], 0xffffffff, 0, 0, 0, 0xffffffff⟩ -- SMP_CMP_A_HYST
  , ⟨0x202440, [(0x4000, 32), (0x80, 16)], 0, [], 0xffffffff, 0, 0, 0, 0xffffffff⟩ -- SMP_CMP_B_HYST
  , ⟨0x202444, [(0x4000, 32), (0x80, 16)], 0, [], 0x80ffffff, 0, 0, 0, 0x80ffffff⟩ -- SMP_CH_FLAT
  , ⟨0x202448, [(0x4000, 32), (0x80, 16)], 0, [], 0x9fbf01ff, 0, 0, 0, 0x9fbf01ff⟩ -- SMP_CH_DEST
  , ⟨0x20244c, [(0x4000, 32), (0x80, 16)], 0, [], 0, 0, 0, 0, 0xffffffff⟩ -- SMP_CH_VALUE
  , ⟨0x202450, [(0x4000, 32), (0x80, 16)], 0, [], 0, 0, 0, 0, 0xffffffff⟩ -- SMP_CH_STAMP_LO
  , ⟨0x202454, [(0x4000, 32), (0x80, 16)], 0, [], 0, 0, 0, 0, 0xffffffff⟩ -- SMP_CH_STAMP_MID
  , ⟨0x202458, [(0x4000, 32), (0x80, 16)], 0, [], 0, 0, 0, 0, 0xffffffff⟩ -- SMP_CH_STAMP_HI
  , ⟨0x20245c, [(0x4000, 32), (0x80, 16)], 0, [], 0, 0, 0, 0, 0xffffffff⟩ -- SMP_CH_ANG_LO
  , ⟨0x202460, [(0x4000, 32), (0x80, 16)], 0, [], 0, 0, 0, 0, 0xffffffff⟩ -- SMP_CH_ANG_HI
  , ⟨0x202464, [(0x4000, 32), (0x80, 16)], 0, [], 0, 0, 0, 0, 0xf0000000⟩ -- SMP_CH_STAT
  , ⟨0x202468, [(0x4000, 32), (0x80, 16)], 0, [], 0, 0, 0, 0, 0xffffffff⟩ -- SMP_FLOOR_A
  , ⟨0x20246c, [(0x4000, 32), (0x80, 16)], 0, [], 0, 0, 0, 0, 0xffffffff⟩ -- SMP_FLOOR_B
  , ⟨0x202470, [(0x4000, 32), (0x80, 16)], 0, [], 0, 0, 0, 0, 0xffffffff⟩ -- SMP_CAP_COUNT
  ]

def rowsSMP_c : List Row :=
  [ ⟨0x202474, [(0x4000, 32), (0x80, 16)], 0, [], 0, 0, 0, 0, 0xffffffff⟩ -- SMP_CAP_ADDR
  , ⟨0x202478, [(0x4000, 32), (0x80, 16)], 0, [], 0, 0, 0, 0, 0xffffffff⟩ -- SMP_CH_CNT
  , ⟨0x20247c, [(0x4000, 32), (0x80, 16)], 0, [], 0, 0, 0, 0, 0xffffffff⟩ -- SMP_CH_DROP
  ]

def rowsSMP : List Row := rowsSMP_a ++ rowsSMP_b ++ rowsSMP_c

def rowsSCR : List Row :=
  [ ⟨0x27c100, [], 0, [], 0, 0, 0, 0, 0xffffffff⟩ -- SCR_SAFE_STAT
  , ⟨0x27c104, [], 0, [], 0, 0, 0, 0, 0xffffffff⟩ -- SCR_LEVEL
  , ⟨0x27c200, [(0x20, 32)], 0x50000000, [], 0xfc000000, 0, 0, 0, 0xfc000000⟩ -- SCR_PIN_CFG
  , ⟨0x27c204, [(0x20, 32)], 0, [], 0, 0, 0, 0, 0xc0000003⟩ -- SCR_PIN_STAT
  , ⟨0x27c208, [(0x20, 32)], 0, [], 0, 0, 0, 0xff000000, 0⟩ -- SCR_EDGE_CTL
  , ⟨0x27c20c, [(0x20, 32)], 0, [], 0xffffffff, 0, 0, 0, 0xffffffff⟩ -- SCR_EDGE_LO
  , ⟨0x27c210, [(0x20, 32)], 0, [], 0xffffffff, 0, 0, 0, 0xffffffff⟩ -- SCR_EDGE_MID
  , ⟨0x27c214, [(0x20, 32)], 0, [], 0xffffffff, 0, 0, 0, 0xffffffff⟩ -- SCR_EDGE_HI
  , ⟨0x27c218, [(0x20, 32)], 0, [], 0, 0, 0, 0, 0xffffffff⟩ -- SCR_LATE
  , ⟨0x27c21c, [(0x20, 32)], 0, [], 0, 0, 0, 0, 0xffffffff⟩ -- SCR_OVF
  ]

def rowsPLC : List Row :=
  [ ⟨0x280100, [], 0x6e7d0a05, [], 0xffffff07, 0, 0, 0, 0xffffff07⟩ -- PLC_POLICY
  , ⟨0x280104, [], 0, [], 0, 0, 0, 0, 0x3ffffff⟩ -- PLC_ADMIT
  , ⟨0x280108, [], 0, [], 0x1f, 0, 0x80000000, 0x40000000, 0x8000001f⟩ -- PLC_EVAC
  , ⟨0x28010c, [], 0, [], 0, 0, 0, 0, 0xffffffff⟩ -- PLC_MOVE_CNT
  , ⟨0x280110, [], 0, [], 0, 0, 0, 0, 0xffffffff⟩ -- PLC_MOVE_LAST
  , ⟨0x280114, [], 0, [], 0, 0, 0, 0, 0xffffffff⟩ -- PLC_SLOT_MISS
  , ⟨0x280120, [(4, 3)], 0, [], 0, 0, 0, 0, 0xffffffff⟩ -- PLC_DOM_OFF
  , ⟨0x280130, [], 0, [], 0x3ff, 0, 0, 0, 0x3ff⟩ -- PLC_OWNER_SEL
  , ⟨0x280140, [(8, 2)], 0, [], 0xffffffff, 0, 0, 0, 0xffffffff⟩ -- PLC_CAP_BASE
  , ⟨0x280144, [(8, 2)], 0, [], 0xffffffff, 0, 0, 0, 0xffffffff⟩ -- PLC_CAP_SIZE
  , ⟨0x280180, [(4, 64)], 0, [], 0, 0, 0, 0, 0xc000011f⟩ -- PLC_JOB_MAP
  , ⟨0x280300, [(4, 17)], 0, [], 0, 0, 0, 0, 0x800000ff⟩ -- PLC_GRP_TEMP
  , ⟨0x280800, [(4, 512)], 0, [], 0xffffff, 0, 0, 0, 0xffffff⟩ -- PLC_STM_DL
  , ⟨0x281000, [(8, 32)], 0, [], 0xf00003ff, 0, 0, 0, 0xf00003ff⟩ -- PLC_PIN_A
  , ⟨0x281004, [(8, 32)], 0, [], 0xffffff, 0, 0, 0, 0xffffff⟩ -- PLC_PIN_B
  ]

def rowsV_0x125 : List Row :=
  [ ⟨0x1250000, [(4, 643)], 0, [], 0, 0, 0, 0, 0xffffff⟩ -- PLC_OWNER_BANKS
  ]

def rowsDCT : List Row :=
  [ ⟨0x290100, [], 0x88b5ff00, [], 0xffffffff, 0, 0, 0, 0xffffffff⟩ -- DCT_CFG
  , ⟨0x290104, [], 7, [], 0x77, 0, 0, 0, 0x77⟩ -- DCT_CFG_B
  , ⟨0x290108, [], 0, [], 0x7ff, 0, 0, 0, 0x7ff⟩ -- DCT_CRIT_MASK
  , ⟨0x29010c, [], 0, [], 0, 0, 0, 0, 0xff00ffff⟩ -- DCT_ADMIT
  , ⟨0x290110, [], 0, [], 0, 0, 0, 0, 0xffffffff⟩ -- DCT_COMMIT_CNT
  , ⟨0x290114, [], 0, [], 0, 0, 0, 0, 0xffffffff⟩ -- DCT_REFUSE_CNT
  , ⟨0x290118, [], 0, [], 0, 0, 0, 0, 0xffffffff⟩ -- DCT_STAGED
  , ⟨0x29011c, [], 0, [], 0, 0, 0, 0, 0xffffffff⟩ -- DCT_RX_CNT
  , ⟨0x290120, [], 0, [], 0, 0, 0, 0, 0xffffffff⟩ -- DCT_RX_OVF
  , ⟨0x290124, [], 0, [], 0, 0, 0, 0, 0xffffffff⟩ -- DCT_DUP
  , ⟨0x290128, [], 0, [], 0, 0, 0, 0, 0xffffffff⟩ -- DCT_ERR_CNT
  , ⟨0x290200, [(0x10, 2)], 0, [], 0, 0, 0x80000000, 0, 0x80000000⟩ -- DCT_MBOX_CTL
  , ⟨0x291000, [(0x800, 2), (4, 260)], 0, [], 0xffffffff, 0, 0, 0, 0xffffffff⟩ -- DCT_MBOX
  ]

def rowsAUT : List Row :=
  [ ⟨0x2a0100, [], 0, [], 0xffff, 0, 0, 0, 0xffff⟩ -- AUT_CFG
  , ⟨0x2a0104, [], 0, [], 0, 0, 0, 0, 0xfffffff⟩ -- AUT_ADMIT
  , ⟨0x2a0108, [], 0, [], 0, 0, 0, 0, 0xffffffff⟩ -- AUT_OK_CNT
  , ⟨0x2a010c, [], 0, [], 0, 0, 0, 0, 0xffffffff⟩ -- AUT_FAIL_CNT
  , ⟨0x2a0110, [], 0, [], 0, 0, 0, 0, 0xff0f0fff⟩ -- AUT_LAST_FAIL
  , ⟨0x2a0114, [], 0, [], 0xfff, 0, 0, 0, 0xfff⟩ -- AUT_CLIENT_SEL
  , ⟨0x2a0118, [], 0, [], 0, 0, 0, 0, 0xffffffff⟩ -- AUT_IMAGE_ID
  , ⟨0x2a0120, [], 0, [], 0x7f, 0, 0x80000000, 0, 0x8000007f⟩ -- AUT_TEST_CTL
  , ⟨0x2a0130, [(4, 4)], 0, [], 0, 0, 0, 0xffffffff, 0⟩ -- AUT_TEST_KEY
  , ⟨0x2a0140, [(4, 16)], 0, [], 0xffffffff, 0, 0, 0, 0xffffffff⟩ -- AUT_TEST_MSG
  , ⟨0x2a0180, [(4, 4)], 0, [], 0, 0, 0, 0, 0xffffffff⟩ -- AUT_TEST_MAC
  ]

def rowsV_0x120 : List Row :=
  [ ⟨0x1200000, [(0x20, 4096)], 0, [], 0, 0, 0, 0, 0xcf0003ff⟩ -- AUT_CL_CFG
  , ⟨0x1200004, [(0x20, 4096)], 0, [], 0, 0, 0, 0, 0xffffffff⟩ -- AUT_CL_CTR_LO
  , ⟨0x1200008, [(0x20, 4096)], 0, [], 0, 0, 0, 0, 0xffff⟩ -- AUT_CL_CTR_HI
  , ⟨0x120000c, [(0x20, 4096), (4, 4)], 0, [], 0, 0, 0, 0, 0x1ff01ff⟩ -- AUT_CL_OWN
  ]

def rowsGLB : List Row :=
  [ ⟨0x400, [], 0, [0x51200000], 0, 0, 0, 0, 0xffffffff⟩ -- GLB_PCIE_ID
  , ⟨0x404, [], 0, [0], 0, 0, 0, 0, 0xffffffff⟩ -- GLB_PCIE_SUBSYS
  , ⟨0x408, [], 0, [], 0, 0, 0, 0, 0x8ff0000f⟩ -- GLB_PCIE_STAT
  , ⟨0x40c, [], 0, [], 1, 0, 0, 0, 1⟩ -- GLB_DIAG_PAGE
  , ⟨0x410, [], 0, [], 0, 0, 0, 0, 0xffffffff⟩ -- GLB_HOST_ERR
  , ⟨0x414, [], 0, [], 0, 3, 0, 0, 3⟩ -- GLB_SPI_STAT
  , ⟨0x418, [], 0, [], 0, 0, 0, 0, 0xffffffff⟩ -- GLB_SPI_ERR_CNT
  , ⟨0x100, [], 0, [], 0, 0, 0, 0, 0xffffffff⟩ -- GLB_BOOT
  , ⟨0x104, [], 0, [], 0, 0, 0x80000000, 0, 0x80000000⟩ -- GLB_BOOT_CTL
  , ⟨0x108, [], 0, [], 0x1fffff, 0, 0, 0, 0x1fffff⟩ -- GLB_IMG_ADDR
  , ⟨0x10c, [], 0, [], 0, 0, 0, 0xffffffff, 0⟩ -- GLB_IMG_DATA
  , ⟨0x110, [], 0, [0], 0, 0, 0, 0, 0x37⟩ -- GLB_STRAP
  , ⟨0x114, [], 0, [], 0, 0, 0, 0, 0xffffffff⟩ -- GLB_BOOT_TIME
  , ⟨0x118, [], 0, [], 0, 0, 0, 0, 0xffffffff⟩ -- GLB_BOOT_ID_LO
  , ⟨0x11c, [], 0, [], 0, 0, 0, 0, 0xffffffff⟩ -- GLB_BOOT_ID_HI
  ]

def rowsDMA : List Row :=
  [ ⟨0x2b0100, [], 0, [], 0xffffffff, 0, 0, 0, 0xffffffff⟩ -- DMA_JOB_EN_LO
  , ⟨0x2b0104, [], 0, [], 0xffffffff, 0, 0, 0, 0xffffffff⟩ -- DMA_JOB_EN_HI
  , ⟨0x2b0108, [(0x10000, 2)], 0, [], 0, 0, 0, 0x80000000, 1⟩ -- DMA_UNIT_CTL
  , ⟨0x2b010c, [(0x10000, 2)], 0, [], 0, 0, 0, 0, 0xfc00003f⟩ -- DMA_BUS_ERR_A
  , ⟨0x2b0110, [(0x10000, 2)], 0, [], 0, 0, 0, 0, 0xffffffff⟩ -- DMA_BUS_ERR_LO
  , ⟨0x2b0114, [(0x10000, 2)], 0, [], 0, 0, 0, 0, 0xffffffff⟩ -- DMA_BUS_ERR_HI
  , ⟨0x2b0118, [(0x10000, 2)], 0, [], 0, 0xffffffff, 0, 0, 0xffffffff⟩ -- DMA_DONE_LO
  , ⟨0x2b011c, [(0x10000, 2)], 0, [], 0, 0xffffffff, 0, 0, 0xffffffff⟩ -- DMA_DONE_HI
  , ⟨0x2b0120, [], 0, [], 0, 0, 0, 0, 0xffffffff⟩ -- DMA_REQ_OVF
  , ⟨0x2b0124, [(0x10000, 2)], 0, [], 0, 0, 0, 0, 0xffffffff⟩ -- DMA_BURST_CNT
  , ⟨0x2b0140, [(4, 4)], 0, [], 0, 0, 0, 0xffffffff, 0⟩ -- DMA_REQ_SET
  , ⟨0x2b0200, [(4, 128)], 0, [], 0, 0, 0, 0, 0xff⟩ -- DMA_REQ_CNT
  ]

def rowsV_0x127 : List Row :=
  [ ⟨0x1270000, [(0x80, 64)], 0, [], 0xffffffff, 0, 0, 0, 0xffffffff⟩ -- DMA_SRC_LO
  , ⟨0x1270004, [(0x80, 64)], 0, [], 0xffffffff, 0, 0, 0, 0xffffffff⟩ -- DMA_SRC_HI
  , ⟨0x1270008, [(0x80, 64)], 0, [], 0xffffffff, 0, 0, 0, 0xffffffff⟩ -- DMA_DST_LO
  , ⟨0x127000c, [(0x80, 64)], 0, [], 0xffffffff, 0, 0, 0, 0xffffffff⟩ -- DMA_DST_HI
  , ⟨0x1270010, [(0x80, 64)], 0, [], 0xfffffff, 0, 0, 0, 0xfffffff⟩ -- DMA_CNT
  , ⟨0x1270014, [(0x80, 64)], 0x400, [], 0x3ffff700, 0, 0x80000000, 0x40000000, 0xbffff700⟩ -- DMA_CTL
  , ⟨0x1270018, [(0x80, 64)], 0, [], 0xffffffff, 0, 0, 0, 0xffffffff⟩ -- DMA_SRC_2D
  , ⟨0x127001c, [(0x80, 64)], 0, [], 0xffffffff, 0, 0, 0, 0xffffffff⟩ -- DMA_SRC_STRIDE
  , ⟨0x1270020, [(0x80, 64)], 0, [], 0xffffffff, 0, 0, 0, 0xffffffff⟩ -- DMA_DST_2D
  , ⟨0x1270024, [(0x80, 64)], 0, [], 0xffffffff, 0, 0, 0, 0xffffffff⟩ -- DMA_DST_STRIDE
  , ⟨0x1270028, [(0x80, 64)], 0, [], 0, 0x18000000, 0, 0, 0xf80fff00⟩ -- DMA_STAT
  , ⟨0x127002c, [(0x80, 64)], 0, [], 0, 0, 0, 0, 0xffffffff⟩ -- DMA_DONE_CNT
  , ⟨0x1270040, [(0x80, 64)], 0, [], 0xffffffff, 0, 0, 0, 0xffffffff⟩ -- SH_SRC_LO
  , ⟨0x1270044, [(0x80, 64)], 0, [], 0xffffffff, 0, 0, 0, 0xffffffff⟩ -- SH_SRC_HI
  , ⟨0x1270048, [(0x80, 64)], 0, [], 0xffffffff, 0, 0, 0, 0xffffffff⟩ -- SH_DST_LO
  , ⟨0x127004c, [(0x80, 64)], 0, [], 0xffffffff, 0, 0, 0, 0xffffffff⟩ -- SH_DST_HI
  , ⟨0x1270050, [(0x80, 64)], 0, [], 0xfffffff, 0, 0, 0, 0xfffffff⟩ -- SH_CNT
  , ⟨0x1270054, [(0x80, 64)], 0x400, [], 0x3ffff700, 0, 0x80000000, 0, 0xbffff700⟩ -- SH_CTL
  , ⟨0x1270058, [(0x80, 64)], 0, [], 0xffffffff, 0, 0, 0, 0xffffffff⟩ -- SH_SRC_2D
  , ⟨0x127005c, [(0x80, 64)], 0, [], 0xffffffff, 0, 0, 0, 0xffffffff⟩ -- SH_SRC_STRIDE
  , ⟨0x1270060, [(0x80, 64)], 0, [], 0xffffffff, 0, 0, 0, 0xffffffff⟩ -- SH_DST_2D
  , ⟨0x1270064, [(0x80, 64)], 0, [], 0xffffffff, 0, 0, 0, 0xffffffff⟩ -- SH_DST_STRIDE
  ]

def rowsMEM : List Row :=
  [ ⟨0x2d0100, [], 0x40040a20, [], 0xffffff31, 0, 0, 0, 0xffffff31⟩ -- MEM_CFG
  , ⟨0x2d0104, [], 0, [], 0, 0, 0, 0, 0x1ffff⟩ -- MEM_ADMIT
  , ⟨0x2d0108, [], 0, [], 0x1ffff, 0, 0, 0, 0x1ffff⟩ -- MEM_RT1_CFG
  , ⟨0x2d0140, [(0x40, 2)], 0, [], 0, 0, 0, 0, 0xfffc0000⟩ -- MEM_CH_STAT
  , ⟨0x2d0144, [(0x40, 2)], 0, [], 0, 0, 0, 0, 0xffffffff⟩ -- MEM_CH_USABLE
  , ⟨0x2d0148, [(0x40, 2)], 0, [], 0, 0, 0, 0, 0xffffffff⟩ -- MEM_CH_RESV
  , ⟨0x2d014c, [(0x40, 2)], 0, [], 0, 0, 0, 0, 0xffff⟩ -- MEM_CH_LIMIT
  , ⟨0x2d0150, [(0x40, 2)], 0, [], 0, 0, 0, 0, 0xffffffff⟩ -- MEM_ECC_CORR
  , ⟨0x2d0154, [(0x40, 2)], 0, [], 0, 0, 0, 0, 0xffffffff⟩ -- MEM_ECC_UNCORR
  , ⟨0x2d0158, [(0x40, 2)], 0, [], 0, 0, 0, 0, 0xffffffff⟩ -- MEM_ECC_ADDR
  , ⟨0x2d015c, [(0x40, 2)], 0, [], 0, 0, 0, 0, 0xffffffff⟩ -- MEM_REF_SPLIT
  , ⟨0x2d0160, [(0x40, 2)], 0, [], 0, 0, 0, 0, 0xffffffff⟩ -- MEM_RETRAIN_CNT
  , ⟨0x2d0164, [(0x40, 2)], 0, [], 0, 0, 0, 0, 0xffffffff⟩ -- MEM_RAW_WAIT
  , ⟨0x2d0168, [(0x40, 2)], 0, [], 0, 0, 0, 0, 0xffffffff⟩ -- MEM_MAX_STALL
  , ⟨0x2d016c, [(0x40, 2)], 0, [], 0, 0, 0, 0x80000000, 0⟩ -- MEM_CH_CTL
  , ⟨0x2d0200, [(0x10, 5)], 0, [0x7201000, 0x6201000, 0x3000000, 0x3000000, 0x2000000], 0x7ffff00, 0, 0, 0, 0x7ffff00⟩ -- MEM_PORT_CFG
  , ⟨0x2d0204, [(0x10, 5)], 0, [], 0, 0, 0, 0, 0xc0ff00ff⟩ -- MEM_PORT_STAT
  , ⟨0x2d0208, [(0x10, 5)], 0, [], 0, 0, 0, 0, 0xffffffff⟩ -- MEM_PANIC_CNT
  , ⟨0x2d020c, [(0x10, 5)], 0, [], 0, 0, 0, 0, 0xffffffff⟩ -- MEM_PORT_OVF
  ]

def rowsSTA : List Row :=
  [ ⟨0x2e0100, [], 0xc, [], 0x8000001f, 0, 0, 0, 0x8000001f⟩ -- STA_LOG_CFG
  , ⟨0x2e0104, [], 0, [], 0xffffffff, 0, 0, 0, 0xffffffff⟩ -- STA_LOG_BASE
  , ⟨0x2e0108, [], 0, [], 0, 0, 0, 0, 0xffffffff⟩ -- STA_LOG_WR
  , ⟨0x2e010c, [], 0, [], 0, 0, 0, 0, 0xffffffff⟩ -- STA_LOG_LOST
  , ⟨0x2e0110, [], 0, [], 0, 0, 0, 0, 0xf7f⟩ -- STA_LOG_STAGE
  , ⟨0x2e0114, [], 0xa0000, [], 0xffff0000, 0, 0, 0, 0xffff000f⟩ -- STA_FLINE
  , ⟨0x2e0118, [], 0, [], 0, 0, 0, 0, 0xffffffff⟩ -- STA_EXT_CNT
  , ⟨0x2e011c, [], 0, [], 0, 0, 0, 0, 0xfffffff⟩ -- STA_GRAVE
  , ⟨0x2e0120, [], 0, [], 0, 0, 0, 0, 0xfffffff⟩ -- STA_GRAVE_OWN
  , ⟨0x2e0124, [], 0, [], 0, 0, 0, 0x80001f1f, 0x40000000⟩ -- STA_INJECT
  ]

def rowsPWR : List Row :=
  [ ⟨0x10100, [], 0, [], 0, 0, 0, 0x80000007, 0⟩ -- PWR_CMD
  , ⟨0x10104, [], 0, [], 0, 0, 0, 0, 0xe0000700⟩ -- PWR_STATE
  , ⟨0x10108, [], 0xb, [], 0xf, 0, 0, 0, 0x10f⟩ -- PWR_WAKE_CFG
  , ⟨0x1010c, [], 0, [], 0, 0, 0, 0, 0xf000000f⟩ -- PWR_WAKE_CAUSE
  , ⟨0x10110, [], 0x28002800, [], 0xbf3fff00, 0, 0, 0, 0xbf3fff00⟩ -- PWR_AVS
  , ⟨0x10114, [], 0x1e000000, [], 0, 0, 0, 0, 0x3f7fffff⟩ -- PWR_AVS_STAT
  , ⟨0x10118, [], 0, [], 0, 0, 0, 0, 0xff001f⟩ -- PWR_TEMP
  , ⟨0x1011c, [], 0, [], 0, 0, 0, 0, 0xff⟩ -- PWR_LOOP_STAT
  , ⟨0x10120, [(4, 3)], 0, [1, 0, 0], 0, 0, 0, 0, 0xffffffff⟩ -- PWR_DOM_ON
  , ⟨0x10130, [(4, 3)], 0, [], 0, 0xffffffff, 0, 0, 0xffffffff⟩ -- PWR_DOM_FAIL
  ]

def rowsIST : List Row :=
  [ ⟨0x300100, [], 0x18003f01, [], 0xff003f01, 0, 0, 0, 0xff003f01⟩ -- IST_CFG
  , ⟨0x300104, [], 0, [], 0, 0, 0, 0xc0000007, 0⟩ -- IST_CMD
  , ⟨0x300108, [], 0, [], 0, 0, 0, 0, 0x87ff00ff⟩ -- IST_STATE
  , ⟨0x30010c, [], 0, [], 0, 0, 0, 0, 0xffffffff⟩ -- IST_SWEEP_CNT
  , ⟨0x300120, [(4, 6)], 0, [], 0, 0, 0, 0, 0xc0ffffff⟩ -- IST_RESULT
  , ⟨0x300140, [], 0, [], 0x7f, 0, 0x80000000, 0, 0x8f00007f⟩ -- IST_CYCLE
  , ⟨0x300144, [], 0, [], 0, 0, 0, 0, 0x81ffffff⟩ -- IST_SCRUB_POS
  , ⟨0x300148, [], 0, [], 7, 0, 0, 0, 7⟩ -- IST_EYE_SEL
  , ⟨0x300150, [], 0xc8001e, [], 0xffffffff, 0, 0, 0, 0xffffffff⟩ -- IST_EYE_LIMIT
  ]

def rowsV_0x128 : List Row :=
  [ ⟨0x1280000, [(4, 8)], 0, [], 0, 0, 0, 0, 0xffffffff⟩ -- IST_EYE
  ]

def rowsTRC : List Row :=
  [ ⟨0x2f0100, [], 0x401073c, [], 0xe70f073f, 0, 0, 0, 0xe70f073f⟩ -- TRC_OUT
  , ⟨0x2f0104, [], 0x88b6, [], 0xffff, 0, 0, 0, 0xffff⟩ -- TRC_ETYPE
  , ⟨0x2f0108, [], 0, [], 0xffffffff, 0, 0, 0, 0xffffffff⟩ -- TRC_DA_LO
  , ⟨0x2f010c, [], 0, [], 0xffff, 0, 0, 0, 0xffff⟩ -- TRC_DA_HI
  , ⟨0x2f0110, [], 0, [], 0xffffffff, 0, 0, 0, 0xffffffff⟩ -- TRC_DRAM_BASE
  , ⟨0x2f0114, [], 0xc, [], 0x1f, 0, 0, 0, 0x1f⟩ -- TRC_DRAM_CFG
  , ⟨0x2f0118, [], 0, [], 0, 0, 0, 0, 0xffffffff⟩ -- TRC_DRAM_WR
  , ⟨0x2f011c, [], 0, [], 0, 0, 0, 0, 0xffffffff⟩ -- TRC_LOST
  , ⟨0x2f0120, [], 0, [], 0, 0, 0, 0, 0x7ffffff⟩ -- TRC_FILL
  , ⟨0x2f0200, [(0x10, 8)], 0, [], 0x80000000, 0, 0, 0, 0x80000000⟩ -- TRC_SRC_CTL
  , ⟨0x2f0204, [(0x10, 8)], 0xffffffff, [], 0xffffffff, 0, 0, 0, 0xffffffff⟩ -- TRC_SRC_MASK_LO
  , ⟨0x2f0208, [(0x10, 8)], 0xffffffff, [], 0xffffffff, 0, 0, 0, 0xffffffff⟩ -- TRC_SRC_MASK_HI
  ]

/-- The rows of the window (or of the store behind a selector) that holds key `a`, by the window bases of R405. -/
def rowsAt (a : Nat) : List Row :=
  if a < 0x10000 then rowsGLB
  else if a < 0x20000 then rowsPWR
  else if a < 0x30000 then rowsTIM
  else if a < 0x40000 then rowsANG
  else if a < 0xC0000 then rowsPRT
  else if a < 0xD0000 then rowsFRM
  else if a < 0xE0000 then rowsGTE
  else if a < 0xF0000 then rowsSTM
  else if a < 0x100000 then rowsSHD
  else if a < 0x200000 then rowsCEL
  else if 0x27C000 ≤ a ∧ a < 0x27E000 then rowsSCR
  else if a < 0x280000 then rowsSMP
  else if a < 0x290000 then rowsPLC
  else if a < 0x2A0000 then rowsDCT
  else if a < 0x2B0000 then rowsAUT
  else if a < 0x2D0000 then rowsDMA
  else if a < 0x2E0000 then rowsMEM
  else if a < 0x2F0000 then rowsSTA
  else if a < 0x300000 then rowsTRC
  else if a < 0x310000 then rowsIST
  else if a < 0x1000000 then []
  else if a < 0x1040000 then rowsV_0x100
  else if a < 0x1080000 then rowsV_0x104
  else if a < 0x1180000 then rowsV_0x108
  else if a < 0x1200000 then rowsV_0x118
  else if a < 0x1240000 then rowsV_0x120
  else if a < 0x1250000 then rowsV_0x124
  else if a < 0x1270000 then rowsV_0x125
  else if a < 0x1280000 then rowsV_0x127
  else rowsV_0x128

/-- Whether offset `o` from a row's base is one of its words: each index in its range, the rest exactly 0. -/
def Row.hits : List (Nat × Nat) → Nat → Bool
  | [], o => o == 0
  | (st, n) :: ds, o => Nat.blt (o / st) n && Row.hits ds (o % st)

/-- The first index of offset `o` under the row's dimensions. -/
def Row.firstIndex (r : Row) (o : Nat) : Nat :=
  match r.dims with
  | [] => 0
  | (st, _) :: _ => o / st

/-- The row of key `a`, if a register table defines one. -/
def rowOf (a : Nat) : Option Row :=
  (rowsAt a).find? fun r => Nat.ble r.base a && Row.hits r.dims (a - r.base)

/-- The reset word of row `r` at key `a`. -/
def Row.resetAt (r : Row) (a : Nat) : Nat :=
  match r.resets with
  | [] => r.reset
  | l => l.getD (r.firstIndex (a - r.base)) 0

end Sys2Proof.Machine
end

