-- ==== Sys2Proof/Machine/State.lean ====
section
/-! DEFINITION. The state of the SCL5120 block as plain data, and `State.reset`. One structure per block; every register word of BAR0 lies in `Dev.regs`. -/

namespace Sys2Proof.Machine

/-! ### Sparse stores -/

/-- A sparse store: (key, value) pairs, keys strictly rising, no pair equal to what an unlisted key reads as. -/
abbrev Tab (α : Type) := List (Nat × α)

/-- What key `k` reads as, `d k` where it is not listed. -/
def Tab.get {α : Type} (d : Nat → α) (t : Tab α) (k : Nat) : α := (t.lookup k).getD (d k)

/-- Store `v` at key `k`; storing what an unlisted key reads as removes the entry, so equal stores are equal lists. -/
def Tab.set {α : Type} [DecidableEq α] (d : Nat → α) (t : Tab α) (k : Nat) (v : α) : Tab α :=
  t.filter (fun e => Nat.blt e.1 k) ++ ((if v = d k then [] else [(k, v)]) ++ t.filter (fun e => Nat.blt k e.1))

/-- Store the values of `vs` at `k`, `k + 1`, … -/
def Tab.run {α : Type} [DecidableEq α] (d : Nat → α) (k : Nat) : List α → Tab α
  | [] => []
  | v :: vs => if v = d k then Tab.run d (k + 1) vs else (k, v) :: Tab.run d (k + 1) vs

/-- Replace the keys `k` to `k + vs.length - 1` by `vs` in one pass. -/
def Tab.setRun {α : Type} [DecidableEq α] (d : Nat → α) (t : Tab α) (k : Nat) (vs : List α) : Tab α :=
  t.filter (fun e => Nat.blt e.1 k) ++ (Tab.run d k vs ++ t.filter (fun e => Nat.ble (k + vs.length) e.1))

/-- The canonical form: keys strictly rising and no entry at its unlisted value. -/
def Tab.wf {α : Type} [DecidableEq α] (d : Nat → α) : Tab α → Bool
  | [] => true
  | [(k, v)] => decide (v ≠ d k)
  | (k, v) :: (k', v') :: t => decide (v ≠ d k) && Nat.blt k k' && Tab.wf d ((k', v') :: t)

/-! ### Memory: octets by address -/

/-- An addressed octet store: `Host.Cell`s in the canonical form of `Tab` with unlisted octets 0 (log entry 2). -/
abbrev Memory := List Host.Cell

/-- What an octet of memory nothing has written reads as: 0 (DESIGN CHOICE, log entry 2). -/
def Memory.unlisted : Nat → BitVec 8 := fun _ => 0

/-- The canonical form of a memory. -/
def Memory.wf (m : Memory) : Bool := Tab.wf Memory.unlisted m

/-! ### Faults, log, trace and interrupts (chapters 16, 19, 14) -/

/-- The class of an opening (R346). -/
inductive FltClass
  | none | minor | severe | grave
  deriving DecidableEq, Repr

/-- The fault unit's state of one source beyond its FLT_STICKY bit (R345–R348). -/
structure FltSrc where
  /-- Class while open. -/
  cls : FltClass := .none
  /-- Merged events, saturating at 15. -/
  merged : Nat := 0
  /-- Times of the last 255 openings in 2^-40 ns of stepless local time, newest first (R346). -/
  hist : List Int := []
  /-- Time of the opening that is open, for FIRST_SRC. -/
  openAt : Int := 0
  deriving DecidableEq, Repr

/-- One event log entry (R360). -/
structure LogEntry where
  stamp : Nat
  kind : Nat
  block : Nat
  src : Nat
  cls : Nat
  detail : Nat
  seq : Nat
  deriving DecidableEq, Repr

/-- The log unit (R359–R363). -/
structure LogUnit where
  /-- Entries staged, oldest first, at most 64. -/
  staged : List LogEntry := []
  /-- Next sequence number. -/
  seq : Nat := 0
  /-- How many of the first staged entries are frozen. -/
  frozen : Nat := 0
  /-- LOG_MEM_FAIL has stopped writing. -/
  memFail : Bool := false
  /-- A staging parity error has stopped logging. -/
  dead : Bool := false
  /-- Entries overwritten since the failure and the sequence number of the first. -/
  overwritten : Nat := 0
  firstLost : Nat := 0
  /-- Entries written since EN was set, and whether the first staged entry has been given its access to DRAM. -/
  written : Nat := 0
  issued : Bool := false
  /-- The stamp of the LOG_RESUME whose backlog is still being written (R362). -/
  resumed : Option Nat := .none
  deriving DecidableEq, Repr

/-- One trace record (R395). -/
structure TraceRec where
  stamp : Nat
  source : Nat
  inst : Nat
  a : Nat
  b : Nat
  deriving DecidableEq, Repr

/-- One trace output's queue (R396). -/
structure TraceQueue where
  recs : List TraceRec := []
  /-- Records lost since the output's previous record. -/
  lost : Nat := 0
  /-- Stamp of the first lost record. -/
  lostAt : Nat := 0
  deriving DecidableEq, Repr

/-- The Telltale's state beyond its registers. -/
structure TraceUnit where
  pin : TraceQueue := {}
  port : TraceQueue := {}
  dram : TraceQueue := {}
  /-- `up` at which the first record of the trace frame being gathered was queued. -/
  firstAt : Option Nat := .none
  /-- SEQ of the next trace frame. -/
  frameSeq : Nat := 0
  /-- Records written to DRAM since the output was enabled, and how many of the queue have been given their access. -/
  dramCount : Nat := 0
  dramIssued : Nat := 0
  deriving DecidableEq, Repr

/-- Where an asserted interrupt goes (R23). -/
inductive IrqDest
  | off
  | vector (v : Nat)
  | pin (k : Nat)
  deriving DecidableEq, Repr

/-- What the device sends out during the last command: the model's record of its outputs. -/
inductive Output
  /-- A frame, or the last fragment of one, has left port `p`; octets without FCS; `bad` when the FCS was inverted (R106). -/
  | frame (p : Nat) (data : List Octet) (bad : Bool)
  /-- A non-final fragment of the frame with frame count `count` has left port `p` (R122, R124). -/
  | fragment (p : Nat) (count : Nat) (data : List Octet)
  /-- A verify (`false`) or respond (`true`) mPacket (R431). -/
  | mpacket (p : Nat) (respond : Bool)
  /-- An MSI-X message of vector `v` (R304). -/
  | msix (v : Nat)
  /-- A register word returned to a requester. -/
  | word (w : Word)
  /-- An octet on SPI MISO. -/
  | octet (o : Octet)
  /-- An Odeivo reply to the mailbox or client. -/
  | reply (data : List Octet)
  /-- A management frame on MDIO for port `p` (R85). -/
  | mdio (p : Nat) (word : Nat)
  /-- A transaction of `bits` bits begins on a chip select of a Chuck port in its MODE (0 SPI mode 0, 1 SPI mode 3, 2 frame-sync with FS), MOSI carrying `word`, 0 for a read (R223). -/
  | spiTxn (k cs mode bits word : Nat)
  /-- The running transaction of a Chuck port is cut off: CS_N high, SCK idle, MOSI and FS low (R237). -/
  | spiCut (k : Nat)
  /-- A TOUT pin changes level, `none` for high impedance (R238, R240). -/
  | tout (pin : Nat) (level : Option Bool)
  /-- A record on the trace pins (R396). -/
  | trace (octets : List Octet)
  /-- Notification that a JTAG data register is selected (R399). -/
  | jtag (value : Nat)
  deriving DecidableEq, Repr

/-! ### Frames, ports and the Reef (chapters 4–7) -/

/-- The owner of a frame's granules (R99). -/
inductive Owner
  | queue (q : Nat) | ctx (s : Nat) | pass (r : Nat) | device | trace
  deriving DecidableEq, Repr

/-- A descriptor (R99–R101): one frame in the Locker. -/
structure Frame where
  /-- Octets from the destination address to the last payload octet, without FCS, as held in the Locker. -/
  data : List Octet := []
  owner : Owner := .device
  /-- Granules held, numbered 2,048 × bank + index. -/
  granules : List Nat := []
  /-- The whole need came from the shared pool. -/
  shared : Bool := false
  /-- Pending copies. -/
  copies : Nat := 0
  /-- Ingress port, 8 for a frame the device made. -/
  ingress : Nat := 8
  /-- The granules that have shown an uncorrectable error (R106). -/
  bad : List Nat := []
  /-- `up` since which the frame has rested. -/
  since : Nat := 0
  /-- It has started on a port (R148, R252). -/
  started : Bool := false
  deriving DecidableEq, Repr

/-- How the port completes a frame as it leaves: nothing, the egress stamp into ORIGIN, or residence added to a correction field. -/
inductive Fixup
  | none
  | origin (at' : Nat)
  | residence (at' : Nat) (from' : Nat)
  /-- Residence times the rate ratio, and the ingress link delay: a Sync in one step, a beacon. -/
  | sync (at' : Nat) (from' : Nat) (delay : Nat)
  /-- A two-step Sync: its correction is kept under `key` for the Follow_Up. -/
  | twoStep (key : Nat) (from' : Nat) (delay : Nat)
  /-- A passed-on Follow_Up takes the correction kept under `key`. -/
  | followUp (key : Nat) (at' : Nat)
  /-- An own PTP message whose egress stamp is kept under this key for a message to come. -/
  | keepStamp (key : Nat)
  /-- An own one-step Sync: its egress stamp goes into its originTimestamp, the fraction into its correctionField. -/
  | ptpOrigin
  deriving DecidableEq, Repr

/-- A frame or copy in a class queue of a port. -/
structure QEnt where
  desc : Nat
  /-- Octets as sent at this port, without FCS. -/
  data : List Octet
  /-- Late policy DROP (R74). -/
  lateDrop : Bool := false
  /-- Stream context, if any. -/
  ctx : Option Nat := .none
  /-- Relayed frame of this ring (R161). -/
  relay : Option Nat := .none
  /-- `up` at which it was queued. -/
  queuedAt : Nat := 0
  /-- Octets already sent in earlier fragments. -/
  sent : Nat := 0
  fix : Fixup := .none
  deriving DecidableEq, Repr

/-- What is on a port's line. -/
structure TxLine where
  ent : QEnt
  cls : Nat
  /-- Start-of-frame stamp in 2^-16 ns (R40). -/
  start : Nat
  /-- Sent by the pre-emptable MAC, and its frame count there (R124). -/
  pre : Bool
  fcnt : Nat := 0
  deriving DecidableEq, Repr

/-- A pre-empted frame that awaits its continuation (R123, R124). -/
structure TxHold where
  ent : QEnt
  cls : Nat
  /-- Local time, steps removed, in 2^-16 ns at which its last fragment ended. -/
  endedAt : Int
  fcnt : Nat := 0
  deriving DecidableEq, Repr

/-- A credit-based shaper's credit in 2^-16 × 10^-6 bit, brought up to local time `at'` in 2^-16 ns, steps removed (R126). -/
structure Credit where
  credit : Int := 0
  at' : Int := 0
  /-- After a reset to CBS_HI the empty-queue rule waits for the next frame (R127). -/
  fresh : Bool := false
  deriving DecidableEq, Repr

/-- A port's state beyond its registers (chapter 4, 6). -/
structure Port where
  line : Option TxLine := .none
  hold : Option TxHold := .none
  /-- `up` at which a loss condition held back inside a quiet gap began (R78). -/
  lossAt : Option Nat := .none
  /-- `up` since which the PCS is locked without fault indication. -/
  lockAt : Option Nat := .none
  /-- `up` at which the running recalibration started (R77, R79). -/
  recalAt : Option Nat := .none
  /-- `up` since which the transmitter has been idle, or last began to be, and `up` at which it last ceased to be (R73, R76). -/
  idleAt : Nat := 0
  busyAt : Nat := 0
  /-- Start (`up`) of the last quiet gap whose end was taken (R76). -/
  gapCounted : Option Nat := .none
  /-- `up` at which a condition of link loss last began (R70). -/
  condAt : Option Nat := .none
  /-- The PHY's last report was a rate mismatch (R68), and a restart of auto-negotiation that waits for the one-second limit is due. -/
  rateBad : Bool := false
  restartDue : Bool := false
  /-- A frame was in reception when LINK_UP last fell, or may have been: it is not yet counted (R83). -/
  cutDue : Bool := false
  /-- The five taps of the DFE, as the octets that PRT_EQ.DFE_TAP shows the first of (R71). -/
  dfe : List Nat := [0, 0, 0, 0, 0]
  /-- `up` at which the pending soft request arose (R76). -/
  softAt : Nat := 0
  /-- PHY_INT_N of the port is low (R86). -/
  phyLow : Bool := false
  /-- Classes whose window saw TX_SETTLED at 0 (R75). -/
  unsettled : Nat := 0
  /-- Octets sent and received in the running millisecond, and in the last one (R81). -/
  txMs : Nat := 0
  rxMs : Nat := 0
  txLast : Nat := 0
  rxLast : Nat := 0
  /-- `up` since which both directions have stayed below IDLE_PCT. -/
  belowAt : Option Nat := .none
  /-- `up` of the last shift (R81), and of the last forced renegotiation (R68, R84). -/
  shiftAt : Option Nat := .none
  renegAt : Option Nat := .none
  /-- The rate auto-negotiation offers while it runs. -/
  renegRate : Nat := 0
  /-- Verification (R121): attempts made, `up` of the last send, whether a verify or a respond mPacket is due. -/
  attempts : Nat := 0
  verifyAt : Option Nat := .none
  verifyDue : Bool := false
  respondDue : Bool := false
  /-- A list runs: a bank change has taken effect since GATE_EN was written 1 (R115). -/
  gating : Bool := false
  /-- Local time of the SWAP write that is pending (R116). -/
  swapAt : Nat := 0
  /-- The gates in force were frozen by a backward step until local time passes this instant (R118). -/
  freezeTill : Option Nat := .none
  /-- Index of the last cycle start counted in GTE_CYCLE_CNT. -/
  cycleSeen : Option Int := .none
  /-- `up` until which a verify or respond mPacket occupies the line (R431). -/
  mpTill : Nat := 0
  /-- Frame count of the next frame of the pre-emptable MAC (R124). -/
  frameCnt : Nat := 0
  /-- `up` until which each staging slot in use is held (R94). -/
  stage : List Nat := []
  deriving DecidableEq, Repr

/-- A frame held by a transmit context before release (R138). -/
structure Held where
  data : List Octet
  desc : Nat
  gen : Nat
  /-- Ready time of R253 in 2^-16 ns, where the sender gives one. -/
  ready : Option Nat := .none
  deriving DecidableEq, Repr

/-- A stream context's state beyond its registers (chapter 7). -/
structure Ctx where
  held : List Held := []
  /-- Tokens in 1/8,000,000 octet, brought up to `up` = `tokAt`. -/
  tokens : Nat := 0
  tokAt : Nat := 0
  /-- TAKE_ANY and REC_SEQ of the three paths of individual recovery (R142). -/
  takeA : Bool := true
  takeB : Bool := true
  takeE : Bool := true
  seqA : Nat := 0
  seqB : Nat := 0
  seqE : Nat := 0
  /-- `up` at which the reset timer last started (R141). -/
  timer : Option Nat := .none
  /-- Start of the latent period, PASSED and DISCARDED at it, and whether a reset fell in it (R143). -/
  latAt : Option Nat := .none
  latP : Nat := 0
  latD : Nat := 0
  latReset : Bool := false
  /-- `up` at which QUARANTINE began, and the reservation word held through it (R148). -/
  quarAt : Nat := 0
  quarResv : Nat := 0
  /-- A hold has ended and FRM_STM_RESV applies again only from the next enable (R148). -/
  released : Bool := false
  deriving DecidableEq, Repr

/-- A copy of a reserved stream's frame that waits for its slot (R253). -/
structure SlotWait where
  ent : QEnt
  port : Nat
  /-- Ready time in 2^-16 ns. -/
  ready : Nat
  /-- Line time of the copy in tenths of 2^-16 ns. -/
  line : Nat
  /-- Start of the slot assigned in 2^-16 ns and its offset and duration in ns; none while no slot serves. -/
  slot : Option (Nat × Nat × Nat) := .none
  deriving DecidableEq, Repr

/-- A flow meter's token counts in 1/8,000,000 octet, brought up to `up` = `at'` (R146). -/
structure Meter where
  c : Nat := 0
  e : Nat := 0
  at' : Nat := 0
  deriving DecidableEq, Repr

/-- A frame of a receive queue (R97, R144). -/
structure RxQEnt where
  desc : Nat
  /-- Charged to this context's reservation, or to the queue (R144). -/
  ctx : Option Nat
  deriving DecidableEq, Repr

/-! ### The ring (chapter 8) -/

/-- A claim accepted or a grant of a beacon (R166, R176). -/
structure Grant where
  release : Bool
  slot : Nat
  node : Nat
  claimId : Nat
  gen : Nat
  deriving DecidableEq, Repr

/-- One port of a ring as the Shroud sees it (R178–R184). -/
structure Side where
  /-- A beacon arrived in the running cycle. -/
  got : Bool := false
  /-- A beacon arrived in the previous cycle. -/
  gotPrev : Bool := false
  /-- Cycle number of the last beacon copy at the port (R167). -/
  seenCyc : Option Nat := .none
  /-- Consecutive cycles missed. -/
  miss : Nat := 0
  /-- Consecutive cycles missed while the other port received. -/
  soloMiss : Nat := 0
  /-- A break detected and not yet wrapped: its notice code, 1 link loss, 2 beacon loss (R178, R182). -/
  broken : Nat := 0
  /-- The port sends the link fault indication (R179), and whether it was beacon loss that began it. -/
  indicating : Bool := false
  indAt : Nat := 0
  /-- A break detected for which the indication has not begun (R179). -/
  indDue : Bool := false
  /-- `up` since which the link has been up without indication (R183). -/
  cleanAt : Option Nat := .none
  /-- The proposal, and what the partner last sent: READY, PROPOSAL, ECHO and the cycle it came in. -/
  proposal : Option Nat := .none
  partnerReady : Bool := false
  partnerProp : Nat := 0
  partnerEcho : Nat := 0
  partnerOkAt : Option Nat := .none
  /-- Node and system address of the neighbour last recorded (LAST_HOP). -/
  neighbour : Nat := 0
  deriving DecidableEq, Repr

/-- A ring's state beyond its registers. -/
structure Ring where
  west : Side := {}
  east : Side := {}
  /-- Number of the running ring cycle, if one has started. -/
  cycle : Option Int := .none
  /-- Cycle numbers acted on, the latest first, 1,024 of them at most (R165). -/
  acted : List Nat := []
  /-- WRAPPED of the last first copy acted on (R166). -/
  beaconWrapped : Bool := false
  /-- Grants to apply at the next cycle start (R177). -/
  grants : List Grant := []
  /-- Claims the master accepted in this cycle, those that this cycle's beacon lists, and those listed and not yet applied, whose slots stay unavailable (R176). -/
  accepted : List Grant := []
  listing : List Grant := []
  listed : List Grant := []
  /-- The cycle whose beacon the master has still to send, at the start of slot 0 (R165). -/
  beaconDue : Option Int := .none
  /-- The backup acts as master; it starts or stops at the next cycle start (R168). -/
  backupOn : Bool := false
  backupStart : Bool := false
  backupStop : Bool := false
  /-- `up` at which the master role was taken and cycles started in it (R169). -/
  roleAt : Nat := 0
  roleCycles : Nat := 0
  /-- The pending claim: the cycle in whose first claim window it is to be sent, and the cycle of the last send (R175). -/
  sendIn : Option Int := .none
  sentCycle : Int := 0
  /-- Notices admitted in this cycle, whether they were policed, whether the incident bit has been set (R108, R109). -/
  notices : Nat := 0
  flooded : Bool := false
  incidentSet : Bool := false
  deriving DecidableEq, Repr

/-! ### Time, power and start-up (chapters 2 and 17) -/

/-- The Halyards and the servo beyond the TIM registers. Accumulators in 2^-40 ns (R27). -/
structure Tim where
  /-- The Halyards count (from start-up step 5 on). -/
  counting : Bool := false
  accA : Nat := 0
  accB : Nat := 0
  /-- A rejected standby that may not yet be failed over to: loaded at the next comparison, then counts good comparisons (R37). -/
  rejected : Bool := false
  loadDue : Bool := false
  good : Nat := 0
  /-- Distributed time minus active Halyard, still to be removed (R36). -/
  hand : Int := 0
  /-- Sum of all steps, so that local time less it is stepless (R346). -/
  steps : Int := 0
  /-- Identity of the selected grandmaster, 0 before one is known. -/
  gm : Nat := 0
  /-- Sync messages received in a row in ACQUIRING (R29). -/
  syncs : Nat := 0
  /-- Receive stamp of the last accepted Sync in stepless local time of 2^-40 ns, and its sync interval exponent (R34). -/
  syncAt : Option Int := .none
  syncLog : Int := 0
  /-- Offset measured at the last Sync (or left after a step since), and what RATE has applied since, in 2^-40 ns (R30). -/
  theta : Int := 0
  applied : Int := 0
  /-- Network time at the last accepted Sync, corrected, in 2^-40 ns (R35). -/
  est : Int := 0
  /-- Integral term in 2^-64 ns per s (R428). -/
  integ : Int := 0
  /-- RATE of the last time in LOCKED (R34). -/
  lockedRate : Int := 0
  /-- A SET episode waits for its load at the next tick; the episode takes no step from the network (R29). -/
  setDue : Bool := false
  setEpisode : Bool := false
  /-- Where the servo last took time from: 0 ring A, 1 ring B, 2 the edge ports (R41). -/
  ring : Option Nat := .none
  /-- The slave ports of ring A, ring B and the edge ports, key 0 to 2; stored plus 1 so that 0 is "none". -/
  slaves : Tab Nat := []
  /-- Mean link delay of each port in 2^-16 ns where one is valid, key = port; stored plus 1 so that 0 is "none". -/
  delay : Tab Nat := []
  /-- Ports in a PTP master role (bit p), and the `up` of each port's last message per kind (key 8 × kind + p), plus 1. -/
  masters : Nat := 0
  sentAt : Tab Nat := []
  /-- What the ports keep for PTP messages to come: key 8 × k + p stamps plus 1: k 1 egress of an own Sync, 2 receipt of a delay request, 3 egress of a delay response; from key 1,000 on, the corrections of passed-on two-step Syncs in 2^-16 ns plus 1, by the key of the Sync. -/
  followUp : Tab Nat := []
  deriving DecidableEq, Repr

/-- What the power sequencer is doing (R372, R377). -/
inductive PowerPhase
  /-- In reset, or before the start of R368. -/
  | off
  /-- Running start-up; the step in progress is GLB_BOOT.STEP. -/
  | starting
  | run
  /-- Entering Doze (1), Hold (2) or Deep Hold (3). -/
  | entering (target : Nat)
  | doze | hold | deepHold
  /-- Waking from Doze (1), Hold (2) or Deep Hold (3). -/
  | waking (source : Nat)
  /-- A start-up step failed. -/
  | stopped
  deriving DecidableEq, Repr

/-- The power sequencer beyond its registers. -/
structure Pwr where
  phase : PowerPhase := .off
  /-- Domains in retention (bit d) (R372). -/
  retained : Nat := 0
  /-- Domains being switched on (bit d), and those whose registers a return from retention keeps. -/
  switching : Nat := 0
  /-- `up` of the start of the start-up sequence. -/
  startAt : Nat := 0
  /-- Consecutive slack readings of at least TARGET + 20 ps (R370), and of at least TARGET. -/
  goodReads : Nat := 0
  targetReads : Nat := 0
  /-- A wake event met the entry to a standby state (R380). -/
  wakeDue : Bool := false
  /-- A block became GRAVE during entry to Deep Hold (R380). -/
  graveInEntry : Bool := false
  /-- The run being started is a Hold wake (R374). -/
  fromHold : Bool := false
  /-- The master key of the fuses as loaded at step 4, none while blank (R293). -/
  masterKey : Option (BitVec 128) := .none
  /-- `up` of the last reading of the voltage loop (R370). -/
  avsAt : Option Nat := .none
  /-- PERST_N and the PCI Express link: the host port is held in reset. -/
  perst : Bool := false
  deriving DecidableEq, Repr

/-! ### Placement (chapter 11) -/

/-- The Rigger beyond its registers. -/
structure Plc where
  /-- The bank being evacuated and the cause, and those whose evacuation waits (R252). -/
  evac : Option (Nat × Nat) := .none
  evacWait : List (Nat × Nat) := []
  /-- Banks out of service for a fault: they return only after the march test (R252). -/
  faulty : Nat := 0
  /-- Banks that return to service when their domain is on (bit k), with the cause of the return in `returnCause`. -/
  returning : Nat := 0
  returnCause : Nat := 0
  /-- Groups that reached TEMP_HI and have not fallen below TEMP_LO since (R247). -/
  hot : Nat := 0
  /-- `up` of the last planned move (R246). -/
  moveAt : Option Nat := .none
  /-- Pairs of the Lathe that are out of service and whose group is powered down (R190). -/
  removed : List Nat := []
  /-- `up` before which the Rigger has not read the placement back after a parity error in its state. -/
  readTill : Nat := 0
  /-- Capture buffers placed: channel, CAP_LOG, DRAM address (R256). -/
  caps : List (Nat × Nat × Nat) := []
  deriving DecidableEq, Repr

/-! ### Angle domains (chapter 3) -/

/-- An angle domain beyond its registers. Angles are whole numbers of 2^-24 cycle, not wrapped; times are stepless local times in 2^-40 ns (R50). -/
structure AngDom where
  /-- The internal angle was `base` at `at'` and grows `rateN / rateD` per 2^-40 ns (R51, R63). -/
  base : Int := 0
  at' : Int := 0
  rateN : Int := 0
  rateD : Nat := 1
  /-- The published angle at the last event. -/
  pub : Int := 0
  /-- Cycle of the last position 0, and the cycle of the last boundary taken (R48, R52). -/
  cyc : Int := 0
  bcyc : Int := 0
  /-- The domain has been VALID since reset (R54). -/
  ever : Bool := false
  /-- Phase offset in force (R57). -/
  ofs : Nat := 0
  /-- Stamp of the last accepted edge. -/
  edgeAt : Option Int := .none
  /-- The last interval per position and the one before it, as numerator and denominator (R50). -/
  t1 : Option (Nat × Nat) := .none
  t0 : Option (Nat × Nat) := .none
  /-- The prediction T̂. -/
  th : Nat × Nat := (0, 1)
  /-- The last whole interval, for the gap test (R49). -/
  lastIv : Option Nat := .none
  /-- Positions since the first marker of the search, and whether an index edge is pending (R49). -/
  nSince : Option Nat := .none
  index : Bool := false
  /-- Crossings accepted in SEARCH of a mains domain (R56). -/
  crossings : Nat := 0
  /-- Missing teeth declared since the last edge; the previous edge in COASTING was accepted (R53). -/
  declared : Nat := 0
  good : Bool := false
  /-- Cycle of the last pattern error and consecutive cycles with one (R49). -/
  errCyc : Option Int := .none
  errRun : Nat := 0
  /-- Runs of large and small prediction errors (R50). -/
  hiRun : Nat := 0
  loRun : Nat := 0
  /-- A phase flip waits for the synchronisation; the position counted on since the domain was last tracked (R57). -/
  flip : Bool := false
  shadow : Option Nat := .none
  /-- High-water angle and sense of the last edge in REVERSE (R55). -/
  high : Int := 0
  backward : Bool := false
  /-- The last mark fired, as unwrapped angle and index plus 1 (R59). -/
  markAt : Int := 0
  markIx : Nat := 0
  /-- Records waiting for publication as (ANGLE, TIME stamp), edges since the last record, SEQ (R61). -/
  recs : List (Nat × Nat) := []
  pubDiv : Nat := 0
  pubSeq : Nat := 0
  /-- Last record applied to a remote domain as (ANGLE, stepless time), records seen in SEARCH, `up` of the last payload, the last payload interval (R63). -/
  lastRec : Option (Nat × Int) := .none
  recN : Nat := 0
  payAt : Option Nat := .none
  payIvl : Nat := 0
  /-- `up` at which SEARCH last began, and of the last angle-cycle boundary (R52, R63). -/
  searchAt : Nat := 0
  boundAt : Option Nat := .none
  /-- `up` at which the domain last became INVALID, and of the last RESYNC or PHASE_FLIP (R65). -/
  invAt : Option Nat := .none
  cmdAt : Option Nat := .none
  deriving DecidableEq, Repr

/-! ### Cells, Chuck and Scribe (chapters 9 and 10) -/

/-- When a command word or an edge is due (R236, R238): at once, at a local time in 2^-16 ns, or at an ANGLE of a domain. -/
inductive Target
  | atOnce
  | time (t : Nat)
  | angle (dom : Nat) (a : Nat)
  deriving DecidableEq, Repr

/-- A queued input event of a cell (R209): `value` is Q15.16, `at'` the local time of its arrival in 2^-16 ns, `ref` the context and generation of a delivery (R149). -/
structure CelEvt where
  input : Nat
  src : Nat
  value : Int
  at' : Nat := 0
  ref : Option (Nat × Nat) := .none
  deriving DecidableEq, Repr

/-- A pending output of an activation (R203, R204); `none` as target: its domain was not valid at the start. -/
structure CelOut where
  out : Nat
  value : Int
  target : Option Target
  deriving DecidableEq, Repr

/-- An activation that runs, with the result both engines compute from its checkpoint (R208, R212). -/
structure CelRun where
  /-- Start in 2^-16 ns of local time, and in `up`. -/
  startAt : Nat
  startUp : Nat
  bank : Nat
  event : Option CelEvt
  steps : Nat
  outs : List CelOut
  /-- State words and SM after the activation. -/
  words : List Int
  sm : Nat
  /-- `up` before which the comparison has not ended. -/
  doneUp : Nat
  /-- The spare pair of a re-execution (R213). -/
  spare : Option Nat := .none
  deriving DecidableEq, Repr

/-- A logical cell beyond its registers. -/
structure Cell where
  /-- The waiting request; true when only angle requested it (R207). -/
  req : Option Bool := .none
  run : Option CelRun := .none
  queue : List CelEvt := []
  /-- Local time of the last time trigger taken, in 2^-16 ns. -/
  trigAt : Nat := 0
  /-- Stepless local time of the previous activation's start, since the enable or restart (R197 SRC 5), and its `up` (R208). -/
  prevAt : Option Int := .none
  prevUp : Option Nat := .none
  /-- `up` of its last release (R249). -/
  relUp : Option Nat := .none
  /-- An angle-cycle boundary has passed since the SWAP write (R217). -/
  boundary : Bool := false
  /-- It is SAFE: its domain was not valid under policy 2 (R216). -/
  safe : Bool := false
  /-- A RESTART or a cleared EN waits for the release (R218). -/
  restartDue : Bool := false
  offDue : Bool := false
  /-- `up` until which a planned move or a frequency change holds activations back. -/
  holdTill : Nat := 0
  deriving DecidableEq, Repr

/-- An output of a Chuck channel with its stamps (R230): value, time stamp of 96 bits, angle stamp of 64 bits. -/
structure ChRec where
  value : Int
  stamp : Nat
  angle : Nat
  deriving DecidableEq, Repr

/-- A Chuck channel beyond its registers. -/
structure Chan where
  /-- `up` of the core clock in which its waiting read became due (R224). -/
  due : Option Nat := .none
  /-- Local time of the last time trigger, angle of the last step target (not wrapped), and whether an absolute trigger is armed. -/
  trigAt : Nat := 0
  stepAt : Int := 0
  armed : Bool := false
  /-- The step trigger restarts at the next angle-cycle boundary (R58). -/
  restart : Bool := false
  /-- Raw words since the enable, and the newest inputs of the CIC stage in 2^-23, newest first (R228). -/
  rawN : Nat := 0
  raws : List Int := []
  /-- The newest CIC values in 2^-43, newest first (R229). -/
  cics : List Int := []
  /-- Floors in 2^-32 (R231). -/
  floorA : Int := 0
  floorB : Int := 0
  lastRaw : Option Nat := .none
  flatN : Nat := 0
  /-- FLAT has set since the previous output (R233). -/
  flatNew : Bool := false
  /-- Records collected for the stream payload, oldest first, and the payload number (R234). -/
  recs : List ChRec := []
  seq : Nat := 0
  /-- Capture writes under way as (record number), oldest first, and the next record number (R235). -/
  capQ : List Nat := []
  capN : Nat := 0
  deriving DecidableEq, Repr

/-- An entry of a port's command queue (R236). -/
structure CmdEnt where
  cs : Nat
  w32 : Bool
  word : Nat
  target : Target
  deriving DecidableEq, Repr

/-- What a Chuck port is doing (R223). -/
inductive Txn
  /-- A read of a chip select: channels served (within the port) with their angle stamps, and the time stamp of R225. -/
  | read (cs : Nat) (chans : List (Nat × Nat)) (stamp : Nat)
  | command (cs : Nat) (w32 : Bool) (word : Nat)
  deriving DecidableEq, Repr

/-- A Chuck port beyond its registers. -/
structure ChkPort where
  txn : Option Txn := .none
  /-- `up` at which the last bit of the running transaction has been clocked, and at which the transaction and its CS_N high time end (R223). -/
  bitsUp : Nat := 0
  endUp : Nat := 0
  cmds : List CmdEnt := []
  /-- Channels whose read follows a command (R226, TRIG 5). -/
  follow : List Nat := []
  /-- Domains whose entries SAFE discarded; the port is SAFE while this is not empty (R237). -/
  safeDoms : List Nat := []
  deriving DecidableEq, Repr

/-- An edge of a Scribe pin (R238). -/
structure Edge where
  level : Bool
  target : Target
  deriving DecidableEq, Repr

/-- A Scribe pin beyond its registers. -/
structure Pin where
  queue : List Edge := []
  /-- It is in SAFE because of this domain (R239). -/
  safeDom : Option Nat := .none
  /-- `up` of the previous edge. -/
  edgeUp : Option Nat := .none
  /-- An edge has been executed since SAFE_LVL was last taken: the pin is driven to LEVEL. -/
  driven : Bool := false
  /-- Read-back level of the pad. -/
  pad : Bool := false
  deriving DecidableEq, Repr

/-! ### Dictionary and clients (chapters 12 and 13) -/

/-- A staged or admitted value (R269). -/
structure Stg where
  index : Nat
  sub : Nat
  value : List Octet
  deriving DecidableEq, Repr

/-- A request of the dictionary engine: source 0–7 port, 8 PCI Express mailbox, 9 SPI mailbox, 10 configuration image. -/
structure DctReq where
  src : Nat
  /-- Odeivo header and DATA, from the first octet of the header. -/
  data : List Octet
  /-- Source address, outermost VLAN tag and EtherType of the frame it came in (R280). -/
  sa : Nat := 0
  tag : Option Nat := .none
  etype : Nat := 0
  /-- `up` at which it arrived. -/
  at' : Nat := 0
  deriving DecidableEq, Repr

/-- A remembered request (R279): source address, TID, status and DATA of its reply, `up` of its arrival. -/
structure Dup where
  sa : Nat
  tid : Nat
  status : Nat
  data : List Octet
  at' : Nat
  deriving DecidableEq, Repr

/-- The client whose critical command waits for the admission check: reply prefix and key (R292). -/
structure CritCtx where
  client : Nat
  counter : Nat
  key : BitVec 128
  deriving DecidableEq, Repr

/-- The dictionary engine beyond its registers. -/
structure Dct where
  staged : List Stg := []
  waiting : List Stg := []
  lost : List (Nat × Nat) := []
  queue : List DctReq := []
  /-- The COMMIT whose admission check runs. -/
  check : Option (DctReq × Option CritCtx) := .none
  dups : List Dup := []
  /-- The configuration image being applied: records left, and whether the last one was a COMMIT. -/
  image : List (List Octet) := []
  /-- While admitted values wait: the domains (bit d) that their commits have called on, and those that the last one leaves unused (R17, R18). -/
  calls : Nat := 0
  unused : Nat := 0
  /-- Index and subindex of values that wait for the domains (bit d) that their commit has called on (R18). -/
  holds : List (Nat × Nat × Nat) := []
  deriving DecidableEq, Repr

/-! ### Tackle, memory and test (chapters 14, 15 and 18) -/

/-- A DMA job beyond its registers. -/
structure Job where
  /-- Bytes of the transfer, and how many have been issued in bursts. -/
  total : Nat := 0
  issued : Nat := 0
  /-- The descriptor of the frame whose record is being written: it leaves the source when its last byte has landed (R317). -/
  frame : Option Nat := .none
  /-- Octets of a record read for a frame destination, as (number within the transfer, octet) (R318). -/
  buf : List (Nat × Octet) := []
  /-- A record for a frame destination is being read. -/
  gather : Bool := false
  /-- The source ran empty: the transfer ends without the rest (R317). -/
  short : Bool := false
  /-- STOP was written, or the job's JOB_EN bit cleared, with bursts still under way (R311, R313). -/
  stopping : Bool := false
  removing : Bool := false
  deriving DecidableEq, Repr

/-- What an access to DRAM belongs to. -/
inductive AccFor
  | capture (n : Nat)
  | job (j : Nat)
  deriving DecidableEq, Repr

/-- An access of one 64-byte block at a channel (R336): port, block number (DRAM address / 64), octets to write as (address, octet), octets to read as (address, number within the transfer). -/
structure Acc where
  port : Nat
  block : Nat
  writes : List (Nat × Octet) := []
  reads : List (Nat × Nat) := []
  owner : AccFor
  /-- The burst it belongs to, by DMA_BURST_CNT. -/
  burst : Nat := 0
  /-- What a granted read has found. -/
  data : List (Nat × Octet) := []
  deriving DecidableEq, Repr

/-- A memory channel beyond its registers. -/
structure Chn where
  waits : List Acc := []
  flight : List Acc := []
  /-- Port granted last, for the round-robin. -/
  last : Nat := 4
  /-- Postponement counts of the eight banks, bank due next and `up` of the next due refresh (R333, R334). -/
  postponed : List Nat := [0, 0, 0, 0, 0, 0, 0, 0]
  nextBank : Nat := 0
  refAt : Nat := 0
  /-- `up` until which refresh keeps each bank from accesses. -/
  bankTill : List Nat := [0, 0, 0, 0, 0, 0, 0, 0]
  /-- A change of M waits for the next due refresh (R332). -/
  multNext : Option Nat := .none
  mr4At : Nat := 0
  /-- Retrainings in a row whose drift was beyond the delay lines, and `up` until which one keeps the channel (R331). -/
  driftBad : Nat := 0
  retrainTill : Nat := 0
  /-- `up` since which a real-time port has waited without an access (R335). -/
  stallFrom : Option Nat := .none
  /-- `up` until which an all-bank refresh keeps the channel from accesses. -/
  busyTill : Nat := 0
  /-- `up` at which the running catch-ups of the channel end (R334). -/
  catchTill : Nat := 0
  deriving DecidableEq, Repr

/-- The Burnisher beyond its registers (chapter 18). -/
structure Ist where
  /-- Units of the sweep not yet run, as (test, unit), and how many the sweep had. -/
  left : List (Nat × Nat) := []
  total : Nat := 0
  /-- A sweep is in progress (its end sets SWEEP_DONE), and the unit under test. -/
  sweeping : Bool := false
  running : Option (Nat × Nat) := .none
  /-- `up` at which the running unit's test started. -/
  startUp : Nat := 0
  /-- `up` at which the next sweep falls due. -/
  dueAt : Option Nat := .none
  /-- Units left of a power-cycle, and whether the domain is off, on again, or under test (R388). -/
  cycle : List (Nat × Nat) := []
  cyclePhase : Nat := 0
  offAt : Nat := 0
  /-- The domain under a power-cycle. -/
  cycleDom : Nat := 0
  /-- The ring of the last eye scan of a ring port, and the starts of both rings' cycles in which it ran (R386). -/
  scanned : Option (Nat × List Nat) := .none
  /-- Banks whose evacuation a test asked for (bit k), and banks held off before their test. -/
  asked : Nat := 0
  heldOff : Nat := 0
  deriving DecidableEq, Repr

/-- The FAULT_N monitor beyond STA_FLINE (R356–R358). -/
structure FLine where
  /-- `up` since which the filtered level has been low or high. -/
  since : Nat := 0
  deriving DecidableEq, Repr

/-! ### The block -/

/-- The state of the device: every register word (`regs`) and everything the spec gives it beyond its registers. -/
structure Dev where
  /-- Every register word that differs from its reset word, by BAR0 address or by the key of the store behind a selector. -/
  regs : Tab Word := []
  /-- Ticks of 1 ns of the timebase since power-on; never stepped. Every timer of the device runs on it. -/
  up : Nat := 0
  /-- How many free values have been drawn (the MODEL's own field, log entry 6). -/
  freeCount : Nat := 0
  /-- LAST_TS of each block, as 96-bit stamps (R21). -/
  lastTs : Tab Nat := []
  /-- Interrupts asserted and where they went: key 2b block, 2b + 1 fault (R23). -/
  irq : Tab IrqDest := []
  /-- MSI-X pending bits (R304). -/
  msixPend : Nat := 0
  /-- What left the device during the last command. -/
  out : List Output := []
  /-- Fault sources, key 32 × block + source. -/
  flt : Tab FltSrc := []
  log : LogUnit := {}
  trc : TraceUnit := {}
  tim : Tim := {}
  pwr : Pwr := {}
  /-- Descriptors in use, by number. -/
  frames : Tab Frame := []
  /-- Next bank of each owner's round-robin, key as `Owner.key` (R101). -/
  bankNext : Tab Nat := []
  /-- Retired granules (R106). -/
  retired : List Nat := []
  /-- The Locker's octets (R303). -/
  locker : Memory := []
  /-- Class queues, key 8 × port + class, oldest first. -/
  classQ : Tab (List QEnt) := []
  ports : Tab Port := []
  credits : Tab Credit := []
  ctxs : Tab Ctx := []
  meters : Tab Meter := []
  /-- `up` of a SWAP of the receive rules that has not taken effect yet (R98). -/
  ruleSwapAt : Option Nat := .none
  /-- Receive queues 0–127, oldest first. -/
  rxQ : Tab (List RxQEnt) := []
  /-- Copies that wait for their slots, key 0 ring A, 1 ring B, in order of assignment (R253). -/
  slotWait : Tab (List SlotWait) := []
  /-- The ring's state, key 0 ring A, 1 ring B. -/
  rings : Tab Ring := []
  /-- Management commands on MDIO in order of issue: port, word, own access (R85). -/
  mdio : List (Nat × Nat × Bool) := []
  plc : Plc := {}
  /-- Angle domains 0 to 7. -/
  angs : Tab AngDom := []
  cells : Tab Cell := []
  /-- Field buffers of the cells, by event source number 0–639 (R210). -/
  fieldBufs : Tab (List Octet) := []
  chans : Tab Chan := []
  chks : Tab ChkPort := []
  pins : Tab Pin := []
  dct : Dct := {}
  /-- Client keys, and key slots with a parity error (R284, R290). -/
  keys : Tab (BitVec 128) := []
  keyBad : List Nat := []
  jobs : Tab Job := []
  /-- Channel granted last in each Tackle unit. -/
  rrA : Nat := 31
  rrB : Nat := 31
  chns : Tab Chn := []
  /-- Channel retrained last (R331). -/
  retrainTurn : Nat := 1
  /-- `up` of the last retraining. -/
  retrainAt : Nat := 0
  ist : Ist := {}
  fline : FLine := {}
  /-- The JTAG instruction register; IDCODE after power-on (R399, log entry 26). -/
  jtag : BitVec 4 := 2
  /-- Captured words per requester, key 2^26 × requester + address (R400). -/
  captured : Tab Word := []
  /-- Words that have shown a parity error and have not been rewritten since (R59, R130, R189, R243). -/
  badWords : List Nat := []
  /-- Selector words of the SPI slave and the dictionary engine, same keys; those of PCI Express are in `regs`. -/
  sels : Tab Word := []
  deriving DecidableEq, Repr

/-- Why the block would stop: no meaning of this model ends in a fault (safe: there is nothing to reach). -/
inductive Fault
  /-- Kept for the interface; raised by no meaning. Safe. -/
  | unused
  deriving DecidableEq, Repr

/-- Why a command has no meaning. -/
inductive Refusal
  /-- Raised by an arm of `exec` whose command is not modelled yet. Safe: nothing can be proved of that command. -/
  | notModelled (mnemonic : String)
  deriving DecidableEq, Repr

/-- The whole state: the device, the memories it reaches, and the commands that wait, first in, first out. -/
structure State where
  dev : Dev := {}
  /-- The DRAM of both channels, by usable-memory address (R326). -/
  dram : Memory := []
  /-- Host memory as the device reads and writes it (R314). -/
  host : Memory := []
  pending : List Instr := []
  deriving DecidableEq, Repr

/-- Right after reset (RESET_N deasserted, start-up not begun): every register at its reset value, every store empty, no command waiting. -/
def State.reset : State := {}

end Sys2Proof.Machine
end

