-- ==== Sys2Proof/Machine/Ops.lean ====
section
/-! DEFINITION. The named operations every meaning is built from: register words and fields, power domains, local time, fault events, the event log, trace records and interrupts. -/

namespace Sys2Proof.Machine

/-! ### Blocks (R10, R20, R405) -/

/-- Window base of block `b` (R405). -/
def blockBase (b : Nat) : Nat :=
  if b < 16 then 0x10000 * b
  else if b = 16 then 0x100000
  else if b = 17 then 0x200000
  else if b = 18 then 0x27C000
  else 0x280000 + 0x10000 * (b - 19)

/-- Header domain of block `b` (R10). -/
def headerDomain (b : Nat) : Nat :=
  [0, 0, 3, 68, 5, 6, 7, 8, 9, 10, 11, 12, 18, 17, 17, 17, 43, 60, 79, 77, 74, 73, 69, 70, 75, 75, 76, 75].getD b 0

/-- _STATUS of block `b`: stored bits (R20). -/
def statusAddr (b : Nat) : Nat := blockBase b + 8
/-- FLT_STICKY of block `b`. -/
def stickyAddr (b : Nat) : Nat := blockBase b + 0x20
/-- A bit of _STATUS of block `b`. -/
def statusBit (b n : Nat) : Fld := ⟨statusAddr b, n, 1⟩
/-- A bit of _CTL of block `b`. -/
def ctlBit (b n : Nat) : Fld := ⟨blockBase b + 4, n, 1⟩
/-- A bit of FLT_STICKY of block `b`. -/
def stickyBit (b n : Nat) : Fld := ⟨stickyAddr b, n, 1⟩
/-- FLT_CFG of source `n` of block `b`, as it lies behind FLT_CFG_SEL. -/
def fltCfgAddr (b n : Nat) : Nat := 0x1260000 + 0x80 * b + 4 * n

/-- Block numbers by name (R10). -/
abbrev bGLB := 0
abbrev bPWR := 1
abbrev bTIM := 2
abbrev bANG := 3
abbrev bPRT (p : Nat) := 4 + p
abbrev bFRM := 12
abbrev bGTE := 13
abbrev bSTM := 14
abbrev bSHD := 15
abbrev bCEL := 16
abbrev bSMP := 17
abbrev bSCR := 18
abbrev bPLC := 19
abbrev bDCT := 20
abbrev bAUT := 21
abbrev bDMA (u : Nat) := 22 + u
abbrev bMEM := 24
abbrev bSTA := 25
abbrev bTRC := 26
abbrev bIST := 27

/-- The grave threshold of a source (R349, R350). -/
def graveN (b n : Nat) : Nat :=
  if (b = bTIM ∧ n = 2) ∨ (b = bCEL ∧ n = 1) ∨ (b = bAUT ∧ n < 2) then 1 else 0

/-- How many fault sources block `b` has (R349). -/
def sourceCount (b : Nat) : Nat :=
  [2, 5, 6, 17, 4, 4, 4, 4, 4, 4, 4, 4, 4, 3, 3, 7, 6, 3, 2, 2, 2, 4, 2, 2, 5, 5, 2, 2].getD b 0

/-! ### Register words and fields -/

/-- The reset word of key `k`: the common header (R20), the MSI-X table, or the register tables. -/
def resetWord (k : Nat) : Word :=
  let hdr (b : Nat) (o : Nat) : Option Nat :=
    if o = 0 then some (if b = 0 then 0x51204110 else b * 0x1000000 + (if 4 ≤ b ∧ b ≤ 11 then (b - 4) * 0x10000 else if b = 23 then 0x10000 else 0) + 0x100)
    else if o = 4 ∧ b = 2 then some 1
    else if o = 0xC then some 0x10000
    else if o = 0x10 then some (2 * b + (2 * b + 1) * 0x10000)
    else none
  let viaRow : Nat := match rowOf k with
    | some r => r.resetAt k
    | none => 0
  let blockOf : Option Nat :=
    if k < 0x100000 then some (k / 0x10000)
    else if k < 0x100100 then some 16
    else if 0x200000 ≤ k ∧ k < 0x200100 then some 17
    else if 0x27C000 ≤ k ∧ k < 0x27C100 then some 18
    else if 0x280000 ≤ k ∧ k < 0x310000 then some (19 + (k - 0x280000) / 0x10000)
    else none
  if 0x1260000 ≤ k ∧ k < 0x1261000 then
    let b := (k - 0x1260000) / 0x80
    let n := (k - 0x1260000) % 0x80 / 4
    BitVec.ofNat 32 (graveN b n * 0x1000000 + 1000 * 0x100 + 3)
  else if 0x400000 ≤ k ∧ k < 0x400800 then (if k % 16 = 12 then 1 else 0)
  else match blockOf with
    | some b => match hdr b (k - blockBase b) with
      | some w => BitVec.ofNat 32 w
      | none => BitVec.ofNat 32 viaRow
    | none => BitVec.ofNat 32 viaRow

/-- The word `x` with the `w` bits from bit `lo` replaced by `v` modulo 2^w. -/
def fieldSet (x lo w v : Nat) : Nat := x / 2 ^ (lo + w) * 2 ^ (lo + w) + v % 2 ^ w * 2 ^ lo + x % 2 ^ lo

namespace Dev

/-- The stored word at key `k`. -/
def word (s : Dev) (k : Nat) : Word := Tab.get resetWord s.regs k

/-- Store a word. -/
def setWord (s : Dev) (k : Nat) (w : Word) : Dev := { s with regs := Tab.set resetWord s.regs k w }

/-- The word at key `k` has shown a parity error and has not been rewritten since. -/
def badWord (s : Dev) (k : Nat) : Bool := s.badWords.contains k

/-- The word at key `k` is rewritten. -/
def mendWord (s : Dev) (k : Nat) : Dev := { s with badWords := s.badWords.filter (· != k) }

/-- The word at key `k` shows a parity error. -/
def spoilWord (s : Dev) (k : Nat) : Dev := { s with badWords := k :: (s.mendWord k).badWords }

/-- The value of a field. -/
def get (s : Dev) (f : Fld) : Nat := (s.word f.addr).toNat / 2 ^ f.lo % 2 ^ f.w

/-- A one-bit field as a truth value. -/
def bit (s : Dev) (f : Fld) : Bool := s.get f == 1

/-- Store `v` modulo 2^w in a field, the word's other bits kept. -/
def put (s : Dev) (f : Fld) (v : Nat) : Dev :=
  s.setWord f.addr (BitVec.ofNat 32 (fieldSet (s.word f.addr).toNat f.lo f.w v))

/-- Set a one-bit field. -/
def putBit (s : Dev) (f : Fld) (b : Bool) : Dev := s.put f (if b then 1 else 0)

/-- Set status bit `n` of block `b` to 1. -/
def raise (s : Dev) (b n : Nat) : Dev := s.put (statusBit b n) 1

/-- Increment a counter field, wrapping (R90, R150 and the "Wraps to 0" of the tables). -/
def inc (s : Dev) (f : Fld) : Dev := s.put f (s.get f + 1)

/-- Add `n` to a counter field, wrapping. -/
def incBy (s : Dev) (f : Fld) (n : Nat) : Dev := s.put f (s.get f + n)

/-- Apply `f` when `c` holds. -/
def when (s : Dev) (c : Bool) (f : Dev → Dev) : Dev := if c then f s else s

/-- Record what leaves the device. -/
def emit (s : Dev) (o : Output) : Dev := { s with out := s.out ++ [o] }

/-! ### Power domains (R17, R18) -/

/-- Whether power domain `d` is on, as PWR_DOM_ON shows it. -/
def domOn (s : Dev) (d : Nat) : Bool := (s.get (Reg.PWR_DOM_ON.DOM (d / 32))).testBit (d % 32)

/-- Whether block `b` answers: its header domain is on (R18). -/
def blockOn (s : Dev) (b : Nat) : Bool := s.domOn (headerDomain b)

/-- Set or clear the PWR_DOM_ON bit of a domain. -/
def setDom (s : Dev) (d : Nat) (on : Bool) : Dev :=
  s.put ⟨Reg.PWR_DOM_ON (d / 32), d % 32, 1⟩ (if on then 1 else 0)

/-- A command that a write to block `b`'s window issues has its effect only while the block is on (R18). -/
def atBlock (s : Dev) (b : Nat) (f : Dev → Dev) : Dev := s.when (s.blockOn b) f

/-! ### Local time (R24–R27, R38) -/

/-- Distributed time in 2^-40 ns: the active Halyard plus what is left of a handover (R35, R36). -/
def dist40 (s : Dev) : Nat :=
  ((if s.bit (statusBit bTIM 3) then s.tim.accB else s.tim.accA : Nat) + s.tim.hand).toNat

/-- Local time of every block in 2^-16 ns since time 0; a local copy equals distributed time (R38, log entry 10). -/
def now (s : Dev) : Nat := s.dist40 / 2 ^ 24

/-- Local time in whole ns. -/
def nowNs (s : Dev) : Nat := s.now / 65536

/-- Local time in 2^-40 ns with every step removed (R346). -/
def stepless (s : Dev) : Int := (s.dist40 : Int) - s.tim.steps

/-- The same in 2^-16 ns. -/
def smooth (s : Dev) : Int := s.stepless / 2 ^ 24

end Dev

/-- The 96-bit native stamp of a time in 2^-16 ns (R24). -/
def stampOf (t : Nat) : Nat :=
  t / 65536 / 1000000000 * 2 ^ 48 + t / 65536 % 1000000000 * 65536 + t % 65536

/-- The time in 2^-16 ns of a native stamp (R24). -/
def ofStamp (x : Nat) : Nat :=
  (x / 2 ^ 48 * 1000000000 + x / 65536 % 2 ^ 32) * 65536 + x % 65536

/-- The forerunner stamp of a time in 2^-16 ns (R25). -/
def forerunner (t : Nat) : Nat := t / 65536 % 2 ^ 32

/-- The expansion of a forerunner stamp `c` against local time `t` in 2^-16 ns; none when it lies more than 1 s before `t` (R26). -/
def expandForerunner (t c : Nat) : Option Nat :=
  let e : Int := (t : Int) + sdiff c (forerunner t) 32 * 65536
  if e + 1000000000 * 65536 < (t : Int) then none else some e.toNat

namespace Dev

/-- A 96-bit value held in the three words at keys `lo`, `lo + 4`, `lo + 8`. -/
def stamp3 (s : Dev) (lo : Nat) : Nat :=
  (s.word lo).toNat + (s.word (lo + 4)).toNat * 2 ^ 32 + (s.word (lo + 8)).toNat * 2 ^ 64

/-- Store a 96-bit value in the three words at `lo`. -/
def setStamp3 (s : Dev) (lo : Nat) (x : Nat) : Dev :=
  ((s.setWord lo (BitVec.ofNat 32 x)).setWord (lo + 4) (BitVec.ofNat 32 (x / 2 ^ 32))).setWord (lo + 8) (BitVec.ofNat 32 (x / 2 ^ 64))

/-! ### Status words -/

/-- The contexts with a HALF bit set, rising (R150). -/
def stmHalf (s : Dev) : List Nat :=
  (s.regs.filter fun e => Nat.ble 0xE8000 e.1 && Nat.blt e.1 0xF0000 && (e.1 - 0xE8000) % 64 == 0x30 && e.2.toNat % 4096 != 0).map fun e => (e.1 - 0xE8000) / 64

/-- Bits of _STATUS [15:0] of block `b` that the device derives rather than stores. -/
def derivedStatus (s : Dev) (b : Nat) : Nat :=
  if b = bTIM then
    let st := s.get Reg.TIM_SERVO.STATE
    (if st = 2 then 1 else 0) + (if st = 3 then 2 else 0) + (if st = 4 then 4 else 0)
  else if 4 ≤ b ∧ b ≤ 11 then
    let p := b - 4
    if s.word (Reg.PRT_HALF_RX p) = 0 ∧ s.word (Reg.PRT_HALF_TX p) = 0 then 0 else 0x100
  else if b = bCEL then
    if s.get Reg.CEL_SPARES.SPARE_NOW < 4 then 2 else 0
  else if b = bSTM then
    if s.stmHalf = [] then 0 else 4
  else if b = 22 ∨ b = 23 then
    (if s.word (Reg.DMA_DONE_LO (b - 22)) = 0 ∧ s.word (Reg.DMA_DONE_HI (b - 22)) = 0 then 0 else 1)
      + (if s.get (Reg.DMA_UNIT_CTL.STOPPED (b - 22)) = 1 then 2 else 0)
  else if b = bSTA then
    if s.word Reg.STA_GRAVE = 0 then 0 else 16
  else if b = bTRC then
    let p := s.get Reg.TRC_OUT.PORT
    if 4 ≤ p ∧ 1 ≤ s.get (Reg.PRT_MODE.MODE p) ∧ s.get (Reg.PRT_MODE.MODE p) ≤ 3 then 0 else 2
  else 0

/-- _STATUS [16:0] of block `b`, the causes of its block interrupt among them. -/
def statusBase (s : Dev) (b : Nat) : Nat := (s.word (statusAddr b)).toNat ||| s.derivedStatus b

/-- Which _STATUS bits of block `b` CAUSE_EN may enable, from the chapters' register sections. -/
def causeMask (b : Nat) : Nat :=
  if 4 ≤ b ∧ b ≤ 11 then 0x7F0
  else [0xF, 0x1F, 0xFFFF, 0xFFFF, 0, 0, 0, 0, 0, 0, 0, 0, 0x1F, 0xFFFF, 0xFF, 0x3FF, 0x3F, 0x3F, 0xF, 0xF, 0x1F, 0xF, 7, 7, 0x3F, 0x1F, 1, 0xE].getD b 0

/-- The block interrupt condition of R23. -/
def blockIrq (s : Dev) (b : Nat) : Bool :=
  s.blockOn b && (s.statusBase b &&& (s.word (blockBase b + 0xC)).toNat &&& causeMask b) % 0x10000 != 0

/-- The fault interrupt condition of R23. -/
def faultIrq (s : Dev) (b : Nat) : Bool :=
  s.blockOn b && s.bit ⟨blockBase b + 0xC, 16, 1⟩ && s.word (stickyAddr b) != 0

/-- The destination of interrupt `i` (0 block, 1 fault) of block `b` under _IRQ_ROUTE. -/
def irqRoute (s : Dev) (b i : Nat) : IrqDest :=
  let a := blockBase b + 0x10
  if s.bit ⟨a, 7 + 16 * i, 1⟩ then .pin (s.get ⟨a, 8 + 16 * i, 3⟩) else .vector (s.get ⟨a, 16 * i, 7⟩)

/-- Where interrupt `i` of block `b` is asserted; `off` when it is not. -/
def irqAt (s : Dev) (b i : Nat) : IrqDest := Tab.get (fun _ => .off) s.irq (2 * b + i)

/-- The whole _STATUS word of block `b` as a read returns it (R20). -/
def statusView (s : Dev) (b : Nat) : Nat :=
  s.statusBase b ||| (if s.irqAt b 0 = .off then 0 else 0x20000) ||| (if s.irqAt b 1 = .off then 0 else 0x40000)

/-! ### Interrupts (R23, R304, R305) -/

/-- Whether vector `v` is masked by its vector mask or by the function mask. -/
def vectorMasked (s : Dev) (v : Nat) : Bool := s.bit Reg.GLB_PCIE_STAT.MSIX_MASK || s.bit ⟨0x400000 + 16 * v + 12, 0, 1⟩

/-- Send the message of vector `v`, or set its pending bit while it is masked; neither while MSI-X Enable is 0 (R304). -/
def msixRise (s : Dev) (v : Nat) : Dev :=
  if ¬ s.bit Reg.GLB_PCIE_STAT.MSIX_EN then s
  else if s.vectorMasked v then { s with msixPend := s.msixPend ||| 2 ^ v }
  else s.emit (.msix v)

/-- Bring interrupt `i` of block `b` to level `on`; a rise takes its destination from _IRQ_ROUTE (R23). -/
def irqLevel (s : Dev) (b i : Nat) (on : Bool) : Dev :=
  match s.irqAt b i, on with
  | .off, true =>
    let d := s.irqRoute b i
    let s := { s with irq := Tab.set (fun _ => .off) s.irq (2 * b + i) d }
    match d with
    | .vector v => s.msixRise v
    | _ => s
  | .off, false => s
  | _, true => s
  | _, false => { s with irq := Tab.set (fun _ => .off) s.irq (2 * b + i) .off }

/-- Whether an interrupt routed to vector `v` is still asserted. -/
def vectorAsserted (s : Dev) (v : Nat) : Bool := s.irq.any fun e => decide (e.2 = .vector v)

/-- Pending bits of vectors with no asserted interrupt clear (R304). -/
def pendSweep (s : Dev) : Dev :=
  if s.msixPend = 0 then s
  else { s with msixPend := (List.range 128).foldl (fun m v => if s.msixPend.testBit v && s.vectorAsserted v then m ||| 2 ^ v else m) 0 }

/-- The level of IRQ_N[k]: low while any interrupt routed to pin k is asserted (R305). -/
def irqPinLow (s : Dev) (k : Nat) : Bool := s.irq.any fun e => decide (e.2 = .pin k)

/-- The end of every command for block `b`: its interrupts take their levels, and LAST_TS takes the local time if a bit of _STATUS or FLT_STICKY changed since `old` (R21, R23). -/
def settleBlock (old : Dev) (s : Dev) (b : Nat) : Dev :=
  let s := s.irqLevel b 0 (s.blockIrq b)
  let s := s.irqLevel b 1 (s.faultIrq b)
  if s.statusView b = old.statusView b ∧ s.word (stickyAddr b) = old.word (stickyAddr b) then s
  else { s with lastTs := Tab.set (fun _ => 0) s.lastTs b (stampOf s.now) }

/-- The end of every command: each block in order of block number. -/
def settle (old s : Dev) : Dev := ((List.range 28).foldl (settleBlock old) s).pendSweep

/-! ### Trace records (R393–R397) -/

/-- Whether an event of source `src`, mask bit `m`, is to make a record. -/
def traceOn (s : Dev) (src m : Nat) : Bool :=
  s.domOn 76 && s.bit (Reg.TRC_SRC_CTL.EN src)
    && (if m < 32 then (s.word (Reg.TRC_SRC_MASK_LO src)).toNat.testBit m else (s.word (Reg.TRC_SRC_MASK_HI src)).toNat.testBit (m - 32))

/-- Whether the edge-port output runs: PORT_EN and no CFG_BAD (R397). -/
def tracePortOn (s : Dev) : Bool := s.bit Reg.TRC_OUT.PORT_EN && (s.derivedStatus bTRC == 0)

/-- The records of an edge-port output that does not run are discarded (R396, R397). -/
def tracePortTidy (s : Dev) : Dev := if s.tracePortOn then s else { s with trc := { s.trc with port := {}, firstAt := none } }

end Dev

/-- Put a record into an output's queue of 256; a full queue loses it (R396). The flag says whether it was lost. A pending loss record goes first when there is room. -/
def TraceQueue.push (q : TraceQueue) (r : TraceRec) : TraceQueue × Bool :=
  if q.lost ≠ 0 then
    if q.recs.length < 255 then
      ({ recs := q.recs ++ [⟨q.lostAt, 15, 0, q.lost, 0⟩, r], lost := 0, lostAt := 0 }, false)
    else ({ q with lost := q.lost + 1 }, true)
  else if q.recs.length < 256 then ({ q with recs := q.recs ++ [r] }, false)
  else ({ q with lost := 1, lostAt := r.stamp }, true)

namespace Dev

/-- Queue one record to every enabled output; TRC_LOST and LOSS_EVT record each loss. The flag says whether a record was lost. -/
def traceRaw (s : Dev) (r : TraceRec) : Dev × Bool :=
  let step (on : Bool) (q : TraceQueue) : TraceQueue × Bool := if on then q.push r else (q, false)
  let (a, la) := step (s.bit Reg.TRC_OUT.PIN_EN) s.trc.pin
  let (b, lb) := step s.tracePortOn s.trc.port
  let (c, lc) := step (s.bit Reg.TRC_OUT.DRAM_EN) s.trc.dram
  let first := if s.trc.port.recs = [] ∧ b.recs ≠ [] then some s.up else s.trc.firstAt
  let s := { s with trc := { s.trc with pin := a, port := b, dram := c, firstAt := first } }
  let lost := la.toNat + lb.toNat + lc.toNat
  if lost = 0 then (s, false)
  else ((s.incBy Reg.TRC_LOST.COUNT lost).raise bTRC 0, true)

/-! ### The event log (R359–R363) -/

/-- Stage an entry: it takes the next sequence number, and is kept, overwrites, or is lost as R359, R362 and R363 say. -/
def logStage (s : Dev) (kind block src cls detail : Nat) : Dev :=
  let e : LogEntry := ⟨stampOf s.now, kind, block, src, cls, detail, s.log.seq⟩
  let s := { s with log := { s.log with seq := (s.log.seq + 1) % 2 ^ 32 } }
  if s.log.dead then s.inc Reg.STA_LOG_LOST.COUNT
  else if s.log.staged.length < 64 then
    { s with log := { s.log with
        staged := s.log.staged ++ [e]
        frozen := if s.log.memFail ∧ s.log.resumed.isNone then min 8 (s.log.staged.length + 1) else s.log.frozen } }
  else if s.log.memFail then
    let first := ((s.log.staged.drop s.log.frozen).head?.map (·.seq)).getD 0
    { s with log := { s.log with
        staged := s.log.staged.take s.log.frozen ++ (s.log.staged.drop (s.log.frozen + 1) ++ [e])
        overwritten := s.log.overwritten + 1
        firstLost := if s.log.overwritten = 0 then first else s.log.firstLost } }.inc Reg.STA_LOG_LOST.COUNT
  else s.inc Reg.STA_LOG_LOST.COUNT

/-! ### Fault units (R345–R350) -/

/-- The fault unit state of source `n` of block `b`. -/
def fltSrc (s : Dev) (b n : Nat) : FltSrc := Tab.get (fun _ => {}) s.flt (32 * b + n)

/-- Replace it. -/
def setFltSrc (s : Dev) (b n : Nat) (x : FltSrc) : Dev := { s with flt := Tab.set (fun _ => {}) s.flt (32 * b + n) x }

end Dev

/-- Code of a class, as SEL_CLASS (R20). -/
def FltClass.code : FltClass → Nat
  | .none => 0 | .minor => 1 | .severe => 2 | .grave => 3

namespace Dev

/-- The class of an opening of source `n` of block `b` at stepless time `t` in 2^-40 ns, given the earlier openings (R346, R350). -/
def classify (s : Dev) (b n : Nat) (t : Int) : FltClass :=
  let cfg := (s.word (fltCfgAddr b n)).toNat
  let w := max 1 (cfg / 0x100 % 0x10000)
  let cn := max 1 (cfg % 0x100)
  let k := 1 + ((s.fltSrc b n).hist.filter fun (u : Int) => decide (t - (w : Int) * 1000000 * 2 ^ 40 < u)).length
  if graveN b n ≠ 0 ∧ graveN b n ≤ k then .grave
  else if (b = bSTA ∧ n = 2) ∨ cn ≤ k then .severe
  else .minor

/-- An opening without its trace record: FLT_STICKY, class, history and log entry (R345, R346, R359). -/
def openSource (s : Dev) (b n : Nat) : Dev :=
  let t := s.stepless
  let c := s.classify b n t
  let x := s.fltSrc b n
  let detail := s.statusView b
  let s := s.put (stickyBit b n) 1
  let s := s.setFltSrc b n { cls := c, merged := 0, hist := (t :: x.hist).take 255, openAt := t }
  s.logStage 0 b n c.code detail

/-- A merged event (R348). -/
def mergeEvent (s : Dev) (b n : Nat) : Dev :=
  let x := s.fltSrc b n
  s.setFltSrc b n { x with merged := min 15 (x.merged + 1) }

/-- The trace record of an opening (R393 source 7). -/
def openingRecord (s : Dev) (b n detail : Nat) : TraceRec :=
  ⟨stampOf s.now, 7, b, n * 256 + (s.fltSrc b n).cls.code * 64, detail⟩

/-- An event of TRACE_OVF: it opens or is merged; the opening's own record can only be lost again, which merges (R348, R396). -/
def traceOverflow (s : Dev) : Dev :=
  if s.bit (stickyBit bTRC 0) then s.mergeEvent bTRC 0
  else
    let detail := s.statusView bTRC
    let s := s.openSource bTRC 0
    if s.traceOn 7 bTRC then
      match s.traceRaw (s.openingRecord bTRC 0 detail) with
      | (s, true) => s.mergeEvent bTRC 0
      | (s, false) => s
    else s

/-- An event of trace source `src`, instance `inst`, mask bit `m`, stamped `st` (R393): a record to every enabled output, and TRACE_OVF where one was lost. -/
def traceAt (s : Dev) (st src inst m a b : Nat) : Dev :=
  if s.traceOn src m then
    match s.traceRaw ⟨st, src, inst, a, b⟩ with
    | (s, true) => s.traceOverflow
    | (s, false) => s
  else s

/-- The same stamped with the present local time. -/
def trace (s : Dev) (src inst m a b : Nat) : Dev := s.traceAt (stampOf s.now) src inst m a b

/-- One event of fault source `n` of block `b`: an opening, or merged into the open event (R345, R348). -/
def fault (s : Dev) (b n : Nat) : Dev :=
  if s.bit (stickyBit b n) then s.mergeEvent b n
  else
    let detail := s.statusView b
    let s := s.openSource b n
    s.trace 7 b b (n * 256 + (s.fltSrc b n).cls.code * 64) detail

/-! ### Small readings used across the families -/

/-- A register field read as a signed number of its width. -/
def getS (s : Dev) (f : Fld) : Int := toSigned f.w (s.get f)

/-- The next free value: an opaque word and the counter advanced (log entry 6). -/
def freeWord (s : Dev) : Nat × Dev := ((Config.freeWord s.freeCount).toNat, { s with freeCount := s.freeCount + 1 })

end Dev

end Sys2Proof.Machine
end

