-- ==== Sys2Proof/Machine/HostField.lean ====
section
/-! DEFINITION. The write of one register word under the access codes of R6 and the refusal of R12, and which dictionary region a word backs (R15, R266). -/

namespace Sys2Proof.Machine

/-- The masks of the access codes of one word: RW, W1C, W1S, WO. -/
structure Masks where
  rw : Nat := 0
  w1c : Nat := 0
  w1s : Nat := 0
  wo : Nat := 0
  deriving DecidableEq, Repr

/-- W1C bits of _STATUS [15:0] of block `b`, from the chapters' status tables. -/
def statusW1c (b : Nat) : Nat :=
  if 4 ≤ b ∧ b ≤ 11 then 0x6F0
  else [0, 7, 0x7F00, 0xFF00, 0, 0, 0, 0, 0, 0, 0, 0, 0x1F, 0xFFFF, 0xFB, 0x3FF, 0x3D, 0x3F, 0xF, 0xF, 0x1F, 0xF, 4, 4, 0x3F, 5, 1, 0xE].getD b 0

/-- Masks of the common header word at offset `o` of block `b` (R20). -/
def headerMasks (b o : Nat) : Masks :=
  if o = 4 then { rw := if b = bTIM then 0x10001 else 0x10000 }
  else if o = 8 then { w1c := 0x10000 + statusW1c b }
  else if o = 0xC then { rw := 0x1FFFF }
  else if o = 0x10 then { rw := 0x07FF07FF }
  else if o = 0x20 then { w1c := 0xFFFFFFFF }
  else if o = 0x2C then { rw := 0x1F }
  else if o = 0x30 then { rw := 0x00FFFFFF }
  else {}

/-- The block whose window holds BAR0 address `a` below 0x31_0000, if any (R405). -/
def blockAt (a : Nat) : Option Nat :=
  if a < 0x100000 then some (a / 0x10000)
  else if a < 0x200000 then some bCEL
  else if 0x27C000 ≤ a ∧ a < 0x27E000 then some bSCR
  else if a < 0x280000 then some bSMP
  else if a < 0x310000 then some (19 + (a - 0x280000) / 0x10000)
  else none

/-- The masks of key `k` of block `b`; PRT_DS of a ring port ignores writes, and the panic levels of a port that is not real-time are reserved (R82, R93, R344). -/
def masksOf (b k : Nat) : Masks :=
  if blockBase b ≤ k ∧ k < blockBase b + 0x100 then headerMasks b (k - blockBase b)
  else if 0x1260000 ≤ k ∧ k < 0x1261000 then { rw := 0x00FFFFFF }
  else if 4 ≤ b ∧ b < 8 ∧ k = Reg.PRT_DS (b - 4) then {}
  else if k = Reg.MEM_PORT_CFG 2 ∨ k = Reg.MEM_PORT_CFG 3 ∨ k = Reg.MEM_PORT_CFG 4 then { rw := 0x07000000 }
  else match rowOf k with
    | some r => { rw := r.rw, w1c := r.w1c, w1s := r.w1s, wo := r.wo }
    | none => {}

/-- The dictionary region, numbered as R15 lists them from 0, that key `k` backs (R266, R407); none where it backs no object. -/
def regionOf (k : Nat) : Option Nat :=
  let header := match blockAt k with
    | some b => Nat.blt (k - blockBase b) 0x4C
    | none => false
  if k < 4 then some 0
  else if header then some 8
  else if k < 0x10000 then none
  else if k < 0x20000 then some 7
  else if k < 0x30000 then some 1
  else if k < 0x34000 then some 6
  else if k < 0x40000 then some 6
  else if k < 0xC0000 then some 1
  else if k < 0xC0158 then some 1
  else if 0xC1000 ≤ k ∧ k < 0xC4000 then some 1
  else if 0xC4000 ≤ k ∧ k < 0xC4800 then some 2
  else if k < 0xD0000 then none
  else if k < 0xD2000 then some 1
  else if k < 0xD8000 then some 2
  else if k < 0xE4000 then none
  else if k < 0xF0000 then some 2
  else if k < 0x100000 then some 1
  else if k < 0x100400 then none
  else if k < 0x101000 then some 3
  else if k < 0x108800 then some 3
  else if k < 0x200000 then none
  else if 0x27C000 ≤ k ∧ k < 0x27E000 then (if 0x27C200 ≤ k ∧ k < 0x27C600 then some 5 else none)
  else if k < 0x280000 then (if 0x202000 ≤ k then some 4 else none)
  else if k < 0x290000 then some 7
  else if k = 0x290100 then some 1
  else if k < 0x2B0000 then none
  else if k < 0x2D0000 then (if k % 0x10000 < 0x4F8 then some 7 else none)
  else if k < 0x2E0000 then some 7
  else if k < 0x310000 then some 8
  else if k < 0x1000000 then none
  else if k < 0x1080000 then some 1
  else if k < 0x1180000 then some 3
  else if k < 0x1200000 then none
  else if k < 0x1220000 then some 9
  else if 0x1240000 ≤ k ∧ k < 0x1250000 then some 1
  else if 0x1260000 ≤ k ∧ k < 0x1261000 then some 8
  else none

/-- The key under which a word of a Tackle window is stored: both windows show one JOB_EN, one set of request counters and the sets of all jobs (R311, R312, R319, R322). -/
def dmaKey (k : Nat) : Nat :=
  if k < 0x2B0000 ∨ 0x2D0000 ≤ k then k
  else
    let o := (k - 0x2B0000) % 0x10000
    if 0x1000 ≤ o ∧ o < 0x3000 then 0x1270000 + (o - 0x1000)
    else if o = 0x100 ∨ o = 0x104 ∨ o = 0x120 ∨ (0x140 ≤ o ∧ o < 0x150) ∨ (0x200 ≤ o ∧ o < 0x400) then 0x2B0000 + o
    else k

/-- The word an unmasked write leaves under R6. -/
def accessWrite (m : Masks) (old v : Nat) : Nat :=
  let x := (old &&& (0xFFFFFFFF - m.rw)) ||| (v &&& m.rw)
  let x := x &&& (0xFFFFFFFF - (v &&& m.w1c))
  x ||| (v &&& m.w1s)

namespace Dev

/-- Whether the object that key `k` backs has access CRIT or CONST (R12, R268): its region's DCT_CRIT_MASK bit is set, or it is DCT_CFG or a client record. -/
def critWord (s : Dev) (k : Nat) : Bool :=
  k == 0x290100 ||
  match regionOf k with
  | none => false
  | some r => r == 9 || (s.get Reg.DCT_CRIT_MASK.REGION).testBit r

/-- The host may not write key `k`: it backs a CRIT or CONST object, or any object while an admission check runs (R12, R273). -/
def hostRefused (s : Dev) (k : Nat) : Bool := s.critWord k || (s.bit (statusBit bDCT 5) && (regionOf k).isSome)

/-- A write of `v` to a word that reads `old` would change a field of it under R6 if it were writable (R12). -/
def fieldsChange (m : Masks) (old v : Nat) : Bool :=
  ((m.rw &&& (old ^^^ v)) ||| (v &&& (m.w1c ||| m.w1s ||| m.wo))) != 0

/-- The same of the word at key `k`. -/
def wouldChange (s : Dev) (m : Masks) (k v : Nat) : Bool := fieldsChange m (s.word k).toNat v

/-- A host write of `v` to the word at key `k` of block `b`, which the requester reads as `old`: nothing while the block is off (R18); refused, and HOST_WR_REFUSED set where the word would change, as R12 and R273 say; otherwise `act`. -/
def hostGateOn (s : Dev) (b k old : Nat) (v : Word) (act : Dev → Dev) : Dev :=
  if ¬ s.blockOn b then s
  else if s.hostRefused k then s.when (fieldsChange (masksOf b k) old v.toNat) fun s => s.raise b 16
  else act s

/-- A host write to a word that every requester reads alike. -/
def hostGate (s : Dev) (b k : Nat) (v : Word) (act : Dev → Dev) : Dev := s.hostGateOn b k (s.word k).toNat v act

/-- The field-by-field effect of writing `v` to key `k` of block `b` (R6); a parity error of the word ends. -/
def writeFields (s : Dev) (b k : Nat) (v : Word) : Dev :=
  (s.mendWord k).setWord k (BitVec.ofNat 32 (accessWrite (masksOf b k) (s.word k).toNat v.toNat))


end Dev

/-- Bit `i` of a written word. -/
def wbit (v : Word) (i : Nat) : Bool := v.toNat.testBit i

/-- Bits [lo + w − 1 : lo] of a written word. -/
def wfld (v : Word) (lo w : Nat) : Nat := v.toNat / 2 ^ lo % 2 ^ w

/-- The device as a command begins: nothing sent yet. -/
def Dev.fresh (s : Dev) : Dev := { s with out := [] }

/-- What every meaning answers: the device after `f`, its interrupts and LAST_TS settled, the outputs of this command alone. -/
def devStep (f : Dev → Dev) (s : State) : Host.Outcome State Fault Refusal :=
  .next { s with dev := Dev.settle s.dev.fresh (f s.dev.fresh) }

end Sys2Proof.Machine
end

