-- ==== Sys2Proof/Machine/AngleBase.lean ====
section
/-! DEFINITION. Angle domains as their consumers see them (R44–R46, R51, R60): the published angle, its stamp and speed, and when a target is reached. -/

namespace Sys2Proof.Machine

/-- One cycle in 2^-24 cycle (R44). -/
def cycleUnits : Int := 16777216

/-- The states of a domain (ANG_STATE.STATE). -/
abbrev angOff := 0
abbrev angSearch := 1
abbrev angValid := 2
abbrev angCoasting := 3
abbrev angReverse := 4
abbrev angInvalid := 5

namespace Dev

/-- A domain's state beyond its registers. -/
def ang (s : Dev) (d : Nat) : AngDom := Tab.get (fun _ => {}) s.angs d
/-- Replace it. -/
def setAng (s : Dev) (d : Nat) (x : AngDom) : Dev := { s with angs := Tab.set (fun _ => {}) s.angs d x }
/-- Change it. -/
def modAng (s : Dev) (d : Nat) (f : AngDom → AngDom) : Dev := s.setAng d (f (s.ang d))
/-- STATE of a domain. -/
def angState (s : Dev) (d : Nat) : Nat := s.get (Reg.ANG_STATE.STATE d)
/-- The domain is VALID or COASTING. -/
def angOk (s : Dev) (d : Nat) : Bool := s.angState d == angValid || s.angState d == angCoasting

/-- The stamp time of an edge: local time in whole ns with every step removed, in 2^-40 ns (R47, R50). -/
def edgeTime (s : Dev) : Int := (s.dist40 / 2 ^ 40 * 2 ^ 40 : Nat) - s.tim.steps

/-- The internal angle at the present instant, rounded to the nearest 2^-24 cycle with ties towards +∞ (R51). -/
def internalAngle (s : Dev) (d : Nat) : Int :=
  let x := s.ang d
  let m : Int := max 1 x.rateD
  x.base + (2 * (s.stepless - x.at') * x.rateN + m) / (2 * m)

/-- The published angle, not wrapped: never decreasing while the domain runs forward, held otherwise (R51, R53). Every consumer's local copy is this one, of age 0 of the 0 to 2 core clocks that R60 allows (DESIGN CHOICE, log entry 71). -/
def pubAngle (s : Dev) (d : Nat) : Int :=
  if s.angOk d then max (s.ang d).pub (s.internalAngle d) else (s.ang d).pub

/-- The published ANGLE of 48 bits (R44). -/
def angle48 (s : Dev) (d : Nat) : Nat := ofSigned 48 (s.pubAngle d)

/-- The angle stamp of R46. -/
def angStamp (s : Dev) (d : Nat) : Nat :=
  let st := s.angState d
  s.angle48 d + d * 2 ^ 48 + (st == angReverse).toNat * 2 ^ 61 + (st == angCoasting).toNat * 2 ^ 62
    + (st == angValid || st == angCoasting || st == angReverse).toNat * 2 ^ 63

/-- The speed of R51 in 2^-12 cycle/s, saturating; 0 in OFF, SEARCH and INVALID. -/
def angSpeed (s : Dev) (d : Nat) : Nat :=
  let st := s.angState d
  if st = angValid ∨ st = angCoasting ∨ st = angReverse then
    min 0xFFFFFFFF ((s.ang d).rateN.natAbs * 2 ^ 28 * 1000000000 / max 1 (s.ang d).rateD)
  else 0

/-- The speed of R51 as a cell fetches it, in Q15.16 (R193, R197 SRC 4). -/
def angSpeedQ (s : Dev) (d : Nat) : Int :=
  let st := s.angState d
  let n : Int := 2 ^ 32 * 1000000000 * ((s.ang d).rateN.natAbs : Nat)
  let m : Int := max 1 (s.ang d).rateD
  if st = angValid ∨ st = angCoasting ∨ st = angReverse then max (-2147483648) (min 2147483647 ((2 * n + m) / (2 * m))) else 0

/-- A target angle lies ahead of the published angle (R45). -/
def angAhead (s : Dev) (d target : Nat) : Bool := decide (0 < sdiff target (s.angle48 d) 48)

/-- The published angle of a running domain has reached a target (R236). -/
def angReached (s : Dev) (d target : Nat) : Bool := s.angOk d && !s.angAhead d target

/-- Bring the published angle of a domain up to the present instant. -/
def angSettle (s : Dev) (d : Nat) : Dev := s.modAng d fun x => { x with pub := s.pubAngle d }

end Dev

end Sys2Proof.Machine
end

