-- ==== Sys2Proof/Machine/Schedule.lean ====
section
/-! DEFINITION. Gate schedules as functions of time: the list in force, its windows, the next close, line times and the credit of the shapers (R114–R120, R122, R126). Times are in 2^-16 ns. -/

namespace Sys2Proof.Machine

/-- A piece of a gate cycle: from `start` to `stop` (ns from the cycle start) the gates stand at `gates`. -/
structure Seg where
  start : Nat
  stop : Nat
  gates : Nat
  deriving DecidableEq, Repr

/-- The pieces of a cycle of `cyc` ns from entries (interval, gate state): the last state holds to the end of the cycle, entries past it are cut (R114). -/
def segsFrom (cyc : Nat) : Nat → List (Nat × Nat) → List Seg
  | _, [] => []
  | t, [(_, g)] => if t < cyc then [⟨t, cyc, g⟩] else []
  | t, (iv, g) :: es =>
    if cyc ≤ t then []
    else if cyc ≤ t + iv then [⟨t, cyc, g⟩]
    else ⟨t, t + iv, g⟩ :: segsFrom cyc (t + iv) es

/-- A gate schedule: cycle time in ns, base time and the pieces of one cycle. -/
structure Schedule where
  cycle : Nat
  base : Nat
  segs : List Seg
  deriving DecidableEq, Repr

/-- Phase of instant `t` in the cycle, in 2^-16 ns. -/
def Schedule.phase (g : Schedule) (t : Nat) : Nat :=
  (((t : Int) - g.base) % ((max 1 g.cycle : Nat) * 65536 : Int)).toNat

/-- Index k of the cycle that holds instant `t` (R114). -/
def Schedule.index (g : Schedule) (t : Nat) : Int :=
  ((t : Int) - g.base) / ((max 1 g.cycle : Nat) * 65536 : Int)

/-- Start of the first cycle at or after instant `t`. -/
def Schedule.nextStart (g : Schedule) (t : Nat) : Nat :=
  let ph := g.phase t
  if ph = 0 then t else t + (max 1 g.cycle * 65536 - ph)

/-- Entry number and gate state at instant `t`. -/
def Schedule.at (g : Schedule) (t : Nat) : Nat × Nat :=
  let ph := g.phase t
  let rec go : Nat → List Seg → Nat × Nat
    | _, [] => (0, 0xFF)
    | i, x :: xs => if ph < x.stop * 65536 then (i, x.gates) else go (i + 1) xs
  go 0 g.segs

/-- How long from phase `ph` (2^-16 ns) the gate of class `c` stays open over the pieces given; none when it is open through all of them. -/
def openOver (c ph : Nat) : List Seg → Option Nat
  | [] => none
  | x :: xs =>
    if x.stop * 65536 ≤ ph then openOver c ph xs
    else if x.gates.testBit c then openOver c ph xs
    else some (x.start * 65536 - ph)

/-- How long from instant `t` the gate of class `c` stays open; none when it never closes. -/
def Schedule.openFor (g : Schedule) (c t : Nat) : Option Nat :=
  let ph := g.phase t
  let cyc := max 1 g.cycle
  let next := g.segs.map fun x => { x with start := x.start + cyc, stop := x.stop + cyc }
  match openOver c ph g.segs with
  | some d => some d
  | none => openOver c ph next

/-- The lengths in ns of the windows of class `c`, joined across the cycle boundary; the flag says the gate never closes (R112). -/
def Schedule.windows (g : Schedule) (c : Nat) : List Nat × Bool :=
  let rec runs : Nat → List Seg → List Nat
    | acc, [] => [acc]
    | acc, x :: xs => if x.gates.testBit c then runs (acc + (x.stop - x.start)) xs else acc :: runs 0 xs
  match runs 0 g.segs with
  | [_] => ([], true)
  | a :: rest =>
    let b := rest.getLast?.getD 0
    (((a + b) :: rest.dropLast).filter (· ≠ 0), false)
  | [] => ([], true)

/-- Tenths of a ns that one octet takes on the line at a rate coded as SPEED_MAX. -/
def octetTenths (rate : Nat) : Nat := [8000, 800, 80, 32, 8].getD rate 8

/-- A rate coded as SPEED_MAX in kb/s. -/
def rateKbps (rate : Nat) : Nat := [10000, 100000, 1000000, 2500000, 10000000].getD rate 10000000

/-- The line time of `n` octets, gap and preamble counted by the caller, in tenths of 2^-16 ns. -/
def lineTenths (rate n : Nat) : Nat := n * octetTenths rate * 65536

/-- The transmitter is idle between frames and no pre-empted frame waits for its continuation (R73). -/
def Port.idle (x : Port) : Bool := x.line.isNone && x.hold.isNone

namespace Dev

/-- Port state. -/
def port (s : Dev) (p : Nat) : Port := Tab.get (fun _ => {}) s.ports p
/-- Replace it; the instants at which its transmitter becomes idle and ceases to be are noted (R76). -/
def setPort (s : Dev) (p : Nat) (x : Port) : Dev :=
  let x := match (s.port p).idle, x.idle with
    | false, true => { x with idleAt := s.up }
    | true, false => { x with busyAt := s.up }
    | _, _ => x
  { s with ports := Tab.set (fun _ => {}) s.ports p x }
/-- Change it. -/
def modPort (s : Dev) (p : Nat) (f : Port → Port) : Dev := s.setPort p (f (s.port p))

/-- Bit `n` of the _STATUS of port `p`. -/
def prtBit (p n : Nat) : Fld := statusBit (bPRT p) n
/-- LINK_UP of a port. -/
def linkUp (s : Dev) (p : Nat) : Bool := s.bit (prtBit p 1)
/-- TX_SETTLED of a port. -/
def txSettled (s : Dev) (p : Nat) : Bool := s.bit (prtBit p 0)
/-- The rate in use, coded as SPEED_MAX. -/
def rate (s : Dev) (p : Nat) : Nat := s.get (Reg.PRT_LINK.SPEED_NOW p)
/-- PRT_MODE.MODE, values above 3 acting as 0 (R93). -/
def mode (s : Dev) (p : Nat) : Nat := let m := s.get (Reg.PRT_MODE.MODE p); if m ≤ 3 then m else 0
/-- PRT_MODE.MAX_LEN clamped to 1,518 to 9,216 (R69). -/
def maxLen (s : Dev) (p : Nat) : Nat := max 1518 (min 9216 (s.get (Reg.PRT_MODE.MAX_LEN p)))

/-- Entry `e` of a bank of a port's gate control list: INTERVAL and GATE_STATE. One with a parity error acts as all gates closed for its INTERVAL, or for 64 ns if that word is in error (R130). -/
def gclEntry (s : Dev) (p b e : Nat) : Nat × Nat :=
  let ivl := (s.word (Reg.GTE_GCL_IVL p b e)).toNat
  if s.badWord (Reg.GTE_GCL_IVL p b e) then (64, 0)
  else if s.badWord (Reg.GTE_GCL_GATE p b e) then (ivl, 0)
  else (ivl, s.get (Reg.GTE_GCL_GATE.GATE_STATE p b e))

/-- The entries 0 to LIST_LEN − 1 of a bank of a port's gate control list. -/
def gclEntries (s : Dev) (p b : Nat) : List (Nat × Nat) :=
  (List.range (min 1024 (s.get (Reg.GTE_LIST_LEN.LEN p b)))).map (s.gclEntry p b)

/-- The schedule a bank defines (R114). -/
def schedule (s : Dev) (p b : Nat) : Schedule :=
  let cyc := (s.word (Reg.GTE_CYCLE_TIME p b)).toNat
  { cycle := cyc
    base := ofStamp (s.stamp3 (Reg.GTE_BASE_LO p b))
    segs := segsFrom cyc 0 (s.gclEntries p b) }

/-- Active bank of a port's list. -/
def gclActive (s : Dev) (p : Nat) : Nat := s.get (Reg.GTE_GCL_CTL.ACTIVE p)

/-- Whether a list runs on the port: GATE_EN, and a bank change has taken effect since (R115). -/
def gating (s : Dev) (p : Nat) : Bool := s.bit (Reg.GTE_PORT_CTL.GATE_EN p) && (s.port p).gating

/-- The change point of a pending swap (R116): the first cycle start of the active schedule at or after the change time and `t`; every instant is one while GATE_EN is 0 (R115). -/
def changePoint (s : Dev) (p t : Nat) : Nat :=
  let ct := max (ofStamp (s.stamp3 (Reg.GTE_CHANGE_LO p))) t
  if s.bit (Reg.GTE_PORT_CTL.GATE_EN p) then (s.schedule p (s.gclActive p)).nextStart ct else ct

/-- The change point of the swap that is pending: at or after its SWAP write (R116). -/
def pendingPoint (s : Dev) (p : Nat) : Nat := s.changePoint p (s.port p).swapAt

/-- Gate states in force at instant `t` (R114, R115, R118): while a backward step holds them, those in force before it. -/
def gatesAt (s : Dev) (p t : Nat) : Nat :=
  if ¬ s.gating p then 0xFF
  else match (s.port p).freezeTill with
    | some u => if t < u then s.get (Reg.GTE_CUR_ENTRY.GATE_STATE p) else ((s.schedule p (s.gclActive p)).at t).2
    | none => ((s.schedule p (s.gclActive p)).at t).2

/-- The gate of class `c` is open now. -/
def gateOpen (s : Dev) (p c : Nat) : Bool := (s.gatesAt p s.now).testBit c

/-- The first instant after `t` at which the gate of class `c` is closed, a pending change point taken into account; none when it never closes (R119). -/
def closeAfter (s : Dev) (p c t : Nat) : Option Nat :=
  if ¬ s.gating p then
    if s.bit (Reg.GTE_PORT_CTL.GATE_EN p) && s.bit (Reg.GTE_GCL_CTL.SWAP_PEND p) then
      let cp := max t (s.pendingPoint p)
      let g := s.schedule p (1 - s.gclActive p)
      if (g.at cp).2.testBit c then (g.openFor c cp).map (cp + ·) else some cp
    else none
  else
    let t := match (s.port p).freezeTill with
      | some u => max t u
      | none => t
    let old := s.schedule p (s.gclActive p)
    let c0 := (old.openFor c t).map (t + ·)
    if s.bit (Reg.GTE_GCL_CTL.SWAP_PEND p) then
      let cp := max t (s.pendingPoint p)
      let g := s.schedule p (1 - s.gclActive p)
      match c0 with
      | some x => if x < cp then some x
        else if (g.at cp).2.testBit c then (g.openFor c cp).map (cp + ·) else some cp
      | none => if (g.at cp).2.testBit c then (g.openFor c cp).map (cp + ·) else some cp
    else c0

/-- Whether `n` octets of line (gap and preamble counted) that start at `t` are off the line at the close of class `c` (R119). -/
def fits (s : Dev) (p c t n : Nat) : Bool :=
  match s.closeAfter p c t with
  | none => true
  | some x => Nat.ble (lineTenths (s.rate p) n) (10 * (x - t))

/-- GTE_PREEMPT.ADD_FRAG. -/
def addFrag (s : Dev) (p : Nat) : Nat := s.get (Reg.GTE_PREEMPT.ADD_FRAG p)
/-- Pre-emption is active (R121). -/
def preemptActive (s : Dev) (p : Nat) : Bool :=
  s.bit (Reg.GTE_PREEMPT.EN p) && s.linkUp p && (s.bit (Reg.GTE_PREEMPT.VERIFY_DIS p) || s.get (Reg.GTE_PREEMPT_STAT.VERIFY_STATE p) == 3)
/-- Whether class `c` is express on the port. -/
def isExpress (s : Dev) (p c : Nat) : Bool := (s.get (Reg.GTE_PREEMPT.EXPRESS p)).testBit c

/-- The smallest boundary k, in octets of the frame of length `len`, at which a fragment begun after `sent` octets may end; none when there is none (R122). -/
def firstBoundary (s : Dev) (p sent len : Nat) : Option Nat :=
  let k := sent + 64 * (1 + s.addFrag p) - 4
  if k + 64 ≤ len then some k else none

/-- The longest time class `c` has a window for, in ns: none when it never closes. -/
def longestWindow (g : Schedule) (c : Nat) : Option Nat :=
  match g.windows c with
  | (_, true) => none
  | (ws, false) => some (ws.foldl max 0)

/-- A frame of `len` octets of class `c` is never carried by the active schedule at the rate in use (R120). -/
def neverCarried (s : Dev) (p c len : Nat) : Bool :=
  if ¬ s.linkUp p ∨ ¬ s.gating p then false
  else match longestWindow (s.schedule p (s.gclActive p)) c with
    | none => false
    | some w =>
      let room := 10 * w * 65536
      Nat.blt room (lineTenths (s.rate p) (len + 20)) &&
        (if s.preemptActive p && !s.isExpress p c then
          match s.firstBoundary p 0 len with
          | some k => Nat.blt room (lineTenths (s.rate p) (k + 24))
          | none => true
        else true)

/-! ### Credit (R126) -/

/-- A class's queue. -/
def classQueue (s : Dev) (p c : Nat) : List QEnt := Tab.get (fun _ => []) s.classQ (8 * p + c)
/-- Replace it. -/
def setClassQueue (s : Dev) (p c : Nat) (q : List QEnt) : Dev := { s with classQ := Tab.set (fun _ => []) s.classQ (8 * p + c) q }
/-- The shaper's credit record. -/
def credit (s : Dev) (p c : Nat) : Credit := Tab.get (fun _ => {}) s.credits (8 * p + c)

/-- The frame on the line belongs to class `c`. -/
def sendingClass (s : Dev) (p c : Nat) : Bool :=
  match (s.port p).line with
  | some l => l.cls == c
  | none => false

/-- A pre-empted frame of class `c` awaits its continuation. -/
def holdsClass (s : Dev) (p c : Nat) : Bool :=
  match (s.port p).hold with
  | some h => h.cls == c
  | none => false

/-- Credit of class `c` of port `p` at the present instant, in 2^-16 × 10^-6 bit: falling while it sends, rising while its gate is open and it waits or is negative, else held (R126). -/
def creditNow (s : Dev) (p c : Nat) : Int :=
  let r := s.credit p c
  let dt : Int := max 0 (s.smooth - r.at')
  let slope : Int := s.get (Reg.GTE_CBS_SLOPE.IDLE_SLOPE p c)
  let one : Int := 65536 * 1000000
  let hi := s.getS (Reg.GTE_CBS_HI.HI p c) * one
  let lo := s.getS (Reg.GTE_CBS_LO.LO p c) * one
  let waiting := s.classQueue p c ≠ [] ∨ s.holdsClass p c = true
  let x : Int :=
    if s.sendingClass p c then r.credit - ((rateKbps (s.rate p) : Int) - slope) * dt
    else if (s.get (Reg.GTE_CUR_ENTRY.GATE_STATE p)).testBit c then
      if waiting then r.credit + slope * dt
      else if r.credit < 0 then min 0 (r.credit + slope * dt)
      else r.credit
    else r.credit
  let x := max lo (min hi x)
  if 0 < x ∧ ¬ waiting ∧ ¬ s.sendingClass p c ∧ ¬ r.fresh then 0 else x

/-- Bring the credit of class `c` up to the present instant. -/
def creditSync (s : Dev) (p c : Nat) : Dev :=
  { s with credits := Tab.set (fun _ => {}) s.credits (8 * p + c) { s.credit p c with credit := s.creditNow p c, at' := s.smooth } }

/-- Bring every credit of a port with an enabled shaper up to the present instant. -/
def creditSyncAll (s : Dev) (p : Nat) : Dev :=
  (List.range 8).foldl (fun s c => if s.bit (Reg.GTE_CBS_CTL.EN p c) then s.creditSync p c else s) s

/-- The class's credit lets a frame start (R113, R126). -/
def creditOk (s : Dev) (p c : Nat) : Bool := !s.bit (Reg.GTE_CBS_CTL.EN p c) || decide (0 ≤ s.creditNow p c)

end Dev

end Sys2Proof.Machine
end

