-- ==== Sys2Proof/Machine/FrameOps.lean ====
section
/-! DEFINITION. Frames in the Locker and in the class queues: parsing, accounting of granules and descriptors, statistics, ring tags, queueing and discarding (R69, R88–R90, R95, R99–R102, R112, R120, R150, R151, R157–R160). -/

namespace Sys2Proof.Machine

/-- Causes of a move (PLC_MOVE_LAST.CAUSE). -/
abbrev causePolicy := 0
abbrev causeTemp := 1
abbrev causeMismatch := 2
abbrev causeSpare := 3
abbrev causeBurnisher := 4
abbrev causeFault := 5
abbrev causeSoftware := 6
abbrev causeUnitStop := 7

/-! ### Octets -/

/-- `n` octets of `x`, most significant first (R4). -/
def octetsBE : Nat → Nat → List Octet
  | 0, _ => []
  | n + 1, x => BitVec.ofNat 8 (x / 256 ^ n) :: octetsBE n x

/-- `n` octets of `x`, least significant first. -/
def octetsLE : Nat → Nat → List Octet
  | 0, _ => []
  | n + 1, x => BitVec.ofNat 8 x :: octetsLE n (x / 256)

/-- The number that octets spell, most significant first. -/
def numBE (l : List Octet) : Nat := l.foldl (fun a o => a * 256 + o.toNat) 0

/-- The number that octets spell, least significant first. -/
def numLE : List Octet → Nat
  | [] => 0
  | o :: l => o.toNat + 256 * numLE l

/-- The `n`-octet field at offset `o` of a frame, most significant first. -/
def fieldBE (l : List Octet) (o n : Nat) : Nat := numBE ((l.drop o).take n)

/-- Replace the octets at offset `o` by `v`. -/
def patch (l : List Octet) (o : Nat) (v : List Octet) : List Octet := l.take o ++ (v ++ l.drop (o + v.length))

/-- Pad with zero octets to length `n`. -/
def padTo (n : Nat) (l : List Octet) : List Octet := l ++ List.replicate (n - l.length) 0

/-! ### Parsing (R95, R159) -/

/-- What the parser reads of a frame whose ring tag has been removed. -/
structure Parsed where
  da : Nat
  sa : Nat
  /-- A VLAN tag is present. -/
  tagged : Bool
  vid : Nat
  pcp : Nat
  /-- Offset at which an R-TAG stands or would be inserted. -/
  rtagAt : Nat
  rtag : Option Nat
  etype : Nat
  /-- Offset of the first octet after the payload EtherType. -/
  body : Nat
  deriving DecidableEq, Repr

/-- Parse addresses, up to two VLAN tags, an R-TAG and the payload EtherType (R95). -/
def parse (l : List Octet) : Parsed :=
  let t0 := fieldBE l 12 2
  let outer := t0 == 0x88A8 || t0 == 0x8100
  let o1 := if outer then 16 else 12
  let inner := outer && fieldBE l o1 2 == 0x8100
  let o2 := if inner then o1 + 4 else o1
  let isR := fieldBE l o2 2 == 0xF1C1
  let o3 := if isR then o2 + 6 else o2
  { da := fieldBE l 0 6, sa := fieldBE l 6 6, tagged := outer
    vid := if outer then fieldBE l 14 2 % 4096 else 0
    pcp := if outer then fieldBE l 14 2 / 8192 else 0
    rtagAt := o2
    rtag := if isR then some (fieldBE l (o2 + 4) 2) else none
    etype := fieldBE l o3 2
    body := o3 + 2 }

/-- Insert an R-TAG with sequence number `q` (R135). -/
def insertRtag (l : List Octet) (q : Nat) : List Octet :=
  let o := (parse l).rtagAt
  l.take o ++ (octetsBE 2 0xF1C1 ++ octetsBE 2 0 ++ octetsBE 2 q ++ l.drop o)

/-- The ring tag of a frame: FLAGS_HOPS and SRC (R159); none when it carries none. -/
def ringTag (etype : Nat) (l : List Octet) : Option (Nat × Nat) :=
  if fieldBE l 12 2 = etype ∧ 18 ≤ l.length then some (fieldBE l 14 2, fieldBE l 16 2) else none

/-- Remove a ring tag (R162). -/
def removeRingTag (l : List Octet) : List Octet := l.take 12 ++ l.drop 18

/-- Insert a ring tag (R159). -/
def insertRingTag (l : List Octet) (etype flags src : Nat) : List Octet :=
  l.take 12 ++ (octetsBE 2 etype ++ octetsBE 2 flags ++ octetsBE 2 src ++ l.drop 12)

/-- FLAGS_HOPS from its parts (R159). -/
def ringFlags (rev slot ctrl : Bool) (hops : Nat) : Nat :=
  rev.toNat * 0x8000 + slot.toNat * 0x4000 + ctrl.toNat * 0x2000 + hops % 1024

/-- Length under R69: with the FCS. -/
def frameLen (l : List Octet) : Nat := l.length + 4

/-- Size bin of a length (R88). -/
def sizeBin (n : Nat) : Nat :=
  if n ≤ 64 then 0 else if n ≤ 127 then 1 else if n ≤ 255 then 2 else if n ≤ 511 then 3 else if n ≤ 1023 then 4
  else if n ≤ 1518 then 5 else if n ≤ 2047 then 6 else if n ≤ 4095 then 7 else 8

/-- Address counter of a destination: 9 unicast, 10 multicast, 11 broadcast (R88). -/
def addrCounter (da : Nat) : Nat :=
  if da = 0xFFFFFFFFFFFF then 11 else if (da / 2 ^ 40).testBit 0 then 10 else 9

namespace Dev

/-! ### Statistics (R88–R90, R150) -/

/-- Increment receive counter `i` of port `p`; bit 31 rising sets its PRT_HALF_RX bit. -/
def incRx (s : Dev) (p i : Nat) : Dev :=
  let f := Reg.PRT_RX_CNT.COUNT p i
  let half := s.get f == 0x7FFFFFFF
  (s.inc f).when half fun s => s.put ⟨Reg.PRT_HALF_RX p, i, 1⟩ 1

/-- Increment transmit counter `i` of port `p`. -/
def incTx (s : Dev) (p i : Nat) : Dev :=
  let f := Reg.PRT_TX_CNT.COUNT p i
  let half := s.get f == 0x7FFFFFFF
  (s.inc f).when half fun s => s.put ⟨Reg.PRT_HALF_TX p, i, 1⟩ 1

/-- Increment counter `i` of stream context `x`; bit 31 rising sets its HALF bit (R150). -/
def incCtx (s : Dev) (x i : Nat) : Dev :=
  let f := Reg.STM_CNT.COUNT x i
  let half := s.get f == 0x7FFFFFFF
  (s.inc f).when half fun s => s.put ⟨Reg.STM_CTX_STAT x, i, 1⟩ 1

/-- The counters of a good frame (R88): size bin, address kind, TAGGED, EXPRESS or PREEMPT. -/
def countGood (s : Dev) (bump : Dev → Nat → Dev) (ring : Bool) (l : List Octet) (pre : Bool) : Dev :=
  let etype := s.get Reg.SHD_CFG.ETYPE
  let body := if ring && (ringTag etype l).isSome then removeRingTag l else l
  let s := bump s (sizeBin (frameLen l))
  let s := bump s (addrCounter (fieldBE l 0 6))
  let t := fieldBE body 12 2
  let s := if t = 0x8100 ∨ t = 0x88A8 then bump s 12 else s
  bump s (if pre then 14 else 13)

/-! ### Accounting of the Locker (R99–R102) -/

/-- STATE of a stream context: 0 FREE, 1 ACTIVE, 2 QUARANTINE. -/
def ctxState (s : Dev) (x : Nat) : Nat := s.get (Reg.STM_CTX_STAT.STATE x)
/-- GEN of a stream context. -/
def ctxGen (s : Dev) (x : Nat) : Nat := s.get (Reg.STM_CTX_STAT.GEN x)
/-- A context's state beyond its registers. -/
def ctx (s : Dev) (x : Nat) : Ctx := Tab.get (fun _ => {}) s.ctxs x
/-- Replace it. -/
def setCtx (s : Dev) (x : Nat) (c : Ctx) : Dev := { s with ctxs := Tab.set (fun _ => {}) s.ctxs x c }

end Dev

/-- G and DEPTH of a reservation word: EN, L_MAX [28:15], DEPTH [14:0] (R99). -/
def resvOfWord (w : Nat) : Nat × Nat :=
  if w.testBit 31 then
    let d := w % 32768
    (d * ((w / 32768 % 16384 + 255) / 256), d)
  else (0, 0)

/-- L_MAX of a reservation word. -/
def lmaxOfWord (w : Nat) : Nat := w / 32768 % 16384

namespace Dev

/-- The reservation word that counts for an owner: a context in QUARANTINE keeps the one it held at teardown, and after the hold has none until its next enable (R99, R148). -/
def resvWord (s : Dev) : Owner → Nat
  | .queue q => (s.word (Reg.FRM_Q_A q)).toNat
  | .ctx x => if s.ctxState x = 2 then (s.ctx x).quarResv else if (s.ctx x).released then 0 else (s.word (Reg.FRM_STM_RESV x)).toNat
  | .pass r => (s.word (if r = 0 then Reg.FRM_PASS_A else Reg.FRM_PASS_B)).toNat
  | .device => 0
  | .trace => 0

/-- Granules and descriptors reserved for an owner. -/
def resv (s : Dev) (o : Owner) : Nat × Nat :=
  match o with
  | .device => (512, 512)
  | .trace => (512, 512)
  | o => resvOfWord (s.resvWord o)

/-- Trace frames belong to the device pool. -/
def poolOf : Owner → Owner
  | .trace => .device
  | o => o

/-- Granules and descriptors an owner holds, of frames that satisfy `f`. -/
def held (s : Dev) (o : Owner) (f : Frame → Bool) : Nat × Nat :=
  s.frames.foldl (fun a e => if decide (poolOf e.2.owner = poolOf o) && f e.2 then (a.1 + e.2.granules.length, a.2 + 1) else a) (0, 0)

/-- The owners other than the device pool that have a reservation or hold a frame. -/
def liveOwners (s : Dev) : List Owner :=
  let qs := (s.regs.filter fun e => Nat.ble 0xC3000 e.1 && Nat.blt e.1 0xC3400 && e.1 % 8 == 0 && e.2.toNat.testBit 31).map fun e => (e.1 - 0xC3000) / 8
  let cs := (s.regs.filter fun e => Nat.ble 0xC4000 e.1 && Nat.blt e.1 0xC4800 && e.2.toNat.testBit 31).map fun e => (e.1 - 0xC4000) / 4
  let quar := (s.ctxs.filter fun e => s.ctxState e.1 == 2).map (·.1)
  let hold := s.frames.map fun e => e.2.owner
  ((qs.map Owner.queue ++ (cs ++ quar).map Owner.ctx) ++ ([Owner.pass 0, Owner.pass 1] ++ hold)).eraseDups.filter
    fun o => decide (o ≠ .device) && decide (o ≠ .trace)

/-- Sum of granules and descriptors reserved, the device pool apart (FRM_RESV_GRAN, FRM_RESV_DESC). -/
def resvSum (s : Dev) : Nat × Nat :=
  s.liveOwners.foldl (fun a o => let r := s.resv o; (a.1 + r.1, a.2 + r.2)) (0, 0)

/-- Bank k is in service (FRM_BANK_STATE). -/
def bankIn (s : Dev) (k : Nat) : Bool := (s.get Reg.FRM_BANK_STATE.IN_SERVICE).testBit k

/-- In-service granules; retired ones do not count (R102, R106). -/
def inService (s : Dev) : Nat :=
  ((List.range 24).filter s.bankIn).length * 2048 - (s.retired.filter fun g => s.bankIn (g / 2048)).length

/-- Granules and descriptors taken from the shared pool; what an owner holds beyond a reservation since reduced counts there too (R99, R104). -/
def sharedTaken (s : Dev) : Nat × Nat :=
  let t := s.frames.foldl (fun (a : Nat × Nat) e => if e.2.shared then (a.1 + e.2.granules.length, a.2 + 1) else a) (0, 0)
  s.liveOwners.foldl (fun a o =>
    let h := s.held o fun f => !f.shared
    let r := s.resv o
    (a.1 + (h.1 - r.1), a.2 + (h.2 - r.2))) t

/-- What FRM_FREE_GRAN and FRM_FREE_DESC read (R99). -/
def freeCounts (s : Dev) : Nat × Nat :=
  let sum := (Owner.device :: s.liveOwners).foldl (fun a o =>
    let r := s.resv o
    let h := s.held o fun _ => true
    (a.1 + max r.1 h.1, a.2 + max r.2 h.2)) (0, 0)
  (s.inService - sum.1, 16384 - sum.2)

end Dev

/-- The outcome of asking for granules (R99). -/
inductive Alloc
  /-- Granted, from the reservation or from the shared pool. -/
  | ok (shared : Bool)
  | noDesc
  | noGran
  deriving DecidableEq, Repr

namespace Dev

/-- Every granule in use or retired. -/
def usedGranules (s : Dev) : List Nat := s.frames.flatMap (fun e => e.2.granules) ++ s.retired

/-- The banks that may take new frames, as a mask: in service and not under evacuation (R252). -/
def openMask (s : Dev) : Nat :=
  match s.plc.evac with
  | some (k, _) => s.get Reg.FRM_BANK_STATE.IN_SERVICE &&& (2 ^ 24 - 1 - 2 ^ k % 2 ^ 24)
  | none => s.get Reg.FRM_BANK_STATE.IN_SERVICE

/-- The free granules of the banks that may take new frames. -/
def openRoom (s : Dev) : Nat :=
  let m := s.openMask
  ((List.range 24).filter m.testBit).length * 2048 - (s.usedGranules.filter fun g => m.testBit (g / 2048)).length

/-- Whether an owner gets a descriptor and the granules for a frame of `len` octets (R99). -/
def allocCheck (s : Dev) (o : Owner) (len : Nat) : Alloc :=
  let need := (len + 255) / 256
  let r := s.resv o
  let h := s.held o fun f => !f.shared
  let t := s.frames.foldl (fun (a : Nat × Nat) e => if decide (e.2.owner = .trace) then (a.1 + e.2.granules.length, a.2 + 1) else a) (0, 0)
  if o = .trace ∧ (256 < t.1 + need ∨ 64 < t.2 + 1) then .noDesc
  else if s.openRoom < need then .noGran
  else if h.1 + need ≤ r.1 ∧ h.2 + 1 ≤ r.2 then .ok false
  else
    let sum := s.resvSum
    let tk := s.sharedTaken
    if 16384 < 512 + sum.2 + tk.2 + 1 then .noDesc
    else if s.inService < 512 + sum.1 + tk.1 + need then .noGran
    else .ok true

end Dev

/-- Owner number of the placement tables (spec/11_placement.md). -/
def Owner.key : Owner → Nat
  | .queue q => q
  | .ctx x => 128 + x
  | .pass r => 640 + r
  | .device => 642
  | .trace => 642

/-- The lowest granule of bank `k` not in use. -/
def lowestFree (used : List Nat) (k : Nat) : Nat → Option Nat
  | 0 => none
  | n + 1 => let g := 2048 * k + (2047 - n); if used.contains g then lowestFree used k n else some g

/-- The next bank from `k` on, in rotation, that is in `banks` and has a free granule. -/
def nextBank (used : List Nat) (banks : Nat) (k : Nat) : Nat → Option (Nat × Nat)
  | 0 => none
  | n + 1 =>
    let b := k % 24
    match (if banks.testBit b then lowestFree used b 2048 else none) with
    | some g => some (b, g)
    | none => nextBank used banks (k + 1) n

/-- Take `n` granules round-robin from `banks`, starting at bank `k` (R101). -/
def pickGranules (used : List Nat) (banks k : Nat) : Nat → List Nat × Nat
  | 0 => ([], k)
  | n + 1 =>
    match nextBank used banks k 24 with
    | none => ([], k)
    | some (b, g) =>
      let (l, k') := pickGranules (g :: used) banks (b + 1) n
      (g :: l, k')

/-- The lowest number not among rising keys. -/
def lowestKey {α : Type} : Nat → Tab α → Nat
  | n, [] => n
  | n, e :: t => if e.1 = n then lowestKey (n + 1) t else n

namespace Dev

/-- A descriptor's frame. -/
def frameOf (s : Dev) (d : Nat) : Frame := Tab.get (fun _ => {}) s.frames d
/-- Replace it. -/
def setFrame (s : Dev) (d : Nat) (f : Frame) : Dev := { s with frames := Tab.set (fun _ => {}) s.frames d f }

/-- Write a frame's octets into its granules. -/
def lockerWrite (m : Memory) (data : List Octet) : List Nat → Memory
  | [] => m
  | g :: gs => lockerWrite (Tab.setRun Memory.unlisted m (256 * g) (data.take 256)) (data.drop 256) gs

/-- The staging slot of the frame that port `p` has just received is held until its copy into granules has completed; how long the copy takes is stated nowhere, a free value (R94, log entry 72). -/
def stageCopy (s : Dev) (p : Nat) : Dev :=
  if p < 8 then
    let (w, s) := s.freeWord
    s.modPort p fun x => { x with stage := x.stage.dropLast ++ (x.stage.getLast?.map (· + w)).toList }
  else s

/-- Place a frame for which `allocCheck` answered `ok shared`; its descriptor number is answered with the state (R99, R101). The granules come from the banks assigned to the owner; an owner with no bank assigned, or whose banks lack room, takes them from every bank that takes new frames (log entry 22). -/
def placeFrame (s : Dev) (o : Owner) (shared : Bool) (data : List Octet) (copies ingress : Nat) : Nat × Dev :=
  let s := s.stageCopy ingress
  let set := s.get (Reg.PLC_OWNER_BANKS.BANKS o.key) &&& s.openMask
  let banks := if set = 0 then s.openMask else set
  let start := Tab.get (fun _ => 0) s.bankNext o.key
  let need := (frameLen data + 255) / 256
  let own := pickGranules s.usedGranules banks start need
  let (gs, next) := if own.1.length = need then own else pickGranules s.usedGranules s.openMask start need
  let d := lowestKey 0 s.frames
  let s := s.setFrame d { data := data, owner := o, granules := gs, shared := shared, copies := copies, ingress := ingress, since := s.up }
  (d, { s with bankNext := Tab.set (fun _ => 0) s.bankNext o.key (next % 24), locker := lockerWrite s.locker data gs })

/-! ### Bank sets (R246, R251, R259) -/

/-- MODE as it acts; 3 acts as 0 HOLD. -/
def plcMode (s : Dev) : Nat := s.get Reg.PLC_POLICY.MODE % 3
/-- TARGET of an enabled pin of the Rigger (R259). -/
def pinTarget (s : Dev) (kind item : Nat) : Option Nat :=
  ((List.range 32).find? fun e => s.bit (Reg.PLC_PIN_A.EN e) && s.get (Reg.PLC_PIN_A.KIND e) == kind && s.get (Reg.PLC_PIN_A.ITEM e) == item).map
    fun e => s.get (Reg.PLC_PIN_B.TARGET e)

/-- The owner that a number names. -/
def ownerOf (o : Nat) : Owner :=
  if o < 128 then .queue o else if o < 640 then .ctx (o - 128) else if o < 642 then .pass (o - 640) else .device

/-- Banks of a set. -/
def banksIn (m : Nat) : List Nat := (List.range 24).filter m.testBit
/-- The set of some banks. -/
def bankMask (l : List Nat) : Nat := l.foldl (fun m k => m ||| 2 ^ k) 0

/-- Bank set of an owner. -/
def bankSet (s : Dev) (o : Nat) : Nat := s.get (Reg.PLC_OWNER_BANKS.BANKS o)
/-- The owners that have a bank set, as numbers. -/
def ownersSet (s : Dev) : List Nat :=
  (s.regs.filter fun e => Nat.ble 0x1250000 e.1 && Nat.blt e.1 0x1251000 && e.2 != 0).map fun e => (e.1 - 0x1250000) / 4
/-- The owners that need a bank set: the device pool and those with a reservation. -/
def ownerKeys (s : Dev) : List Nat := 642 :: (s.liveOwners.filter fun o => (s.resv o).1 != 0).map Owner.key
/-- The granules reserved for owner number `o`: G of R99. -/
def ownerG (s : Dev) (o : Nat) : Nat := (s.resv (ownerOf o)).1

/-- What an owner with G granules draws on each bank of a set of `n`. -/
def bankShare (g n : Nat) : Nat := (g + max 1 n - 1) / max 1 n

/-- The granules that owners other than `o` draw on bank `k` (R251). -/
def bankLoad (s : Dev) (o k : Nat) : Nat :=
  s.ownersSet.foldl (fun a x => if x ≠ o ∧ (s.bankSet x).testBit k then a + bankShare (s.ownerG x) (banksIn (s.bankSet x)).length else a) 0

/-- The lowest `n` open banks that each take the owner's share, if there are so many (R251). -/
def takeBanks (s : Dev) (o n : Nat) : Option Nat :=
  let fit := (banksIn s.openMask).filter fun k => Nat.ble (s.bankLoad o k + bankShare (s.ownerG o) n) 2048
  if n ≤ fit.length then some (bankMask (fit.take n)) else none

/-- The bank set the Rigger gives owner `o`: its pin's; the most banks that each take its share in SPREAD; else the lowest, as few as hold its reservation; none where no banks do (R246, R251, R259). -/
def bankChoice (s : Dev) (o : Nat) : Option Nat :=
  match s.pinTarget 1 o with
  | some m => some (m &&& s.openMask)
  | none => (List.range 24).findSome? fun i => s.takeBanks o (if s.plcMode = 2 then 24 - i else i + 1)

/-- Insert an owner before those with fewer granules. -/
def byG (s : Dev) (o : Nat) : List Nat → List Nat
  | [] => [o]
  | x :: l => if s.ownerG o < s.ownerG x then x :: s.byG o l else o :: x :: l

/-- The owners of a list leave their sets and choose again, the largest reservation first. -/
def rechoose (s : Dev) (l : List Nat) : Dev :=
  let s := l.foldl (fun s o => s.put (Reg.PLC_OWNER_BANKS.BANKS o) 0) s
  (l.foldl (fun a o => s.byG o a) []).foldl (fun s o => s.put (Reg.PLC_OWNER_BANKS.BANKS o) ((s.bankChoice o).getD 0)) s

/-- The owners of a list choose again; where that leaves one without a set, every owner that is not pinned does. -/
def rebank (s : Dev) (l : List Nat) : Dev :=
  let t := s.rechoose l
  if l.all fun o => t.bankSet o != 0 then t else s.rechoose ((l ++ s.ownersSet).dedup.filter fun o => (s.pinTarget 1 o).isNone)

/-- The bank set of owner `o` is chosen so that no bank is drawn on for more than 2,048 granules; owners that are not pinned give way to one that is (R251, R259). -/
def setBanks (s : Dev) (o : Nat) : Dev :=
  match s.bankChoice o with
  | none => s.rebank [o]
  | some m =>
    let s := s.put (Reg.PLC_OWNER_BANKS.BANKS o) m
    let full := (banksIn m).filter fun k => Nat.blt 2048 (s.bankLoad 643 k)
    let away := s.ownersSet.filter fun x => (s.pinTarget 1 x).isNone && full.any (s.bankSet x).testBit
    if away = [] then s else s.rebank away

/-! ### Banks leaving service (R106, R252, R262) -/

/-- A move or a domain switch of the Rigger is counted, logged and traced (R262). -/
def plcMove (s : Dev) (kind cause to' frm item : Nat) : Dev :=
  let w := kind * 2 ^ 28 + cause * 2 ^ 24 + to' % 256 * 2 ^ 16 + frm % 256 * 2 ^ 8 + item % 256
  let s := (s.inc Reg.PLC_MOVE_CNT.COUNT).setWord Reg.PLC_MOVE_LAST (BitVec.ofNat 32 w)
  ((s.raise bPLC 0).logStage 2 bPLC 0 0 w).trace 5 0 kind w 0

/-- An enabled pin fixes bank `k` in an owner's set (R259). -/
def bankPinned (s : Dev) (k : Nat) : Bool :=
  (List.range 32).any fun e => s.bit (Reg.PLC_PIN_A.EN e) && s.get (Reg.PLC_PIN_A.KIND e) == 1 && (s.get (Reg.PLC_PIN_B.TARGET e)).testBit k

/-- Whether R102 still holds with bank `k` out of service, and no pin holds it in a set (R259). -/
def evacAllowed (s : Dev) (k : Nat) : Bool :=
  s.bankIn k && !s.bankPinned k && Nat.ble (s.resvSum.1 + 512 + (2048 - (s.retired.filter fun g => g / 2048 == k).length)) s.inService

/-- The end of an evacuation: no frame holds a granule of the bank, and R102 still permits that it leaves service: EVAC_DONE is set and the move recorded (R102, R252, R262). -/
def evacCheck (s : Dev) : Dev :=
  match s.plc.evac with
  | none => s
  | some (k, cause) =>
    if (s.frames.any fun e => e.2.granules.any fun g => g / 2048 == k) || !s.evacAllowed k then s
    else
      let s := { s with plc := { s.plc with evac := none } }
      let s := s.put ⟨Reg.FRM_BANK_STATE, k, 1⟩ 0
      let s := s.put Reg.PLC_EVAC.START 0
      (s.raise bPLC 2).plcMove 1 cause 0 k k

/-- Bank `k` leaves every bank set, the owners that drew on it choosing anew, and its granules are waited for (R251, R252). -/
def evacStart (s : Dev) (k cause : Nat) : Dev :=
  let s := { s with plc := { s.plc with evac := some (k, cause) } }
  let s := s.put Reg.PLC_EVAC.START 1
  (s.rebank (s.ownersSet.filter fun o => (s.bankSet o).testBit k)).evacCheck

/-- The evacuation of bank `k` is asked for: it starts, or it waits while another runs; for a fault also while R102 forbids it, before the others that wait (R252, R263). -/
def evacBegin (s : Dev) (k cause : Nat) : Dev :=
  let queued := decide (s.plc.evac.map (·.1) = some k) || s.plc.evacWait.any (fun e => e.1 == k)
  if queued ∨ ¬ s.bankIn k then s
  else if s.plc.evac.isNone && s.evacAllowed k then s.evacStart k cause
  else if cause = causeFault then { s with plc := { s.plc with evacWait := (k, cause) :: s.plc.evacWait } }
  else if s.plc.evac.isSome then { s with plc := { s.plc with evacWait := s.plc.evacWait ++ [(k, cause)] } }
  else s

/-- An uncorrectable error in bank `k`: it is evacuated and stays out until its march test passes (R106, R252). -/
def bankFault (s : Dev) (k : Nat) : Dev :=
  ({ s with plc := { s.plc with faulty := s.plc.faulty ||| 2 ^ k } }).evacBegin k causeFault

/-- After an evacuation has ended, the first waiting one that R102 permits begins. -/
def evacNext (s : Dev) : Dev :=
  if s.plc.evac.isSome ∨ s.plc.evacWait = [] then s
  else match s.plc.evacWait.find? fun e => s.evacAllowed e.1 with
  | some e => ({ s with plc := { s.plc with evacWait := s.plc.evacWait.filter fun x => x.1 != e.1 } }).evacStart e.1 e.2
  | none => s

/-! ### Releasing copies (R101, R106) -/

/-- One pending copy of descriptor `d` has been sent or discarded; after the last, its granules return, but for the bad ones, which are retired (R101, R106). -/
def releaseCopy (s : Dev) (d : Nat) : Dev :=
  let f := s.frameOf d
  if 1 < f.copies then s.setFrame d { f with copies := f.copies - 1 }
  else
    let s := { s with frames := s.frames.filter fun e => e.1 != d }
    ({ s with retired := s.retired ++ f.bad }).evacCheck.evacNext

/-! ### Queueing (R112, R120, R180) -/

/-- MAC address of a port as a number. -/
def macOf (s : Dev) (p : Nat) : Nat := s.get (Reg.PRT_MACADDR_HI.ADDR p) * 2 ^ 32 + s.get (Reg.PRT_MACADDR_LO.ADDR p)

/-- This node's system address (R158). -/
def sysAddr (s : Dev) : Nat := (s.word Reg.SHD_CFG).toNat % 65536

/-- Ring of a ring port. -/
def ringOf (p : Nat) : Nat := p / 2
/-- The other port of the ring. -/
def otherPort (p : Nat) : Nat := if p % 2 = 0 then p + 1 else p - 1
/-- WRAP_W or WRAP_E of a ring port (R180). -/
def wrapFld (p : Nat) : Fld := if p % 2 = 0 then Reg.SHD_STATE.WRAP_W (p / 2) else Reg.SHD_STATE.WRAP_E (p / 2)
/-- A ring port is wrapped. -/
def wrapped (s : Dev) (p : Nat) : Bool := s.bit (wrapFld p)

/-- The class of priority `prio` on a port (R112). -/
def classOf (s : Dev) (p prio : Nat) : Nat := s.get ⟨Reg.GTE_PRIO_MAP p, 4 * prio, 3⟩

/-- Discard a copy that no window can carry (R120, R151). -/
def dropNeverCarried (s : Dev) (p : Nat) (e : QEnt) : Dev :=
  let s := s.incTx p 16
  let s := match e.ctx with
    | some x => s.incCtx x 2
    | none => s
  s.releaseCopy e.desc

/-- Count and discard a copy that is late, abandoned or cut short (R74, R79, R124, R151). -/
def dropLate (s : Dev) (p : Nat) (e : QEnt) : Dev :=
  let s := s.incTx p 17
  let s := match e.ctx with
    | some x => s.incCtx x 1
    | none => s
  s.releaseCopy e.desc

/-- Put a copy at the end of a class queue; a frame never carried is discarded at the test (R112, R120, R127). -/
def queueCopy (s : Dev) (p c : Nat) (e : QEnt) : Dev :=
  if s.neverCarried p c (frameLen e.data) then s.dropNeverCarried p e
  else
    let s := s.creditSync p c
    let s := { s with credits := Tab.set (fun _ => {}) s.credits (8 * p + c) { s.credit p c with fresh := false } }
    s.setClassQueue p c (s.classQueue p c ++ [{ e with queuedAt := s.up }])

/-- Set the REV flag of a frame's ring tag for the port it leaves by: 1 out of a west port, 0 out of an east port (R157, R160). -/
def withRev (l : List Octet) (west : Bool) : List Octet :=
  patch l 14 (octetsBE 2 (fieldBE l 14 2 % 0x8000 + west.toNat * 0x8000))

/-- The octets of a frame that leaves a ring by its west port or its east port: a ring tag has REV set for it, a frame without one stays as it is (R160, R163). -/
def leavingBy (s : Dev) (l : List Octet) (west : Bool) : List Octet :=
  if (ringTag (s.get Reg.SHD_CFG.ETYPE) l).isSome then withRev l west else l

/-- Send a copy out of ring port `p`, turned to the other port while `p` is wrapped; with both wrapped the node is cut off and discards it, counted in SHD_PASS_LATE (R180). -/
def queueRing (s : Dev) (p c : Nat) (e : QEnt) : Dev :=
  if s.wrapped p then
    let q := otherPort p
    if s.wrapped q then (s.inc (Reg.SHD_PASS_LATE.COUNT (ringOf p))).releaseCopy e.desc
    else s.queueCopy q c { e with data := s.leavingBy e.data (q % 2 == 0) }
  else s.queueCopy p c { e with data := s.leavingBy e.data (p % 2 == 0) }

/-- Send a copy of an own frame out of port `p` with priority `prio`: on a ring port it gets the ring tag, goes to class 7 in an owned slot and never otherwise (R112, R159, R160). -/
def sendOwn (s : Dev) (p prio : Nat) (slot : Bool) (e : QEnt) : Dev :=
  let c := s.classOf p prio
  if p < 4 then
    let c := if slot then 7 else if c = 7 then 6 else c
    let data := insertRingTag e.data (s.get Reg.SHD_CFG.ETYPE) (ringFlags false slot false 0) s.sysAddr
    s.queueRing p c { e with data := data }
  else s.queueCopy p c e

/-- Allocate an own frame in the device pool; the descriptor and the state, or none where it finds no room (R99). -/
def allocDevice (s : Dev) (o : Owner) (data : List Octet) (copies : Nat) : Option (Nat × Dev) :=
  match s.allocCheck o (frameLen data) with
  | .ok sh => some (s.placeFrame o sh data copies 8)
  | _ => none

/-! ### Mizal control frames (R164, R182) -/

/-- A Mizal control frame: broadcast, ring tag with CTRL, control header and body, padded to 60 octets before the FCS. -/
def controlFrame (s : Dev) (p : Nat) (slot : Bool) (type bcast : Nat) (dst : Nat) (body : List Octet) : List Octet :=
  padTo 60 ((octetsBE 6 0xFFFFFFFFFFFF ++ octetsBE 6 (s.macOf p))
    ++ (octetsBE 2 (s.get Reg.SHD_CFG.ETYPE) ++ octetsBE 2 (ringFlags false slot true 0) ++ octetsBE 2 s.sysAddr)
    ++ (octetsBE 1 type ++ octetsBE 1 1 ++ octetsBE 1 (bcast * 0x80 + ringOf p) ++ octetsBE 1 0 ++ octetsBE 2 dst ++ octetsBE 2 body.length)
    ++ body)

/-- Send one fault notice on ring `r` in class 6 out of its east port, from the device pool (R182). -/
def noticeOn (s : Dev) (r code subject detail : Nat) : Dev :=
  let p := 2 * r + 1
  let body := octetsBE 1 code ++ octetsBE 1 0 ++ octetsBE 2 subject ++ octetsBE 12 (stampOf s.now) ++ octetsBE 4 detail
  let data := s.controlFrame p false 3 1 0 body
  match s.allocDevice .device data 1 with
  | none => s
  | some (d, s) => (s.queueRing p 6 { desc := d, data := data }).inc (Reg.SHD_NOTICE_SENT.COUNT r)

/-- Send a fault notice on every enabled ring (R182). -/
def notice (s : Dev) (code subject detail : Nat) : Dev :=
  (List.range 2).foldl (fun s r => if s.bit (Reg.SHD_RING_CFG.EN r) then s.noticeOn r code subject detail else s) s

end Dev

end Sys2Proof.Machine
end

