-- ==== Sys2Proof/Machine/PlaceBase.lean ====
section
/-! DEFINITION. Moves of the Rigger and their records (R262), switching of single power domains (R376), and the request lines of Tackle (R319). -/

namespace Sys2Proof.Machine

/-- The block whose header lies in domain `d`, of those domains that may be switched off in Run (R10, R17). -/
def domBlock (d : Nat) : Option Nat :=
  if 5 ≤ d ∧ d ≤ 12 then some (bPRT (d - 5))
  else if d = 68 then some bANG
  else if d = 69 ∨ d = 70 then some (bDMA (d - 69))
  else if d = 76 then some bTRC
  else none

namespace Dev

/-! ### Power domains (R376) -/

/-- The register words that lie in power domain `d`, of those domains that may be switched on and off in Run (R17), the FLT_CFG words of a header among them (R20). -/
def domKey (d k : Nat) : Bool :=
  if (match domBlock d with
    | some b => Nat.ble (fltCfgAddr b 0) k && Nat.blt k (fltCfgAddr b 32)
    | none => false) then true
  else if 5 ≤ d ∧ d ≤ 12 then decide (blockAt k = some (bPRT (d - 5)))
  else if 61 ≤ d ∧ d ≤ 67 then
    Nat.ble 0x200000 k && Nat.blt k 0x280000 && (k - 0x200000) / 0x10000 == d - 60 && Nat.ble 0x2000 ((k - 0x200000) % 0x4000)
  else if d = 68 then decide (blockAt k = some bANG)
  else if d = 69 ∨ d = 70 then
    decide (blockAt k = some (bDMA (d - 69))) && !(k == Reg.DMA_JOB_EN_LO || k == Reg.DMA_JOB_EN_HI || k == Reg.DMA_REQ_OVF || (Nat.ble (Reg.DMA_REQ_SET 0) k && Nat.blt k (Reg.DMA_REQ_CNT 128)))
  else if d = 76 then decide (blockAt k = some bTRC)
  else false

/-- A domain that is switched off keeps nothing: it comes on with its registers, its header's fault unit and LAST_TS among them, and its state at reset (R20, R376). -/
def domLose (s : Dev) (d : Nat) : Dev :=
  let s := { s with regs := s.regs.filter fun e => !domKey d e.1 }
  let s := match domBlock d with
    | some b => { s with flt := s.flt.filter (fun e => e.1 / 32 != b), lastTs := s.lastTs.filter fun e => e.1 != b }
    | none => s
  if 5 ≤ d ∧ d ≤ 12 then
    { s with
      ports := s.ports.filter fun e => e.1 != d - 5
      mdio := (s.mdio.take 1).map (fun e => if e.1 = d - 5 then (e.1, e.2.1, true) else e) ++ (s.mdio.drop 1).filter fun e => e.1 != d - 5 }
  else if 61 ≤ d ∧ d ≤ 67 then
    { s with
      chks := s.chks.filter fun e => e.1 / 4 != d - 60
      chans := s.chans.filter fun e => e.1 / 64 != d - 60 }
  else if d = 68 then { s with angs := [] }
  else if d = 76 then { s with trc := {} }
  else s

/-- Bit d of PWR_DOM_FAIL. -/
def domFailFld (d : Nat) : Fld := ⟨Reg.PWR_DOM_FAIL (d / 32), d % 32, 1⟩
/-- Bit d of PLC_DOM_OFF: the Rigger holds the domain off. -/
def domOffFld (d : Nat) : Fld := ⟨Reg.PLC_DOM_OFF (d / 32), d % 32, 1⟩
/-- The domains whose power the Rigger decides (R245). -/
def riggerDom (d : Nat) : Bool := (Nat.ble 19 d && Nat.ble d 42) || (Nat.ble 44 d && Nat.ble d 59) || d == 69 || d == 70 || d == 78

/-- A domain that is off begins to switch on. -/
def domStart (s : Dev) (d : Nat) : Dev :=
  if s.domOn d ∨ s.pwr.switching.testBit d then s
  else { s with pwr := { s.pwr with switching := s.pwr.switching ||| 2 ^ d } }

/-- The Rigger switches a domain on (R258). -/
def plcDomOn (s : Dev) (d cause : Nat) : Dev :=
  if s.domOn d ∨ s.pwr.switching.testBit d then s
  else ((s.domStart d).put (domOffFld d) 0).plcMove 5 cause 0 0 d

/-- A domain is switched off; nothing of it is retained. -/
def domStop (s : Dev) (d : Nat) : Dev :=
  let s := (s.domLose d).setDom d false
  { s with pwr := { s.pwr with retained := s.pwr.retained &&& (2 ^ 80 - 1 - 2 ^ d), switching := s.pwr.switching &&& (2 ^ 80 - 1 - 2 ^ d) } }

/-! ### Pairs of the Lathe (R190) -/

/-- How many pairs are in state `st`. -/
def pairCount (s : Dev) (st : Nat) : Nat := ((List.range 68).filter fun p => s.get (Reg.CEL_PAIR_STAT.STATE p) == st).length

/-- Put pair `p` in a state (0 spare, 1 in use, 2 out of service, 3 off) and bring CEL_SPARES up to date. -/
def setPair (s : Dev) (p st : Nat) : Dev :=
  let s := s.put (Reg.CEL_PAIR_STAT.STATE p) st
  (s.put Reg.CEL_SPARES.SPARE_NOW (s.pairCount 0)).put Reg.CEL_SPARES.OUT_NOW (s.pairCount 2)

/-- The pairs of a Lathe group. -/
def groupPairs (g : Nat) : List Nat := [4 * g, 4 * g + 1, 4 * g + 2, 4 * g + 3]

/-- The pairs of a Lathe group become off with it; of those out of service the device keeps that they are (R190; log entry 74). -/
def pairsOff (s : Dev) (g : Nat) : Dev :=
  (groupPairs g).foldl (fun s p =>
    let s := if s.get (Reg.CEL_PAIR_STAT.STATE p) = 2 then { s with plc := { s.plc with removed := p :: s.plc.removed } } else s
    s.setPair p 3) s

/-- The pairs of a Lathe group that has come on: spare, or out of service as before (R190, R215). -/
def pairsOn (s : Dev) (g : Nat) : Dev :=
  let s := (groupPairs g).foldl (fun s p => if s.get (Reg.CEL_PAIR_STAT.STATE p) = 3 then s.setPair p (if s.plc.removed.contains p then 2 else 0) else s) s
  { s with plc := { s.plc with removed := s.plc.removed.filter fun p => p / 4 != g } }

/-- The Rigger switches an empty domain off (R258). -/
def plcDomOff (s : Dev) (d cause : Nat) : Dev :=
  let s := ((s.domStop d).put (domOffFld d) 1).plcMove 4 cause 0 0 d
  if 44 ≤ d ∧ d ≤ 59 then s.pairsOff (d - 43) else s

/-- The domain of Lathe group `g`. -/
def groupDom (g : Nat) : Nat := 43 + g

/-! ### Request lines (R319) -/

/-- One request on line `r`; a full counter loses it. -/
def request (s : Dev) (r : Nat) : Dev :=
  let f := Reg.DMA_REQ_CNT.COUNT r
  if s.get f = 255 then ((s.inc Reg.DMA_REQ_OVF.COUNT).raise (bDMA 0) 2).raise (bDMA 1) 2
  else s.inc f

end Dev

end Sys2Proof.Machine
end

