-- ==== Sys2Proof/Machine/Views.lean ====
section
/-! DEFINITION. What a register word reads as: the stored word with the parts the device derives (R6, R20, R400). Windows behind selectors are resolved by the host path, so keys here are those of the stores. -/

namespace Sys2Proof.Machine

namespace Dev

/-- The source whose opening is the earliest still open (R345). -/
def firstSrc (s : Dev) (b : Nat) : Nat :=
  let opened := (List.range 32).filter fun n => s.bit (stickyBit b n)
  match opened with
  | [] => 0
  | n :: rest => rest.foldl (fun m n => if (s.fltSrc b n).openAt < (s.fltSrc b m).openAt then n else m) n

/-- The highest class among open sources (R347). -/
def blockClass (s : Dev) (b : Nat) : Nat :=
  ((List.range 32).filter fun n => s.bit (stickyBit b n)).foldl (fun m n => max m (s.fltSrc b n).cls.code) 0

/-- FLT_CLASS of block `b`. -/
def fltClassWord (s : Dev) (b : Nat) : Nat :=
  let sel := s.get ⟨blockBase b + 0x2C, 0, 5⟩
  (s.fltSrc b sel).cls.code * 0x10000 + s.firstSrc b * 0x100 + s.blockClass b

/-- The word of a common header register (R20). -/
def headerWord (s : Dev) (b o : Nat) : Nat :=
  let ts := Tab.get (fun _ => 0) s.lastTs b
  let sel := s.get ⟨blockBase b + 0x2C, 0, 5⟩
  if o = 8 then s.statusView b
  else if o = 0x24 then s.fltClassWord b
  else if o = 0x28 then (s.fltSrc b sel).merged
  else if o = 0x30 then (if sel < sourceCount b then (s.word (fltCfgAddr b sel)).toNat else 0)
  else if o = 0x40 then ts % 2 ^ 32
  else if o = 0x44 then ts / 2 ^ 32 % 2 ^ 32
  else if o = 0x48 then ts / 2 ^ 64 % 2 ^ 32
  else (s.word (blockBase b + o)).toNat

/-- A cell's state beyond its registers. -/
def cell (s : Dev) (c : Nat) : Cell := Tab.get (fun _ => {}) s.cells c
/-- Replace it. -/
def setCell (s : Dev) (c : Nat) (x : Cell) : Dev := { s with cells := Tab.set (fun _ => {}) s.cells c x }
/-- Change it. -/
def modCell (s : Dev) (c : Nat) (f : Cell → Cell) : Dev := s.setCell c (f (s.cell c))
/-- A Chuck channel's state, n = 16 × port + channel. -/
def chan (s : Dev) (n : Nat) : Chan := Tab.get (fun _ => {}) s.chans n
/-- Replace it. -/
def setChan (s : Dev) (n : Nat) (x : Chan) : Dev := { s with chans := Tab.set (fun _ => {}) s.chans n x }
/-- Change it. -/
def modChan (s : Dev) (n : Nat) (f : Chan → Chan) : Dev := s.setChan n (f (s.chan n))
/-- A Chuck port's state. -/
def chk (s : Dev) (k : Nat) : ChkPort := Tab.get (fun _ => {}) s.chks k
/-- Replace it. -/
def setChk (s : Dev) (k : Nat) (x : ChkPort) : Dev := { s with chks := Tab.set (fun _ => {}) s.chks k x }
/-- Change it. -/
def modChk (s : Dev) (k : Nat) (f : ChkPort → ChkPort) : Dev := s.setChk k (f (s.chk k))
/-- A Scribe pin's state. -/
def pin (s : Dev) (p : Nat) : Pin := Tab.get (fun _ => {}) s.pins p
/-- Replace it. -/
def setPin (s : Dev) (p : Nat) (x : Pin) : Dev := { s with pins := Tab.set (fun _ => {}) s.pins p x }
/-- Change it. -/
def modPin (s : Dev) (p : Nat) (f : Pin → Pin) : Dev := s.setPin p (f (s.pin p))
/-- A memory channel's state. -/
def chn (s : Dev) (c : Nat) : Chn := Tab.get (fun _ => {}) s.chns c
/-- Replace it. -/
def setChn (s : Dev) (c : Nat) (x : Chn) : Dev := { s with chns := Tab.set (fun _ => {}) s.chns c x }
/-- A DMA job's state. -/
def job (s : Dev) (j : Nat) : Job := Tab.get (fun _ => {}) s.jobs j
/-- Replace it. -/
def setJob (s : Dev) (j : Nat) (x : Job) : Dev := { s with jobs := Tab.set (fun _ => {}) s.jobs j x }

/-- Bit `b` of STA_GRAVE: block `b` is GRAVE (R351). -/
def isGrave (s : Dev) (b : Nat) : Bool := (s.word Reg.STA_GRAVE).toNat.testBit b

/-- The pin drives SAFE_LVL: not enabled, in SAFE, GRAVE, or no edge executed since (R239, R240). -/
def pinSafe (s : Dev) (p : Nat) : Bool :=
  !s.bit (Reg.SCR_PIN_CFG.EN p) || !(s.pin p).driven || s.isGrave bSCR || s.isGrave bSMP || s.isGrave bCEL || s.isGrave bANG

/-- The level the pin drives; none at high impedance. -/
def pinLevel (s : Dev) (p : Nat) : Option Bool :=
  if s.pinSafe p then
    match s.get (Reg.SCR_PIN_CFG.SAFE_LVL p) with
    | 0 => some false
    | 1 => some true
    | _ => none
  else some (s.bit (Reg.SCR_PIN_STAT.LEVEL p))

/-- Job `j` is enabled (R311). -/
def jobEn (s : Dev) (j : Nat) : Bool := if j < 32 then s.bit ⟨Reg.DMA_JOB_EN_LO, j, 1⟩ else s.bit ⟨Reg.DMA_JOB_EN_HI, j - 32, 1⟩

/-- Bytes that a real-time port has buffered for a channel (R338): capture records for RT0, log entries and trace records for RT1. -/
def rtFill (s : Dev) (q ch : Nat) : Nat :=
  if q = 0 then (((s.chn ch).waits.filter fun a => a.port == 0).map fun a => a.writes.length).foldl (· + ·) 0
  else if q = 1 ∧ s.get Reg.MEM_RT1_CFG.CH = ch then
    (if s.bit Reg.STA_LOG_CFG.EN && !s.log.memFail && !s.log.dead then 32 * s.log.staged.length else 0) + 24 * s.trc.dram.recs.length
  else 0

/-- MEM_PORT_STAT: the stored panic bits and the fills in 256-byte units. -/
def portStatWord (s : Dev) (q : Nat) : Nat :=
  if 1 < q then 0
  else (s.word (Reg.MEM_PORT_STAT q)).toNat / 2 ^ 30 * 2 ^ 30 + min 255 (s.rtFill q 1 / 256) * 2 ^ 16 + min 255 (s.rtFill q 0 / 256)

/-- The word of key `k` of the angle unit's domain sets that is derived. -/
def angWord (s : Dev) (k : Nat) : Nat :=
  let d := (k - 0x30200) / 0x40
  let o := (k - 0x30200) % 0x40
  if o = 0x1C then s.angStamp d % 2 ^ 32
  else if o = 0x20 then s.angStamp d / 2 ^ 32
  else if o = 0x24 then s.angSpeed d
  else (s.word k).toNat

/-- Words of the SMP window that are derived. -/
def smpWord (s : Dev) (k : Nat) : Nat :=
  let port := (k - 0x200000) / 0x4000
  let o := (k - 0x200000) % 0x4000
  let base := (s.word k).toNat
  if 0x2000 ≤ o ∧ port < 32 ∧ ¬ s.domOn (60 + port / 4) then 0
  else if o = 0x2008 then
    let x := s.chk port
    (if x.safeDoms = [] then 0 else 2 ^ 31) + (if x.txn = none then 0 else 2 ^ 30) + x.cmds.length * 2 ^ 16
  else if 0x2400 ≤ o ∧ o < 0x2C00 ∧ o % 0x80 = 0x64 then
    fieldSet base 28 1 (s.chan (16 * port + (o - 0x2400) / 0x80)).due.isSome.toNat
  else base

/-- Words of the Scribe window that are derived. -/
def scrWord (s : Dev) (k : Nat) : Nat :=
  if k = Reg.SCR_SAFE_STAT then (List.range 32).foldl (fun m p => if s.pinSafe p then m + 2 ^ p else m) 0
  else if k = Reg.SCR_LEVEL then (List.range 32).foldl (fun m p => if (s.pin p).pad then m + 2 ^ p else m) 0
  else if 0x27C200 ≤ k ∧ k < 0x27C600 ∧ (k - 0x27C200) % 0x20 = 4 then
    let p := (k - 0x27C200) / 0x20
    (s.pinSafe p).toNat * 2 ^ 31 + (s.pinLevel p == some true).toNat * 2 ^ 30 + (s.pin p).queue.length
  else (s.word k).toNat

/-- Words of the GTE window that are derived: GTE_PREEMPT_STAT and GTE_CBS_CREDIT. -/
def gteWord (s : Dev) (k : Nat) : Nat :=
  let p := (k - 0xD1000) / 0x200
  let o := (k - 0xD1000) % 0x200
  let base := (s.word k).toNat
  if 0xD1000 ≤ k ∧ k < 0xD2000 then
    if k = Reg.GTE_PREEMPT_STAT p then base % 8 + (s.preemptActive p).toNat * 8 + (s.port p).hold.isSome.toNat * 16
    else
      match (List.range 8).find? fun c => k == Reg.GTE_CBS_CREDIT p c with
      | some c => ofSigned 32 (s.creditNow p c / (65536 * 1000000))
      | none => if o < 0x200 then base else 0
  else base

/-- tRFCab or tRFCpb in ns of a channel's density (R325). -/
def trfc (s : Dev) (ch : Nat) (all : Bool) : Nat :=
  let d := s.get (Reg.MEM_CH_STAT.DENSITY ch)
  if all then [180, 280, 380, 380].getD d 380 else [90, 140, 190, 190].getD d 190

/-- A, the refresh multiplier of ADMIT_MULT. -/
def admitMult (s : Dev) : Nat := 2 ^ min 2 (s.get Reg.MEM_CFG.ADMIT_MULT)

/-- MT/s of a RATE_NOW code (R344). -/
def dramRate (c : Nat) : Nat := [1600, 2133, 3200, 3733, 4266].getD c 4266

/-- 0.8 × B_d in whole MB/s of a ready channel (R341). -/
def memLimit (s : Dev) (ch : Nat) : Nat :=
  let st := s.get (Reg.MEM_CH_STAT.STATE ch)
  if st = 2 ∨ st = 4 then
    12 * dramRate (s.get (Reg.MEM_CH_STAT.RATE_NOW ch)) * (3904 - s.admitMult * s.trfc ch (s.bit Reg.MEM_CFG.REFRESH_MODE)) / 39040
  else 0

/-- The measured offset of R30 at this instant in 2^-40 ns: that of the last Sync, its magnitude lowered by the correction that RATE has applied since. A RATE that works against the offset lowers nothing. -/
def offsetNow (s : Dev) : Int :=
  let th := s.tim.theta
  let a := s.tim.applied
  if 0 ≤ th then max 0 (th - max 0 a) else min 0 (th - min 0 a)

/-- What key `k` of a block's own registers reads as; the words behind the selectors that all requesters share are resolved. -/
def ownWord (s : Dev) (k : Nat) : Nat :=
  let base := (s.word k).toNat
  if k = Reg.TIM_OFFSET then ofSigned 32 (max (-2147483647) (min 2147483647 (s.offsetNow.tdiv (2 ^ 40))))
  else if k = Reg.TIM_HANDOVER then ofSigned 32 (s.tim.hand.tdiv (2 ^ 40))
  else if k = 0x20164 then (s.word (Reg.TIM_PORT_CFG (s.get Reg.TIM_PORT_SEL.PORT))).toNat
  else if k = 0x20168 then (s.word (Reg.TIM_LAT (s.get Reg.TIM_PORT_SEL.PORT))).toNat
  else if k = 0x280134 then (if s.get Reg.PLC_OWNER_SEL.OWNER ≤ 642 then (s.word (Reg.PLC_OWNER_BANKS (s.get Reg.PLC_OWNER_SEL.OWNER))).toNat else 0)
  else if k = 0x30014C then (s.word (Reg.IST_EYE (s.get Reg.IST_EYE_SEL.LANE))).toNat
  else if k = Reg.TIM_NOW_LO then stampOf s.now % 2 ^ 32
  else if k = Reg.TIM_NOW_MID then stampOf s.now / 2 ^ 32 % 2 ^ 32
  else if k = Reg.TIM_NOW_HI then stampOf s.now / 2 ^ 64 % 2 ^ 32
  else if k = Reg.TIM_COMPAT then forerunner s.now
  else if 0x30200 ≤ k ∧ k < 0x30400 then s.angWord k
  else if k = Reg.FRM_RESV_GRAN then s.resvSum.1 % 65536
  else if k = Reg.FRM_RESV_DESC then s.resvSum.2 % 32768
  else if k = Reg.FRM_FREE_GRAN then s.freeCounts.1
  else if k = Reg.FRM_FREE_DESC then s.freeCounts.2
  else if 0xC3000 ≤ k ∧ k < 0xC3400 ∧ k % 8 = 4 then
    fieldSet base 16 15 (Tab.get (fun _ => []) s.rxQ ((k - 0xC3000) / 8)).length
  else if 0xD0000 ≤ k ∧ k < 0xE0000 then s.gteWord k
  else if k = Reg.STM_HALF_FIRST then
    match s.stmHalf with
    | [] => base
    | x :: _ => 2 ^ 31 + x
  else if 0xE8000 ≤ k ∧ k < 0xF0000 ∧ 0x38 ≤ (k - 0xE8000) % 64 then
    let h := s.get (Reg.STM_CTX_CFG.HIST_LEN ((k - 0xE8000) / 64))
    let n := if h = 0 then 64 else h
    if (k - 0xE8000) % 64 = 0x38 then base % 2 ^ n else base % 2 ^ (n - 32)
  else if k = Reg.SHD_LINK_DELAY 0 ∨ k = Reg.SHD_LINK_DELAY 1 then
    let r := if k = Reg.SHD_LINK_DELAY 0 then 0 else 1
    let d (p : Nat) : Nat := min 65535 ((Tab.get (fun _ => 0) s.tim.delay p - 1) / 65536)
    d (2 * r + 1) * 65536 + d (2 * r)
  else if 0x101000 ≤ k ∧ k < 0x103000 ∧ (k - 0x101000) % 0x80 = 0x20 then
    fieldSet base 24 3 (s.cell ((k - 0x101000) / 0x80)).queue.length
  else if 0x27C000 ≤ k ∧ k < 0x27E000 then s.scrWord k
  else if 0x200000 ≤ k ∧ k < 0x280000 then s.smpWord k
  else if 0x280300 ≤ k ∧ k < 0x280344 then
    (if s.domOn (groupDom ((k - 0x280300) / 4)) then base % 2 ^ 31 else base % 2 ^ 31 + 2 ^ 31)
  else if k = Reg.DCT_STAGED then s.dct.waiting.length * 65536 + s.dct.staged.length
  else if k = Reg.MEM_CH_STAT 0 ∨ k = Reg.MEM_CH_STAT 1 then
    (if s.up < (s.chn (if k = Reg.MEM_CH_STAT 0 then 0 else 1)).retrainTill ∧ base / 2 ^ 29 = 2 then fieldSet base 29 3 4 else base)
  else if k = Reg.MEM_CH_LIMIT 0 ∨ k = Reg.MEM_CH_LIMIT 1 then s.memLimit (if k = Reg.MEM_CH_LIMIT 0 then 0 else 1)
  else if 0x2D0200 ≤ k ∧ k < 0x2D0250 ∧ k % 16 = 4 then s.portStatWord ((k - 0x2D0200) / 16)
  else if k = Reg.STA_LOG_STAGE then s.log.frozen * 256 + s.log.staged.length
  else if k = Reg.TRC_FILL then s.trc.dram.recs.length * 2 ^ 18 + s.trc.port.recs.length * 2 ^ 9 + s.trc.pin.recs.length
  else if 0x1270000 ≤ k ∧ k < 0x1272000 then
    let j := (k - 0x1270000) / 0x80
    if ¬ s.jobEn j then 0
    else if (k - 0x1270000) % 0x80 = 0x14 then fieldSet base 31 1 (s.get (Reg.DMA_STAT.STATE j) == 1).toNat
    else if (k - 0x1270000) % 0x80 = 0x54 then fieldSet base 31 1 (s.get (Reg.DMA_STAT.ARMED j))
    else base
  else if k = Reg.PWR_LOOP_STAT then
    (if s.bit (ctlBit bPWR 16) then 0 else (List.range 8).foldl (fun m g => if s.domOn (60 + g) then m + 2 ^ g else m) 0)
  else if k = Reg.GLB_PCIE_ID then 0x51200000 + Config.vendorId.toNat
  else if k = Reg.GLB_PCIE_SUBSYS then Config.subsystemId.toNat * 65536 + Config.subsystemVendor.toNat
  else base

/-- What key `k` reads as: derived parts in place, write-only bits 0 (R6). The header of a block lies at its window base. -/
def viewWord (s : Dev) (k : Nat) : Nat :=
  match blockAt k with
  | some b =>
    if k - blockBase b < 0x100 then s.headerWord b (k - blockBase b)
    else s.ownWord k &&& (0xFFFFFFFF - (masksOf b k).wo)
  | none =>
    if k < 0x1000000 then (s.word k).toNat
    else s.ownWord k &&& (0xFFFFFFFF - (masksOf 0 k).wo)

/-! ### Captures (R400) -/

/-- The number of a requester in the capture and selector stores. -/
def reqNum : Requester → Nat
  | .pcie => 0 | .spi => 1 | .dict => 2

/-- How many words the multi-word value has whose lowest word lies at key `k`: those whose register tables say that a read captures; 1 elsewhere. -/
def captureLen (k : Nat) : Nat :=
  let hdr := match blockAt k with
    | some b => k - blockBase b == 0x40
    | none => false
  if hdr then 3
  else if k = Reg.TIM_NOW_LO then 4
  else if k = Reg.GLB_BOOT_ID_LO then 2
  else if 0x30200 ≤ k ∧ k < 0x30400 ∧ k % 0x40 = 0x1C then 2
  else if 0xE8000 ≤ k ∧ k < 0xF0000 ∧ k % 0x40 = 0x38 then 2
  else if 0x1200000 ≤ k ∧ k < 0x1220000 ∧ k % 0x20 = 4 then 2
  else if k = Reg.DMA_BUS_ERR_LO 0 ∨ k = Reg.DMA_BUS_ERR_LO 1 then 2
  else if 0x200000 ≤ k ∧ k < 0x280000 ∧ 0x2400 ≤ k % 0x4000 ∧ k % 0x4000 < 0x2C00 ∧ k % 0x80 = 0x4C then 6
  else 1

/-- Key `k` is a higher word of a value that a read captures. -/
def captureHigh (k : Nat) : Bool := (List.range 5).any fun i => Nat.ble (4 * (i + 1)) k && Nat.blt (i + 1) (captureLen (k - 4 * (i + 1)))

/-- Where the captured word of key `k` lies for requester `r`. -/
def captureKey (r : Requester) (k : Nat) : Nat := 2 ^ 26 * reqNum r + k

/-- A read of the lowest word captures every word of the value for the requester. -/
def capture (s : Dev) (r : Requester) (k : Nat) : Dev :=
  if captureLen k = 1 then s
  else
    let m := (List.range (captureLen k)).foldl
      (fun m i => Tab.set (fun _ => 0) m (captureKey r (k + 4 * i)) (BitVec.ofNat 32 (s.viewWord (k + 4 * i)))) s.captured
    { s with captured := m }

/-- What requester `r` reads of key `k`: a higher word of a captured value as it was captured, 0 before any capture. -/
def readWord (s : Dev) (r : Requester) (k : Nat) : Nat :=
  if captureHigh k then (Tab.get (fun _ => 0) s.captured (captureKey r k)).toNat else s.viewWord k

/-- The selectors that are kept for each requester: GTE_LIST_SEL, SHD_SLOT_SEL, CEL_TBL_SEL, AUT_CLIENT_SEL (R408). -/
def isSelector (k : Nat) : Bool := k == Reg.GTE_LIST_SEL || k == Reg.SHD_SLOT_SEL || k == Reg.CEL_TBL_SEL || k == Reg.AUT_CLIENT_SEL

/-- The selector word of a requester. -/
def selWord (s : Dev) (r : Requester) (k : Nat) : Word :=
  match r with
  | .pcie => s.word k
  | r => Tab.get (fun _ => 0) s.sels (captureKey r k)

/-- Store it. -/
def setSel (s : Dev) (r : Requester) (k : Nat) (v : Word) : Dev :=
  match r with
  | .pcie => s.setWord k v
  | r => { s with sels := Tab.set (fun _ => 0) s.sels (captureKey r k) v }

/-- What the dictionary engine reads of key `k`. -/
def dictWord (s : Dev) (k : Nat) : Nat := if isSelector k then (s.selWord .dict k).toNat else s.readWord .dict k

end Dev

end Sys2Proof.Machine
end

