-- ==== Sys2Proof/Machine/MemBase.lean ====
section
/-! DEFINITION. The memory controller as its writers see it (R326, R336–R340): channels of addresses, panic, the real-time write buffers, and what RT1 has to write (R361, R396). -/

namespace Sys2Proof.Machine

/-- The channel of a DRAM address (R326). -/
def memChan (a : Nat) : Nat := if a < 0x80000000 then 0 else 1

/-- States of a channel (MEM_CH_STAT.STATE). -/
abbrev chAbsent := 0
abbrev chTraining := 1
abbrev chReady := 2
abbrev chDown := 3
abbrev chRetraining := 4

namespace Dev

/-- STATE of a memory channel. -/
def chState (s : Dev) (ch : Nat) : Nat := s.get (Reg.MEM_CH_STAT.STATE ch)
/-- The channel holds contents and takes accesses now or after a retraining. -/
def chUp (s : Dev) (ch : Nat) : Bool := s.chState ch == chReady || s.chState ch == chRetraining

/-- Bytes of usable memory on a channel (R325). -/
def usable (s : Dev) (ch : Nat) : Nat := s.get (Reg.MEM_CH_USABLE.SIZE ch) * 65536

/-- A range of DRAM addresses lies in usable memory of one channel (R326). -/
def inUsable (s : Dev) (a n : Nat) : Bool :=
  Nat.ble (a % 0x80000000 + n) (s.usable (memChan a)) && Nat.blt a 0x100000000

/-- PANIC of port `q` on channel `ch`. -/
def panicFld (q ch : Nat) : Fld := ⟨Reg.MEM_PORT_STAT q, 30 + ch, 1⟩

/-- A port's panic on a channel follows its fill (R338). -/
def panicOne (s : Dev) (q ch : Nat) : Dev :=
  let fill := s.rtFill q ch
  let inPanic := s.bit (panicFld q ch)
  if ¬ inPanic ∧ s.get (Reg.MEM_PORT_CFG.PANIC_LEVEL q) * 256 ≤ fill then
    ((s.put (panicFld q ch) 1).inc (Reg.MEM_PANIC_CNT.COUNT q)).raise bMEM 2
  else if inPanic ∧ fill < s.get (Reg.MEM_PORT_CFG.PANIC_CLEAR q) * 256 then s.put (panicFld q ch) 0
  else s

/-- Panic of both real-time ports on both channels. -/
def panicUpdate (s : Dev) : Dev := (((s.panicOne 0 0).panicOne 0 1).panicOne 1 0).panicOne 1 1

/-- A write of the Chuck offered to RT0: taken, or counted and refused (R338, R339). -/
def rtWrite (s : Dev) (ch : Nat) (a : Acc) : Bool × Dev :=
  if ¬ s.chUp ch then (false, s.inc (Reg.MEM_PORT_OVF.COUNT 0))
  else if 32768 < s.rtFill 0 ch + a.writes.length then (false, (s.inc (Reg.MEM_PORT_OVF.COUNT 0)).fault bMEM 3)
  else
    let c := s.chn ch
    (true, (s.setChn ch { c with waits := c.waits ++ [a], stallFrom := some (c.stallFrom.getD s.up) }).panicUpdate)

/-! ### RT1: the log and the trace output (R361, R396) -/

/-- The clamp of the two SIZE_LOG fields. -/
def ringLog (v : Nat) : Nat := max 10 (min 20 v)

/-- DRAM address of entry number `k` of the event log (R361). -/
def logAddr (s : Dev) (k : Nat) : Nat := 64 * s.get Reg.STA_LOG_BASE.BASE + 32 * (k % 2 ^ ringLog (s.get Reg.STA_LOG_CFG.SIZE_LOG))

/-- DRAM address of trace record `k` (R396). -/
def trcAddr (s : Dev) (k : Nat) : Nat := 64 * s.get Reg.TRC_DRAM_BASE.BASE + 32 * (k % 2 ^ ringLog (s.get Reg.TRC_DRAM_CFG.SIZE_LOG))

/-- Channel that carries RT1. -/
def rt1Chan (s : Dev) : Nat := s.get Reg.MEM_RT1_CFG.CH

/-- The ring of 2^SIZE_LOG entries of 32 octets lies in usable memory of the RT1 channel (R361). -/
def ringFits (s : Dev) (base size : Nat) : Bool :=
  memChan (64 * base) == s.rt1Chan && s.inUsable (64 * base) (32 * 2 ^ ringLog size)

/-- The log has an entry to write: enabled, not failed, and not in Doze (R361, R362, R372). -/
def logWrites (s : Dev) : Bool :=
  let held : Bool := match s.pwr.phase with
    | .doze => true
    | .waking _ => true
    | .hold => true
    | .deepHold => true
    | _ => false
  s.bit Reg.STA_LOG_CFG.EN && !s.log.memFail && !s.log.dead && !held && (!s.log.staged.isEmpty || s.log.overwritten != 0)

/-- The blocks of the writes that RT1 holds for channel `ch`: those under way, and with `queued` those that wait as well (R340). -/
def rt1Blocks (s : Dev) (ch : Nat) (queued : Bool) : List Nat :=
  if s.rt1Chan ≠ ch then []
  else
    let entries := if queued then s.log.staged.length + (if s.log.overwritten = 0 then 0 else 1) else s.log.issued.toNat
    let recs := if queued then s.trc.dram.recs.length else s.trc.dramIssued
    let log := if s.logWrites && s.ringFits (s.get Reg.STA_LOG_BASE.BASE) (s.get Reg.STA_LOG_CFG.SIZE_LOG) then
      (List.range entries).map fun k => s.logAddr (s.log.written + k) / 64 else []
    let trace := if s.bit Reg.TRC_OUT.DRAM_EN && s.ringFits (s.get Reg.TRC_DRAM_BASE.BASE) (s.get Reg.TRC_DRAM_CFG.SIZE_LOG) then
      (List.range recs).map fun k => s.trcAddr (s.trc.dramCount + k) / 64 else []
    log ++ trace

end Dev

end Sys2Proof.Machine
end

