-- ==== Sys2Proof/Machine/ChuckQueue.lean ====
section
/-! DEFINITION. Chuck up to the wires (R222–R227, R236, R237): command queues, triggers, and the start of transactions. -/

namespace Sys2Proof.Machine

/-- Insert by rising key, behind equal ones. -/
def insertKey {α : Type} (key : α → Int) (x : α) : List α → List α
  | [] => [x]
  | y :: l => if key x < key y then x :: y :: l else y :: insertKey key x l

/-- Put the elements of the second list, in order, where the first holds elements that meet `p`. -/
def refill {α : Type} (p : α → Bool) : List α → List α → List α
  | [], _ => []
  | x :: l, [] => x :: l
  | x :: l, y :: q => if p x then y :: refill p l q else x :: refill p l (y :: q)

/-- Those elements that meet `p` change places so that their keys rise; the others stay. -/
def orderAmong {α : Type} (p : α → Bool) (key : α → Int) (l : List α) : List α :=
  refill p l ((l.filter p).foldl (fun a x => insertKey key x a) [])

namespace Dev

/-- Port `k` answers: its group's domain is on (R222). -/
def chkOn (s : Dev) (k : Nat) : Bool := s.blockOn bSMP && s.domOn (60 + k / 4)

/-- The invalid policy of a port's command queue (R58). -/
def cmdPolicy (s : Dev) (k : Nat) : Nat := s.get (Reg.SMP_PORT_CFG.INV_POLICY k) % 3

/-- SMP_CMD_LATE and CMD_LATE_EVT (R237). -/
def cmdLate (s : Dev) (k : Nat) : Dev := (s.inc (Reg.SMP_CMD_LATE.COUNT k)).raise bSMP 2

/-- The safe words of a port's chip selects, in chip-select order (R237). -/
def safeWords (s : Dev) (k : Nat) : List CmdEnt :=
  ((List.range 4).filter fun cs => s.bit (Reg.SMP_CS_CFG.SAFE_EN k cs)).map fun cs =>
    let w32 := s.bit (Reg.SMP_CS_CFG.SAFE_W32 k cs)
    { cs := cs, w32 := w32, word := s.get (Reg.SMP_CS_SAFE.SAFE_WORD k cs) % 2 ^ (if w32 then 32 else 16), target := .atOnce }

/-- The domain an entry is bound to. -/
def cmdDom (e : CmdEnt) : Option Nat :=
  match e.target with
  | .angle d _ => some d
  | _ => none

/-- The port enters its safe state (R237): every entry discarded, those of a domain that is not valid counted as late (R58), the safe words queued; it waits for every domain that a discarded entry names. -/
def chkSafe (s : Dev) (k : Nat) : Dev :=
  let q := (s.chk k).cmds
  let doms := q.filterMap cmdDom
  let bad := doms.filter fun d => !s.angOk d
  let s := bad.foldl (fun s _ => s.cmdLate k) s
  s.modChk k fun x => { x with cmds := s.safeWords k, safeDoms := doms.dedup }

/-- An entry reaches the command queue of a port (R236, R237). -/
def cmdPush (s : Dev) (k : Nat) (e : CmdEnt) : Dev :=
  let x := s.chk k
  let put (s : Dev) (e : CmdEnt) : Dev := s.modChk k fun x => { x with cmds := x.cmds ++ [e] }
  let late (s : Dev) : Dev :=
    let s := s.cmdLate k
    if s.bit (Reg.SMP_PORT_CFG.CMD_LATE k) then s else put s { e with target := .atOnce }
  if ¬ s.chkOn k ∨ s.isGrave bSMP then s
  else if x.safeDoms ≠ [] ∨ 16 ≤ x.cmds.length then (s.inc (Reg.SMP_CMD_OVF.COUNT k)).raise bSMP 3
  else match e.target with
  | .atOnce => put s e
  | .time t => if s.now < t then put s e else late s
  | .angle d a =>
    if ¬ s.angOk d then
      match s.cmdPolicy k with
      | 1 => put s e
      | 2 => (put s e).chkSafe k
      | _ => s.cmdLate k
    else if s.angAhead d a then put s e
    else late s

/-- A write of SMP_CMD_CTL with SEND (R236). -/
def cmdCtlWrite (s : Dev) (k : Nat) (v : Word) : Dev :=
  if ¬ wbit v 31 then s
  else
    let lo := Reg.SMP_CMD_TGT_LO k
    let target : Target := match wfld v 29 2 with
      | 1 => .time (ofStamp (s.stamp3 lo))
      | 2 => .angle (wfld v 26 3) ((s.word lo).toNat + (s.word (lo + 4)).toNat % 65536 * 2 ^ 32)
      | _ => .atOnce
    let w := (s.word (Reg.SMP_CMD_WORD k)).toNat
    s.cmdPush k { cs := wfld v 24 2, w32 := wbit v 23, word := if wbit v 23 then w else w % 65536, target := target }

/-- An entry's target is reached (R236). -/
def cmdDue (s : Dev) (e : CmdEnt) : Bool :=
  match e.target with
  | .atOnce => true
  | .time t => Nat.ble t s.now
  | .angle d a => s.angReached d a

/-- COMMAND_DUE: entries whose target is reached become due (R236). -/
def commandDue (s : Dev) (k : Nat) : Dev :=
  s.modChk k fun x => { x with cmds := x.cmds.map fun e => if s.cmdDue e then { e with target := .atOnce } else e }

/-! ### Channels (R226, R227) -/

/-- Channel `n` is enabled and its port answers. -/
def chanOn (s : Dev) (n : Nat) : Bool := s.chkOn (n / 16) && s.bit (Reg.SMP_CH_CFG.EN (n / 16) (n % 16))
/-- Trigger kind of channel `n`. -/
def chanTrig (s : Dev) (n : Nat) : Nat := s.get (Reg.SMP_CH_CFG.TRIG (n / 16) (n % 16))
/-- Its angle domain. -/
def chanDom (s : Dev) (n : Nat) : Nat := s.get (Reg.SMP_CH_CFG.DOM (n / 16) (n % 16))
/-- Its invalid policy. -/
def chanPolicy (s : Dev) (n : Nat) : Nat := s.get (Reg.SMP_CH_CFG.INV_POLICY (n / 16) (n % 16)) % 3
/-- Its chip select. -/
def chanCs (s : Dev) (n : Nat) : Nat := s.get (Reg.SMP_CH_CFG.CS (n / 16) (n % 16))
/-- The channels that exist and are enabled, by rising number. -/
def chansOn (s : Dev) : List Nat := (List.range 512).filter fun n => s.chanOn n

/-- `m` triggers of channel `n` are merged (R224, R227). -/
def trigOvf (s : Dev) (n m : Nat) : Dev :=
  if m = 0 then s else (s.incBy (Reg.SMP_TRIG_OVF.COUNT (n / 16)) m).raise bSMP 4

/-- A read of channel `n` becomes due; a trigger while one waits is merged (R224). -/
def chanDue (s : Dev) (n : Nat) (follow : Bool) : Dev :=
  if (s.chan n).due.isSome then s.trigOvf n 1
  else
    let s := s.modChan n fun x => { x with due := some s.up }
    if follow then s.modChk (n / 16) fun x => { x with follow := x.follow ++ [n] } else s

/-- The waiting read of a channel is dropped. -/
def chanDrop (s : Dev) (n : Nat) : Dev :=
  (s.modChan n fun x => { x with due := none }).modChk (n / 16) fun x => { x with follow := x.follow.filter (· != n) }

/-- How many of the instants `base + k × per`, k ≥ 0, lie in (`a`, `b`]. -/
def instantsIn (base per a b : Nat) : Nat :=
  let upTo (t : Nat) : Nat := if t < base then 0 else (t - base) / max 1 per + 1
  upTo b - upTo a

/-- TIME of a channel in 2^-16 ns. -/
def chanTime (s : Dev) (n : Nat) : Nat := ofStamp (s.stamp3 (Reg.SMP_CH_TIME_LO (n / 16) (n % 16)))

/-- A channel's trigger is armed at its enable or at a change of TRIG or DOM (R226, R58). -/
def chanArm (s : Dev) (n : Nat) : Dev :=
  let d := s.chanDom n
  s.modChan n fun x =>
    { x with trigAt := s.now - 1, armed := true, stepAt := s.pubAngle d, restart := s.chanTrig n == 3 && !s.angOk d && s.chanPolicy n != 1 }

/-- SAMPLE_TIME_TRIGGER: periodic times passed since the last one make one read due; an armed absolute time makes one (R226, R227). -/
def sampleTime (s : Dev) (n : Nat) : Dev :=
  let x := s.chan n
  if ¬ s.chanOn n ∨ s.isGrave bSMP then s
  else if s.chanTrig n = 1 then
    let m := instantsIn (s.chanTime n) (max 1 (s.word (Reg.SMP_CH_TRIG_A (n / 16) (n % 16))).toNat * 65536) x.trigAt s.now
    if m = 0 then s
    else ((s.modChan n fun x => { x with trigAt := s.now }).trigOvf n (m - 1)).chanDue n false
  else if s.chanTrig n = 2 ∧ x.armed ∧ s.chanTime n ≤ s.now then
    (s.modChan n fun x => { x with armed := false }).chanDue n false
  else s

/-- How many step targets, the fractions START + k × STEP from 0 to 2^24 − 1 for integer k, of the cycles lie at or below angle `a`, up to a constant (R226). -/
def stepCount (start step : Nat) (a : Int) : Int :=
  let start := start % max 1 step
  let c := a / cycleUnits
  let f := (a % cycleUnits).toNat
  let per := (16777215 - start) / max 1 step + 1
  c * per + (if f < start then 0 else ((f - start) / max 1 step + 1 : Nat))

/-- ANGLE_STEP_TRIGGER: the local angle has reached or passed step targets (R226, R227). -/
def angleStep (s : Dev) (n : Nat) : Dev :=
  let x := s.chan n
  let d := s.chanDom n
  if s.chanOn n && s.chanTrig n == 3 && s.angOk d && !x.restart && !s.isGrave bSMP then
    let start := s.get (Reg.SMP_CH_TRIG_B.START (n / 16) (n % 16))
    let step := (s.word (Reg.SMP_CH_TRIG_A (n / 16) (n % 16))).toNat % 16777216
    let a := s.pubAngle d
    let m := (stepCount start step a - stepCount start step x.stepAt).toNat
    let s := s.modChan n fun x => { x with stepAt := max x.stepAt a }
    if m = 0 then s else (s.trigOvf n (m - 1)).chanDue n false
  else s

/-- TRIGGER_ARM: a write of SMP_CH_TIME_HI arms an absolute time trigger again (R226). -/
def chanTimeHiWrite (s : Dev) (n : Nat) (v : Word) : Dev :=
  (s.writeFields bSMP (Reg.SMP_CH_TIME_HI (n / 16) (n % 16)) v).modChan n fun x => { x with armed := true }

/-- A write of SMP_CH_CFG: an enable starts the channel afresh, a disable drops its read and gives up its capture buffer (R226–R228, R242, R256). -/
def chanCfgWrite (s : Dev) (n : Nat) (v : Word) : Dev :=
  let key := Reg.SMP_CH_CFG (n / 16) (n % 16)
  let old := s.word key
  let s := s.writeFields bSMP key v
  let en := wbit (s.word key) 31
  if en ∧ ¬ wbit old 31 then
    let s := s.setChan n {}
    let s := (s.setWord (Reg.SMP_CH_STAT (n / 16) (n % 16)) 0).setWord (Reg.SMP_FLOOR_A (n / 16) (n % 16)) 0
    let s := (s.setWord (Reg.SMP_FLOOR_B (n / 16) (n % 16)) 0).setWord (Reg.SMP_CAP_COUNT (n / 16) (n % 16)) 0
    s.chanArm n
  else if ¬ en then { (s.chanDrop n).modChan n fun x => { x with recs := [] } with plc := { s.plc with caps := s.plc.caps.filter fun e => e.1 != n } }
  else if wfld old 16 15 / 4096 ≠ wfld (s.word key) 16 15 / 4096 ∨ wfld old 16 3 ≠ wfld (s.word key) 16 3 then s.chanArm n
  else s

/-- A read bound to an angle domain that is not valid is held back (R58, HOLD). -/
def chanHeld (s : Dev) (n : Nat) : Bool := (s.chanTrig n == 3 || s.chanTrig n == 4) && !s.angOk (s.chanDom n)

/-- Bits of a word of WIDTH code `w`. -/
def widthBits (w : Nat) : Nat := if w = 0 then 16 else if w = 1 then 18 else 24

/-- The SCK period of a port in tenths of a ns (R223). -/
def sckTenths (s : Dev) (k : Nat) : Nat := 25 * (max 7 (s.get (Reg.SMP_PORT_CFG.CLK_DIV k)) + 1)

/-- `up` at which a transaction of `b` bits and its CS_N high time end (R223). -/
def txnEnd (s : Dev) (k b : Nat) : Nat := s.up + ((b + 4) * s.sckTenths k + 9) / 10
/-- `up` at which its last bit has been clocked: the first bit follows the fall of CS_N by one SCK period (R223). -/
def txnBits (s : Dev) (k b : Nat) : Nat := s.up + ((b + 1) * s.sckTenths k + 9) / 10

/-- A transaction of `b` bits begins (R223). -/
def txnBegin (s : Dev) (k b cs word : Nat) (t : Txn) : Dev :=
  (s.modChk k fun x => { x with txn := some t, bitsUp := s.txnBits k b, endUp := s.txnEnd k b }).emit
    (.spiTxn k cs (s.get (Reg.SMP_PORT_CFG.MODE k)) b word)

/-- The read to start next at port `k` (R224): its chip select and channels. -/
def nextRead (s : Dev) (k : Nat) : Option (Nat × List Nat) :=
  let follow := (s.chk k).follow
  let waiting := ((List.range 16).map (16 * k + ·)).filter fun n => s.chanOn n && (s.chan n).due.isSome && !s.chanHeld n
  let key (n : Nat) : Nat := (if follow.contains n then 0 else 2 ^ 80) + (s.chan n).due.getD 0 * 4 + s.chanCs n
  match waiting with
  | [] => none
  | n :: rest =>
    let b := rest.foldl (fun b n => if key n < key b then n else b) n
    some (s.chanCs b, waiting.filter fun n => s.chanCs n == s.chanCs b && (s.chan n).due == (s.chan b).due)

/-- TRANSACTION_START (R224, R225): the first due transaction of an idle port starts, a command before a read. -/
def transactionStart (s : Dev) (k : Nat) : Dev :=
  let x := s.chk k
  if ¬ s.chkOn k ∨ ¬ s.bit (Reg.SMP_PORT_CFG.EN k) ∨ s.isGrave bSMP ∨ x.txn.isSome ∨ s.up < x.endUp then s
  else
    let rec split (before : List CmdEnt) : List CmdEnt → Option (CmdEnt × List CmdEnt)
      | [] => none
      | e :: t => if s.cmdDue e then some (e, before ++ t) else split (before ++ [e]) t
    match split [] x.cmds with
    | some (e, q) =>
      let bits := if e.w32 then 32 else 16
      (s.modChk k fun x => { x with cmds := q }).txnBegin k bits e.cs e.word (.command e.cs e.w32 e.word)
    | none =>
      match s.nextRead k with
      | none => s
      | some (cs, ns) =>
        let stamp := ((s.now : Int) + s.getS (Reg.SMP_STAMP_OFS.OFS k) * 65536).toNat
        let top := (ns.map fun n => s.get (Reg.SMP_CH_CFG.SLOT k (n % 16))).foldl max 0
        let bits := widthBits (s.get (Reg.SMP_CH_CFG.WIDTH k (ns.headD 0 % 16))) * (top + 1)
        let t : Txn := .read cs (ns.map fun n => (n % 16, s.angStamp (s.chanDom n))) stamp
        ns.foldl (fun s n => s.chanDrop n) (s.txnBegin k bits cs 0 t)

/-! ### Angle domains, steps of time and GRAVE (R58, R33, R237) -/

/-- Chuck applies the policies to work bound to a domain that is no longer valid. -/
def chkDomLost (s : Dev) (d : Nat) : Dev :=
  let s := s.chansOn.foldl (fun s n =>
    if (s.chanTrig n = 3 ∨ s.chanTrig n = 4) ∧ s.chanDom n = d ∧ s.chanPolicy n ≠ 1 then
      (s.chanDrop n).modChan n fun x => { x with restart := s.chanTrig n == 3 }
    else s) s
  (List.range 32).foldl (fun s k =>
    let bound := (s.chk k).cmds.filter fun e => cmdDom e == some d
    if bound = [] then s
    else match s.cmdPolicy k with
      | 1 => s
      | 2 => s.chkSafe k
      | _ =>
        let s := bound.foldl (fun s _ => s.cmdLate k) s
        s.modChk k fun x => { x with cmds := x.cmds.filter fun e => cmdDom e != some d }) s

/-- The domain is valid again: held work that is not ahead is discarded, and SAFE ends once every domain it waits for is valid (R58, R237). -/
def chkDomBack (s : Dev) (d : Nat) : Dev :=
  let s := s.chansOn.foldl (fun s n =>
    if (s.chanTrig n = 3 ∨ s.chanTrig n = 4) ∧ s.chanDom n = d ∧ s.chanPolicy n = 1 then
      (s.chanDrop n).modChan n fun x => { x with stepAt := s.pubAngle d }
    else s) s
  (List.range 32).foldl (fun s k =>
    let late := (s.chk k).cmds.filter fun e =>
      match e.target with
      | .angle d' a => d' == d && !s.angAhead d a
      | _ => false
    let s := late.foldl (fun s _ => s.cmdLate k) s
    let x := s.chk k
    if late = [] ∧ x.safeDoms = [] then s
    else s.modChk k fun x => { x with cmds := x.cmds.filter (fun e => !late.contains e), safeDoms := if x.safeDoms.all s.angOk then [] else x.safeDoms }) s

/-- A boundary of domain `d` at angle `a` restarts step triggers (R58). -/
def chkBoundary (s : Dev) (d : Nat) (a : Int) : Dev :=
  s.chansOn.foldl (fun s n =>
    if (s.chan n).restart ∧ s.chanDom n = d then s.modChan n fun x => { x with restart := false, stepAt := a - 1 } else s) s

/-- A mark event reaches the channels that subscribe to it (R226, TRIG 4). -/
def chkMark (s : Dev) (d i : Nat) : Dev :=
  if s.isGrave bSMP then s
  else s.chansOn.foldl (fun s n =>
    let a := (s.word (Reg.SMP_CH_TRIG_A (n / 16) (n % 16))).toNat
    if s.chanTrig n = 4 ∧ s.chanDom n = d ∧ a / 256 % 256 ≤ i ∧ i ≤ a % 256 then s.chanDue n false else s) s

/-- The entries of a port that meet `p` become due at once, in order of their keys (R33, R51). -/
def cmdRelease (s : Dev) (k : Nat) (p : CmdEnt → Bool) (key : CmdEnt → Int) : Dev :=
  s.modChk k fun x => { x with cmds := (orderAmong p key x.cmds).map fun e => if p e then { e with target := .atOnce } else e }

/-- A forward step from `t0` makes the command entries it skips due at once in order of time, counted as late, and the reads it skips due (R33, R227, R237). -/
def chkTimeStep (s : Dev) (t0 : Nat) : Dev :=
  let time (e : CmdEnt) : Nat := match e.target with
    | .time t => t
    | _ => 0
  let skipped (e : CmdEnt) : Bool := Nat.blt t0 (time e) && Nat.ble (time e) s.now
  let s := (List.range 32).foldl (fun s k =>
    let hit := (s.chk k).cmds.filter skipped
    if hit = [] then s else (hit.foldl (fun s _ => s.cmdLate k) s).cmdRelease k skipped fun e => time e) s
  s.chansOn.foldl sampleTime s

/-- An angle target of domain `d` lies in the interval that a jump of the published angle from `a` has skipped: how far below the present angle (R51). -/
def jumped (s : Dev) (d : Nat) (a : Int) (t : Target) : Option Int :=
  match t with
  | .angle d' x =>
    let u := sdiff x (s.angle48 d) 48
    if d' = d ∧ u ≤ 0 ∧ a < s.pubAngle d + u then some u else none
  | _ => none

/-- The command entries that a forward jump of domain `d` from angle `a` skips become due in order of angle, and are not late (R51). -/
def chkJump (s : Dev) (d : Nat) (a : Int) : Dev :=
  (List.range 32).foldl (fun s k =>
    if (s.chk k).cmds.any fun e => (s.jumped d a e.target).isSome then
      s.cmdRelease k (fun e => (s.jumped d a e.target).isSome) fun e => (s.jumped d a e.target).getD 0
    else s) s

/-- SMP became GRAVE: running transactions are cut off, entries and waiting reads discarded (R237, R353). -/
def chkBecomeGrave (s : Dev) : Dev :=
  let s := s.chks.foldl (fun s e =>
    (s.setChk e.1 { e.2 with txn := none, cmds := [], follow := [], endUp := s.up }).when e.2.txn.isSome (·.emit (.spiCut e.1))) s
  s.chans.foldl (fun s e => s.setChan e.1 { e.2 with due := none }) s

/-! ### Coefficient banks (R229) -/

/-- A write of SMP_FIR_CTL: ACTIVE_WR clears by 1, SWAP makes the idle bank active. -/
def firCtlWrite (s : Dev) (k : Nat) (v : Word) : Dev :=
  let s := s.writeFields bSMP (Reg.SMP_FIR_CTL k) v
  if wbit v 0 then (s.put (Reg.SMP_FIR_CTL.ACTIVE k) (1 - s.get (Reg.SMP_FIR_CTL.ACTIVE k))).raise bSMP 5 else s

/-- A write of a FIR coefficient: one to the active bank has no effect and sets ACTIVE_WR. -/
def firWrite (s : Dev) (k b key : Nat) (v : Word) : Dev :=
  if s.get (Reg.SMP_FIR_CTL.ACTIVE k) = b then s.put (Reg.SMP_FIR_CTL.ACTIVE_WR k) 1
  else s.writeFields bSMP key v

/-- A host write to a word of port `k`, without effect while the port's group is off (R222). -/
def chkGate (s : Dev) (k key : Nat) (v : Word) (act : Dev → Dev) : Dev :=
  if s.chkOn k then s.hostGate bSMP key v act else s

end Dev

/-- SAMPLE_TIME_TRIGGER (R226). -/
def execSampleTimeTrigger (n : Fin 512) (s : State) := devStep (·.sampleTime n) s
/-- ANGLE_STEP_TRIGGER (R226). -/
def execAngleStepTrigger (n : Fin 512) (s : State) := devStep (·.angleStep n) s
/-- TRIGGER_ARM (R226). -/
def execTriggerArm (n : Fin 512) (value : Word) (s : State) :=
  devStep (fun d => d.chkGate (n / 16) (Reg.SMP_CH_TIME_HI (n / 16) (n % 16)) value (·.chanTimeHiWrite n value)) s
/-- TRANSACTION_START (R224). -/
def execTransactionStart (k : Fin 32) (s : State) := devStep (·.transactionStart k) s
/-- COMMAND_SEND (R236). -/
def execCommandSend (k : Fin 32) (value : Word) (s : State) :=
  devStep (fun d => d.chkGate k (Reg.SMP_CMD_CTL k) value (·.cmdCtlWrite k value)) s
/-- COMMAND_DUE (R236). -/
def execCommandDue (k : Fin 32) (s : State) := devStep (fun d => d.when (d.chkOn k) (·.commandDue k)) s
/-- FIR_SWAP (R229). -/
def execFirSwap (k : Fin 32) (value : Word) (s : State) :=
  devStep (fun d => d.chkGate k (Reg.SMP_FIR_CTL k) value (·.firCtlWrite k value)) s

end Sys2Proof.Machine
end

