-- ==== Sys2Proof/Machine/Objects.lean ====
section
/-! DEFINITION. The object dictionary's map (R15, R16, R264–R268, R272): entries, objects, types, rights, commit points, and the octets of committed values. -/

namespace Sys2Proof.Machine

/-- The rights of R268. -/
inductive Right
  | ro | rw | wo | crit | const
  deriving DecidableEq, Repr

/-- Access code of DESCRIBE (R275). -/
def Right.code : Right → Nat
  | .ro => 0 | .rw => 1 | .wo => 2 | .crit => 3 | .const => 4

/-- What an object stands for. -/
inductive ObjKind
  /-- A fixed value. -/
  | fixed (v : Nat)
  | pend
  | bootId | command | reason | commits
  /-- A field of DCT_CFG. -/
  | field (f : Fld)
  /-- The register word at a key of block `b`. -/
  | word (b k : Nat)
  /-- A double-banked table: block, kind, instance. -/
  | table (b kind inst : Nat)
  /-- The wrapped key of a client. -/
  | wrapped (id : Nat)
  deriving DecidableEq, Repr

/-- One object: index, subindex, type code of R267, right, and what it stands for. -/
structure Obj where
  index : Nat
  sub : Nat
  type : Nat
  right : Right
  kind : ObjKind
  deriving DecidableEq, Repr

/-- A run of word subindices of an entry: first and last subindex, block, and the key of the first. -/
structure Run where
  lo : Nat
  hi : Nat
  block : Nat
  base : Nat
  deriving DecidableEq, Repr

/-- Size in octets of a type code; 0 for variable size (R267). -/
def typeSize (t : Nat) : Nat := [0, 1, 1, 2, 4, 8, 1, 2, 4, 8, 4, 12, 6, 0, 4].getD t 0

/-- Key of the first word of window `b` at offset `o`. -/
def at' (b o : Nat) : Nat := blockBase b + o

/-- The word subindices of an entry (R266); none where the entry has only other objects or is not defined. -/
def entryRuns (x : Nat) : List Run :=
  if 0x1000 ≤ x ∧ x ≤ 0x1007 then [⟨1, 254, bPRT (x - 0x1000), at' (bPRT (x - 0x1000)) 0x100⟩]
  else if x = 0x1020 then [⟨1, 29, bTIM, at' bTIM 0x100⟩]
  else if 0x1021 ≤ x ∧ x ≤ 0x1028 then
    [⟨1, 1, bTIM, Reg.TIM_PORT_CFG (x - 0x1021)⟩, ⟨2, 2, bTIM, Reg.TIM_LAT (x - 0x1021)⟩]
  else if x = 0x1030 then [⟨1, 22, bFRM, at' bFRM 0x100⟩]
  else if x = 0x1040 then [⟨1, 2, bGTE, at' bGTE 0x100⟩]
  else if 0x1041 ≤ x ∧ x ≤ 0x1048 then [⟨1, 128, bGTE, at' bGTE (0x1000 + 0x200 * (x - 0x1041))⟩]
  else if x = 0x1050 then [⟨1, 3, bSHD, at' bSHD 0x100⟩]
  else if 0x1051 ≤ x ∧ x ≤ 0x1052 then [⟨1, 128, bSHD, at' bSHD (0x200 + 0x200 * (x - 0x1051))⟩]
  else if 0x1100 ≤ x ∧ x ≤ 0x117F then [⟨1, 2, bFRM, at' bFRM (0x3000 + 8 * (x - 0x1100))⟩]
  else if 0x2000 ≤ x ∧ x ≤ 0x21FF then
    let s := x - 0x2000
    [⟨1, 8, bSTM, at' bSTM (0x4000 + 0x20 * s)⟩, ⟨9, 24, bSTM, at' bSTM (0x8000 + 0x40 * s)⟩,
     ⟨25, 25, bFRM, Reg.FRM_STM_RESV s⟩, ⟨26, 29, bGTE, at' bGTE (0x2000 + 0x10 * s)⟩, ⟨30, 36, bGTE, at' bGTE (0x4000 + 0x20 * s)⟩]
  else if 0x3000 ≤ x ∧ x ≤ 0x303F then
    let c := x - 0x3000
    [⟨1, 32, bCEL, at' bCEL (0x1000 + 0x80 * c)⟩, ⟨40, 43, bCEL, at' bCEL (0x8000 + 0x20 * c)⟩]
      ++ (if c ≤ 16 then [⟨48, 48, bCEL, Reg.CEL_GRP_DVFS c⟩] else [])
  else if 0x4000 ≤ x ∧ x ≤ 0x41FF then
    let k := (x - 0x4000) / 16
    let i := (x - 0x4000) % 16
    [⟨1, 32, bSMP, Reg.SMP_CH_CFG k i⟩] ++ (if i = 0 then [⟨33, 60, bSMP, Reg.SMP_PORT_CFG k⟩] else [])
  else if 0x4800 ≤ x ∧ x ≤ 0x481F then [⟨1, 8, bSCR, Reg.SCR_PIN_CFG (x - 0x4800)⟩]
  else if 0x5000 ≤ x ∧ x ≤ 0x5007 then [⟨1, 15, bANG, Reg.ANG_SRC (x - 0x5000)⟩]
  else if x = 0x6000 then [⟨1, 64, bPLC, at' bPLC 0x100⟩]
  else if x = 0x6001 then [⟨1, 64, bPLC, at' bPLC 0x1000⟩]
  else if 0x6004 ≤ x ∧ x ≤ 0x6007 then [⟨1, 128, bPLC, at' bPLC (0x800 + 0x200 * (x - 0x6004))⟩]
  else if x = 0x6010 then [⟨1, 254, bMEM, at' bMEM 0x100⟩]
  else if x = 0x6020 then [⟨1, 254, bPWR, at' bPWR 0x100⟩]
  else if x = 0x6030 ∨ x = 0x6031 then [⟨1, 254, bDMA (x - 0x6030), at' (bDMA (x - 0x6030)) 0x100⟩]
  else if 0x7000 ≤ x ∧ x ≤ 0x701B then [⟨1, 19, x - 0x7000, blockBase (x - 0x7000)⟩]
  else if x = 0x7040 then [⟨1, 254, bSTA, at' bSTA 0x100⟩]
  else if x = 0x7041 then [⟨1, 254, bTRC, at' bTRC 0x100⟩]
  else if x = 0x7042 then [⟨1, 254, bIST, at' bIST 0x100⟩]
  else if 0x8000 ≤ x ∧ x ≤ 0x8FFF then [⟨1, 7, bAUT, Reg.AUT_CL_CFG (x - 0x8000)⟩]
  else []

/-- The objects of an entry that are not word objects: subindex, type, right, meaning. -/
def entryOther (x : Nat) : List (Nat × Nat × Right × ObjKind) :=
  if x = 0 then [(1, 4, .const, .fixed 0x51204110), (2, 3, .const, .fixed 1), (3, 5, .ro, .bootId)]
  else if 1 ≤ x ∧ x ≤ 0xE then [(1, 3, .const, .fixed (typeSize x))]
  else if x = 0x10 then [(1, 2, .wo, .command), (2, 3, .ro, .reason), (3, 4, .ro, .commits)]
  else if x = 0x1010 then [(1, 3, .rw, .field Reg.DCT_CFG.ETYPE), (2, 2, .rw, .field Reg.DCT_CFG.PORTS), (3, 2, .rw, .field Reg.DCT_CFG.OPEN)]
  else if x = 0x1060 then
    (1, 14, .rw, .table bFRM 1 0) :: ((List.range 8).map fun p => (2 + p, 14, .rw, .table bGTE 2 p))
      ++ [(10, 14, .rw, .table bSHD 3 0), (11, 14, .rw, .table bSHD 3 1)]
  else if 0x3000 ≤ x ∧ x ≤ 0x303F then [(33, 14, .rw, .table bCEL 4 (x - 0x3000))]
  else if 0x4000 ≤ x ∧ x ≤ 0x41FF then (if x % 16 = 0 then [(61, 14, .rw, .table bSMP 5 ((x - 0x4000) / 16))] else [])
  else if 0x5000 ≤ x ∧ x ≤ 0x5007 then [(16, 14, .rw, .table bANG 6 (x - 0x5000))]
  else if 0x8000 ≤ x ∧ x ≤ 0x8FFF then [(8, 13, .wo, .wrapped (x - 0x8000))]
  else []

/-- The entry is defined (R16, R266). -/
def entryDefined (x : Nat) : Bool := !(entryRuns x).isEmpty || !(entryOther x).isEmpty

/-- The highest subindex other than 0xFF (R264). -/
def entryHigh (x : Nat) : Nat :=
  ((entryOther x).map (·.1)).foldl max (((entryRuns x).map (·.hi)).foldl max 0)

/-- The region of R15 an index lies in, numbered in the order of that table. -/
def regionOfIndex (x : Nat) : Option Nat :=
  if x < 0x1000 then some 0
  else if x < 0x2000 then some 1
  else if x < 0x2200 then some 2
  else if 0x3000 ≤ x ∧ x < 0x3040 then some 3
  else if 0x4000 ≤ x ∧ x < 0x4200 then some 4
  else if 0x4800 ≤ x ∧ x < 0x4820 then some 5
  else if 0x5000 ≤ x ∧ x < 0x5008 then some 6
  else if 0x6000 ≤ x ∧ x < 0x6100 then some 7
  else if 0x7000 ≤ x ∧ x < 0x7100 then some 8
  else if 0x8000 ≤ x ∧ x < 0x9000 then some 9
  else if 0xF000 ≤ x then some 10
  else none

/-- Right of a word object before R268's CRIT: RO where the register is RO, WO where it is WO, RW otherwise (R265). -/
def wordRight (b k : Nat) : Right :=
  let m := masksOf b k
  let known := (blockBase b ≤ k && Nat.blt k (blockBase b + 0x4C)) || (rowOf k).isSome
  if ¬ known then .rw
  else if m.rw = 0 ∧ m.w1c = 0 ∧ m.w1s = 0 then
    if m.wo = 0 then .ro
    else if k = Reg.DMA_UNIT_CTL 0 ∨ k = Reg.DMA_UNIT_CTL 1 ∨ k = Reg.STA_INJECT then .rw
    else .wo
  else .rw

/-- Commit points (DESCRIBE codes): 0 immediate, 1 cycle, 2 activation, 3 angle-cycle (R271). -/
def commitPointOf (x : Nat) : Nat :=
  if x = 0x1030 ∨ (0x1050 ≤ x ∧ x ≤ 0x1052) ∨ (0x2000 ≤ x ∧ x ≤ 0x21FF) then 1
  else if 0x3000 ≤ x ∧ x ≤ 0x303F then 2
  else if 0x5000 ≤ x ∧ x ≤ 0x5007 then 3
  else 0

namespace Dev

/-- RW and WO become CRIT in a region of DCT_CRIT_MASK, and always in entries 0x0010, 0x1010 and the clients (R268, R286). -/
def rightIn (s : Dev) (x : Nat) (r : Right) : Right :=
  match r with
  | .rw | .wo =>
    let masked : Bool := match regionOfIndex x with
      | some g => (s.get Reg.DCT_CRIT_MASK.REGION).testBit g || g == 9
      | none => false
    if masked || x == 0x10 || x == 0x1010 then .crit else r
  | r => r

/-- The object of an index and subindex; none where the subindex is not defined (R264, R265). -/
def objOf (s : Dev) (x sub : Nat) : Option Obj :=
  if ¬ entryDefined x then none
  else if sub = 0 then some ⟨x, 0, 2, .const, .fixed (entryHigh x)⟩
  else if sub = 0xFF then some ⟨x, 0xFF, 2, .ro, .pend⟩
  else match (entryOther x).find? fun e => e.1 == sub with
    | some (_, t, r, k) => some ⟨x, sub, t, s.rightIn x r, k⟩
    | none =>
      match (entryRuns x).find? fun r => Nat.ble r.lo sub && Nat.ble sub r.hi with
      | some r =>
        let k := dmaKey (r.base + 4 * (sub - r.lo))
        let right := if r.block = bAUT then (if sub = 2 ∨ sub = 3 then .ro else .crit) else wordRight r.block k
        some ⟨x, sub, 4, s.rightIn x right, .word r.block k⟩
      | none => none

/-- PEND of an entry (R264). -/
def pendOf (s : Dev) (x : Nat) : Nat :=
  if s.dct.waiting.any fun g => g.index == x then 2
  else if s.dct.staged.any fun g => g.index == x then 1
  else 0

/-- The block whose header domain decides whether an object answers (R18); none for the engine's own. -/
def objBlock : ObjKind → Option Nat
  | .word b _ => some b
  | .table b _ _ => some b
  | .bootId => some bGLB
  | .wrapped _ => some bAUT
  | _ => none

/-- The committed value of an object as a number (R13). -/
def objNum (s : Dev) (o : Obj) : Nat :=
  match o.kind with
  | .fixed v => v
  | .pend => s.pendOf o.index
  | .bootId => s.viewWord Reg.GLB_BOOT_ID_HI * 2 ^ 32 + s.viewWord Reg.GLB_BOOT_ID_LO
  | .command => 0
  | .reason => s.get Reg.DCT_ADMIT.REASON
  | .commits => (s.word Reg.DCT_COMMIT_CNT).toNat
  | .field f => s.get f
  | .word _ k => s.dictWord k
  | .table b kind inst => b * 2 ^ 24 + kind * 2 ^ 16 + inst
  | .wrapped _ => 0

/-- Size of an object's value in octets. -/
def objSize (o : Obj) : Nat := if o.type = 13 then 32 else typeSize o.type

/-- The octets of the committed value (R267). -/
def objOctets (s : Dev) (o : Obj) : List Octet := octetsBE (objSize o) (s.objNum o)

/-- The default that DESCRIBE returns (R265, R275). -/
def objDefault (o : Obj) : Nat :=
  match o.kind with
  | .fixed v => v
  | .word _ k => (resetWord k).toNat
  | .table b kind inst => b * 2 ^ 24 + kind * 2 ^ 16 + inst
  | .field f => (resetWord f.addr).toNat / 2 ^ f.lo % 2 ^ f.w
  | _ => 0

/-- The types of R198 that a cell may fetch or write: BOOL, U8, U16, U32, I8, I16, I32, Q15_16. -/
def cellType (t : Nat) : Bool := t == 1 || t == 2 || t == 3 || t == 4 || t == 6 || t == 7 || t == 8 || t == 10

/-- Staged values of the store, newest for the object. -/
def stagedOf (l : List Stg) (x sub : Nat) : Option (List Octet) := (l.find? fun g => g.index == x && g.sub == sub).map (·.value)

/-- A list of values with that of one object replaced or added, in ascending order of index and subindex. -/
def stgPut (l : List Stg) (g : Stg) : List Stg :=
  let le (a : Stg) : Bool := Nat.blt a.index g.index || (a.index == g.index && Nat.blt a.sub g.sub)
  l.filter le ++ g :: (l.filter fun a => !le a && !(a.index == g.index && a.sub == g.sub))

/-- The bit DCT _STATUS.PENDING follows the values that wait (R283). -/
def pendingBit (s : Dev) : Dev := s.putBit (statusBit bDCT 6) (!s.dct.waiting.isEmpty)

/-- A cell's write of an object is placed among the values that wait for their commit points (R11, R205). -/
def celObjectWrite (s : Dev) (x sub : Nat) (v : List Octet) : Dev :=
  ({ s with dct := { s.dct with waiting := stgPut s.dct.waiting ⟨x, sub, v⟩ } }).pendingBit

end Dev

end Sys2Proof.Machine
end

