-- ==== Sys2Proof/Machine/Scribe.lean ====
section
/-! DEFINITION. Scribe: timed output pins (R238–R240, R244). -/

namespace Sys2Proof.Machine

namespace Dev

/-- What a change of a pin's state shows at its pad: the new level and its read-back. At high impedance the pad's level is a free value (log entry 6). -/
def pinShow (old s : Dev) (p : Nat) : Dev :=
  let l := s.pinLevel p
  if l = old.pinLevel p then s
  else
    let s := s.emit (.tout p l)
    match l with
    | some b => s.modPin p fun x => { x with pad := b }
    | none =>
      let (v, s) := s.freeWord
      s.modPin p fun x => { x with pad := v % 2 == 1 }

/-- A change of pin `p` with its pad brought up to date. -/
def atPin (s : Dev) (p : Nat) (f : Dev → Dev) : Dev := pinShow s (f s) p

/-- The invalid policy of a pin: 0 DISCARD, 1 HOLD, 2 SAFE (R58). -/
def pinPolicy (s : Dev) (p : Nat) : Nat := s.get (Reg.SCR_PIN_CFG.INV_POLICY p) % 3

/-- SCR_LATE and EDGE_LATE_EVT (R239). -/
def edgeLate (s : Dev) (p : Nat) : Dev := (s.inc (Reg.SCR_LATE.COUNT p)).raise bSCR 0

/-- An edge takes effect on the pin (R238); while the pin is not enabled or in SAFE it shows nothing at the pad (R240; DEDUCED, log entry 15). -/
def edgeApply (s : Dev) (p : Nat) (level : Bool) : Dev :=
  let en := s.bit (Reg.SCR_PIN_CFG.EN p)
  s.atPin p fun s =>
    (s.putBit (Reg.SCR_PIN_STAT.LEVEL p) level).modPin p fun x => { x with edgeUp := some s.up, driven := x.driven || (en && x.safeDom.isNone) }

/-- The pin enters SAFE: it discards its queue and drives SAFE_LVL (R239, R240). -/
def pinEnterSafe (s : Dev) (p : Nat) (dom : Option Nat) : Dev :=
  let was := (s.pin p).safeDom.isSome
  (s.atPin p fun s => s.modPin p fun x => { x with queue := [], safeDom := dom, driven := false }).when (!was) (·.raise bSCR 2)

/-- A pin changes no earlier than 1 ns after its previous edge (R238). -/
def edgeGap (s : Dev) (p : Nat) : Bool :=
  match (s.pin p).edgeUp with
  | some u => Nat.blt u s.up
  | none => true

/-- What happens to an edge as it becomes the head (R239): late edges and edges of a domain that is not valid. -/
def edgeHead : Nat → Dev → Nat → Dev
  | 0, s, _ => s
  | n + 1, s, p =>
    match (s.pin p).queue with
    | [] => s
    | e :: rest =>
      let late (s : Dev) : Dev :=
        let s := s.edgeLate p
        if s.bit (Reg.SCR_PIN_CFG.EDGE_LATE p) then edgeHead n (s.modPin p fun x => { x with queue := rest }) p
        else if s.edgeGap p then edgeHead n ((s.modPin p fun x => { x with queue := rest }).edgeApply p e.level) p
        else s.modPin p fun x => { x with queue := ⟨e.level, .atOnce⟩ :: rest }
      match e.target with
      | .atOnce => s
      | .time t => if s.now < t then s else late s
      | .angle d a =>
        if ¬ s.angOk d then
          match s.pinPolicy p with
          | 1 => s
          | 2 => (s.edgeLate p).pinEnterSafe p (some d)
          | _ => edgeHead n ((s.edgeLate p).modPin p fun x => { x with queue := rest }) p
        else if s.angAhead d a then s
        else late s

/-- A block whose GRAVE puts every pin at SAFE_LVL (R240). -/
def scrGrave (s : Dev) : Bool := s.isGrave bSCR || s.isGrave bSMP || s.isGrave bCEL || s.isGrave bANG

/-- An edge arrives at a pin (R239); it is dropped in GRAVE (R240). -/
def edgePush (s : Dev) (p : Nat) (e : Edge) : Dev :=
  let x := s.pin p
  if ¬ s.blockOn bSCR ∨ s.scrGrave then s
  else if 2 ≤ x.queue.length then (s.inc (Reg.SCR_OVF.COUNT p)).raise bSCR 1
  else
    let s := s.modPin p fun x => { x with queue := x.queue ++ [e] }
    if x.queue = [] then edgeHead 3 s p else s

/-- The head edge's target is reached. -/
def edgeDue (s : Dev) (e : Edge) : Bool :=
  match e.target with
  | .atOnce => true
  | .time t => Nat.ble t (s.nowNs * 65536)
  | .angle d a => s.angReached d a

/-- EDGE_EXECUTE: the pin executes its head edge at its target (R238). -/
def edgeExecute (s : Dev) (p : Nat) : Dev :=
  match (s.pin p).queue with
  | e :: rest =>
    if s.blockOn bSCR && !s.scrGrave && s.edgeGap p && s.edgeDue e then
      edgeHead 2 ((s.modPin p fun x => { x with queue := rest }).edgeApply p e.level) p
    else s
  | [] => s

/-- A write of SCR_EDGE_CTL with PUSH (R238, R239). A COMPAT stamp that names no time within R26 is late (DEDUCED, log entry 16). -/
def edgeCtlWrite (s : Dev) (p : Nat) (v : Word) : Dev :=
  if ¬ wbit v 31 then s
  else
    let lv := wbit v 30
    match wfld v 28 2 with
    | 1 =>
      if wbit v 27 then
        match expandForerunner s.now (s.word (Reg.SCR_EDGE_LO p)).toNat with
        | some t => s.edgePush p ⟨lv, .time t⟩
        | none => (s.raise bSCR 3).edgeLate p
      else s.edgePush p ⟨lv, .time (ofStamp (s.stamp3 (Reg.SCR_EDGE_LO p)))⟩
    | 2 => s.edgePush p ⟨lv, .angle (wfld v 24 3) ((s.word (Reg.SCR_EDGE_LO p)).toNat + (s.word (Reg.SCR_EDGE_MID p)).toNat % 65536 * 2 ^ 32)⟩
    | _ => s.edgePush p ⟨lv, .atOnce⟩

/-- A write of SCR_PIN_CFG: a pin that is disabled goes to SAFE_LVL, which sets SAFE_EVT, and keeps it until an edge executes after its enable (R240; DEDUCED, log entry 15). -/
def pinCfgWrite (s : Dev) (p : Nat) (v : Word) : Dev :=
  let was := s.pinSafe p
  let s := s.atPin p fun s =>
    let s := s.writeFields bSCR (Reg.SCR_PIN_CFG p) v
    if s.bit (Reg.SCR_PIN_CFG.EN p) then s
    else s.modPin p fun x => { x with driven := false }
  s.when (!was && s.pinSafe p) (·.raise bSCR 2)

/-- The pins apply their policy to head edges of a domain that is no longer valid (R239). -/
def scrDomLost (s : Dev) (d : Nat) : Dev :=
  (List.range 32).foldl (fun s p =>
    match (s.pin p).queue with
    | ⟨_, .angle d' _⟩ :: _ => if d' = d then edgeHead 3 s p else s
    | _ => s) s

/-- The domain is valid again: pins in SAFE leave it; a held head edge that is not ahead is discarded as late (R58, R239). -/
def scrDomBack (s : Dev) (d : Nat) : Dev :=
  (List.range 32).foldl (fun s p =>
    let x := s.pin p
    let s := if x.safeDom = some d then s.modPin p fun x => { x with safeDom := none } else s
    match x.queue with
    | ⟨_, .angle d' a⟩ :: rest =>
      if d' = d ∧ ¬ s.angAhead d a then edgeHead 2 ((s.edgeLate p).modPin p fun x => { x with queue := rest }) p else s
    | _ => s) s

/-- A forward step from `t0` releases the edges it skips, each counted as late; a pin executes them in their order (R33, R238). -/
def scrTimeStep (s : Dev) (t0 : Nat) : Dev :=
  let skipped (e : Edge) : Bool := match e.target with
    | .time t => Nat.blt t0 t && Nat.ble t s.now
    | _ => false
  (List.range 32).foldl (fun s p =>
    let hit := (s.pin p).queue.filter skipped
    if hit = [] then s
    else (hit.foldl (fun s _ => s.edgeLate p) s).modPin p fun x =>
      { x with queue := x.queue.map fun e => if skipped e then { e with target := .atOnce } else e }) s

/-- SCR, SMP, CEL or ANG became GRAVE: every queue is discarded and every pin is at SAFE_LVL; `old` is the state before it (R240). -/
def scrBecomeGrave (old s : Dev) : Dev :=
  (List.range 32).foldl (fun s p =>
    let s := s.modPin p fun x => { x with queue := [], driven := false }
    (pinShow old s p).when (!old.pinSafe p) (·.raise bSCR 2)) s

/-- PIN_MISMATCH: the level that a pad reads back, once it has stood for more than 100 ns; another one than the level driven is an event (R240). -/
def pinMismatch (s : Dev) (p : Nat) (pad : Bool) : Dev :=
  match s.pinLevel p with
  | some l => (s.modPin p fun x => { x with pad := pad }).when (l != pad) (·.fault bSCR 0)
  | none => s.modPin p fun x => { x with pad := pad }

end Dev

/-- EDGE_PUSH (R238). -/
def execEdgePush (p : Fin 32) (value : Word) (s : State) :=
  devStep (fun d => d.hostGate bSCR (Reg.SCR_EDGE_CTL p) value (·.edgeCtlWrite p value)) s
/-- EDGE_EXECUTE (R238). -/
def execEdgeExecute (p : Fin 32) (s : State) := devStep (·.edgeExecute p) s
/-- PIN_MISMATCH (R240). -/
def execPinMismatch (p : Fin 32) (pad : Bool) (s : State) := devStep (fun d => d.atBlock bSCR (·.pinMismatch p pad)) s

end Sys2Proof.Machine
end

