-- ==== Sys2Proof/Machine/RingOps.lean ====
section
/-! DEFINITION. What the ports and the Shroud share: slot tables, quiet gaps, the health of a ring, breaks, and the contexts that use a port (R76, R82, R84, R170, R178). -/

namespace Sys2Proof.Machine

/-- A used entry of a slot table (R170). -/
structure Slot where
  index : Nat
  ofs : Nat
  kind : Nat
  owner : Nat
  /-- Duration in ns. -/
  dur : Nat
  deriving DecidableEq, Repr

namespace Dev

/-- A ring's state beyond its registers. -/
def ring (s : Dev) (r : Nat) : Ring := Tab.get (fun _ => {}) s.rings r
/-- Replace it. -/
def setRing (s : Dev) (r : Nat) (x : Ring) : Dev := { s with rings := Tab.set (fun _ => {}) s.rings r x }
/-- The Shroud's state of a ring port. -/
def side (s : Dev) (p : Nat) : Side := let x := s.ring (p / 2); if p % 2 = 0 then x.west else x.east
/-- Replace it. -/
def setSide (s : Dev) (p : Nat) (d : Side) : Dev :=
  let x := s.ring (p / 2)
  s.setRing (p / 2) (if p % 2 = 0 then { x with west := d } else { x with east := d })
/-- Change it. -/
def modSide (s : Dev) (p : Nat) (f : Side → Side) : Dev := s.setSide p (f (s.side p))

/-- The used slots of a bank in index order; an entry with a parity error acts as KIND 0 (R170, R189). -/
def slots (s : Dev) (r b : Nat) : List Slot :=
  let lo := Reg.SHD_SLOT_DESC r b 0
  (s.regs.filter fun e => Nat.ble lo e.1 && Nat.blt e.1 (lo + 0x8000) && (e.1 - lo) % 8 == 0 && e.2.toNat / 2 ^ 30 != 0
      && !s.badWord e.1 && !s.badWord (Reg.SHD_SLOT_OFS r b ((e.1 - lo) / 8))).map fun e =>
    let i := (e.1 - lo) / 8
    let w := e.2.toNat
    ⟨i, (s.word (Reg.SHD_SLOT_OFS r b i)).toNat, w / 2 ^ 30, w / 2 ^ 16 % 256, 8 * (w % 65536)⟩

/-- KIND of a slot; 0 while its entry has a parity error (R170, R189). -/
def slotKind (s : Dev) (r b i : Nat) : Nat :=
  if s.badWord (Reg.SHD_SLOT_OFS r b i) || s.badWord (Reg.SHD_SLOT_DESC r b i) then 0 else s.get (Reg.SHD_SLOT_DESC.KIND r b i)

/-- Active slot table bank. -/
def slotBank (s : Dev) (r : Nat) : Nat := s.get (Reg.SHD_STATE.ACTIVE_BANK r)

/-- The east port of a ring. -/
def eastPort (r : Nat) : Nat := 2 * r + 1

/-- The schedule of the ring cycle: that of the east port's active bank. -/
def ringSchedule (s : Dev) (r : Nat) : Schedule := s.schedule (eastPort r) (s.gclActive (eastPort r))

end Dev

/-- The gaps of at least 40,000 ns that intervals in rising order leave in a cycle (R76). -/
def gapsFrom (cyc : Nat) : Nat → List (Nat × Nat) → List (Nat × Nat)
  | t, [] => if t + 40000 ≤ cyc then [(t, cyc)] else []
  | t, (a, b) :: l => (if t + 40000 ≤ a then [(t, a)] else []) ++ gapsFrom cyc (max t b) l

namespace Dev

/-- The quiet gaps of a ring in ns from the cycle start: no owned slot, claim window or beacon (R76). The table of the east port serves both ports (log entry 12); a ring not enabled or without a running schedule has no ring cycle, so no gap. -/
def quietGaps (s : Dev) (r : Nat) : List (Nat × Nat) :=
  let busy := (s.slots r (s.slotBank r)).filter fun x => x.kind == 1 || x.kind == 3
  if !(s.bit (Reg.SHD_RING_CFG.EN r) && s.gating (eastPort r)) then []
  else gapsFrom (s.ringSchedule r).cycle 0 (busy.map fun x => (x.ofs, x.ofs + x.dur))

/-- The quiet gap that holds the present instant, if any. -/
def inGap (s : Dev) (p : Nat) : Option (Nat × Nat) :=
  let ph := (s.ringSchedule (ringOf p)).phase s.now
  (s.quietGaps (ringOf p)).find? fun g => Nat.ble (g.1 * 65536) ph && Nat.blt ph (g.2 * 65536)

/-- The present instant lies in a quiet gap or at the end of one (R92). -/
def inGapOrEnd (s : Dev) (p : Nat) : Bool :=
  let g := s.ringSchedule (ringOf p)
  let ph := g.phase s.now
  let cyc := max 1 g.cycle * 65536
  (s.quietGaps (ringOf p)).any fun x =>
    (Nat.ble (x.1 * 65536) ph && Nat.ble ph (x.2 * 65536)) || Nat.ble (ph + cyc) (x.2 * 65536)

/-- A ring is wrapped: a port of this node is, or its last beacon says so (R41, R166; log entry 58). -/
def ringIsWrapped (s : Dev) (r : Nat) : Bool := s.wrapped (2 * r) || s.wrapped (2 * r + 1) || (s.ring r).beaconWrapped

/-- A ring is healthy: not wrapped, both ports up, a beacon of it came in the previous cycle (R76). -/
def ringHealthy (s : Dev) (r : Nat) : Bool :=
  !s.ringIsWrapped r && s.linkUp (2 * r) && s.linkUp (2 * r + 1)
    && ((s.ring r).west.gotPrev || (s.ring r).east.gotPrev)

/-- A port's Shroud detects a break, code 1 link loss, 2 beacon loss (R178); one wrap serves both, with code 1 (R188). Loss of the link also ends READY and the proposal (R183). -/
def detectBreak (s : Dev) (p code : Nat) : Dev :=
  let r := ringOf p
  let s := s.when (code == 1) fun s =>
    let s := s.modSide p fun d => { d with cleanAt := none, proposal := none, partnerReady := false, partnerOkAt := none }
    s.put (if p % 2 = 0 then Reg.SHD_STATE.READY_W r else Reg.SHD_STATE.READY_E r) 0
  if ¬ s.bit (Reg.SHD_RING_CFG.EN r) ∨ s.wrapped p then s
  else s.modSide p fun d => { d with broken := if d.broken = 0 ∨ code = 1 then code else d.broken, indDue := true }

/-! ### Contexts that use a port -/

/-- The ACTIVE contexts, rising. -/
def activeCtxs (s : Dev) : List Nat :=
  (s.regs.filter fun e => Nat.ble 0xE8000 e.1 && Nat.blt e.1 0xF0000 && (e.1 - 0xE8000) % 64 == 0x30 && e.2.toNat / 2 ^ 30 == 1).map fun e => (e.1 - 0xE8000) / 64

/-- The contexts in QUARANTINE, rising. -/
def quarCtxs (s : Dev) : List Nat :=
  (s.regs.filter fun e => Nat.ble 0xE8000 e.1 && Nat.blt e.1 0xF0000 && (e.1 - 0xE8000) % 64 == 0x30 && e.2.toNat / 2 ^ 30 == 2).map fun e => (e.1 - 0xE8000) / 64

/-- DIR of a context: transmit. -/
def isTx (s : Dev) (x : Nat) : Bool := s.bit (Reg.STM_CTX_CFG.DIR x)
/-- The ACTIVE transmit contexts with port `p` in EGRESS. -/
def txOn (s : Dev) (p : Nat) : List Nat := s.activeCtxs.filter fun x => s.isTx x && (s.get (Reg.STM_CTX_CFG.EGRESS x)).testBit p
/-- The class of a context's copies on a port, before the ring's own placement. -/
def ctxClass (s : Dev) (p x : Nat) : Nat := s.classOf p (s.get (Reg.STM_CTX_CFG.PRIO x))

/-- Active bank of the receive rules. -/
def ruleBank (s : Dev) : Nat := s.get Reg.FRM_RULE_CTL.ACTIVE
/-- The enabled rules of the active bank, in index order. -/
def rulesOn (s : Dev) (b : Nat) : List Nat :=
  let lo := Reg.FRM_RULE_A b 0
  (s.regs.filter fun e => Nat.ble lo e.1 && Nat.blt e.1 (lo + 0x1000) && (e.1 - lo) % 16 == 0 && e.2.toNat.testBit 31).map fun e => (e.1 - lo) / 16

/-- A reserved stream transmits on the port (R137). -/
def reservedOn (s : Dev) (p : Nat) : Bool := (s.txOn p).any fun x => s.get (Reg.STM_RESV.N_S x) != 0

/-- A stream context with a gated class transmits or receives on the port (R82): the port gates, and a transmit context has it in EGRESS or a rule of the port steers to a receive context (log entry 13). -/
def gatedStreamOn (s : Dev) (p : Nat) : Bool :=
  s.bit (Reg.GTE_PORT_CTL.GATE_EN p) &&
    (!(s.txOn p).isEmpty ||
      ((s.rulesOn s.ruleBank).any fun r =>
        s.get (Reg.FRM_RULE_A.ACTION s.ruleBank r) == 2 && (s.get (Reg.FRM_RULE_A.PORT_MASK s.ruleBank r)).testBit p
          && (s.activeCtxs.any fun x => !s.isTx x)))

/-- The admission rate of a port (R128). -/
def admissionRate (s : Dev) (p : Nat) : Nat :=
  if 4 ≤ p ∧ s.bit (Reg.PRT_DS.DS_EN p) then s.get (Reg.PRT_DS.DS_FLOOR p) else s.get (Reg.PRT_MODE.SPEED_MAX p)

end Dev

end Sys2Proof.Machine
end

