-- ==== Sys2Proof/Machine/Ports.lean ====
section
/-! DEFINITION. The network ports (spec/04_ports.md): links, rates, the transmit synthesiser, MDIO and statistics. -/

namespace Sys2Proof.Machine

namespace Dev

/-! ### PTP roles and the ports that keep their rate (R39, R82) -/

/-- The role in effect of a port; 0 where it has none (R95, TIM_PORT_CFG). -/
def ptpRole (s : Dev) (p : Nat) : Nat :=
  let r := s.get (Reg.TIM_PORT_CFG.ROLE p)
  if 5 < r ∨ (r = 1 ∧ 4 ≤ p) then 0 else r

/-- The slave port of a source: 0 ring A, 1 ring B, 2 the edge ports. -/
def slaveOf (s : Dev) (src : Nat) : Option Nat :=
  let x := Tab.get (fun _ => 0) s.tim.slaves src
  if x = 0 then none else some (x - 1)

/-- R82 forbids down-shift on the edge port. -/
def dsForbidden (s : Dev) (p : Nat) : Bool :=
  s.gatedStreamOn p || s.slaveOf 2 == some p || s.ptpRole p == 3 || s.ptpRole p == 4

/-! ### Links (R67–R70, R84) -/

/-- Whether a port lists a data rate in its mode (R67). -/
def rateListed (s : Dev) (p rate : Nat) : Bool :=
  if p < 4 then (s.mode p == 1 && rate == 2) || (s.mode p == 3 && rate == 4)
  else (s.mode p == 1 && Nat.ble rate 2) || (s.mode p == 2 && rate == 3) || (s.mode p == 3 && Nat.ble rate 3)

/-- A rate at which the link may come up: no rate mismatch of R68 and R84. -/
def rateFits (s : Dev) (p rate : Nat) : Bool :=
  s.rateListed p rate &&
    (if p < 4 then rate == s.get (Reg.PRT_MODE.SPEED_MAX p)
    else if s.reservedOn p || s.gatedStreamOn p then Nat.ble (s.admissionRate p) rate else true)

/-- A pre-empted frame is abandoned: late, and HOLD_ABANDON records an event (R124). -/
def abandonHold (s : Dev) (p : Nat) : Dev :=
  match (s.port p).hold with
  | none => s
  | some h => ((s.modPort p fun x => { x with hold := none }).dropLate p h.ent).fault bGTE 2

/-- LINK_UP falls: LINK_CHANGE is set, and a pre-empted frame is abandoned at once (R70, R129); a frame in reception is cut short (R83). -/
def dropLink (s : Dev) (p : Nat) : Dev :=
  let up := s.linkUp p
  let s := s.modPort p fun x => { x with lockAt := none, cutDue := x.cutDue || up }
  if s.linkUp p then ((s.put (prtBit p 1) 0).raise (bPRT p) 4).abandonHold p else s

/-- A fall of LINK_UP that is no declared loss: a ring port passes it to the Shroud as a link loss (R70). -/
def quietDrop (s : Dev) (p : Nat) : Dev :=
  let was := s.linkUp p
  (s.dropLink p).when (was && Nat.blt p 4) fun s => s.detectBreak p 1

/-- A declared link loss (R70). -/
def declareLoss (s : Dev) (p : Nat) : Dev :=
  let s := (s.dropLink p).inc (Reg.PRT_LINK_LOSS_CNT.COUNT p)
  let s := s.fault (bPRT p) 1
  s.when (Nat.blt p 4) fun s => s.detectBreak p 1

/-- Auto-negotiation restarts, offering rate `r` (R81, R83). -/
def restartAn (s : Dev) (p r : Nat) : Dev :=
  (s.put (prtBit p 3) 1).modPort p fun x => { x with renegRate := r, restartDue := false }

/-- A link loss stops an eye scan of the port, which waits to run again (R391). -/
def scanStop (s : Dev) (p : Nat) : Dev :=
  if s.ist.running = some (4, p) then { s.put (statusBit bIST 0) 0 with ist := { s.ist with running := none, left := (4, p) :: s.ist.left } } else s

/-- A loss condition begins (R70, R78): held inside a quiet gap of a ring port or at its end (R92), else declared while LINK_UP is 1; while LINK_UP is 0 it restarts the 10 µs of lock. -/
def linkLoss (s : Dev) (p : Nat) (signal : Bool) : Dev := s.atBlock (bPRT p) fun s =>
  let s := (s.when signal fun s => s.put (prtBit p 2) 0).scanStop p
  let up := s.linkUp p
  let s := s.modPort p fun x => { x with lockAt := none, condAt := some s.up }
  if ¬ up then s
  else if p < 4 ∧ s.inGapOrEnd p then
    s.modPort p fun x => { x with lossAt := some (x.lossAt.getD s.up) }
  else s.declareLoss p

/-- Verification starts (R121). -/
def verifyStart (s : Dev) (p : Nat) : Dev :=
  (s.put (Reg.GTE_PREEMPT_STAT.VERIFY_STATE p) 2).modPort p fun x => { x with attempts := 0, verifyAt := none, verifyDue := true }

/-- The never-carried test of every queued frame of a port (R120). -/
def retestQueues (s : Dev) (p : Nat) : Dev :=
  (List.range 8).foldl (fun s c =>
    let q := s.classQueue p c
    let bad := q.filter fun e => s.neverCarried p c (frameLen e.data)
    if bad = [] then s
    else bad.foldl (fun s e => s.dropNeverCarried p e) (s.setClassQueue p c (q.filter fun e => !s.neverCarried p c (frameLen e.data)))) s

/-- 10 µs have passed since the last condition of link loss began (R70). -/
def lockLong (s : Dev) (p : Nat) : Bool := match (s.port p).condAt with
  | none => true
  | some t => Nat.ble (t + 10000) s.up

/-- LINK_UP is set: the PCS has been locked without indication for 10 µs and the rate in use is no mismatch (R68, R70); verification starts and every queued frame is tested (R120, R121). RX_LOCK shows the lock also while LINK_UP is held back (R93). -/
def linkComesUp (s : Dev) (p : Nat) : Dev := s.atBlock (bPRT p) fun s =>
  let s := s.when (s.mode p == 2) fun s => s.put (Reg.PRT_LINK.SPEED_NOW p) 3
  let s := s.when (s.mode p != 0) fun s => s.put (prtBit p 2) 1
  if s.mode p = 0 ∨ s.linkUp p ∨ s.bit (prtBit p 3) ∨ (s.port p).rateBad = true ∨ ¬ s.lockLong p ∨ ¬ s.rateFits p (s.rate p) then s
  else
    let s := (s.put (prtBit p 1) 1).raise (bPRT p) 4
    let s := s.modPort p fun x => { x with lockAt := some s.up, lossAt := none, cutDue := false }
    let s := s.when (s.bit (Reg.GTE_PREEMPT.EN p) && !s.bit (Reg.GTE_PREEMPT.VERIFY_DIS p)) fun s => s.verifyStart p
    let s := s.when (Nat.blt p 4) fun s => s.modSide p fun d => { d with cleanAt := some s.up, indicating := false, indDue := false }
    s.retestQueues p

/-- The last forced renegotiation is at least one second back (R68, R84). -/
def restartFree (s : Dev) (p : Nat) : Bool := match (s.port p).renegAt with
  | none => true
  | some t => Nat.ble (t + 1000000000) s.up

/-- A forced restart of auto-negotiation at SPEED_MAX: at once, or when the last one is a second back (R68, R84). -/
def forceRestart (s : Dev) (p : Nat) : Dev :=
  if s.restartFree p then (s.restartAn p (s.get (Reg.PRT_MODE.SPEED_MAX p))).modPort p fun x => { x with renegAt := some s.up }
  else s.modPort p fun x => { x with restartDue := true }

/-- A rate mismatch: the link counts as down and each report as a loss, until a report of a rate that fits; an edge port restarts auto-negotiation at most once per second (R68, R84). -/
def rateMismatch (s : Dev) (p : Nat) : Dev :=
  let s := ((s.dropLink p).inc (Reg.PRT_LINK_LOSS_CNT.COUNT p)).modPort p fun x => { x with rateBad := true }
  let s := s.fault (bPRT p) 1
  if p < 4 then s.detectBreak p 1 else s.forceRestart p

/-- The PHY reports a rate: auto-negotiation is complete and the MAC follows it, or it is a mismatch (R67, R68, R83, R84). -/
def phyRateReport (s : Dev) (p rate : Nat) : Dev := s.atBlock (bPRT p) fun s =>
  if s.mode p = 0 then s
  else
    let s := (s.put (prtBit p 3) 0).put (prtBit p 2) 1
    if s.rateFits p rate then (s.modPort p fun x => { x with rateBad := false, restartDue := false }).put (Reg.PRT_LINK.SPEED_NOW p) rate
    else s.rateMismatch p

/-- What an edge port sees to by itself: a restart that had to wait is made, and a link that runs below the admission rate of a stream that now needs it is treated as down (R68, R84). -/
def rateGuard (s : Dev) (p : Nat) : Dev := s.atBlock (bPRT p) fun s =>
  let s := s.when ((s.port p).restartDue && s.restartFree p && s.mode p != 0) (·.forceRestart p)
  s.when (s.linkUp p && (s.reservedOn p || s.gatedStreamOn p) && Nat.blt (s.rate p) (s.admissionRate p)) (·.rateMismatch p)

/-- PRT_MODE takes the written fields; MODE 0 drops LINK_UP (R70); under a new MODE the PCS has yet to lock. -/
def prtModeWrite (s : Dev) (p : Nat) (v : Word) : Dev :=
  let old := s.mode p
  let s := s.writeFields (bPRT p) (Reg.PRT_MODE p) v
  let s := s.when (old != s.mode p) (·.modPort p fun x => { x with condAt := some s.up, rateBad := false, restartDue := false })
  (s.when (s.mode p == 0) fun s => s.quietDrop p).tracePortTidy

/-! ### PRT_CMD (R72, R83, R91) -/

/-- PRT_CMD.RENEG restarts auto-negotiation at SPEED_MAX; ignored on ring ports (R83, R93). -/
def reneg (s : Dev) (p : Nat) : Dev := s.atBlock (bPRT p) fun s =>
  if p < 4 then s else (s.quietDrop p).restartAn p (s.get (Reg.PRT_MODE.SPEED_MAX p))

/-- A soft request is pending (R72). -/
def softRaise (s : Dev) (p : Nat) : Dev :=
  if s.bit (Reg.PRT_SYNTH.SOFT_REQ p) then s
  else (s.put (Reg.PRT_SYNTH.SOFT_REQ p) 1).modPort p fun x => { x with softAt := s.up }

/-- PRT_CMD.RECAL raises a soft request (R72). -/
def recalCmd (s : Dev) (p : Nat) : Dev := s.atBlock (bPRT p) fun s => s.softRaise p

/-- Every PRT_RX_ and PRT_TX_ counter and every half bit of the port becomes 0 in one core clock; PRT_WINDOW_LOST stays (R91). -/
def clearStats (s : Dev) (p : Nat) : Dev := s.atBlock (bPRT p) fun s =>
  let s := (List.range 22).foldl (fun s i => s.setWord (Reg.PRT_RX_CNT p i) 0) s
  let s := (List.range 18).foldl (fun s i => s.setWord (Reg.PRT_TX_CNT p i) 0) s
  (s.setWord (Reg.PRT_HALF_RX p) 0).setWord (Reg.PRT_HALF_TX p) 0

/-! ### Recalibration (R72–R80) -/

/-- SOFT_MARGIN; 0 acts as 1 (R93). -/
def softMargin (s : Dev) (p : Nat) : Nat := max 1 (s.get (Reg.PRT_SYNTH.SOFT_MARGIN p))

/-- TX_SETTLED falls: every window open now saw it (R75). -/
def unsettle (s : Dev) (p : Nat) : Dev :=
  (s.put (prtBit p 0) 0).modPort p fun x => { x with unsettled := x.unsettled ||| s.gatesAt p s.now }

/-- The synthesiser begins to recalibrate (R77). -/
def recalBegin (s : Dev) (p : Nat) : Dev :=
  ((s.unsettle p).put (Reg.PRT_SYNTH.RECAL_ACTIVE p) 1).modPort p fun x => { x with recalAt := some s.up, mpTill := s.up }

/-- The frame on the line is cut short: late, not resent (R79). -/
def cutLine (s : Dev) (p : Nat) : Dev :=
  match (s.port p).line with
  | none => s
  | some l => ((s.creditSync p l.cls).modPort p fun x => { x with line := none }).dropLate p l.ent

/-- TUNE_NOW takes a position: at 0 or 255 a hard request arises, with TX_PLL_UNLOCK, and transmission stops at once for a recalibration; outside the soft margin a soft request arises (R72, R79). -/
def tuneMove (s : Dev) (p tune : Nat) : Dev :=
  let s := s.put (Reg.PRT_SYNTH.TUNE_NOW p) tune
  if tune = 0 ∨ tune = 255 then ((s.fault (bPRT p) 0).cutLine p).recalBegin p
  else s.when (Nat.blt tune (s.softMargin p) || Nat.blt (255 - s.softMargin p) tune) fun s => s.softRaise p

/-- SOFT_REQUEST: the synthesiser follows the temperature to `tune` (R72). -/
def softRequest (s : Dev) (p tune : Nat) : Dev := s.atBlock (bPRT p) (·.tuneMove p tune)

/-- HARD_REQUEST: the same towards the end of the band (R72, R79). -/
def hardRequest (s : Dev) (p tune : Nat) : Dev := s.atBlock (bPRT p) (·.tuneMove p tune)

/-- A calibration ends: the synthesiser is in lock at the middle of its band (R72). -/
def tuned (s : Dev) (p : Nat) : Dev := (s.put (prtBit p 0) 1).put (Reg.PRT_SYNTH.TUNE_NOW p) 128

/-- The transmitter is idle between frames and mPackets, and no continuation waits (R73, R431). -/
def txIdle (s : Dev) (p : Nat) : Bool := (s.port p).idle && Nat.ble (s.port p).mpTill s.up

/-- `up` of the first instant since `t0` at which the transmitter of port `p` was idle, of an idle spell that still goes on; none where an earlier one fell after `t0` (R76). -/
def firstIdle (s : Dev) (p t0 : Nat) : Option Nat :=
  let x := s.port p
  let t := if x.idleAt ≤ t0 then some t0 else if x.busyAt ≤ t0 then some x.idleAt else none
  if ¬ s.txIdle p then none else t.map (max x.mpTill)

/-- The start instant of a quiet gap with a soft request pending: the recalibration starts if at least 30 µs of the gap are left and the other ring is healthy; otherwise not in this gap (R76). -/
def recalStart (s : Dev) (p : Nat) : Dev := s.atBlock (bPRT p) fun s =>
  if p < 4 ∧ s.bit (Reg.PRT_SYNTH.SOFT_REQ p) ∧ ¬ s.bit (Reg.PRT_SYNTH.RECAL_ACTIVE p) then
    match s.inGap p with
    | none => s
    | some g =>
      let t0 := s.up - ((s.ringSchedule (ringOf p)).phase s.now - g.1 * 65536) / 65536
      match s.firstIdle p t0 with
      | none => s
      | some t => s.when (Nat.blt s.up (t + 2) && Nat.ble (t - t0 + 30000) (g.2 - g.1) && s.ringHealthy (1 - ringOf p)) (·.recalBegin p)
  else s

/-- The gate of class `c` stays closed from `t` until after `lim` in the schedule in force, a pending change point taken into account (R80). -/
def closedThrough (s : Dev) (p c t lim : Nat) : Bool :=
  let flip (g : Schedule) : Schedule := { g with segs := g.segs.map fun x => { x with gates := 255 - x.gates % 256 } }
  let stays (g : Schedule) (a b : Nat) : Bool := match (flip g).openFor c a with
    | none => true
    | some d => Nat.blt b (a + d)
  s.gating p && !(s.gatesAt p t).testBit c &&
    (let g := s.schedule p (s.gclActive p)
    if s.bit (Reg.GTE_GCL_CTL.SWAP_PEND p) && Nat.ble (s.pendingPoint p) lim then
      let cp := max t (s.pendingPoint p)
      let h := s.schedule p (1 - s.gclActive p)
      (cp == t || stays g t (cp - 1)) && !(h.at cp).2.testBit c && stays h cp lim
    else stays g t lim)

/-- Class `c` carries a scheduled stream on the port (R80). -/
def carriesScheduled (s : Dev) (p c : Nat) : Bool :=
  s.bit (Reg.GTE_PORT_CTL.GATE_EN p) && (s.txOn p).any fun x => s.ctxClass p x == c

/-- An edge port recalibrates for a soft request at the first idle instant with no scheduled gate open for 40 µs (R80). -/
def edgeRecalStart (s : Dev) (p : Nat) : Dev := s.atBlock (bPRT p) fun s =>
  if 4 ≤ p ∧ s.bit (Reg.PRT_SYNTH.SOFT_REQ p) ∧ ¬ s.bit (Reg.PRT_SYNTH.RECAL_ACTIVE p) ∧ s.txIdle p
      ∧ ((List.range 8).all fun c => !s.carriesScheduled p c || s.closedThrough p c s.now (s.now + 40000 * 65536)) then s.recalBegin p
  else s

/-- The synthesiser has relocked: TX_SETTLED rises, RECAL_DONE, PRT_RECAL_CNT, TUNE_NOW at 128, the soft request carried out (R72, R77). -/
def recalDone (s : Dev) (p : Nat) : Dev := s.atBlock (bPRT p) fun s =>
  if ¬ s.bit (Reg.PRT_SYNTH.RECAL_ACTIVE p) then s
  else
    let s := (s.tuned p).raise (bPRT p) 5
    let s := (s.put (Reg.PRT_SYNTH.RECAL_ACTIVE p) 0).put (Reg.PRT_SYNTH.SOFT_REQ p) 0
    let s := s.inc (Reg.PRT_RECAL_CNT.COUNT p)
    s.modPort p fun x => { x with recalAt := none }

/-- `up` at which the quiet gap that has just ended began, if the present instant is in none. -/
def gapEnded (s : Dev) (p : Nat) : Option Nat :=
  if (s.inGap p).isSome then none
  else
    let g := s.ringSchedule (ringOf p)
    let cyc := max 1 g.cycle * 65536
    let ph := g.phase s.now
    ((s.quietGaps (ringOf p)).map fun x => ((ph + cyc - x.2 * 65536 % cyc) % cyc, x.2 - x.1)).foldl
      (fun (a : Option (Nat × Nat)) x => match a with
        | none => some x
        | some y => if x.1 < y.1 then some x else a) none
    |>.map fun x => s.up - x.1 / 65536 - x.2

/-- A quiet gap ends: a soft request pending since its start is counted as deferred, once per gap (R76). -/
def quietGapEnd (s : Dev) (p : Nat) : Dev := s.atBlock (bPRT p) fun s =>
  match (if p < 4 then s.gapEnded p else none) with
  | none => s
  | some t0 =>
    let counted := match (s.port p).gapCounted with
      | none => false
      | some t => Nat.ble t0 (t + 1000)
    let pend := s.bit (Reg.PRT_SYNTH.SOFT_REQ p) && !s.bit (Reg.PRT_SYNTH.RECAL_ACTIVE p) && Nat.ble (s.port p).softAt t0 && !counted
    let s := s.modPort p fun x => { x with gapCounted := some t0 }
    s.when pend fun s => (s.inc (Reg.PRT_RECAL_DEFER.COUNT p)).raise (bPRT p) 6

/-- A loss held in a quiet gap ends within 30 µs: it is only counted (R78). -/
def losMasked (s : Dev) (p : Nat) : Dev := s.atBlock (bPRT p) fun s =>
  match (s.port p).lossAt with
  | none => s
  | some t =>
    if s.up < t + 30000 then
      ((s.modPort p fun x => { x with lossAt := none }).put (prtBit p 2) 1).inc (Reg.PRT_LOS_MASKED.COUNT p)
    else s

/-- A loss held in a quiet gap has lasted 30 µs: it is reported under R70 (R78). -/
def maskedLossReport (s : Dev) (p : Nat) : Dev := s.atBlock (bPRT p) fun s =>
  match (s.port p).lossAt with
  | none => s
  | some t =>
    if s.up < t + 30000 then s
    else (s.modPort p fun x => { x with lossAt := none }).declareLoss p

/-! ### MDIO (R85) -/

/-- The management frame of a command word of port `p`: start, op-code, PHY address, register, turnaround, data. -/
def mdioFrame (s : Dev) (p w : Nat) : Nat :=
  (if s.bit (Reg.PRT_PHY.CL45 p) then 0 else 2 ^ 30) + w / 2 ^ 29 % 4 * 2 ^ 28 + s.get (Reg.PRT_PHY.PHY_ADDR p) * 2 ^ 23
    + w / 2 ^ 24 % 32 * 2 ^ 18 + 2 * 2 ^ 16 + w % 65536

/-- Queue a management command; it goes out at once when the bus is free. -/
def mdioQueue (s : Dev) (p w : Nat) (own : Bool) : Dev :=
  let s' := { s with mdio := s.mdio ++ [(p, w, own)] }
  if s.mdio = [] then s'.emit (.mdio p (s.mdioFrame p w)) else s'

/-- A write of PRT_MDIO: no effect while START reads 1; with START it issues the command (R85). -/
def mdioCommand (s : Dev) (p : Nat) (v : Word) : Dev :=
  if s.bit (Reg.PRT_MDIO.START p) then s
  else
    let s := s.writeFields (bPRT p) (Reg.PRT_MDIO p) v
    s.when (wbit v 31) fun s => s.mdioQueue p v.toNat false

/-- The management frame on the bus completes: START clears, MDIO_DONE is set, a read result is in DATA, at a port whose block is on; the next command goes out (R85). -/
def mdioDone (s : Dev) (p data : Nat) : Dev :=
  match s.mdio with
  | [] => s
  | (q, w, own) :: rest =>
    if q ≠ p then s
    else
      let s := { s with mdio := rest }
      let op := w / 2 ^ 29 % 4
      let isRead := op == 2 || (op == 3 && s.bit (Reg.PRT_PHY.CL45 p))
      let s := s.when (!own && s.blockOn (bPRT p)) fun s =>
        let s := s.when isRead fun s => s.put (Reg.PRT_MDIO.DATA p) data
        (s.put (Reg.PRT_MDIO.START p) 0).raise (bPRT p) 9
      match rest with
      | [] => s
      | (q', w', _) :: _ => s.emit (.mdio q' (s.mdioFrame q' w'))

/-! ### Rate down-shift (R81, R82) -/

/-- DWELL in ns; 0 acts as 1 s. -/
def dwellNs (s : Dev) (p : Nat) : Nat := max 1 (s.get (Reg.PRT_DS.DWELL p)) * 1000000000
/-- A percentage field; values outside 1 to 100 act as 100. -/
def pct (x : Nat) : Nat := if 1 ≤ x ∧ x ≤ 100 then x else 100
/-- The next rate below, at or above DS_FLOOR and no higher than SPEED_MAX, that the mode allows. -/
def lowerRate (s : Dev) (p : Nat) : Option Nat :=
  ((List.range (s.rate p)).reverse.filter fun r => s.rateListed p r && Nat.ble (s.get (Reg.PRT_DS.DS_FLOOR p)) r && Nat.ble r (s.get (Reg.PRT_MODE.SPEED_MAX p))).head?
/-- The next rate above, at or below SPEED_MAX, that the mode allows. -/
def higherRate (s : Dev) (p : Nat) : Option Nat :=
  ((List.range 5).filter fun r => Nat.blt (s.rate p) r && s.rateListed p r && Nat.ble r (s.get (Reg.PRT_MODE.SPEED_MAX p))).head?
/-- DWELL has passed since the last shift. -/
def dwellOver (s : Dev) (p : Nat) : Bool := match (s.port p).shiftAt with
  | none => true
  | some t => Nat.ble (t + s.dwellNs p) s.up

/-- One rate shift: the advertisement is rewritten over MDIO (registers 4 and 9, or MMD 7) and auto-negotiation restarted; DOWNSHIFT and PRT_DS_CNT record it (R81). The advertised words are not stated: free values. -/
def shiftTo (s : Dev) (p r : Nat) : Dev :=
  let s := (s.quietDrop p).restartAn p r
  let s := (s.raise (bPRT p) 7).inc (Reg.PRT_DS_CNT.COUNT p)
  let regs := if s.bit (Reg.PRT_PHY.CL45 p) then [7, 7] else [4, 9]
  let s := regs.foldl (fun s a => let (w, s) := s.freeWord; s.mdioQueue p (2 ^ 29 + a * 2 ^ 24 + w % 65536) true) s
  s.modPort p fun x => { x with shiftAt := some s.up, belowAt := none }

/-- Rate shifts are enabled on an edge port and not forbidden there (R81, R82). -/
def shifts (s : Dev) (p : Nat) : Bool := Nat.ble 4 p && s.bit (Reg.PRT_DS.DS_EN p) && !s.dsForbidden p

/-- Traffic has stayed below IDLE_PCT of the next lower rate for DWELL seconds: shift down one step (R81). -/
def downshift (s : Dev) (p : Nat) : Dev := s.atBlock (bPRT p) fun s =>
  if s.shifts p ∧ s.linkUp p ∧ s.dwellOver p then
    match s.lowerRate p, (s.port p).belowAt with
    | some r, some t => if t + s.dwellNs p ≤ s.up then s.shiftTo p r else s
    | _, _ => s
  else s

/-- Either direction exceeded UP_PCT of the present rate in the last millisecond: shift up one step (R81). -/
def upshift (s : Dev) (p : Nat) : Dev := s.atBlock (bPRT p) fun s =>
  let lim := pct (s.get (Reg.PRT_DS.UP_PCT p)) * rateKbps (s.rate p)
  if s.shifts p ∧ s.linkUp p ∧ s.dwellOver p
      ∧ (lim < 800 * (s.port p).txLast ∨ lim < 800 * (s.port p).rxLast) then
    match s.higherRate p with
    | some r => s.shiftTo p r
    | none => s
  else s

/-- The end of a millisecond: each edge port's byte counts are taken, and the start of an idle spell, that of its first millisecond, noted (R81). -/
def dsMillisecond (s : Dev) : Dev :=
  [4, 5, 6, 7].foldl (fun s p =>
    let x := s.port p
    let low := match s.lowerRate p with
      | some r => let lim := pct (s.get (Reg.PRT_DS.IDLE_PCT p)) * rateKbps r
        Nat.blt (800 * x.txMs) lim && Nat.blt (800 * x.rxMs) lim
      | none => false
    s.setPort p { x with
      txMs := 0, rxMs := 0, txLast := x.txMs, rxLast := x.rxMs
      belowAt := if s.bit (Reg.PRT_DS.DS_EN p) && low then some (x.belowAt.getD (s.up - 1000000)) else none }) s

/-! ### PHY interrupt, equaliser, PCS (R71, R86, R93) -/

/-- While PHY_INT_N is low and INT_EN is 1, PHY_INT is set (R86). -/
def phyIntCheck (s : Dev) (p : Nat) : Dev :=
  s.when ((s.port p).phyLow && s.bit (Reg.PRT_PHY.INT_EN p)) fun s => s.raise (bPRT p) 10

/-- PHY_INT_N takes a level (R86). -/
def phyInt (s : Dev) (p : Nat) (low : Bool) : Dev := s.atBlock (bPRT p) fun s =>
  (s.modPort p fun x => { x with phyLow := low }).phyIntCheck p

/-- The equaliser holds its settings (R71). -/
def eqFrozen (s : Dev) (p : Nat) : Bool := s.bit (Reg.PRT_EQ.EQ_FREEZE p) || s.bit (ctlBit (bPRT p) 16)
/-- The CTLE limits as they act: a CTLE_MIN above CTLE_MAX acts as CTLE_MAX (R93). -/
def ctleHi (s : Dev) (p : Nat) : Nat := s.get (Reg.PRT_EQ.CTLE_MAX p)
/-- The lower one. -/
def ctleLo (s : Dev) (p : Nat) : Nat := min (s.ctleHi p) (s.get (Reg.PRT_EQ.CTLE_MIN p))
/-- The CTLE setting takes a value within the limits (R71). -/
def ctleSet (s : Dev) (p x : Nat) : Dev := s.put (Reg.PRT_EQ.CTLE_NOW p) (max (s.ctleLo p) (min (s.ctleHi p) x))

/-- The equaliser would go beyond a limit: the setting stays there and EQ_LIMIT records an event; held while frozen (R71). -/
def eqLimit (s : Dev) (p : Nat) (high : Bool) : Dev := s.atBlock (bPRT p) fun s =>
  if s.eqFrozen p then s
  else (s.ctleSet p (if high then s.ctleHi p else s.ctleLo p)).fault (bPRT p) 2

/-- PRT_EQ is written: the setting comes within new limits unless it is frozen (R71). -/
def prtEqWrite (s : Dev) (p : Nat) (v : Word) : Dev :=
  let s := s.writeFields (bPRT p) (Reg.PRT_EQ p) v
  s.when (!s.eqFrozen p) fun s => s.ctleSet p (s.get (Reg.PRT_EQ.CTLE_NOW p))

/-- The CTLE and the five DFE taps of a lane that receives adapt, each to a free value, the CTLE within its limits: the loop's law and pace are stated nowhere; the model adapts every microsecond (R71, log entry 64). -/
def eqAdapt (s : Dev) (p : Nat) : Dev :=
  if s.mode p = 0 ∨ ¬ s.bit (prtBit p 2) ∨ s.eqFrozen p then s
  else
    let (c, s) := s.freeWord
    let (d, s) := s.freeWord
    let (e, s) := s.freeWord
    let taps := [d % 256, d / 2 ^ 8 % 256, d / 2 ^ 16 % 256, d / 2 ^ 24 % 256, e % 256]
    ((s.ctleSet p (c % 32)).put (Reg.PRT_EQ.DFE_TAP p) (d % 256)).modPort p fun x => { x with dfe := taps }

/-- The PCS error rate passes its mode's limit (R93). -/
def pcsErr (s : Dev) (p : Nat) : Dev := s.atBlock (bPRT p) fun s => s.fault (bPRT p) 3

end Dev

/-- LINK_LOSS (R70, R78). -/
def execLinkLoss (p : Fin 8) (signal : Bool) (s : State) := devStep (·.linkLoss p signal) s
/-- LINK_UP (R70). -/
def execLinkUp (p : Fin 8) (s : State) := devStep (·.linkComesUp p) s
/-- PHY_RATE_REPORT (R68). -/
def execPhyRateReport (p : Fin 8) (rate : Fin 5) (s : State) := devStep (·.phyRateReport p rate) s
/-- PRT_MODE_WRITE (R70). -/
def execPrtModeWrite (p : Fin 8) (value : Word) (s : State) :=
  devStep (fun d => d.hostGate (bPRT p) (Reg.PRT_MODE p) value (·.prtModeWrite p value)) s
/-- RENEG (R83). -/
def execReneg (p : Fin 8) (s : State) := devStep (fun d => d.hostGate (bPRT p) (Reg.PRT_CMD p) 2 (·.reneg p)) s
/-- RECAL (R72). -/
def execRecal (p : Fin 8) (s : State) := devStep (fun d => d.hostGate (bPRT p) (Reg.PRT_CMD p) 1 (·.recalCmd p)) s
/-- CLEAR_STATS (R91). -/
def execClearStats (p : Fin 8) (s : State) := devStep (fun d => d.hostGate (bPRT p) (Reg.PRT_CMD p) 4 (·.clearStats p)) s
/-- SOFT_REQUEST (R72). -/
def execSoftRequest (p : Fin 8) (tune : BitVec 8) (s : State) := devStep (·.softRequest p tune.toNat) s
/-- HARD_REQUEST (R79). -/
def execHardRequest (p : Fin 8) (tune : BitVec 8) (s : State) := devStep (·.hardRequest p tune.toNat) s
/-- RECALIBRATION_START (R76). -/
def execRecalibrationStart (p : Fin 8) (s : State) := devStep (·.recalStart p) s
/-- EDGE_RECALIBRATION_START (R80). -/
def execEdgeRecalibrationStart (p : Fin 8) (s : State) := devStep (·.edgeRecalStart p) s
/-- RECAL_DONE (R77). -/
def execRecalDone (p : Fin 8) (s : State) := devStep (·.recalDone p) s
/-- QUIET_GAP_END (R76). -/
def execQuietGapEnd (p : Fin 8) (s : State) := devStep (·.quietGapEnd p) s
/-- LOS_MASKED (R78). -/
def execLosMasked (p : Fin 8) (s : State) := devStep (·.losMasked p) s
/-- MASKED_LOSS_REPORT (R78). -/
def execMaskedLossReport (p : Fin 8) (s : State) := devStep (·.maskedLossReport p) s
/-- DOWNSHIFT (R81). -/
def execDownshift (p : Fin 8) (s : State) := devStep (·.downshift p) s
/-- UPSHIFT (R81). -/
def execUpshift (p : Fin 8) (s : State) := devStep (·.upshift p) s
/-- MDIO_COMMAND (R85). -/
def execMdioCommand (p : Fin 8) (value : Word) (s : State) :=
  devStep (fun d => d.hostGate (bPRT p) (Reg.PRT_MDIO p) value (·.mdioCommand p value)) s
/-- MDIO_DONE (R85). -/
def execMdioDone (p : Fin 8) (data : BitVec 16) (s : State) := devStep (·.mdioDone p data.toNat) s
/-- PHY_INT (R86). -/
def execPhyInt (p : Fin 8) (low : Bool) (s : State) := devStep (·.phyInt p low) s
/-- EQ_LIMIT (R71). -/
def execEqLimit (p : Fin 8) (high : Bool) (s : State) := devStep (·.eqLimit p high) s
/-- PCS_ERR (R93). -/
def execPcsErr (p : Fin 8) (s : State) := devStep (·.pcsErr p) s

end Sys2Proof.Machine
end

