-- ==== Sys2Proof/Machine/Reef.lean ====
section
/-! DEFINITION. The Reef (spec/06_gates_preemption.md): transmission selection, gate changes, schedule changes, pre-emption and shapers, and its admission checks (R128). -/

namespace Sys2Proof.Machine

namespace Dev

/-! ### Selection (R113, R119, R123) -/

/-- A head frame may start at `t` under the guard rule: whole, or for a pre-emptable frame with pre-emption active up to an allowed boundary (R119, R123). -/
def guardOk (s : Dev) (p c t : Nat) (e : QEnt) : Bool :=
  let len := frameLen e.data
  s.fits p c t (len - e.sent + 20) ||
    (s.preemptActive p && !s.isExpress p c &&
      (match s.firstBoundary p e.sent len with
      | some k => s.fits p c t (k - e.sent + 24)
      | none => false))

/-- A beacon: a Mizal control frame of type 1 (R164). -/
def isBeacon (l : List Octet) : Bool := (fieldBE l 14 2).testBit 13 && fieldBE l 18 1 == 1

/-- The frame at the head of class `c`. While the ring's table does not match, class 7 of a ring port sends relays and beacons and passes over own frames (R173; log entry 76). -/
def headOf (s : Dev) (p c : Nat) : Option QEnt :=
  if p < 4 ∧ c = 7 ∧ s.bit (Reg.SHD_STATE.TABLE_MISMATCH (ringOf p)) then
    (s.classQueue p c).find? fun e => e.relay.isSome || isBeacon e.data
  else (s.classQueue p c).head?

/-- The frame class `c` would send next: its pre-empted frame, or its head; none while another pre-emptable frame awaits its continuation (R113). -/
def candidate (s : Dev) (p c : Nat) : Option QEnt :=
  match (s.port p).hold with
  | some h =>
    if h.cls = c then some h.ent
    else if s.preemptActive p && !s.isExpress p c then none
    else s.headOf p c
  | none => s.headOf p c

/-- A passed-on Follow_Up is held until its Sync has been sent: it does not start while the Sync waits in another class of the port (R42). -/
def awaitsSync (s : Dev) (p c : Nat) (e : QEnt) : Bool :=
  match e.fix with
  | .followUp k _ => (List.range 8).any fun c' => c' != c && (s.classQueue p c').any fun x => (match x.fix with
    | .twoStep k' _ _ => k' == k
    | _ => false)
  | _ => false

/-- Class `c` may start a frame at `t`: gate, guard rule and credit (R113). -/
def selectable (s : Dev) (p c t : Nat) : Bool :=
  match s.candidate p c with
  | none => false
  | some e => (s.gatesAt p t).testBit c && s.guardOk p c t e && s.creditOk p c && !s.awaitsSync p c e

/-- The class chosen: the highest selectable, with TX_SETTLED and the link up (R73, R113, R120). -/
def selectClass (s : Dev) (p : Nat) : Option Nat :=
  if s.linkUp p ∧ s.txSettled p then [7, 6, 5, 4, 3, 2, 1, 0].find? fun c => s.selectable p c s.now else none

/-- Egress stamp of a frame that starts now (R40). -/
def egressStamp (s : Dev) (p : Nat) : Nat := s.now + s.get (Reg.TIM_LAT.EGR_LAT p) * 65536

/-- The octets of a PTP message with the time `t` in 2^-16 ns in its ten-octet time stamp, the fraction of a nanosecond added to its correctionField (IEEE 1588 layout, PRESUMED, log entry 18). -/
def ptpStampInto (data : List Octet) (t : Nat) : List Octet :=
  let d := patch data 48 (octetsBE 6 (t / 65536 / 1000000000) ++ octetsBE 4 (t / 65536 % 1000000000))
  patch d 22 (octetsBE 8 (fieldBE d 22 8 + t % 65536))

/-- A residence time multiplied by the rate ratio to the grandmaster: how the node measures the ratio is stated nowhere, so its difference from 1 is a free value of 2^-41 (R42, log entry 61). -/
def ratioTime (s : Dev) (r : Nat) : Nat × Dev :=
  let (w, s) := s.freeWord
  (((r : Int) + (r : Int) * toSigned 32 w / 2 ^ 41).toNat, s)

/-- What changes in the octets of a frame in flight, and what is kept, as it starts (R42, R165). -/
def applyFix (s : Dev) (p : Nat) (e : QEnt) : QEnt × Dev :=
  let t := s.egressStamp p
  let addTo (o x : Nat) : List Octet := patch e.data o (octetsBE 8 (fieldBE e.data o 8 + x))
  match e.fix with
  | .none => (e, s)
  | .origin o => ({ e with data := patch e.data o (octetsBE 12 (stampOf t)), fix := .none }, s)
  | .residence o t0 => ({ e with data := addTo o (t - t0), fix := .none }, s)
  | .sync o t0 d =>
    let (r, s) := s.ratioTime (t - t0)
    ({ e with data := addTo o (r + d), fix := .none }, s)
  | .twoStep k t0 d =>
    let (r, s) := s.ratioTime (t - t0)
    ({ e with fix := .none }, { s with tim := { s.tim with followUp := Tab.set (fun _ => 0) s.tim.followUp k (r + d + 1) } })
  | .followUp k o =>
    ({ e with data := addTo o (Tab.get (fun _ => 0) s.tim.followUp k - 1), fix := .none },
      { s with tim := { s.tim with followUp := Tab.set (fun _ => 0) s.tim.followUp k 0 } })
  | .keepStamp k => ({ e with fix := .none }, { s with tim := { s.tim with followUp := Tab.set (fun _ => 0) s.tim.followUp k (t + 1) } })
  | .ptpOrigin => ({ e with data := ptpStampInto e.data t, fix := .none }, s)

/-- The transmitter is free: the highest eligible head frame or continuation starts (R113); each frame of the pre-emptable MAC takes the next frame count (R124). -/
def transmitStart (s : Dev) (p : Nat) : Dev := s.atBlock (bPRT p) fun s =>
  if (s.port p).line.isSome ∨ s.up < (s.port p).mpTill then s
  else match s.selectClass p with
  | none => s
  | some c =>
    match s.candidate p c with
    | none => s
    | some e0 =>
      let cont := Nat.blt 0 e0.sent
      let pre := s.preemptActive p && !s.isExpress p c
      let fcnt := match (s.port p).hold with
        | some h => if cont then h.fcnt else (s.port p).frameCnt
        | none => (s.port p).frameCnt
      let s := s.creditSync p c
      let s := if cont then s.modPort p fun x => { x with hold := none } else s.setClassQueue p c ((s.classQueue p c).erase e0)
      let (e, s) := if cont then (e0, s) else s.applyFix p e0
      let s := s.setFrame e.desc { s.frameOf e.desc with started := true }
      s.modPort p fun x => { x with
        line := some { ent := e, cls := c, start := s.egressStamp p, pre := pre, fcnt := fcnt }
        frameCnt := if pre && !cont then (x.frameCnt + 1) % 4 else x.frameCnt }

/-- DETAIL_A and DETAIL_B of a frame's trace record (R395). -/
def frameTrace (s : Dev) (p : Nat) (send : Bool) (cls : Nat) (ctx : Option Nat) (data : List Octet) : Nat × Nat :=
  let etype := s.get Reg.SHD_CFG.ETYPE
  let body := if p < 4 ∧ (ringTag etype data).isSome then removeRingTag data else data
  let a := send.toNat * 2 ^ 31 + cls * 2 ^ 28 + (match ctx with
    | some x => 2 ^ 27 + x * 2 ^ 18
    | none => 0) + frameLen data % 16384
  let b := match (parse body).rtag with
    | some q => 65536 + q
    | none => 0
  (a, b)

/-- The last byte of a frame has been sent: it is counted and its copy released; an uncorrectable granule error ends it with an inverted FCS and retires the granule (R89, R101, R106). -/
def transmitEnd (s : Dev) (p corr : Nat) (bad : Option Nat) : Dev := s.atBlock (bPRT p) fun s =>
  match (s.port p).line with
  | none => s
  | some l =>
    let e := l.ent
    let len := frameLen e.data
    let s := s.creditSync p l.cls
    let s := s.modPort p fun x => { x with line := none, txMs := x.txMs + (len - e.sent) + 20 }
    let s := s.when (Nat.blt 0 corr) fun s => (s.incBy Reg.FRM_ECC_CORR.COUNT corr).raise bFRM 4
    let s := s.when (Nat.blt 0 e.sent) fun s => s.incTx p 15
    match bad.bind fun i => (s.frameOf e.desc).granules[i]? with
    | some g =>
      let s := ((s.inc Reg.FRM_ECC_UNCORR.COUNT).raise bFRM 4).fault bFRM 0
      let s := (s.incTx p 17).setFrame e.desc { s.frameOf e.desc with bad := g :: (s.frameOf e.desc).bad.filter (· != g) }
      let s := s.bankFault (g / 2048)
      (s.emit (.frame p (e.data.drop e.sent) true)).releaseCopy e.desc
    | none =>
      let s := s.countGood (fun s i => s.incTx p i) (Nat.blt p 4) e.data l.pre
      let s := s.emit (.frame p (e.data.drop e.sent) false)
      let (a, b) := s.frameTrace p true l.cls e.ctx e.data
      let s := s.traceAt (stampOf l.start) 0 p p a b
      s.releaseCopy e.desc

/-! ### Gate closes and openings (R74, R75, R114, R118) -/

/-- Whether a copy still queued at a close is to be dropped (R74, R161). -/
def lateDrops (s : Dev) (p c : Nat) (e : QEnt) : Bool :=
  match e.relay with
  | some _ => c == 7
  | none => match e.ctx with
    | some _ => e.lateDrop
    | none => s.bit (Reg.PRT_TX_CFG.DEFAULT_LATE p)

/-- The gate of class `c` closes: late frames take their policy, and the window is lost where TX_SETTLED was 0 in it (R74, R75). -/
def closeClass (s : Dev) (p c : Nat) : Dev :=
  let q := s.classQueue p c
  let late := q.filter fun e => Nat.blt e.queuedAt s.up
  let s := s.when (!late.isEmpty && (s.port p).unsettled.testBit c) fun s => s.incTx p 18
  let drops := late.filter fun e => s.lateDrops p c e
  let s := if drops = [] then s else s.setClassQueue p c (q.filter fun e => !(Nat.blt e.queuedAt s.up && s.lateDrops p c e))
  drops.foldl (fun s e =>
    let s := match e.relay with
      | some r => s.inc (Reg.SHD_PASS_LATE.COUNT r)
      | none => s
    s.dropLate p e) s

/-- The gates of a port go from those in force to `new`: closes, then openings, which note whether the window starts unsettled. -/
def changeGates (s : Dev) (p entry bank new : Nat) (skipped : Nat) : Dev :=
  let old := s.get (Reg.GTE_CUR_ENTRY.GATE_STATE p)
  let s := s.creditSyncAll p
  let s := (List.range 8).foldl (fun s c => if old.testBit c && (!new.testBit c || skipped.testBit c) then s.closeClass p c else s) s
  let opened := new &&& (255 - (old &&& (255 - skipped)))
  let s := s.modPort p fun x => { x with
    unsettled := if s.txSettled p then x.unsettled &&& (255 - opened) else x.unsettled ||| opened }
  let s := s.put (Reg.GTE_CUR_ENTRY.GATE_STATE p) new
  let s := (s.put (Reg.GTE_CUR_ENTRY.BANK p) bank).put (Reg.GTE_CUR_ENTRY.ENTRY p) entry
  s.when (old != new) fun s => s.trace 1 p p (entry * 2 ^ 16 + bank * 2 ^ 8 + new) (s.word (Reg.GTE_CYCLE_CNT p)).toNat

/-- Cycle starts of the active schedule since the last one counted (GTE_CYCLE_CNT). -/
def countCycles (s : Dev) (p : Nat) : Dev :=
  let k := (s.schedule p (s.gclActive p)).index s.now
  let n := match (s.port p).cycleSeen with
    | none => 1
    | some j => (k - j).toNat
  (s.incBy (Reg.GTE_CYCLE_CNT.COUNT p) n).modPort p fun x => { x with cycleSeen := some (match x.cycleSeen with
    | none => k
    | some j => max j k) }

/-- The schedule's entry at the present instant comes into force (R114); while a backward step holds the gates, nothing changes (R118). -/
def gateChange (s : Dev) (p : Nat) : Dev :=
  if ¬ s.gating p then s
  else
    let frozen := match (s.port p).freezeTill with
      | some u => Nat.blt s.now u
      | none => false
    if frozen then s
    else
      let s := s.modPort p fun x => { x with freezeTill := none }
      let s := s.countCycles p
      let (e, g) := (s.schedule p (s.gclActive p)).at s.now
      s.changeGates p e (s.gclActive p) g 0

/-- Every schedule after a step of time from `t0`: forward, skipped closes count as closes now; backward, the gates hold until `t0`; a hold of an earlier backward step goes on until its instant (R118). -/
def gatesAfterStep (s : Dev) (t0 : Nat) : Dev :=
  (List.range 8).foldl (fun s p =>
    if ¬ s.gating p then s
    else if s.now < t0 then s.modPort p fun x => { x with freezeTill := some (max t0 (x.freezeTill.getD 0)) }
    else if s.now < (s.port p).freezeTill.getD 0 then s
    else
      let sched := s.schedule p (s.gclActive p)
      let from' := max t0 ((s.port p).freezeTill.getD 0)
      let skipped := (List.range 8).foldl (fun m c => match sched.openFor c from' with
        | some d => if from' + d ≤ s.now then m ||| 2 ^ c else m
        | none => m) 0
      let (e, g) := sched.at s.now
      ((s.modPort p fun x => { x with freezeTill := none }).countCycles p).changeGates p e (s.gclActive p) g skipped) s

/-! ### Admission (R128) -/

/-- A reserved stream on a port: N_S, L_S and class; on a ring port its frames travel in class 7 (R112, R137). -/
def resvStreams (s : Dev) (p : Nat) : List (Nat × Nat × Nat) :=
  ((s.regs.filter fun e => Nat.ble 0xE4000 e.1 && Nat.blt e.1 0xE8000 && (e.1 - 0xE4000) % 32 == 0 && e.2.toNat / 2 ^ 30 == 3).map fun e => (e.1 - 0xE4000) / 32).filterMap fun x =>
    if (s.get (Reg.STM_CTX_CFG.EGRESS x)).testBit p ∧ s.get (Reg.STM_RESV.N_S x) ≠ 0 then
      some (s.get (Reg.STM_RESV.N_S x), s.get (Reg.STM_RESV.L_S x), if p < 4 then 7 else s.ctxClass p x)
    else none

end Dev

/-- A window of a class as its pieces, with the gates at the instant before it opens. -/
structure Win where
  before : Nat
  pieces : List Seg
  deriving DecidableEq, Repr

/-- The windows of class `c` in one cycle, the one that runs across the boundary joined (R112); a gate that never closes gives one window of a cycle. -/
def winsOf (c : Nat) (segs : List Seg) : List Win :=
  let rec go : Nat → Option Win → List Seg → List Win
    | _, w, [] => w.toList
    | prev, w, x :: xs =>
      if x.gates.testBit c then
        match w with
        | some w => go x.gates (some { w with pieces := w.pieces ++ [x] }) xs
        | none => go x.gates (some ⟨prev, [x]⟩) xs
      else w.toList ++ go x.gates none xs
  let last := ((segs.getLast?).map (·.gates)).getD 0
  let l := go last none segs
  let firstOpen := ((segs.head?).map fun x => x.gates.testBit c).getD false
  match l, l.getLast? with
  | a :: _ :: _, some z => if firstOpen && last.testBit c then ⟨z.before, z.pieces ++ a.pieces⟩ :: (l.drop 1).dropLast else l
  | _, _ => l

namespace Dev

/-- Codes 0x0601 and 0x0602 of R128 on bank `b` of port `p`. -/
def gteBankCheck (s : Dev) (p b : Nat) : Option Nat :=
  let cyc := (s.word (Reg.GTE_CYCLE_TIME p b)).toNat
  let len := s.get (Reg.GTE_LIST_LEN.LEN p b)
  if cyc < 10000 ∨ 1000000000 < cyc ∨ len < 1 ∨ 1024 < len then some 0x601
  else if (s.gclEntries p b).any fun e => Nat.blt e.1 64 then some 0x602
  else none

/-- IDLE_SLOPE of a class in kbit/s. -/
def cbsSlope (s : Dev) (p c : Nat) : Nat := s.get (Reg.GTE_CBS_SLOPE.IDLE_SLOPE p c)

/-- The classes of a port with an enabled shaper. -/
def shapersOn (s : Dev) (p : Nat) : List Nat := (List.range 8).filter fun c => s.bit (Reg.GTE_CBS_CTL.EN p c)

/-- Code 0x0603 of R128 fails on bank `b`: reserved streams and shapers exceed the admission rate. -/
def gteSumFails (s : Dev) (p b : Nat) : Bool :=
  let cyc := (s.word (Reg.GTE_CYCLE_TIME p b)).toNat
  Nat.blt (rateKbps (s.admissionRate p) * cyc)
    ((s.resvStreams p).foldl (fun a x => a + x.1 * (x.2.1 + 20) * 8 * 1000000) 0 + (s.shapersOn p).foldl (fun a c => a + s.cbsSlope p c * cyc) 0)

/-- U(w) of R128 for a window of class `c` on port `p`, in tenths of a ns. -/
def gteUseful (s : Dev) (p c : Nat) (w : Win) : Nat :=
  let rate := s.admissionRate p
  let t (l : Nat) : Nat := (l + 20) * octetTenths rate
  let rs := s.resvStreams p
  let lmax (c : Nat) : Nat := (rs.filter fun x => x.2.2 == c).foldl (fun m x => max m x.2.1) 0
  let hasResv (c : Nat) : Bool := rs.any fun x => x.2.2 == c
  let lenw := w.pieces.foldl (fun a x => a + (x.stop - x.start)) 0
  let o := (w.pieces.filter fun x => (List.range 8).any fun h => Nat.blt c h && hasResv h && x.gates.testBit h).foldl (fun a x => a + (x.stop - x.start)) 0
  let others := (List.range 8).filter fun k => k != c && w.before.testBit k
  let i :=
    if others = [] then 0
    else if s.isExpress p c && s.bit (Reg.GTE_PREEMPT.EN p) && others.all (fun k => !s.isExpress p k) then (64 * (1 + s.addFrag p) + 79) * octetTenths rate
    else if others.all hasResv then t (others.foldl (fun m k => max m (lmax k)) 0)
    else t (s.maxLen p)
  10 * (lenw - o) - i - t (lmax c)

/-- The class of the first failing check among 0x0604, 0x0605 and 0x0606 of R128, with its code, on bank `b`. -/
def gteRestCheck (s : Dev) (p b : Nat) : Option (Nat × Nat) :=
  let rate := s.admissionRate p
  let t (l : Nat) : Nat := (l + 20) * octetTenths rate
  let rs := s.resvStreams p
  let gated := s.bit (Reg.GTE_PORT_CTL.GATE_EN p)
  let sched := s.schedule p b
  match (if gated then (List.range 8).find? fun c => rs.any (fun x => x.2.2 == c) &&
      Nat.blt ((winsOf c sched.segs).foldl (fun a w => a + s.gteUseful p c w) 0) ((rs.filter fun x => x.2.2 == c).foldl (fun a x => a + x.1 * t x.2.1) 0) else none) with
  | some c => some (0x604, c)
  | none => match (s.shapersOn p).find? fun c => Nat.blt (rateKbps rate) (s.cbsSlope p c) || decide (0 ≤ s.getS (Reg.GTE_CBS_LO.LO p c)) || decide (s.getS (Reg.GTE_CBS_HI.HI p c) ≤ 0) with
    | some c => some (0x605, c)
    | none => match (if gated then rs.find? fun x => match longestWindow sched x.2.2 with
        | none => false
        | some w => Nat.blt (10 * w) (t x.2.1) && (s.isExpress p x.2.2 || !s.preemptActive p || (match s.firstBoundary p 0 x.2.1 with
          | some k => Nat.blt (10 * w) ((k + 24) * octetTenths rate)
          | none => true)) else none) with
      | some x => some (0x606, x.2.2)
      | none => none

/-- The first failing check of R128 over every port, where port `p` is to make bank `b` active: the lowest code, then the lowest port; code, port and class. -/
def gteCheck (s : Dev) (p b : Nat) : Option (Nat × Nat × Nat) :=
  let bank (q : Nat) : Nat := if q = p then b else s.gclActive q
  let late (code : Nat) : Option (Nat × Nat × Nat) := (List.range 8).findSome? fun q =>
    match s.gteRestCheck q (bank q) with
    | some (k, c) => if k = code then some (code, q, c) else none
    | none => none
  match s.gteBankCheck p b with
  | some code => some (code, p, 0)
  | none => match (List.range 8).find? fun q => s.gteSumFails q (bank q) with
    | some q => some (0x603, q, 0)
    | none => (late 0x604).or ((late 0x605).or (late 0x606))

/-- GTE_ADMIT takes a refusal. -/
def gteRefuse (s : Dev) (p code c : Nat) : Dev :=
  s.setWord Reg.GTE_ADMIT (BitVec.ofNat 32 (c * 2 ^ 20 + p * 2 ^ 16 + code))

/-! ### Schedule changes (R115–R117) -/

/-- A SWAP write: no effect while one is pending; refused with GTE_ADMIT, or the change armed (R116, R117). -/
def gclSwap (s : Dev) (p : Nat) : Dev :=
  if s.bit (Reg.GTE_GCL_CTL.SWAP_PEND p) then s
  else match s.gteCheck p (1 - s.gclActive p) with
  | some (code, q, c) => s.gteRefuse q code c
  | none => (s.put (Reg.GTE_GCL_CTL.SWAP_PEND p) 1).modPort p fun x => { x with swapAt := s.now }

/-- An armed slot table swap takes effect at the east port's change point (R172). -/
def slotBankChange (s : Dev) (p : Nat) : Dev :=
  if p % 2 = 1 ∧ p < 4 ∧ s.bit (Reg.SHD_SLOT_CTL.SWAP_PEND (ringOf p)) then
    (s.put (Reg.SHD_SLOT_CTL.SWAP_PEND (ringOf p)) 0).put (Reg.SHD_STATE.ACTIVE_BANK (ringOf p)) (1 - s.slotBank (ringOf p))
  else s

/-- The change point of a pending swap is reached: the idle bank becomes active, its gates come into force, every queued frame is tested (R116, R120, R172). -/
def changePointReached (s : Dev) (p : Nat) : Dev :=
  if ¬ s.bit (Reg.GTE_GCL_CTL.SWAP_PEND p) ∨ s.now < s.pendingPoint p then s
  else
    let b := 1 - s.gclActive p
    let s := (s.put (Reg.GTE_GCL_CTL.ACTIVE p) b).put (Reg.GTE_GCL_CTL.SWAP_PEND p) 0
    let s := s.raise bGTE p
    let s := s.modPort p fun x => { x with gating := s.bit (Reg.GTE_PORT_CTL.GATE_EN p), cycleSeen := none, freezeTill := none }
    let s := if s.gating p then
        let s := s.countCycles p
        let (e, g) := (s.schedule p b).at s.now
        s.changeGates p e b g 0
      else s.put (Reg.GTE_CUR_ENTRY.BANK p) b
    (s.retestQueues p).slotBankChange p

/-- A write of GATE_EN: 0 opens every gate, and ends a swap whose change point falls in this core clock of 1.25 ns; 1 starts gating at the next bank change (R115, R129). -/
def gateEnWrite (s : Dev) (p : Nat) (en : Bool) : Dev :=
  let was := s.bit (Reg.GTE_PORT_CTL.GATE_EN p)
  let atPoint := s.bit (Reg.GTE_GCL_CTL.SWAP_PEND p) && Nat.blt (s.pendingPoint p) (s.now + 81920)
  let s := s.putBit (Reg.GTE_PORT_CTL.GATE_EN p) en
  if en then s.when (!was) fun s => s.modPort p fun x => { x with gating := false }
  else
    let s := s.when (was && atPoint) fun s => s.put (Reg.GTE_GCL_CTL.SWAP_PEND p) 0
    let s := s.modPort p fun x => { x with gating := false, freezeTill := none }
    s.changeGates p 0 (s.gclActive p) 0xFF 0

/-- A write to a word of a gate list or of a bank set: refused for the active bank, or the idle one while SWAP_PEND is 1 (R117). -/
def gclBankWrite (s : Dev) (p b key : Nat) (v : Word) : Dev :=
  if b = s.gclActive p ∨ s.bit (Reg.GTE_GCL_CTL.SWAP_PEND p) then s.put (Reg.GTE_GCL_CTL.ACTIVE_WR p) 1
  else s.writeFields bGTE key v

/-! ### Pre-emption (R121–R124, R431, R432) -/

/-- The instant at which the frame or fragment on line `l` of port `p` started, in 2^-16 ns. -/
def lineStart (s : Dev) (p : Nat) (l : TxLine) : Nat := l.start - s.get (Reg.TIM_LAT.EGR_LAT p) * 65536

/-- The time of `n` octets on the line at the rate in use, in 2^-16 ns. -/
def octetsTime (s : Dev) (p n : Nat) : Nat := lineTenths (s.rate p) n / 10

/-- An express frame meets, at the instant `t` not later than now, every condition of R113 but a free transmitter, and the guard rule as if it started at `e` (R123). -/
def expressAt (s : Dev) (p t e : Nat) : Bool :=
  (List.range 8).any fun c => s.isExpress p c && match (s.classQueue p c).head? with
    | none => false
    | some x => Nat.ble (s.now - (s.up - x.queuedAt) * 65536) t && (s.gatesAt p t).testBit c && !s.awaitsSync p c x
        && (!s.bit (Reg.GTE_CBS_CTL.EN p c) || decide (0 ≤ s.creditNow p c - (s.get (Reg.GTE_CBS_SLOPE.IDLE_SLOPE p c) : Int) * (s.now - t : Nat)))
        && s.fits p c e (frameLen x.data + 20)

/-- The last allowed boundary of the fragment on line `l` that completes, mCRC and gap included, at or before the close of its class; none where the whole rest of the frame does (R122, R123). -/
def closeBoundary (s : Dev) (p : Nat) (l : TxLine) : Option Nat :=
  let len := frameLen l.ent.data
  let t0 := s.lineStart p l
  if s.fits p l.cls t0 (len - l.ent.sent + 20) then none
  else match s.closeAfter p l.cls t0, s.firstBoundary p l.ent.sent len with
  | some x, some k =>
    let n := min (len - 64) (l.ent.sent + (10 * (x - t0) / lineTenths (s.rate p) 1 - 24))
    if k ≤ n then some n else none
  | _, _ => none

/-- The fragment on line `l` may end after `sent` octets of its frame for an express frame: one was selectable when that octet had been sent, and at no earlier allowed boundary (R123). -/
def expressBoundary (s : Dev) (p : Nat) (l : TxLine) (first sent : Nat) : Bool :=
  let t0 := s.lineStart p l
  let by' (k : Nat) : Bool := s.expressAt p (t0 + s.octetsTime p (8 + k - l.ent.sent)) (t0 + s.octetsTime p (k - l.ent.sent + 24))
  by' sent && (sent == first || !by' (sent - 1)) && (match s.closeBoundary p l with
    | some n => Nat.ble sent n
    | none => true)

/-- A pre-emptable fragment has ended after `sent` octets of its frame, mCRC and gap included: at the last allowed boundary for a close, or at the first for an express frame (R122, R123). -/
def fragmentEnd (s : Dev) (p sent : Nat) : Dev := s.atBlock (bPRT p) fun s =>
  match (s.port p).line with
  | none => s
  | some l =>
    let e := l.ent
    let len := frameLen e.data
    let ok := l.pre && (match s.firstBoundary p e.sent len with
      | some k => Nat.ble k sent && Nat.ble (sent + 64) len && (decide (s.closeBoundary p l = some sent) || s.expressBoundary p l k sent)
      | none => false)
    let passed := Nat.ble (s.lineStart p l + s.octetsTime p (sent - e.sent + 24)) (s.now + 65536)
    if ¬ ok ∨ ¬ passed then s
    else
      let s := s.creditSync p l.cls
      let s := s.when (Nat.blt 0 e.sent) fun s => s.incTx p 15
      let s := s.emit (.fragment p l.fcnt ((e.data.take sent).drop e.sent))
      let h : TxHold := { ent := { e with sent := sent }, cls := l.cls, endedAt := s.smooth, fcnt := l.fcnt }
      s.modPort p fun x => { x with line := none, txMs := x.txMs + (sent - e.sent) + 24, hold := some h }

/-- A pre-empted frame's continuation has not started within one CYCLE_TIME, 1 ms with GATE_EN 0: it is abandoned (R124). -/
def holdAbandon (s : Dev) (p : Nat) : Dev := s.atBlock (bPRT p) fun s =>
  match (s.port p).hold with
  | none => s
  | some h =>
    let lim := if s.bit (Reg.GTE_PORT_CTL.GATE_EN p) then (s.schedule p (s.gclActive p)).cycle else 1000000
    if s.smooth ≤ h.endedAt + (lim * 65536 : Nat) then s else s.abandonHold p

/-- An mPacket may be sent now (R431). -/
def mpacketOk (s : Dev) (p : Nat) : Bool :=
  s.txIdle p && s.linkUp p && s.txSettled p && (s.selectClass p).isNone
    && (!s.bit (Reg.GTE_PORT_CTL.GATE_EN p)
      || (List.range 8).any fun c => !s.isExpress p c && s.gateOpen p c && s.fits p c s.now 84)

/-- `up` at which an mPacket that starts now is off the line: T(64) (R431). -/
def mpacketEnd (s : Dev) (p : Nat) : Nat := s.up + (84 * octetTenths (s.rate p) + 9) / 10

/-- A due verify mPacket is sent; the VERIFY_TIME interval runs from it (R121, R431). -/
def verifySend (s : Dev) (p : Nat) : Dev := s.atBlock (bPRT p) fun s =>
  if (s.port p).verifyDue && s.mpacketOk p then
    (s.emit (.mpacket p false)).modPort p fun x => { x with verifyDue := false, attempts := x.attempts + 1, verifyAt := some s.up, mpTill := s.mpacketEnd p }
  else s

/-- A due respond mPacket is sent (R431). -/
def respondSend (s : Dev) (p : Nat) : Dev := s.atBlock (bPRT p) fun s =>
  if (s.port p).respondDue && s.mpacketOk p then
    (s.emit (.mpacket p true)).modPort p fun x => { x with respondDue := false, mpTill := s.mpacketEnd p }
  else s

/-- A verify mPacket makes a respond mPacket due while EN is 1 (R121, R431, R432). -/
def verifyReceived (s : Dev) (p : Nat) : Dev := s.atBlock (bPRT p) fun s =>
  s.when (s.bit (Reg.GTE_PREEMPT.EN p)) fun s => s.modPort p fun x => { x with respondDue := true }

/-- A respond mPacket makes a running verification SUCCEEDED (R121). -/
def respondReceived (s : Dev) (p : Nat) : Dev := s.atBlock (bPRT p) fun s =>
  if s.bit (Reg.GTE_PREEMPT.EN p) && !s.bit (Reg.GTE_PREEMPT.VERIFY_DIS p) && s.get (Reg.GTE_PREEMPT_STAT.VERIFY_STATE p) == 2 then
    ((s.put (Reg.GTE_PREEMPT_STAT.VERIFY_STATE p) 3).raise bGTE (8 + p)).modPort p fun x => { x with verifyDue := false, verifyAt := none }
  else s

/-- VERIFY_TIME in ms: 0 acts as 1, above 128 as 128. -/
def verifyMs (s : Dev) (p : Nat) : Nat := max 1 (min 128 (s.get (Reg.GTE_PREEMPT.VERIFY_TIME p)))

/-- VERIFY_TIME passes without a response: another attempt, or FAILED after three (R121). -/
def verifyTimeout (s : Dev) (p : Nat) : Dev := s.atBlock (bPRT p) fun s =>
  match (s.port p).verifyAt with
  | none => s
  | some t =>
    if s.get (Reg.GTE_PREEMPT_STAT.VERIFY_STATE p) ≠ 2 ∨ s.up < t + s.verifyMs p * 1000000 then s
    else if (s.port p).attempts < 3 then s.modPort p fun x => { x with verifyDue := true, verifyAt := none }
    else
      let s := (s.put (Reg.GTE_PREEMPT_STAT.VERIFY_STATE p) 4).modPort p fun x => { x with verifyAt := none }
      (s.fault bGTE 1).raise bGTE (8 + p)

/-- A write of GTE_PREEMPT: changes of EN and VERIFY_DIS start or stop verification (R121). -/
def preemptCfgWrite (s : Dev) (p : Nat) (v : Word) : Dev :=
  let en0 := s.bit (Reg.GTE_PREEMPT.EN p)
  let dis0 := s.bit (Reg.GTE_PREEMPT.VERIFY_DIS p)
  let s := s.writeFields bGTE (Reg.GTE_PREEMPT p) v
  let en := s.bit (Reg.GTE_PREEMPT.EN p)
  let dis := s.bit (Reg.GTE_PREEMPT.VERIFY_DIS p)
  if ¬ en ∨ dis then
    let s := (s.put (Reg.GTE_PREEMPT_STAT.VERIFY_STATE p) 0).modPort p fun x => { x with verifyDue := false, verifyAt := none }
    s.when (!en) fun s => s.modPort p fun x => { x with respondDue := false }
  else if ¬ en0 ∨ dis0 then
    if s.linkUp p then s.verifyStart p else s.put (Reg.GTE_PREEMPT_STAT.VERIFY_STATE p) 1
  else s

/-! ### Shapers (R127) -/

/-- The word of a shaper register: 0 CTL, 1 SLOPE, 2 HI, 3 LO. -/
def shaperKey (p c reg : Nat) : Nat := Reg.GTE_CBS_CTL p c + 4 * reg

/-- A write to a shaper register resets the class's credit to CBS_HI, or to 0 (R127). -/
def shaperWrite (s : Dev) (p c reg : Nat) (v : Word) : Dev :=
  let s := s.writeFields bGTE (shaperKey p c reg) v
  let full := s.bit (Reg.GTE_CBS_CTL.RESET_FULL p c)
  let x : Credit := { credit := if full then s.getS (Reg.GTE_CBS_HI.HI p c) * (65536 * 1000000) else 0, at' := s.smooth, fresh := full }
  { s with credits := Tab.set (fun _ => {}) s.credits (8 * p + c) x }

end Dev

/-- FRAME_TRANSMIT_START (R113). -/
def execFrameTransmitStart (p : Fin 8) (s : State) := devStep (·.transmitStart p) s
/-- FRAME_TRANSMIT_END (R89). -/
def execFrameTransmitEnd (p : Fin 8) (corr : Nat) (bad : Option Nat) (s : State) := devStep (·.transmitEnd p corr bad) s
/-- GATE_STATE_CHANGE (R114). -/
def execGateStateChange (p : Fin 8) (s : State) := devStep (·.gateChange p) s
/-- GCL_SWAP (R116): the write of SWAP from the host. -/
def execGclSwap (p : Fin 8) (s : State) := devStep (fun d => d.hostGate bGTE (Reg.GTE_GCL_CTL p) 1 (·.gclSwap p)) s
/-- CHANGE_POINT (R116). -/
def execChangePoint (p : Fin 8) (s : State) := devStep (·.changePointReached p) s
/-- GATE_EN_WRITE (R115). -/
def execGateEnWrite (p : Fin 8) (en : Bool) (s : State) :=
  devStep (fun d => d.hostGate bGTE (Reg.GTE_PORT_CTL p) (BitVec.ofNat 32 (fieldSet (d.word (Reg.GTE_PORT_CTL p)).toNat 0 1 en.toNat)) (·.gateEnWrite p en)) s
/-- PREEMPT_FRAGMENT_END (R123). -/
def execPreemptFragmentEnd (p : Fin 8) (sent : Nat) (s : State) := devStep (·.fragmentEnd p sent) s
/-- HOLD_ABANDON (R124). -/
def execHoldAbandon (p : Fin 8) (s : State) := devStep (·.holdAbandon p) s
/-- VERIFY_MPACKET_SEND (R431). -/
def execVerifyMpacketSend (p : Fin 8) (s : State) := devStep (·.verifySend p) s
/-- RESPOND_MPACKET_SEND (R431). -/
def execRespondMpacketSend (p : Fin 8) (s : State) := devStep (·.respondSend p) s
/-- VERIFY_MPACKET_RECEIVED (R431, R432). -/
def execVerifyMpacketReceived (p : Fin 8) (s : State) := devStep (·.verifyReceived p) s
/-- RESPOND_MPACKET_RECEIVED (R121). -/
def execRespondMpacketReceived (p : Fin 8) (s : State) := devStep (·.respondReceived p) s
/-- VERIFY_TIMEOUT (R121). -/
def execVerifyTimeout (p : Fin 8) (s : State) := devStep (·.verifyTimeout p) s
/-- PREEMPT_CFG_WRITE (R121). -/
def execPreemptCfgWrite (p : Fin 8) (value : Word) (s : State) :=
  devStep (fun d => d.hostGate bGTE (Reg.GTE_PREEMPT p) value (·.preemptCfgWrite p value)) s
/-- SHAPER_WRITE (R127). -/
def execShaperWrite (p : Fin 8) (c : Fin 8) (reg : Fin 4) (value : Word) (s : State) :=
  devStep (fun d => d.hostGate bGTE (Dev.shaperKey p c reg) value (·.shaperWrite p c reg value)) s

end Sys2Proof.Machine
end

