-- ==== Sys2Proof/Machine/Streams.lean ====
section
/-! DEFINITION. Streams (spec/07_streams_redundancy.md): identification, filters and meters, recovery, transmit release, token buckets, slots of reserved streams (R253–R255), teardown and generations. -/

namespace Sys2Proof.Machine

namespace Dev

/-! ### Identification (R132) -/

/-- The identification of receive context `x` holds for a parsed frame. -/
def identHolds (s : Dev) (x : Nat) (q : Parsed) : Bool :=
  let a := (s.word (Reg.STM_ID_LO x)).toNat + (s.word (Reg.STM_ID_HI x)).toNat / 65536 * 2 ^ 32
  let tag := s.get (Reg.STM_ID_HI.TAG_MODE x)
  let tagOk := if tag = 0 then q.tagged && q.vid == s.get (Reg.STM_ID_HI.VID x) else if tag = 1 then !q.tagged || q.vid == 0 else true
  let m := s.get (Reg.STM_CTX_CFG.ID_METHOD x)
  !s.isTx x && ((m == 1 && q.da == a) || (m == 2 && q.sa == a)) && tagOk

/-- The lowest member of a list that satisfies `f`. -/
def lowest (l : List Nat) (f : Nat → Bool) : Option Nat :=
  (l.filter f).foldl (fun a x => match a with
    | none => some x
    | some y => some (min x y)) none

/-- The stream handle of a parsed frame: the lowest ACTIVE or QUARANTINE receive context that identifies it. -/
def identify (s : Dev) (q : Parsed) : Option Nat := lowest (s.activeCtxs ++ s.quarCtxs) fun x => s.identHolds x q

/-! ### Filters and meters (R145–R147) -/

/-- A meter's token counts. -/
def meter (s : Dev) (m : Nat) : Meter := Tab.get (fun _ => {}) s.meters m
/-- Replace them. -/
def setMeter (s : Dev) (m : Nat) (x : Meter) : Dev := { s with meters := Tab.set (fun _ => {}) s.meters m x }

/-- Token counts are kept in 1/8,000,000 octet: a rate in kb/s adds that many units per ns. -/
def octetUnits : Nat := 8000000

/-- A meter brought up to the present (R146): growth beyond CBS goes to E with CF. -/
def meterNow (s : Dev) (m : Nat) : Meter :=
  let x := s.meter m
  let dt := s.up - x.at'
  let cbs := s.get (Reg.GTE_FM_CBS.BURST m) * octetUnits
  let ebs := s.get (Reg.GTE_FM_EBS.BURST m) * octetUnits
  let c := x.c + s.get (Reg.GTE_FM_CIR.RATE m) * dt
  let spill := if s.bit (Reg.GTE_FM_CTL.CF m) then c - cbs else 0
  { c := min cbs c, e := min ebs (x.e + s.get (Reg.GTE_FM_EIR.RATE m) * dt + spill), at' := s.up }

/-- Meter a frame of `len` octets: whether it passes; every frame is red while MARKED_RED stands (R146). -/
def meterFrame (s : Dev) (m len : Nat) : Bool × Dev :=
  let x := s.meterNow m
  let l := len * octetUnits
  let s := s.setMeter m x
  if s.bit (Reg.GTE_FM_CTL.MARKED_RED m) then (false, s.inc (Reg.GTE_FM_RED.COUNT m))
  else if l ≤ x.c then (true, s.setMeter m { x with c := x.c - l })
  else if l ≤ x.e then
    (!s.bit (Reg.GTE_FM_CTL.DROP_YELLOW m), (s.setMeter m { x with e := x.e - l }).inc (Reg.GTE_FM_YELLOW.COUNT m))
  else
    let s := s.inc (Reg.GTE_FM_RED.COUNT m)
    (false, s.when (s.bit (Reg.GTE_FM_CTL.MARK_RED_EN m)) fun s => (s.put (Reg.GTE_FM_CTL.MARKED_RED m) 1).raise bSTM 6)

/-- The enabled filters, rising. -/
def filters (s : Dev) : List Nat :=
  (s.regs.filter fun e => Nat.ble 0xD2000 e.1 && Nat.blt e.1 0xD4000 && e.1 % 16 == 0 && e.2.toNat.testBit 31).map fun e => (e.1 - 0xD2000) / 16

/-- The stream filter of a frame of handle `h`, priority `pcp` and length `len`: whether it passes (R145). -/
def filterFrame (s : Dev) (h : Option Nat) (pcp len : Nat) : Bool × Dev :=
  match s.filters.find? fun f =>
      (s.bit (Reg.GTE_SF_CFG.HANDLE_ANY f) || decide (h = some (s.get (Reg.GTE_SF_CFG.HANDLE f))))
        && (s.bit (Reg.GTE_SF_CFG.PRIO_ANY f) || s.get (Reg.GTE_SF_CFG.PRIO f) == pcp) with
  | none => (true, s)
  | some f =>
    let s := s.inc (Reg.GTE_SF_MATCH.COUNT f)
    let sdu := s.get (Reg.GTE_SF_CFG.MAX_SDU f)
    if s.bit (Reg.GTE_SF_CFG.BLOCKED f) then (false, s.inc (Reg.GTE_SF_SDU_DROP.COUNT f))
    else if sdu ≠ 0 ∧ sdu < len then
      let s := s.inc (Reg.GTE_SF_SDU_DROP.COUNT f)
      (false, s.when (s.bit (Reg.GTE_SF_CFG.BLOCK_EN f)) fun s => (s.put (Reg.GTE_SF_CFG.BLOCKED f) 1).raise bSTM 5)
    else
      let (ok, s) := if s.bit (Reg.GTE_SF_CFG.METER_EN f) then s.meterFrame f len else (true, s)
      (ok, s.when ok fun s => s.inc (Reg.GTE_SF_PASS.COUNT f))

/-- The token counts of a meter after a write of one of its registers (R147). -/
def meterReset (s : Dev) (m : Nat) : Dev :=
  let full := s.bit (Reg.GTE_FM_CTL.RESET_FULL m)
  s.setMeter m {
    c := if full then s.get (Reg.GTE_FM_CBS.BURST m) * octetUnits else 0
    e := if full then s.get (Reg.GTE_FM_EBS.BURST m) * octetUnits else 0
    at' := s.up }

/-- Key of a meter register: 0 CTL, 1 CIR, 2 CBS, 3 EIR, 4 EBS. -/
def meterKey (m reg : Nat) : Nat := Reg.GTE_FM_CTL m + 4 * reg

/-- A write to a flow meter register (R147). -/
def meterWrite (s : Dev) (m reg : Nat) (v : Word) : Dev := (s.writeFields bGTE (meterKey m reg) v).meterReset m

/-! ### Recovery (R135, R139–R143) -/

/-- SEQ_EN of a context. -/
def seqEn (s : Dev) (x : Nat) : Bool := s.bit (Reg.STM_CTX_CFG.SEQ_EN x)
/-- The history vector. -/
def hist (s : Dev) (x : Nat) : Nat := (s.word (Reg.STM_HIST_LO x)).toNat + (s.word (Reg.STM_HIST_HI x)).toNat * 2 ^ 32
/-- Replace it. -/
def setHist (s : Dev) (x h : Nat) : Dev := (s.put (Reg.STM_HIST_LO.HIST x) h).put (Reg.STM_HIST_HI.HIST x) (h / 2 ^ 32)
/-- H of a context. -/
def histLen (s : Dev) (x : Nat) : Nat := let h := s.get (Reg.STM_CTX_CFG.HIST_LEN x); if h = 0 then 64 else h
/-- STM_LAST_EVT names a context: 1 latent, 2 reset, 3 stale. -/
def lastEvt (s : Dev) (kind x : Nat) : Dev := (s.put Reg.STM_LAST_EVT.KIND kind).put Reg.STM_LAST_EVT.CTX x
/-- The reset timer starts again (R141). -/
def restartTimer (s : Dev) (x : Nat) : Dev := s.setCtx x { s.ctx x with timer := some s.up }

/-- Vector recovery of one tagged frame (R139): whether it passes. -/
def vectorRecovery (s : Dev) (x seq : Nat) : Bool × Dev :=
  let h := s.histLen x
  let take (s : Dev) (v : Nat) : Dev := (s.put (Reg.STM_SEQ.SEQ x) seq).put (Reg.STM_SEQ.VALID x) v
  if s.bit (Reg.STM_SEQ.TAKE_ANY x) then
    (true, ((((take s 1).put (Reg.STM_SEQ.TAKE_ANY x) 0).setHist x 1).incCtx x 0).restartTimer x)
  else
    let d := sdiff seq (s.get (Reg.STM_SEQ.SEQ x)) 16
    let valid := s.get (Reg.STM_SEQ.VALID x)
    if (h : Int) ≤ d ∨ d ≤ -(h : Int) then (false, s.incCtx x 7)
    else if d ≤ 0 then
      let i := (-d).toNat
      if (s.hist x).testBit i then (false, s.incCtx x 1)
      else (true, (((s.setHist x (s.hist x ||| 2 ^ i)).incCtx x 2).incCtx x 0).restartTimer x)
    else
      let n := d.toNat
      let s := s.when (Nat.blt 1 n) fun s => s.incCtx x 2
      let lost := ((List.range n).filter fun i => Nat.blt (h - n + i) valid && !(s.hist x).testBit (h - n + i)).length
      let s := (List.range lost).foldl (fun s _ => s.incCtx x 3) s
      let s := s.setHist x ((s.hist x * 2 ^ n) % 2 ^ h ||| 1)
      (true, ((take s (min h (valid + n))).incCtx x 0).restartTimer x)

/-- Match recovery of one tagged frame (R140). -/
def matchRecovery (s : Dev) (x seq : Nat) : Bool × Dev :=
  if s.bit (Reg.STM_SEQ.TAKE_ANY x) then
    (true, (((s.put (Reg.STM_SEQ.SEQ x) seq).put (Reg.STM_SEQ.TAKE_ANY x) 0).incCtx x 0).restartTimer x)
  else
    let cur := s.get (Reg.STM_SEQ.SEQ x)
    if seq = cur then (false, s.incCtx x 1)
    else
      let s := s.when (sdiff seq cur 16 != 1) fun s => s.incCtx x 2
      (true, ((s.put (Reg.STM_SEQ.SEQ x) seq).incCtx x 0).restartTimer x)

/-- Sequence recovery, order 4 of R134; a tagless frame passes only with TAKE_NO_SEQ (R135). -/
def seqRecovery (s : Dev) (x : Nat) (rtag : Option Nat) : Bool × Dev :=
  if ¬ s.seqEn x then (true, s)
  else match rtag with
    | none => (s.bit (Reg.STM_CTX_CFG.TAKE_NO_SEQ x), s.incCtx x 4)
    | some q => if s.bit (Reg.STM_CTX_CFG.ALG x) then s.matchRecovery x q else s.vectorRecovery x q

/-- Individual recovery, order 3 of R134 (R142). -/
def indRecovery (s : Dev) (x p : Nat) (rtag : Option Nat) : Bool × Dev :=
  match s.bit (Reg.STM_CTX_CFG.IND_EN x), rtag with
  | true, some q =>
    let c := s.ctx x
    let (take, cur) := if p < 2 then (c.takeA, c.seqA) else if p < 4 then (c.takeB, c.seqB) else (c.takeE, c.seqE)
    if !take && q == cur then (false, s.incCtx x 8)
    else
      let c := if p < 2 then { c with takeA := false, seqA := q } else if p < 4 then { c with takeB := false, seqB := q } else { c with takeE := false, seqE := q }
      (true, (s.setCtx x c).restartTimer x)
  | _, _ => (true, s)

/-- The reset of R141: every TAKE_ANY 1, history empty, the timer stopped. -/
def recoveryClear (s : Dev) (x : Nat) : Dev :=
  let s := s.setCtx x { s.ctx x with takeA := true, takeB := true, takeE := true, timer := none, latReset := true }
  ((s.put (Reg.STM_SEQ.TAKE_ANY x) 1).put (Reg.STM_SEQ.VALID x) 0).setHist x 0

/-- The reset timer reaches RESET_MS; it does not run while every TAKE_ANY is 1 (R141). -/
def recoveryReset (s : Dev) (x : Nat) : Dev :=
  match (s.ctx x).timer with
  | none => s
  | some t =>
    let c := s.ctx x
    if (s.bit (Reg.STM_SEQ.TAKE_ANY x) && (c.takeA && (c.takeB && c.takeE)))
        || Nat.blt s.up (t + max 1 (s.get (Reg.STM_RCV_TIMER.RESET_MS x)) * 1000000) then s
    else (((s.recoveryClear x).incCtx x 5).raise bSTM 1).lastEvt 2 x

/-- A latent period starts now. -/
def latentStart (s : Dev) (x t : Nat) : Dev :=
  s.setCtx x { s.ctx x with
    latAt := some t
    latP := s.get (Reg.STM_CNT.COUNT x 0)
    latD := s.get (Reg.STM_CNT.COUNT x 1)
    latReset := false }

/-- The end of a latent period (R143). -/
def latentEnd (s : Dev) (x : Nat) : Dev :=
  let per := s.get (Reg.STM_RCV_TIMER.LAT_PERIOD x) * 1000000
  match (s.ctx x).latAt with
  | none => s
  | some t =>
    if per = 0 ∨ ¬ s.seqEn x ∨ s.isTx x ∨ s.ctxState x ≠ 1 ∨ s.up < t + per then s
    else
      let c := s.ctx x
      let dp : Int := (s.get (Reg.STM_CNT.COUNT x 0) + 2 ^ 32 - c.latP) % 2 ^ 32
      let dd : Int := (s.get (Reg.STM_CNT.COUNT x 1) + 2 ^ 32 - c.latD) % 2 ^ 32
      let paths : Int := max 2 (s.get (Reg.STM_DEST.LAT_PATHS x))
      let bad := !c.latReset && decide ((s.get (Reg.STM_DEST.LAT_DIFF x) : Int) < |dp * (paths - 1) - dd|)
      let s := s.when bad fun s => (((s.incCtx x 6).raise bSTM 0).lastEvt 1 x).fault bSTM 0
      s.latentStart x (t + per)

/-- What the stream functions of R134 leave of a frame's effect, to be withdrawn if step 6 drops it: STM_SEQ, the history, the individual states and the counters PASSED, OUT_OF_ORDER and LOST with their HALF bits. -/
def withdraw (old s : Dev) (x : Nat) : Dev :=
  let c := old.ctx x
  let s := s.setCtx x { s.ctx x with takeA := c.takeA, takeB := c.takeB, takeE := c.takeE, seqA := c.seqA, seqB := c.seqB, seqE := c.seqE }
  let s := [Reg.STM_SEQ x, Reg.STM_HIST_LO x, Reg.STM_HIST_HI x, Reg.STM_CNT x 0, Reg.STM_CNT x 2, Reg.STM_CNT x 3].foldl
    (fun s k => s.setWord k (old.word k)) s
  [0, 2, 3].foldl (fun s i => s.put ⟨Reg.STM_CTX_STAT x, i, 1⟩ (old.get ⟨Reg.STM_CTX_STAT x, i, 1⟩)) s

/-- The stream functions of R134 for a frame of `len` octets at port `p` steered to `x`: whether it passes. -/
def streamFunctions (s : Dev) (x p : Nat) (h : Option Nat) (q : Parsed) (len : Nat) : Bool × Dev :=
  if s.ctxState x = 2 then (false, s.incCtx x 9)
  else
    let (ok, s) := s.filterFrame h q.pcp len
    if ¬ ok then (false, s.incRx p 20)
    else
      let (ok, s) := s.indRecovery x p q.rtag
      if ¬ ok then (false, s.incRx p 21)
      else
        let (ok, s) := s.seqRecovery x q.rtag
        if ¬ ok then (false, s.incRx p 21) else (true, s)

/-! ### Generations (R149) -/

/-- A reference of generation `g` to context `x` may be acted on. -/
def refOk (s : Dev) (x g : Nat) : Bool := s.ctxState x == 1 && sdiff g (s.ctxGen x) 8 == 0

/-- A reference is refused: counted, and STALE_REF or CTX_PARITY by the sign of the difference (R149). -/
def refuseRef (s : Dev) (x g : Nat) : Dev :=
  let d := sdiff g (s.ctxGen x) 8
  let s := ((s.inc Reg.STM_STALE_CNT.COUNT).raise bSTM 3).lastEvt 3 x
  if d < 0 ∨ (d = 0 ∧ s.ctxState x ≠ 1) then s.fault bSTM 2
  else if 0 < d then s.fault bSTM 1
  else s

/-- A frame handed to an ACTIVE context that cannot send it (R430). -/
def refuseSend (s : Dev) (x : Nat) : Dev := (((s.inc Reg.STM_STALE_CNT.COUNT).raise bSTM 3).lastEvt 3 x).fault bSTM 2

/-! ### Slots of reserved streams (R253–R255) -/

/-- The copies that wait on a ring. -/
def slotWaits (s : Dev) (r : Nat) : List SlotWait := Tab.get (fun _ => []) s.slotWait r
/-- Replace them. -/
def setSlotWaits (s : Dev) (r : Nat) (l : List SlotWait) : Dev := { s with slotWait := Tab.set (fun _ => []) s.slotWait r l }

/-- This node's owned slots of a ring, in the active bank. -/
def ownedSlots (s : Dev) (r : Nat) : List Slot :=
  (s.slots r (s.slotBank r)).filter fun x => x.kind == 1 && x.owner == s.get Reg.SHD_CFG.NODE_ID

/-- The slot starts from cycle `n` on, `fuel` cycles of them, in order: start, offset, duration. -/
def slotStarts (cyc base : Nat) (owned : List Slot) : Nat → Nat → List (Nat × Nat × Nat)
  | _, 0 => []
  | n, fuel + 1 => owned.map (fun x => (base + (n * cyc + x.ofs) * 65536, x.ofs, x.dur)) ++ slotStarts cyc base owned (n + 1) fuel

/-- The earliest slot that takes a copy of line time `line`, ready at `ready`: starts at or after `ready` + 500 ns, not before `from'`, and still has room (R253). -/
def findSlot (s : Dev) (r ready line from' : Nat) : Option (Nat × Nat × Nat) :=
  let g := s.ringSchedule r
  let early := max (ready + 500 * 65536) from'
  let cycStart := early - g.phase early
  let waits := s.slotWaits r
  if ¬ s.gating (eastPort r) then none
  else (slotStarts (max 1 g.cycle) cycStart (s.ownedSlots r) 0 (waits.length + 3)).find? fun c =>
    Nat.ble early c.1 &&
      Nat.ble (((waits.filter fun w => match w.slot with
        | some (st, _, _) => st == c.1
        | none => false).foldl (fun a w => a + w.line) 0) + line) (10 * c.2.2 * 65536)

/-- Assign a copy to a slot that starts at `from'` or later; a deadline no slot meets is counted (R253, R254). A copy that no slot takes waits. -/
def assignSlot (s : Dev) (r from' : Nat) (w : SlotWait) : Dev :=
  let hit := s.findSlot r w.ready w.line from'
  let dl := match w.ent.ctx with
    | some x => s.get (Reg.PLC_STM_DL.DL x) * 100
    | none => 0
  let miss := match hit with
    | some (st, _, dur) => dl != 0 && Nat.blt (w.ready + dl * 65536) (st + dur * 65536)
    | none => false
  let s := s.when miss fun s => (s.inc Reg.PLC_SLOT_MISS.COUNT).raise bPLC 1
  s.setSlotWaits r (s.slotWaits r ++ [{ w with slot := hit }])

/-- At a cycle start after a change of the slot table, a copy whose slot is gone is assigned again: no owned slot of the table in force starts at that instant with that length; so is one that has none (R255). -/
def reassignSlots (s : Dev) (r : Nat) : Dev :=
  let owned := s.ownedSlots r
  let g := s.ringSchedule r
  let keeps (w : SlotWait) : Bool := match w.slot with
    | some (st, _, dur) => owned.any fun x => g.phase st == x.ofs * 65536 && x.dur == dur
    | none => false
  let l := s.slotWaits r
  (l.filter fun w => !keeps w).foldl (fun s w => s.assignSlot r s.now w) (s.setSlotWaits r (l.filter keeps))

/-- The start of assigned slots: their copies enter class 7 (R253); during a table mismatch nothing goes into owned slots, and the copies take later ones (R173). -/
def slotStart (s : Dev) (r : Nat) : Dev :=
  let due (w : SlotWait) : Bool := match w.slot with
    | some (st, _, _) => Nat.ble st s.now
    | none => false
  let l := s.slotWaits r
  let s' := s.setSlotWaits r (l.filter fun w => !due w)
  if s.bit (Reg.SHD_STATE.TABLE_MISMATCH r) then
    (l.filter due).foldl (fun s w => s.assignSlot r (s.now + 1) w) s'
  else (l.filter due).foldl (fun s w => s.sendOwn w.port 7 true w.ent) s'

/-! ### Transmit (R136–R138) -/

/-- The ports of a mask, rising. -/
def portsOf (m : Nat) : List Nat := (List.range 8).filter fun p => m.testBit p

/-- A context releases a frame: R-TAG, one copy for each egress port, slots for a reserved stream on ring ports (R136, R137). -/
def releaseFrame (s : Dev) (x : Nat) (h : Held) : Dev :=
  let seq := s.get (Reg.STM_SEQ.SEQ x)
  let data := if s.seqEn x then insertRtag h.data seq else h.data
  let s := s.when (s.seqEn x) fun s => s.put (Reg.STM_SEQ.SEQ x) (seq + 1)
  let s := s.incCtx x 0
  let ports := portsOf (s.get (Reg.STM_CTX_CFG.EGRESS x))
  let s := s.setFrame h.desc { s.frameOf h.desc with copies := ports.length, data := data }
  let s := s.when (s.seqEn x) fun s => { s with locker := lockerWrite s.locker data (s.frameOf h.desc).granules }
  let e : QEnt := { desc := h.desc, data := data, lateDrop := s.bit (Reg.STM_CTX_CFG.LATE_DROP x), ctx := some x }
  let prio := s.get (Reg.STM_CTX_CFG.PRIO x)
  ports.foldl (fun s p =>
    if p < 4 ∧ s.get (Reg.STM_RESV.N_S x) ≠ 0 then
      s.assignSlot (ringOf p) s.now { ent := e, port := p, ready := h.ready.getD s.now, line := lineTenths (s.rate (eastPort (ringOf p))) (frameLen data + 26) }
    else s.sendOwn p prio false e) s

/-- The length of a frame as sent by the context, with any R-TAG. -/
def sentLen (s : Dev) (x : Nat) (data : List Octet) : Nat := frameLen data + (if s.seqEn x then 6 else 0)

/-- Heads longer than BURST are discarded (R138). -/
def dropTooLong (s : Dev) (x : Nat) : Nat → Dev
  | 0 => s
  | n + 1 =>
    match (s.ctx x).held with
    | h :: t =>
      if s.bit (Reg.STM_TB.TB_EN x) ∧ s.get (Reg.STM_TB_BURST.BURST x) < s.sentLen x h.data then
        (((s.setCtx x { s.ctx x with held := t }).incCtx x 11).releaseCopy h.desc).dropTooLong x n
      else s
    | [] => s

/-- The outcome of a hand-over for the sender. -/
def handover (s : Dev) (x gen : Nat) (data : List Octet) (ready : Option Nat) : Bool × Dev :=
  if ¬ s.refOk x gen then (false, s.refuseRef x gen)
  else if ¬ s.isTx x ∨ s.get (Reg.STM_CTX_CFG.EGRESS x) = 0 then (false, s.refuseSend x)
  else
    let len := s.sentLen x data
    let s := s.when (Nat.blt (lmaxOfWord (s.resvWord (.ctx x))) len) fun s => s.incCtx x 10
    match s.allocCheck (.ctx x) len with
    | .ok sh =>
      let d0 := if s.seqEn x then insertRtag data (s.get (Reg.STM_SEQ.SEQ x)) else data
      let (d, s) := s.placeFrame (.ctx x) sh d0 1 8
      let h : Held := { data := data, desc := d, gen := gen, ready := ready }
      if s.bit (Reg.STM_TB.TB_EN x) then
        (true, (s.setCtx x { s.ctx x with held := (s.ctx x).held ++ [h] }).dropTooLong x 1)
      else (true, s.releaseFrame x h)
    | _ => (false, s.incCtx x 11)

/-- The token count brought up to the present, in 1/8,000,000 octet (R138). -/
def tokensNow (s : Dev) (x : Nat) : Nat :=
  let c := s.ctx x
  min (s.get (Reg.STM_TB_BURST.BURST x) * octetUnits) (c.tokens + s.get (Reg.STM_TB.RATE x) * (s.up - c.tokAt))

/-- The head frame is released when the tokens reach its length (R138). -/
def tokenRelease (s : Dev) (x : Nat) : Dev :=
  match (s.ctx x).held with
  | [] => s
  | h :: t =>
    let tb := s.bit (Reg.STM_TB.TB_EN x)
    let n := s.tokensNow x
    let l := s.sentLen x h.data * octetUnits
    if tb ∧ n < l then s
    else
      let s := s.setCtx x { s.ctx x with held := t, tokens := if tb then n - l else n, tokAt := s.up }
      (s.releaseFrame x h).dropTooLong x t.length

/-- A write of STM_TB or STM_TB_BURST (R147): the frame tested in that clock uses the old count; then the reset value stands. -/
def tokenWrite (s : Dev) (x : Nat) (burst : Bool) (v : Word) : Dev :=
  let s := s.writeFields bSTM (if burst then Reg.STM_TB_BURST x else Reg.STM_TB x) v
  let n := if s.bit (Reg.STM_TB.RESET_FULL x) then s.get (Reg.STM_TB_BURST.BURST x) * octetUnits else 0
  (s.setCtx x { s.ctx x with tokens := n, tokAt := s.up }).dropTooLong x (s.ctx x).held.length

/-! ### Enable, teardown, quarantine (R131, R148, R149) -/

/-- A FREE context becomes ACTIVE (R136, R141, R149). -/
def ctxEnable (s : Dev) (x : Nat) : Dev :=
  let s := s.put (Reg.STM_CTX_CFG.EN x) 1
  let s := s.put (Reg.STM_CTX_STAT.GEN x) (s.ctxGen x + 1)
  let s := (List.range 12).foldl (fun s i => s.setWord (Reg.STM_CNT x i) 0) s
  let s := (s.put (Reg.STM_CTX_STAT.HALF x) 0).put (Reg.STM_CTX_STAT.STATE x) 1
  let s := s.recoveryClear x
  let s := s.setCtx x { s.ctx x with released := false }
  let s := s.when (s.isTx x) fun s => s.put (Reg.STM_SEQ.SEQ x) 0
  s.latentStart x s.up

/-- The discarding of an ACTIVE context's frames that have not started on any port, each counted in QUAR_DROP (R148). -/
def dropPending (s : Dev) (x : Nat) : Dev :=
  let mine (d : Nat) : Bool := !(s.frameOf d).started
  let s0 := s
  let heldL := (s.ctx x).held
  let s := s.setCtx x { s.ctx x with held := [] }
  let s := s.frames.foldl (fun s e =>
    if decide (e.2.owner = .ctx x) && mine e.1 && e.2.ingress == 8 then s.incCtx x 9 else s) s
  let s := heldL.foldl (fun s h => s.releaseCopy h.desc) s
  let s := (Tab.get (fun _ => []) s.rxQ (128 + x)).foldl (fun s e => (s.incCtx x 9).releaseCopy e.desc)
    { s with rxQ := Tab.set (fun _ => []) s.rxQ (128 + x) [] }
  let s := (List.range 64).foldl (fun s k =>
    let q := Tab.get (fun _ => []) s.classQ k
    let out := q.filter fun e => decide (e.ctx = some x) && !(s0.frameOf e.desc).started
    if out = [] then s
    else out.foldl (fun s e => s.releaseCopy e.desc)
      { s with classQ := Tab.set (fun _ => []) s.classQ k (q.filter fun e => !(decide (e.ctx = some x) && !(s0.frameOf e.desc).started)) }) s
  (List.range 2).foldl (fun s r =>
    let l := s.slotWaits r
    let out := l.filter fun w => decide (w.ent.ctx = some x) && !(s0.frameOf w.ent.desc).started
    if out = [] then s
    else out.foldl (fun s w => s.releaseCopy w.ent.desc)
      (s.setSlotWaits r (l.filter fun w => !(decide (w.ent.ctx = some x) && !(s0.frameOf w.ent.desc).started)))) s

/-- An ACTIVE context is torn down (R148). -/
def ctxTeardown (s : Dev) (x : Nat) : Dev :=
  let resv := (s.word (Reg.FRM_STM_RESV x)).toNat
  let s := (s.put (Reg.STM_CTX_CFG.EN x) 0).dropPending x
  let s := s.setCtx x { s.ctx x with quarAt := s.up, quarResv := resv, timer := none, latAt := none }
  s.put (Reg.STM_CTX_STAT.STATE x) 2

/-- STM_CFG.HOLD in µs, clamped to 100 to 1,000,000. -/
def holdUs (s : Dev) : Nat := max 100 (min 1000000 (s.get Reg.STM_CFG.HOLD))

/-- The hold ends (R148). -/
def quarantineEnd (s : Dev) (x : Nat) : Dev :=
  if s.ctxState x ≠ 2 ∨ s.up < (s.ctx x).quarAt + s.holdUs * 1000 then s
  else
    let s := s.put (Reg.STM_CTX_STAT.STATE x) 0
    (s.setCtx x { s.ctx x with quarResv := 0, released := true }).raise bSTM 4

/-- The fixed fields of an ACTIVE context in STM_CTX_CFG, STM_ID_HI and STM_DEST (R152). -/
def fixedMask (x key : Nat) : Nat :=
  if key = Reg.STM_CTX_CFG x then 0x70FFEFC0
  else if key = Reg.STM_ID_LO x then 0xFFFFFFFF
  else if key = Reg.STM_ID_HI x then 0xFFFFCFFF
  else if key = Reg.STM_DEST x then 0xFF800000
  else 0

/-- A write to a configuration word of context `x` (R131, R152): EN enables, tears down, or is ignored in QUARANTINE. Against a host write the fixed fields of an ACTIVE context stay; a commit, whose check has refused a change of them, writes each of its values, to a context that it has just enabled as well (R271). -/
def stmCfgWrite (s : Dev) (x key : Nat) (v : Word) (commit : Bool) : Dev :=
  let st := s.ctxState x
  let fixed := if st = 1 && !commit then fixedMask x key else 0
  let old := (s.word key).toNat
  let ignored := (old ^^^ v.toNat) &&& fixed &&& (masksOf bSTM key).rw
  let isCfg := key == Reg.STM_CTX_CFG x
  let en := wbit v 31
  let v' := BitVec.ofNat 32 ((v.toNat &&& (0xFFFFFFFF - fixed)) ||| (old &&& fixed))
  let quarEn := isCfg && en && st == 2
  let v' : Word := if isCfg then (if quarEn ∨ st = 0 then v' &&& 0x7FFFFFFF else v' ||| (if st = 1 then 0x80000000 else 0)) else v'
  let s := s.writeFields bSTM key v'
  let s := s.when (ignored != 0 || quarEn) fun s => s.raise bSTM 7
  let s := s.when (key == Reg.STM_RCV_TIMER x) fun s =>
    s.when ((old ^^^ v.toNat) % 65536 != 0 && st == 1) fun s => s.latentStart x s.up
  if isCfg ∧ en ∧ st = 0 then s.ctxEnable x
  else if isCfg ∧ ¬ en ∧ st = 1 then s.ctxTeardown x
  else s

/-- The word that a host write of EN alone gives STM_CTX_CFG. -/
def enWord (s : Dev) (x : Nat) (en : Bool) : Word := BitVec.ofNat 32 (fieldSet (s.word (Reg.STM_CTX_CFG x)).toNat 31 1 en.toNat)

/-- A host write that sets or clears EN of a context. -/
def ctxEnWrite (s : Dev) (x : Nat) (en : Bool) : Dev :=
  s.hostGate bSTM (Reg.STM_CTX_CFG x) (s.enWord x en) fun s => s.stmCfgWrite x (Reg.STM_CTX_CFG x) (s.enWord x en) false

end Dev

/-- CONTEXT_ENABLE (R131). -/
def execContextEnable (x : Fin 512) (s : State) := devStep (·.ctxEnWrite x true) s
/-- CONTEXT_TEARDOWN (R148). -/
def execContextTeardown (x : Fin 512) (s : State) := devStep (·.ctxEnWrite x false) s
/-- QUARANTINE_END (R148). -/
def execQuarantineEnd (x : Fin 512) (s : State) := devStep (fun d => d.atBlock bSTM (·.quarantineEnd x)) s
/-- RECOVERY_RESET (R141). -/
def execRecoveryReset (x : Fin 512) (s : State) := devStep (fun d => d.atBlock bSTM (·.recoveryReset x)) s
/-- LATENT_PERIOD_END (R143). -/
def execLatentPeriodEnd (x : Fin 512) (s : State) := devStep (fun d => d.atBlock bSTM (·.latentEnd x)) s
/-- TRANSMIT_HANDOVER (R137): a frame without source of its own, from the host or a test. -/
def execTransmitHandover (x : Fin 512) (gen : BitVec 8) (data : List Octet) (s : State) :=
  devStep (fun d => d.atBlock bSTM fun d => (d.handover x gen.toNat data none).2) s
/-- TOKEN_RELEASE (R138). -/
def execTokenRelease (x : Fin 512) (s : State) := devStep (fun d => d.atBlock bSTM (·.tokenRelease x)) s
/-- METER_WRITE (R147). -/
def execMeterWrite (m : Fin 512) (reg : Fin 5) (value : Word) (s : State) :=
  devStep (fun d => d.hostGate bGTE (Dev.meterKey m reg) value (·.meterWrite m reg value)) s
/-- TOKEN_BUCKET_WRITE (R147). -/
def execTokenBucketWrite (x : Fin 512) (burst : Bool) (value : Word) (s : State) :=
  devStep (fun d => d.hostGate bSTM (if burst then Reg.STM_TB_BURST x else Reg.STM_TB x) value (·.tokenWrite x burst value)) s
/-- SLOT_START (R253). -/
def execSlotStart (r : Fin 2) (s : State) := devStep (fun d => d.atBlock bPLC (·.slotStart r)) s

end Sys2Proof.Machine
end

