-- ==== Sys2Proof/Machine/CellBase.lean ====
section
/-! DEFINITION. The Lathe outside its programs (chapter 9): table entries, events and requests, the release of outputs, SAFE and HALTED, pairs and frequency groups. -/

namespace Sys2Proof.Machine

/-- One in Q15.16 (R193). -/
abbrev qOne : Int := 65536
/-- Saturation to Q15.16, on raw 32-bit integers (R193). -/
def qSat (x : Int) : Int := max (-2147483648) (min 2147483647 x)
/-- rnd and sat of the rational `n / d` in units of 2^-16 (R193); `d` positive. -/
def qStore (n d : Int) : Int := qSat ((2 * n + d) / (2 * d))

/-- States of a cell (CEL_STAT.STATE). -/
abbrev celOff := 0
abbrev celIdle := 1
abbrev celRun := 2
abbrev celReexec := 3
abbrev celSafe := 4
abbrev celHalted := 5

/-- Octets of a field format (R198). -/
def fmtWidth (f : Nat) : Nat := if f ≤ 1 then 2 else 4

/-- A raw field to Q15.16 (R198). -/
def fmtFetch (f v : Nat) : Int :=
  match f with
  | 0 => toSigned 16 v * qOne
  | 1 => qSat ((v % 65536 : Nat) * qOne)
  | 2 => qSat (toSigned 32 v * qOne)
  | _ => toSigned 32 v

/-- Q15.16 to a raw field (R198). -/
def fmtOut (f : Nat) (q : Int) : Nat :=
  let r := (q + 32768) / 65536
  match f with
  | 0 => ofSigned 16 (max (-32768) (min 32767 r))
  | 1 => (max 0 (min 65535 r)).toNat
  | 2 => ofSigned 32 r
  | _ => ofSigned 32 q

/-- Range of an integer object type (R198): lowest and highest value. -/
def typeRange (t : Nat) : Int × Int :=
  match t with
  | 2 => (0, 255)
  | 3 => (0, 65535)
  | 4 => (0, 4294967295)
  | 6 => (-128, 127)
  | 7 => (-32768, 32767)
  | _ => (-2147483648, 2147483647)

/-- An object's value as a cell fetches it (R198). -/
def objFetch (t v : Nat) : Int :=
  if t = 1 then (if v = 0 then 0 else qOne)
  else if t = 10 then toSigned 32 v
  else if t = 6 ∨ t = 7 ∨ t = 8 then qSat (toSigned (8 * typeSize t) v * qOne)
  else qSat ((v : Int) * qOne)

/-- The octets a cell writes to an object of type `t` (R198). -/
def objStore (t : Nat) (q : Int) : List Octet :=
  if t = 1 then [if q = 0 then 0 else 1]
  else if t = 10 then octetsBE 4 (ofSigned 32 q)
  else
    let (lo, hi) := typeRange t
    octetsBE (typeSize t) (ofSigned 32 (max lo (min hi ((q + 32768) / 65536))))

namespace Dev

/-- STATE of a cell. -/
def celState (s : Dev) (c : Nat) : Nat := s.get (Reg.CEL_STAT.STATE c)
/-- Set it. -/
def setCelState (s : Dev) (c st : Nat) : Dev := s.put (Reg.CEL_STAT.STATE c) st
/-- PAIR of a cell, 0x7F for none. -/
def celPair (s : Dev) (c : Nat) : Nat := s.get (Reg.CEL_STAT.PAIR c)
/-- Active bank of a cell. -/
def celBank (s : Dev) (c : Nat) : Nat := s.get (Reg.CEL_BANK.ACTIVE c)
/-- Word `w` of bank `b` of cell `c` (R194). -/
def tbl (s : Dev) (c b w : Nat) : Nat := (s.word (Reg.CEL_TBL c b w)).toNat
/-- The 64-bit entry at word `w`. -/
def tbl64 (s : Dev) (c b w : Nat) : Nat := s.tbl c b (w + 1) * 2 ^ 32 + s.tbl c b w
/-- Step `k` of a bank (R195). -/
def step64 (s : Dev) (c b k : Nat) : Nat := s.tbl64 c b (2 * k)
/-- STEPS of a bank: the steps before the first END (R195). -/
def bankSteps (s : Dev) (c b : Nat) : Nat := ((List.range 64).takeWhile fun k => s.step64 c b k / 2 ^ 60 != 0).length
/-- Word `i` of output descriptor `o` (R203). -/
def outWord (s : Dev) (c b o i : Nat) : Nat := s.tbl c b (0x1E0 + 4 * o + i)

/-- A request of cell `c`; `angle` when angle raised it. A request while one waits is merged; `trig` says a trigger raised it and is counted (R207). -/
def celRequest (s : Dev) (c : Nat) (angle trig : Bool) : Dev :=
  let x := s.cell c
  if s.celState c = celOff ∨ s.celState c = celHalted ∨ s.isGrave bCEL then s
  else match x.req with
  | some a =>
    let s := s.setCell c { x with req := some (a && angle) }
    if trig then s.inc (Reg.CEL_TRIG_OVF.COUNT c) else s
  | none => s.setCell c { x with req := some angle }

/-- The queue holds an entry whose input activates: a request is raised whenever none waits and no activation runs (R207). -/
def celQueueRequest (s : Dev) (c : Nat) : Dev :=
  let x := s.cell c
  if x.req.isNone ∧ x.run.isNone ∧ x.queue.any (fun e => s.bit (Reg.CEL_IN.ACTIVATE c e.input)) then s.celRequest c false false
  else s

/-- The input of cell `c` that takes source `src`: the lowest enabled one (R209). -/
def celInput (s : Dev) (c src : Nat) : Option Nat :=
  (List.range 8).find? fun i => s.bit (Reg.CEL_IN.EN c i) && s.get (Reg.CEL_IN.SRC c i) == src

/-- An input event of source `src` reaches cell `c`; a delivery of a context comes with the context and its generation (R209, R149). -/
def celEvent (s : Dev) (c src : Nat) (v : Int) (ref : Option (Nat × Nat)) : Dev :=
  let st := s.celState c
  if ¬ s.blockOn bCEL then s
  else match (if st = celOff ∨ st = celHalted then none else s.celInput c src) with
  | none => s.inc (Reg.CEL_EVT_UNBOUND.COUNT c)
  | some i =>
    let x := s.cell c
    if 4 ≤ x.queue.length then (s.inc (Reg.CEL_EVT_OVF.COUNT c)).raise bCEL 3
    else
      let s := s.setCell c { x with queue := x.queue ++ [⟨i, src, v, s.now, ref⟩] }
      if s.bit (Reg.CEL_IN.ACTIVATE c i) then s.celQueueRequest c else s

/-- A frame delivered to a cell: up to 256 octets after the payload EtherType go to the source's field buffer, and the event carries the payload length (R210) and the generation of the context that delivers it (R149). -/
def celDeliver (s : Dev) (c src : Nat) (payload : List Octet) (ref : Option (Nat × Nat)) : Dev :=
  let s := { s with fieldBufs := Tab.set (fun _ => []) s.fieldBufs src (payload.take 256) }
  s.celEvent c src (qSat (payload.length * qOne)) ref

/-! ### Release of outputs (R205, R206) -/

/-- Frame of format entry `f` (R206). -/
def formatFrame (s : Dev) (f : Nat) : List Octet :=
  let x := s.get (Reg.CEL_FMT_A.CTX f)
  let sa := match portsOf (s.get (Reg.STM_CTX_CFG.EGRESS x)) with
    | p :: _ => s.macOf p
    | [] => 0
  let da := s.get (Reg.CEL_FMT_C.DA f) * 2 ^ 32 + s.get (Reg.CEL_FMT_B.DA f)
  let tag := if s.bit (Reg.CEL_FMT_C.TAG_EN f) then octetsBE 4 (0x81000000 + s.get (Reg.CEL_FMT_C.PCP f) * 8192 + s.get (Reg.CEL_FMT_C.VID f)) else []
  let body := ((List.range 64).flatMap fun w => octetsBE 4 (s.word (Reg.CEL_PAYLOAD f w)).toNat).take (s.get (Reg.CEL_FMT_A.LEN f))
  padTo 60 (octetsBE 6 da ++ (octetsBE 6 sa ++ (tag ++ (octetsBE 2 (s.get (Reg.CEL_FMT_D.ETYPE f)) ++ body))))

/-- The frame of format entry `f` is handed to its context, ready at the deadline of the activation (R206, R253). -/
def formatSend (s : Dev) (f ready : Nat) : Dev :=
  if ¬ s.bit (Reg.CEL_FMT_A.EN f) then s
  else
    let x := s.get (Reg.CEL_FMT_A.CTX f)
    (s.handover x (s.ctxGen x) (s.formatFrame f) (some ready)).2

/-- An octet of a payload image. -/
def imageOctet (s : Dev) (f o v : Nat) : Dev := s.put ⟨Reg.CEL_PAYLOAD f (o / 4), 24 - 8 * (o % 4), 8⟩ v

/-- Octets written into a payload image from octet `o`. -/
def imageWrite (s : Dev) (f : Nat) : Nat → List Octet → Dev
  | _, [] => s
  | o, v :: vs => if o < 256 then imageWrite (s.imageOctet f o v.toNat) f (o + 1) vs else s

/-- One released output of cell `c` takes effect by its KIND (R205). -/
def outEffect (s : Dev) (c b : Nat) (o : CelOut) (t : Target) : Dev :=
  let w := s.outWord c b o.out 0
  let fmt := w / 2 ^ 26 % 4
  let tgt := w % 2 ^ 24
  let s := s.put (Reg.CEL_OUT_VAL.VALUE c o.out) (ofSigned 32 o.value)
  match w / 2 ^ 28 % 8 with
  | 0 => s.imageWrite (tgt / 256 % 64) (tgt % 256) (octetsBE (fmtWidth fmt) (fmtOut fmt o.value))
  | 1 => s.cmdPush (tgt % 32) { cs := tgt / 256 % 4, w32 := Nat.ble 2 fmt, word := fmtOut fmt o.value, target := t }
  | 2 => s.edgePush (tgt % 32) ⟨o.value != 0, t⟩
  | 3 =>
    match s.objOf (tgt / 256) (tgt % 256) with
    | some ob => if s.blockOn bDCT && cellType ob.type && (ob.right == .rw || ob.right == .wo) then s.celObjectWrite ob.index ob.sub (objStore ob.type o.value) else s
    | none => s
  | 4 => s.celEvent (tgt % 64) (640 + c) o.value none
  | _ => s

/-- The format entries that released outputs name with SEND, each once (R205). -/
def sendsOf (s : Dev) (c b : Nat) (outs : List CelOut) : List Nat :=
  (outs.filterMap fun o =>
    let w := s.outWord c b o.out 0
    if w / 2 ^ 28 % 8 = 0 ∧ w / 2 ^ 25 % 2 = 1 then some (w / 256 % 64) else none).dedup

/-- Outputs are handed on in index order, then the frames are sent (R205). -/
def handOn (s : Dev) (c b : Nat) (outs : List CelOut) (ready : Nat) : Dev :=
  let s := outs.foldl (fun s o =>
    match o.target with
    | some t => s.outEffect c b o t
    | none => s.inc (Reg.CEL_LATE.COUNT c)) s
  (s.sendsOf c b (outs.filter fun o => o.target.isSome)).foldl (fun s f => s.formatSend f ready) s

/-- The SAFE values of the outputs with SAFE_EN, released with WHEN 0 (R216); in GRAVE no cell releases anything (R214). -/
def safeOutputs (s : Dev) (c : Nat) : Dev :=
  let b := s.celBank c
  let outs := ((List.range 8).filter fun o => let w := s.outWord c b o 0; w.testBit 31 && w.testBit 24).map fun o =>
    ({ out := o, value := toSigned 32 (s.outWord c b o 2), target := some .atOnce } : CelOut)
  (if s.isGrave bCEL then s else s.handOn c b outs s.now).raise bCEL 5

/-- The invalid policy of a cell (R58). -/
def celPolicy (s : Dev) (c : Nat) : Nat := s.get (Reg.CEL_CFG.INV_POLICY c) % 3

/-- A cell whose domain is not valid under policy 2 enters SAFE (R58, R216); a running activation is not disturbed. -/
def celSafeCheck (s : Dev) (c : Nat) : Dev :=
  let st := s.celState c
  if st = celOff ∨ st = celHalted ∨ s.get (Reg.CEL_CFG.TRIG c) ≠ 2 ∨ s.celPolicy c ≠ 2 ∨ (s.cell c).safe ∨ s.angOk (s.get (Reg.CEL_CFG.DOM c)) then s
  else
    let s := s.modCell c fun x => { x with safe := true }
    (s.when (st == celIdle) (·.setCelState c celSafe)).safeOutputs c

/-! ### Pairs, groups and placement (R190–R192, R248) -/

/-- FREQ_MAX of a group as it acts. -/
def freqMax (s : Dev) (g : Nat) : Nat := max 2 (min 8 (s.get (Reg.CEL_GRP_DVFS.FREQ_MAX g)))
/-- FREQ_MIN of a group as it acts. -/
def freqMin (s : Dev) (g : Nat) : Nat := min (s.freqMax g) (max 2 (min 8 (s.get (Reg.CEL_GRP_DVFS.FREQ_MIN g))))
/-- The lowest n with (4 × STEPS + 2) × 10 ns / n ≤ DEADLINE / 3 (R192). -/
def freqNeed (s : Dev) (c : Nat) : Nat :=
  let d := max 1 (s.get (Reg.CEL_DEADLINE.DEADLINE c))
  (3 * (4 * s.bankSteps c (s.celBank c) + 2) + d - 1) / d
/-- The group is frozen (R192). -/
def grpFrozen (s : Dev) (g : Nat) : Bool := s.bit (Reg.CEL_GRP_DVFS.FREEZE g) || s.bit (ctlBit bCEL 16)
/-- STATE of a pair. -/
def pairState (s : Dev) (p : Nat) : Nat := s.get (Reg.CEL_PAIR_STAT.STATE p)
/-- The cells that group `g` carries. -/
def groupCells (s : Dev) (g : Nat) : List Nat :=
  ((groupPairs g).filter fun p => s.pairState p == 1).map fun p => s.get (Reg.CEL_PAIR_STAT.CELL p)
/-- The frequency the group's loop aims at (R192). -/
def freqTarget (s : Dev) (g : Nat) : Nat :=
  if (groupPairs g).any fun p => s.pairState p == 0 then max (s.freqMin g) (min 8 (s.freqMax g))
  else min (s.freqMax g) ((s.groupCells g).foldl (fun n c => max n (s.freqNeed c)) (s.freqMin g))
/-- Pair `p` repeats an activation; it becomes in use when the comparison passes (R213). -/
def pairReserved (s : Dev) (p : Nat) : Bool := s.cells.any fun e => e.2.run.any fun r => r.spare == some p
/-- Pair `p` is spare and repeats nothing. -/
def pairFree (s : Dev) (p : Nat) : Bool := s.pairState p == 0 && !s.pairReserved p
/-- A pair of the group executes. -/
def grpBusy (s : Dev) (g : Nat) : Bool :=
  (s.groupCells g).any (fun c => (s.cell c).run.any fun r => r.spare.isNone) || (groupPairs g).any s.pairReserved

/-- Spare pairs in powered groups whose FREQ_MAX is 8 (R248). -/
def goodSpares (s : Dev) : Nat := ((List.range 68).filter fun p => s.pairState p == 0 && s.freqMax (p / 4) == 8).length

/-- A pair can carry cell `c`: it is free, its group's FREQ_MAX meets the need, and the group is not frozen below it and takes new cells (R192, R247). -/
def pairCarries (s : Dev) (c p : Nat) : Bool :=
  let g := p / 4
  let need := s.freqNeed c
  s.pairFree p && Nat.ble need (s.freqMax g) && !s.plc.hot.testBit g && (!s.grpFrozen g || Nat.ble need (s.get (Reg.CEL_GRP_DVFS.FREQ_NOW g)))

/-- A pair may take cell `c`: it can carry it, and four spare pairs remain (R248). -/
def pairFits (s : Dev) (c p : Nat) : Bool :=
  s.pairCarries c p && Nat.ble (if s.freqMax (p / 4) = 8 then 5 else 4) s.goodSpares

/-- The signed temperature of a group. -/
def grpTemp (s : Dev) (g : Nat) : Int := s.getS (Reg.PLC_GRP_TEMP.TEMP g)

/-- The pair the Rigger gives a cell among those that meet `fits` (R246, R248, R259): its pin's; in SPREAD the lowest pair of the coolest group; otherwise the lowest pair. -/
def pairAmong (s : Dev) (c : Nat) (fits : Nat → Bool) : Option Nat :=
  match s.pinTarget 0 c with
  | some p => if p < 68 ∧ fits p then some p else none
  | none =>
    let fit := (List.range 68).filter fits
    match fit with
    | [] => none
    | p :: rest =>
      if s.get Reg.PLC_POLICY.MODE = 2 then some (rest.foldl (fun a b => if s.grpTemp (b / 4) < s.grpTemp (a / 4) then b else a) p)
      else some p

/-- The pair the Rigger gives a cell at its enable. -/
def choosePair (s : Dev) (c : Nat) : Option Nat := s.pairAmong c (s.pairFits c)

/-- The pair the Rigger gives a HALTED cell that restarts: as at an enable, but while fewer than four pairs are spare, the interval after a re-execution, R248 asks for no four spares (R216, R248). -/
def restartPair (s : Dev) (c : Nat) : Option Nat :=
  if s.get Reg.CEL_SPARES.SPARE_NOW < 4 then s.pairAmong c (s.pairCarries c) else s.choosePair c

/-- The group that is switched on for a cell that no pair takes: its pin's, or the lowest that is off and meets its need (R192, R258, R259). -/
def groupFor (s : Dev) (c : Nat) : Option Nat :=
  let ok (g : Nat) : Bool := !s.domOn (groupDom g) && Nat.ble (s.freqNeed c) (s.freqMax g) && !s.plc.hot.testBit g
  match s.pinTarget 0 c with
  | some p => if p < 68 ∧ ok (p / 4) then some (p / 4) else none
  | none => (List.range 17).find? ok

/-- The group that spare restoration is to switch on: the lowest Lathe group that is off and has FREQ_MAX 8, while fewer than four pairs are spare and no such group is coming on (R250). -/
def restoreGroup (s : Dev) : Option Nat :=
  if 4 ≤ s.get Reg.CEL_SPARES.SPARE_NOW ∨ (List.range 17).any fun g => s.pwr.switching.testBit (groupDom g) && s.freqMax g == 8 then none
  else (List.range 17).find? fun g => !s.domOn (groupDom g) && s.freqMax g == 8

/-- Spare restoration begins (R250). -/
def spareRestore (s : Dev) : Dev :=
  match s.restoreGroup with
  | some g => s.plcDomOn (groupDom g) causeSpare
  | none => s

/-- Cell `c` is carried by pair `p`. -/
def placeOn (s : Dev) (c p : Nat) : Dev :=
  ((s.setPair p 1).put (Reg.CEL_PAIR_STAT.CELL p) c).put (Reg.CEL_STAT.PAIR c) p

/-- The state words, SM and queue of a cell start afresh from the active bank (R218). -/
def celReload (s : Dev) (c : Nat) : Dev :=
  let b := s.celBank c
  let s := (List.range 32).foldl (fun s j => s.setWord (Reg.CEL_STATE_WORD c j) (s.word (Reg.CEL_TBL c b (0x1C0 + j)))) s
  let s := (s.put (Reg.CEL_STAT.SM_STATE c) 0).put (Reg.CEL_STAT.STEPS c) (s.bankSteps c b)
  s.modCell c fun x => { x with queue := [], req := none, run := none, safe := false, prevAt := none, trigAt := max x.trigAt s.now, restartDue := false, offDue := false }

/-- The cell is placed and enters IDLE (R218); with no pair to take it, the Rigger switches a Lathe group on and places it then (R258). -/
def celPlace (s : Dev) (c : Nat) : Dev :=
  match s.choosePair c with
  | some p => ((((s.placeOn c p).celReload c).setCelState c celIdle).modCell c fun x => { x with trigAt := s.now }).celSafeCheck c
  | none =>
    match s.groupFor c with
    | some g => s.plcDomOn (groupDom g) causePolicy
    | none => s

/-- The pair of a cell becomes spare. -/
def freePair (s : Dev) (c : Nat) : Dev :=
  let p := s.celPair c
  let s := s.put (Reg.CEL_STAT.PAIR c) 0x7F
  if p < 68 ∧ s.pairState p = 1 then s.setPair p 0 else s

/-- A cell whose EN is cleared enters OFF (R218). -/
def celStop (s : Dev) (c : Nat) : Dev :=
  let s := ((s.freePair c).setCelState c celOff)
  s.modCell c fun x => { x with queue := [], req := none, run := none, safe := false, restartDue := false, offDue := false }

/-- State, SM and queue are reloaded and the cell enters IDLE, or SAFE if its domain is not valid (R216, R218). -/
def celFresh (s : Dev) (c : Nat) : Dev := ((s.celReload c).setCelState c celIdle).celSafeCheck c

/-- RESTART takes effect: a HALTED cell only while a spare pair exists; a cell left with no pair takes one that R192, R248 and its pin allow, or waits for a group to come on (R216, R218, R248, R258, R259). -/
def celRestart (s : Dev) (c : Nat) : Dev :=
  let s := s.modCell c fun x => { x with restartDue := false }
  if s.celState c = celOff ∨ (s.celState c = celHalted ∧ s.get Reg.CEL_SPARES.SPARE_NOW = 0) then s
  else if s.celPair c ≠ 0x7F then s.celFresh c
  else match s.restartPair c with
  | some p => ((s.placeOn c p).celFresh c).spareRestore
  | none =>
    match s.groupFor c with
    | some g => (s.modCell c fun x => { x with restartDue := true }).plcDomOn (groupDom g) causePolicy
    | none => s

/-- The cell waits for a pair: it is enabled and not placed, or it is to restart and has none (R248). -/
def celWaits (s : Dev) (c : Nat) : Bool :=
  (s.bit (Reg.CEL_CFG.EN c) && s.celState c == celOff) || (s.celState c == celHalted && (s.cell c).restartDue)

/-- The cells that wait for a pair are placed, in order of cell number, pinned ones first (R248). -/
def placeWaiting (s : Dev) : Dev :=
  let w := (List.range 64).filter s.celWaits
  ((w.filter fun c => (s.pinTarget 0 c).isSome) ++ w.filter fun c => (s.pinTarget 0 c).isNone).foldl (fun s c =>
    if s.celState c = celOff then s.celPlace c else s.celRestart c) s

/-- What waited for the end of an activation takes effect: a cleared EN, then a cell enabled again is placed; or RESTART (R218). -/
def celDue (s : Dev) (c : Nat) : Dev :=
  let x := s.cell c
  if x.offDue then (s.celStop c).placeWaiting
  else if x.restartDue then s.celRestart c
  else s

/-- The cell enters HALTED (R214, R216). -/
def celHalt (s : Dev) (c : Nat) : Dev :=
  let s := (s.setCelState c celHalted).modCell c fun x => { x with run := none, req := none, safe := false }
  (s.safeOutputs c).celDue c

/-- A write of CEL_CFG (R218): EN places or stops the cell, after a running activation is released; the cells that a commit enables are placed together after it (R248). -/
def celCfgWrite (s : Dev) (c : Nat) (v : Word) (commit : Bool) : Dev :=
  let timed := s.get (Reg.CEL_CFG.TRIG c) == 1
  let s := s.writeFields bCEL (Reg.CEL_CFG c) v
  let s := s.when (!timed && s.get (Reg.CEL_CFG.TRIG c) == 1) fun s => s.modCell c fun x => { x with trigAt := s.now }
  let s :=
    if s.bit (Reg.CEL_CFG.EN c) then (if commit ∨ s.celState c ≠ celOff then s else s.celPlace c)
    else if (s.cell c).run.isSome then s.modCell c fun x => { x with offDue := true }
    else if s.celState c = celOff then s
    else (s.celStop c).when (!commit) placeWaiting
  s.celSafeCheck c

/-- A write of PERIOD or BASE: instants of the new grid count from now on (R207). -/
def celTimeWrite (s : Dev) (c k : Nat) (v : Word) : Dev :=
  (s.writeFields bCEL k v).modCell c fun x => { x with trigAt := max x.trigAt s.now }

/-- A write of CEL_CMD.RESTART (R218). -/
def celCmdWrite (s : Dev) (c : Nat) (v : Word) : Dev :=
  if ¬ wbit v 0 then s
  else if (s.cell c).run.isSome then s.modCell c fun x => { x with restartDue := true }
  else s.celRestart c

/-- A write of CEL_PAIR_CMD.RETURN (R215, R250). -/
def pairCmdWrite (s : Dev) (v : Word) : Dev :=
  let p := wfld v 0 7
  if wbit v 31 ∧ p < 68 ∧ s.pairState p = 2 ∧ s.bit (Reg.CEL_PAIR_STAT.TESTED p) then
    let low := Nat.blt (s.get Reg.CEL_SPARES.SPARE_NOW) 4
    (((s.setPair p 0).put (Reg.CEL_PAIR_STAT.TESTED p) 0).when low (·.raise bPLC 3)).placeWaiting
  else s

/-- FREQ_STEP: the group's frequency moves one step towards its target while no pair executes; its engines are stopped for up to 100 ns (R192). -/
def freqStep (s : Dev) (g : Nat) : Dev :=
  let f := s.get (Reg.CEL_GRP_DVFS.FREQ_NOW g)
  let t := s.freqTarget g
  if s.grpFrozen g || s.grpBusy g || f == t || !s.domOn (groupDom g) || s.isGrave bCEL then s
  else
    let s := s.put (Reg.CEL_GRP_DVFS.FREQ_NOW g) (if f < t then f + 1 else f - 1)
    (s.groupCells g).foldl (fun s c => s.modCell c fun x => { x with holdTill := max x.holdTill (s.up + 100) }) s

/-! ### Triggers, angle domains and steps of time (R207, R58, R216) -/

/-- How many of the instants `base + k × per`, k any integer, lie in (`a`, `b`] (R207). -/
def gridIn (base per a b : Nat) : Nat :=
  let upTo (t : Nat) : Int := ((t : Int) - base) / (max 1 per : Nat)
  (upTo b - upTo a).toNat

/-- The activation times of cell `c` in (`a`, now]. -/
def celTimes (s : Dev) (c a : Nat) : Nat :=
  gridIn (ofStamp (s.stamp3 (Reg.CEL_BASE_LO c))) (max 1 (s.get (Reg.CEL_PERIOD.PERIOD c)) * 65536) a s.now

/-- TIME_TRIGGER: the instants BASE + k × PERIOD passed since the last one raise one request (R207). -/
def timeTrigger (s : Dev) (c : Nat) : Dev :=
  if s.celState c = celOff ∨ s.get (Reg.CEL_CFG.TRIG c) ≠ 1 ∨ s.isGrave bCEL then s
  else
    let m := s.celTimes c (s.cell c).trigAt
    let s := s.modCell c fun x => { x with trigAt := if m = 0 then x.trigAt else s.now }
    (List.replicate m ()).foldl (fun s _ => s.celRequest c false true) s

/-- A forward step from `t0`: each activation time it skips is late and merged (R33, R207). -/
def celTimeStep (s : Dev) (t0 : Nat) : Dev :=
  (List.range 64).foldl (fun s c =>
    if s.celState c = celOff ∨ s.get (Reg.CEL_CFG.TRIG c) ≠ 1 then s
    else (s.incBy (Reg.CEL_LATE.COUNT c) (s.celTimes c (max t0 (s.cell c).trigAt))).timeTrigger c) s

/-- A mark event reaches the cells that subscribe to it (R207). -/
def celMark (s : Dev) (d i : Nat) : Dev :=
  (List.range 64).foldl (fun s c =>
    if s.get (Reg.CEL_CFG.TRIG c) = 2 ∧ s.get (Reg.CEL_CFG.DOM c) = d ∧ s.get (Reg.CEL_CFG.MARK_FIRST c) ≤ i ∧ i ≤ s.get (Reg.CEL_CFG.MARK_LAST c) then
      s.celRequest c true true
    else s) s

/-- Cells triggered by domain `d` apply their policy as it stops being valid (R58, R216). -/
def celDomLost (s : Dev) (d : Nat) : Dev :=
  (List.range 64).foldl (fun s c =>
    if s.celState c = celOff ∨ s.get (Reg.CEL_CFG.TRIG c) ≠ 2 ∨ s.get (Reg.CEL_CFG.DOM c) ≠ d ∨ s.celPolicy c = 1 then s
    else
      let s := if (s.cell c).req = some true then (s.modCell c fun x => { x with req := none }).inc (Reg.CEL_LATE.COUNT c) else s
      s.celSafeCheck c) s

/-- The domain is valid again: a held angle request is late, since its mark is not ahead (R58). -/
def celDomBack (s : Dev) (d : Nat) : Dev :=
  (List.range 64).foldl (fun s c =>
    if s.get (Reg.CEL_CFG.TRIG c) = 2 ∧ s.get (Reg.CEL_CFG.DOM c) = d ∧ s.celPolicy c = 1 ∧ (s.cell c).req = some true then
      (s.modCell c fun x => { x with req := none }).inc (Reg.CEL_LATE.COUNT c)
    else s) s

/-- A boundary of domain `d` passes (R217, SWAP_AT 1). -/
def celBoundary (s : Dev) (d : Nat) : Dev :=
  (List.range 64).foldl (fun s c =>
    if s.bit (Reg.CEL_BANK.SWAP_PEND c) ∧ s.get (Reg.CEL_CFG.DOM c) = d ∧ ¬ (s.cell c).boundary then s.modCell c fun x => { x with boundary := true }
    else s) s

/-- CEL became GRAVE: no cell starts or releases anything (R214). -/
def celBecomeGrave (s : Dev) : Dev := s.cells.foldl (fun s e => s.modCell e.1 fun x => { x with req := none }) s

end Dev

/-- FREQ_STEP (R192). -/
def execFreqStep (g : Fin 17) (s : State) := devStep (·.freqStep g) s
/-- PAIR_RETURN (R215). -/
def execPairReturn (value : Word) (s : State) := devStep (fun d => d.hostGate bCEL Reg.CEL_PAIR_CMD value (·.pairCmdWrite value)) s
/-- RESTART (R218). -/
def execRestart (c : Fin 64) (value : Word) (s : State) :=
  devStep (fun d => d.hostGate bCEL (Reg.CEL_CMD c) value (·.celCmdWrite c value)) s
/-- TIME_TRIGGER (R207). -/
def execTimeTrigger (c : Fin 64) (s : State) := devStep (·.timeTrigger c) s

end Sys2Proof.Machine
end

