-- ==== Sys2Proof/Machine/CellRun.lean ====
section
/-! DEFINITION. Activations of a cell (R195–R204, R208, R212–R217): the program, the snapshot, the comparison, the re-execution, and table bank swaps. -/

namespace Sys2Proof.Machine

/-- What a program works on: results r[k], state words, SM and pending outputs (R193, R203). -/
structure Prog where
  r : List Int := []
  st : List Int := []
  sm : Nat := 0
  pend : List (Nat × Int) := []
  deriving DecidableEq, Repr

/-- Bits [lo + w − 1 : lo] of a step. -/
def sfld (x lo w : Nat) : Nat := x / 2 ^ lo % 2 ^ w

/-- A state word. -/
def Prog.s (g : Prog) (j : Nat) : Int := g.st.getD j 0
/-- Assign a state word. -/
def Prog.setS (g : Prog) (j : Nat) (v : Int) : Prog := { g with st := g.st.set j v }
/-- The result of step `k`, 0 before it has run. -/
def Prog.res (g : Prog) (k : Nat) : Int := g.r.getD k 0

namespace Dev

/-- Constant pool word `i` (R194). -/
def poolWord (s : Dev) (c b i : Nat) : Int := toSigned 32 (s.tbl c b (0x80 + i))
/-- Point `i` of curve `n`: X and Y. -/
def curvePoint (s : Dev) (c b n i : Nat) : Int × Int :=
  let w := 0x400 + 0x80 * n + 2 * i
  (toSigned 32 (s.tbl c b w), toSigned 32 (s.tbl c b (w + 1)))

/-- An operand of a step (R195). -/
def operand (s : Dev) (c b : Nat) (g : Prog) (op : Nat) : Int :=
  match op / 256 with
  | 0 => g.res (op % 256)
  | 1 => s.poolWord c b (op % 256)
  | 2 => g.s (op % 256)
  | _ => 0

/-- The value a FETCH step reads (R197): the sources as they stand at the start of the activation; `fresh` is the free value of a source the spec does not define. -/
def fetch (s : Dev) (c : Nat) (x : Nat) (ev : Option CelEvt) (fresh : Int) : Int :=
  match sfld x 56 4 with
  | 0 =>
    let n := sfld x 40 9
    match sfld x 32 2 with
    | 0 => s.getS (Reg.SMP_CH_VALUE.VALUE (n / 16) (n % 16))
    | 1 => s.get (Reg.SMP_CH_STAT.CMP_A (n / 16) (n % 16)) * qOne
    | 2 => s.get (Reg.SMP_CH_STAT.CMP_B (n / 16) (n % 16)) * qOne
    | _ => s.get (Reg.SMP_CH_STAT.FLAT (n / 16) (n % 16)) * qOne
  | 1 =>
    let f := sfld x 30 2
    let w := fmtWidth f
    let buf := Tab.get (fun _ => []) s.fieldBufs (sfld x 40 10)
    fmtFetch f (numBE (padTo w ((buf.drop (sfld x 32 8)).take w)))
  | 2 =>
    match s.objOf (sfld x 32 16) (sfld x 24 8) with
    | some o => objFetch o.type (s.objNum o)
    | none => 0
  | 3 => s.getS (Reg.CEL_OUT_VAL.VALUE (sfld x 40 6) (sfld x 32 3))
  | 4 =>
    let d := sfld x 40 3
    match sfld x 32 2 with
    | 0 => (s.angle48 d % 16777216 / 256 : Nat)
    | 1 => s.angSpeedQ d
    | 2 => if s.angOk d then qOne else 0
    | _ => fresh
  | 5 =>
    match (s.cell c).prevAt with
    | none => 0
    | some t => qStore ((s.stepless - t) * 65536) ((if sfld x 32 1 = 0 then 1000 else 1000000) * 2 ^ 40)
  | 6 =>
    match ev with
    | some e => if e.input = sfld x 40 3 then (if sfld x 32 1 = 0 then qOne else e.value) else 0
    | none => 0
  | _ => fresh

/-- BIQUAD (R199). -/
def biquad (s : Dev) (c b : Nat) (g : Prog) (x : Int) (co st : Nat) : Int × Prog :=
  let k (j : Nat) : Int := s.poolWord c b (co + j)
  let y := qStore (k 0 * x + k 1 * g.s st + k 2 * g.s (st + 1) - k 3 * g.s (st + 2) - k 4 * g.s (st + 3)) 65536
  (y, (((g.setS (st + 1) (g.s st)).setS st x).setS (st + 3) (g.s (st + 2))).setS (st + 2) y)

/-- CURVE (R199). -/
def curve (s : Dev) (c b : Nat) (x : Int) (n pts : Nat) : Int :=
  let p (i : Nat) := s.curvePoint c b n i
  if x ≤ (p 0).1 then (p 0).2
  else if (p (pts - 1)).1 ≤ x then (p (pts - 1)).2
  else
    let i := ((List.range pts).filter fun i => decide ((p i).1 ≤ x)).foldl max 0
    let dx := (p (i + 1)).1 - (p i).1
    qStore ((p i).2 * dx + (x - (p i).1) * ((p (i + 1)).2 - (p i).2)) dx

/-- PID (R200). -/
def pid (s : Dev) (c b : Nat) (g : Prog) (sp pv : Int) (co st : Nat) : Int × Prog :=
  let k (j : Nat) : Int := s.poolWord c b (co + j)
  let e := qSat (sp - pv)
  let p := qStore (k 0 * e) 65536
  let ic := qStore (g.s st * 65536 + k 1 * e) 65536
  let d := qStore (k 2 * (e - g.s (st + 1))) 65536
  let u := qSat (p + ic + d)
  let (out, g') :=
    if k 4 < u then (k 4, if e ≤ 0 then g.setS st ic else g)
    else if u < k 3 then (k 3, if 0 ≤ e then g.setS st ic else g)
    else (u, g.setS st ic)
  (out, g'.setS (st + 1) e)

/-- RATE (R201). -/
def rateStep (s : Dev) (c b : Nat) (g : Prog) (x : Int) (co st : Nat) : Int × Prog :=
  let l := g.s st
  let y :=
    if s.poolWord c b co < x - l then qSat (l + s.poolWord c b co)
    else if x - l < -(s.poolWord c b (co + 1)) then qSat (l - s.poolWord c b (co + 1))
    else x
  (y, g.setS st y)

/-- CMP (R201). -/
def compare (op : Nat) (a b fresh : Int) : Int :=
  let yes (p : Bool) : Int := if p then qOne else 0
  match op with
  | 0 => yes (decide (a < b))
  | 1 => yes (decide (a ≤ b))
  | 2 => yes (decide (a = b))
  | 3 => yes (decide (a ≠ b))
  | 4 => yes (decide (b ≤ a))
  | 5 => yes (decide (b < a))
  | _ => fresh

/-- A transition fires: it is enabled and its guards hold (R202). -/
def transitionHolds (g : Prog) (ev : Option CelEvt) (t : Nat) : Bool :=
  let guard (en inv step : Nat) : Bool := !t.testBit en || ((g.res (sfld t step 6) != 0) != t.testBit inv)
  t.testBit 63 && guard 55 54 48 && guard 47 46 40
    && (!t.testBit 39 || ev.any fun e => e.input == sfld t 36 3)

/-- The SM step (R202). -/
def smStep (s : Dev) (c b : Nat) (g : Prog) (ev : Option CelEvt) : Nat :=
  let e := s.tbl c b (0x180 + g.sm)
  match (List.range (e / 256 % 512)).find? fun i => transitionHolds g ev (s.tbl64 c b (0x200 + 2 * (e % 256 + i))) with
  | some i => sfld (s.tbl64 c b (0x200 + 2 * (e % 256 + i))) 56 6
  | none => g.sm

/-- One step (R196). -/
def runStep (s : Dev) (c b : Nat) (ev : Option CelEvt) (g : Prog) (k : Nat) : Prog :=
  let x := s.step64 c b k
  let fresh := toSigned 32 (Config.freeWord (s.freeCount + k)).toNat
  let a := s.operand c b g (sfld x 50 10)
  let o := s.operand c b g (sfld x 40 10)
  let co := sfld x 8 8
  let st := sfld x 0 5
  let (v, g) : Int × Prog :=
    match x / 2 ^ 60 with
    | 1 => (s.fetch c x ev fresh, g)
    | 2 => s.biquad c b g a co st
    | 3 => (s.curve c b a (sfld x 0 2) (sfld x 8 7), g)
    | 4 => s.pid c b g a o co st
    | 5 => s.rateStep c b g a co st
    | 6 => (compare (sfld x 16 3) a o fresh, g)
    | 7 =>
      let m := s.smStep c b g ev
      (m * qOne, { g with sm := m })
    | 8 => (a, { g with pend := (g.pend.filter fun e => e.1 != sfld x 0 3) ++ [(sfld x 0 3, a)] })
    | _ => (fresh, g)
  { g with r := g.r ++ [v] }

/-- The state words of a cell. -/
def celWords (s : Dev) (c : Nat) : List Int := (List.range 32).map fun j => toSigned 32 (s.word (Reg.CEL_STATE_WORD c j)).toNat

/-- The whole program of bank `b` on the cell's checkpoint (R195, R208). -/
def runProgram (s : Dev) (c b : Nat) (ev : Option CelEvt) : Prog :=
  (List.range (s.bankSteps c b)).foldl (s.runStep c b ev) { st := s.celWords c, sm := s.get (Reg.CEL_STAT.SM_STATE c) }

/-- The target of a pending output (R204); none when its domain is not valid at the start. -/
def outTarget (s : Dev) (c b : Nat) (g : Prog) (o : Nat) : Option Target :=
  let w0 := s.outWord c b o 0
  let w1 := s.outWord c b o 1
  let kind := w0 / 2 ^ 28 % 8
  let w := g.res (w1 / 2 ^ 20 % 64)
  if kind ≠ 1 ∧ kind ≠ 2 then some .atOnce
  else match w1 / 2 ^ 30 with
  | 1 => some (.time (s.now + (max w 0 * 1000).toNat))
  | 2 =>
    let d := w1 / 2 ^ 27 % 8
    if ¬ s.angOk d then none
    else
      let a := s.angle48 d
      let t := ((a / 16777216 + (max (w / 65536) 0).toNat) * 16777216 + (w % 65536).toNat * 256) % 2 ^ 48
      some (.angle d (if 0 < sdiff t a 48 then t else (t + 16777216) % 2 ^ 48))
  | _ => some .atOnce

/-- The pending outputs of enabled descriptors with their targets, in index order (R203, R204). -/
def outsOf (s : Dev) (c b : Nat) (g : Prog) : List CelOut :=
  ((List.range 8).filterMap fun o => (g.pend.find? fun e => e.1 == o).map fun e => (o, e.2)).filterMap fun e =>
    if (s.outWord c b e.1 0).testBit 31 then some { out := e.1, value := e.2, target := s.outTarget c b g e.1 } else none

/-! ### Banks (R217) -/

/-- The pending swap of a cell takes place (R217). -/
def swapNow (s : Dev) (c : Nat) : Dev :=
  let b := 1 - s.celBank c
  let s := (s.put (Reg.CEL_BANK.ACTIVE c) b).put (Reg.CEL_BANK.SWAP_PEND c) 0
  let s := s.modCell c fun x => { x with boundary := false }
  let s := s.put (Reg.CEL_STAT.STEPS c) (s.bankSteps c b)
  let s := if s.bit (Reg.CEL_BANK.REINIT c) then
      ((List.range 32).foldl (fun s j => s.setWord (Reg.CEL_STATE_WORD c j) (s.word (Reg.CEL_TBL c b (0x1C0 + j)))) s).put (Reg.CEL_STAT.SM_STATE c) 0
    else s
  s.raise bCEL 4

/-- A swap that waits takes place at this start (R217). -/
def swapAtStart (s : Dev) (c : Nat) : Dev :=
  s.when (s.bit (Reg.CEL_BANK.SWAP_PEND c) && (!s.bit (Reg.CEL_BANK.SWAP_AT c) || (s.cell c).boundary)) (·.swapNow c)

/-- An engine clock count of a group in whole ns, rounded up: `n` clocks of 10 / FREQ_NOW ns. -/
def clocksNs (freq n : Nat) : Nat := (n * 10 + max 1 freq - 1) / max 1 freq

/-- Cell `c` may start an activation now (R208, R214, R216, R058). -/
def mayStart (s : Dev) (c : Nat) : Bool :=
  let x := s.cell c
  let st := s.celState c
  let angleOnly := x.req == some true
  (x.req.isSome || x.queue.any fun e => s.bit (Reg.CEL_IN.ACTIVATE c e.input)) && x.run.isNone && (st == celIdle || st == celSafe) && s.celPair c != 0x7F && !s.isGrave bCEL && s.blockOn bCEL
    && (match x.prevUp with
        | some u => Nat.ble (u + 5000) s.up
        | none => true)
    && Nat.ble x.holdTill s.up
    && !(angleOnly && !s.angOk (s.get (Reg.CEL_CFG.DOM c)))

/-- The deliveries at the head of the queue whose context is not ACTIVE or has a later generation are dropped, each refused under R149. -/
def dropStale (s : Dev) (c : Nat) : List CelEvt → Dev
  | [] => s
  | e :: q =>
    match e.ref with
    | some (x, g) => if s.refOk x g then s else dropStale ((s.refuseRef x g).modCell c fun x => { x with queue := q }) c q
    | none => s

/-- ACTIVATION_START (R208, R212): stale deliveries are dropped, then the checkpoint, the snapshot and the event are taken; the run holds what both engines compute from them. -/
def activationStart (s : Dev) (c : Nat) : Dev :=
  let s := if s.mayStart c then s.dropStale c (s.cell c).queue else s
  if ¬ s.mayStart c then s
  else
    let s := s.swapAtStart c
    let x := s.cell c
    let ev := x.queue.head?
    let b := s.celBank c
    let g := s.runProgram c b ev
    let n := g.r.length
    let run : CelRun :=
      { startAt := s.now, startUp := s.up, bank := b, event := ev, steps := n, outs := s.outsOf c b g, words := g.st, sm := g.sm
        doneUp := s.up + clocksNs (s.get (Reg.CEL_GRP_DVFS.FREQ_NOW (s.celPair c / 4))) (4 * n + 2) }
    let x := { x with
      req := none, run := some run, queue := x.queue.drop 1, prevAt := some s.stepless, prevUp := some s.up
      safe := x.safe && !s.angOk (s.get (Reg.CEL_CFG.DOM c)) }
    let s := { s.setCell c x with freeCount := s.freeCount + n }
    s.setCelState c celRun

/-- The trace record of an activation (R395, source 3). -/
def celTrace (s : Dev) (c kind pair : Nat) (r : CelRun) (ns : Nat) : Dev :=
  let ev := match r.event with
    | some e => 2 ^ 27 + e.src % 2048 * 65536
    | none => 0
  s.trace 3 c c (kind * 2 ^ 29 + pair % 128 * 65536 + r.steps * 256 + r.sm) (ev + min 65535 ns)

/-- What waits for the end of an activation: RESTART, a cleared EN, the next request (R207, R218). -/
def celAfter (s : Dev) (c : Nat) : Dev :=
  let x := s.cell c
  if x.offDue || x.restartDue then s.celDue c
  else (s.setCelState c (if x.safe then celSafe else celIdle)).celQueueRequest c

/-- The outputs are released and the new state stands (R205, R208, R212); `re` after a re-execution. -/
def celRelease (s : Dev) (c : Nat) (r : CelRun) (re : Bool) : Dev :=
  let dl := s.get (Reg.CEL_DEADLINE.DEADLINE c) * 10
  let s := s.modCell c fun x => { x with run := none, relUp := some s.up }
  let s := (List.range 32).foldl (fun s j => s.setWord (Reg.CEL_STATE_WORD c j) (BitVec.ofInt 32 (r.words.getD j 0))) s
  let s := s.put (Reg.CEL_STAT.SM_STATE c) r.sm
  let s := s.handOn c r.bank r.outs (r.startAt + dl * 65536)
  let ns := s.up - r.startUp
  let s := s.inc (Reg.CEL_ACT_CNT.COUNT c)
  let s := s.put (Reg.CEL_EXEC.LAST_NS c) (min 65535 ns)
  let s := s.put (Reg.CEL_EXEC.MAX_NS c) (max (s.get (Reg.CEL_EXEC.MAX_NS c)) (min 65535 ns))
  let late : Bool := Nat.blt dl ns
  let s := if late then ((s.inc (Reg.CEL_LATE.COUNT c)).raise bCEL 2).fault bCEL 3 else s
  (s.celTrace c (if re then 1 else if late then 3 else 0) (s.celPair c) r ns).celAfter c

/-- The counters of a mismatch (R213): `to'` is the spare pair used, 0x7F for none. -/
def mismatchCount (s : Dev) (c failed to' : Nat) : Dev :=
  let s := s.inc Reg.CEL_MISMATCH_CNT.COUNT
  let s := s.put (Reg.CEL_PAIR_STAT.MISMATCH failed) (min 255 (s.get (Reg.CEL_PAIR_STAT.MISMATCH failed) + 1))
  (s.setWord Reg.CEL_LAST_MISMATCH (BitVec.ofNat 32 (failed * 65536 + to' * 256 + c))).fault bCEL 0

/-- A golden-vector run on pair `p` is abandoned; its unit stays to be run (R213, R384). -/
def goldenAbandon (s : Dev) (p : Nat) : Dev :=
  if s.ist.running = some (1, p) then
    let s := s.put (statusBit bIST 0) 0
    if s.ist.cyclePhase = 4 then { s with ist := { s.ist with running := none, cycle := (1, p) :: s.ist.cycle } }
    else { s with ist := { s.ist with running := none, left := (1, p) :: s.ist.left } }
  else s

/-- A mismatch withholds the outputs; the lowest spare pair takes the checkpoint and repeats the activation, staying spare until its comparison passes; or the cell halts (R213, R214). -/
def celMismatch (s : Dev) (c : Nat) (r : CelRun) (ckptBad : Bool) : Dev :=
  let failed := s.celPair c
  match (if ckptBad then none else (List.range 68).find? s.pairFree) with
  | some p =>
    let s := s.goldenAbandon p
    let f := s.get (Reg.CEL_GRP_DVFS.FREQ_NOW (p / 4))
    (s.modCell c fun x => { x with run := some { r with spare := some p, doneUp := s.up + clocksNs f (4 * r.steps + 2) } }).setCelState c celReexec
  | none =>
    let s := (s.mismatchCount c failed 0x7F).fault bCEL (if ckptBad then 5 else 2)
    let s := ((s.setPair failed 2).put (Reg.CEL_PAIR_STAT.TESTED failed) 0).put (Reg.CEL_STAT.PAIR c) 0x7F
    let s := s.celTrace c 2 failed r (s.up - r.startUp)
    (s.celHalt c).spareRestore

/-- ACTIVATION_COMPARISON: the two engines agree or not (R212). -/
def activationComparison (s : Dev) (c : Nat) (agree ckptBad : Bool) : Dev :=
  match (s.cell c).run with
  | some r =>
    if s.celState c ≠ celRun ∨ s.up < r.doneUp ∨ s.isGrave bCEL then s
    else if agree then s.celRelease c r false
    else s.celMismatch c r ckptBad
  | none => s

/-- The counters and registers that a re-execution on pair `p` changes (R213 step 5). -/
def reexecCount (s : Dev) (c p : Nat) : Dev :=
  ((s.inc (Reg.CEL_REEXEC.COUNT c)).mismatchCount c (s.celPair c) p).raise bCEL 0

/-- The pairs after a re-execution whose comparison passes: the spare one is in use, the failed one out of service (R213 step 4, R250). -/
def reexecPairs (s : Dev) (c p : Nat) : Dev :=
  let failed := s.celPair c
  let s := ((s.setPair failed 2).put (Reg.CEL_PAIR_STAT.TESTED failed) 0).placeOn c p
  (s.plcMove 0 causeMismatch p failed c).spareRestore

/-! ### The check of a bank (R219, codes 0x0901, 0x0903, 0x0904) -/

/-- An operand's class and index are in range for step `k`. -/
def operandOk (op k : Nat) : Bool :=
  let i := op % 256
  match op / 256 with
  | 0 => Nat.blt i k
  | 2 => Nat.blt i 32
  | _ => true

/-- Step `k` of a bank meets R195 to R203. -/
def stepOk (s : Dev) (c b k : Nat) : Bool :=
  let x := s.step64 c b k
  let a := operandOk (sfld x 50 10) k
  let o := operandOk (sfld x 40 10) k
  let co := sfld x 8 8
  let st := sfld x 0 5
  match x / 2 ^ 60 with
  | 0 => true
  | 1 =>
    match sfld x 56 4 with
    | 1 => Nat.ble (sfld x 40 10) 639 && Nat.ble (sfld x 32 8 + fmtWidth (sfld x 30 2)) 256
    | 4 => sfld x 32 2 != 3
    | n => Nat.ble n 6
  | 2 => a && Nat.ble co 251 && Nat.ble st 28
  | 3 =>
    let n := sfld x 8 7
    a && Nat.ble 2 n && Nat.ble n 64
      && (List.range (n - 1)).all fun i => decide ((s.curvePoint c b (sfld x 0 2) i).1 < (s.curvePoint c b (sfld x 0 2) (i + 1)).1)
  | 4 => a && o && Nat.ble co 251 && Nat.ble st 30 && decide (s.poolWord c b (co + 3) ≤ s.poolWord c b (co + 4))
  | 5 => a && Nat.ble co 254 && decide (0 ≤ s.poolWord c b co) && decide (0 ≤ s.poolWord c b (co + 1))
  | 6 => a && o && Nat.ble (sfld x 16 3) 5
  | 7 => true
  | 8 => a && (s.outWord c b (sfld x 0 3) 0).testBit 31
  | _ => false

/-- The first OUT step that names output `o`, or 0. -/
def outStep (s : Dev) (c b o : Nat) : Nat :=
  ((List.range (s.bankSteps c b)).find? fun k => s.step64 c b k / 2 ^ 60 == 8 && sfld (s.step64 c b k) 0 3 == o).getD 0

/-- The state table and guards of a bank meet R202. -/
def smOk (s : Dev) (c b : Nat) (lim : Option Nat) : Bool :=
  (List.range 64).all fun m =>
    let e := s.tbl c b (0x180 + m)
    let n := e / 256 % 512
    Nat.ble (e % 256 + n) 256 &&
      (match lim with
       | none => true
       | some k => (List.range n).all fun i =>
          let t := s.tbl64 c b (0x200 + 2 * (e % 256 + i))
          !t.testBit 63 || ((!t.testBit 55 || Nat.blt (sfld t 48 6) k) && (!t.testBit 47 || Nat.blt (sfld t 40 6) k)))

/-- Code 0x0901 of a bank: the failing step, if any. -/
def bank901 (s : Dev) (c b : Nat) : Option Nat :=
  let n := s.bankSteps c b
  let sms := (List.range n).filter fun k => s.step64 c b k / 2 ^ 60 == 7
  match (List.range n).find? fun k => !s.stepOk c b k with
  | some k => some k
  | none =>
    if ¬ s.smOk c b sms.head? then some (sms.headD 0)
    else match (List.range 8).find? fun o =>
        let w := s.outWord c b o 0
        w.testBit 31 && (Nat.blt 4 (w / 2 ^ 28 % 8) || (w / 2 ^ 28 % 8 == 0 && Nat.blt 256 (w % 256 + fmtWidth (w / 2 ^ 26 % 4)))) with
      | some o => some (s.outStep c b o)
      | none => none

/-- A FETCH source exists (code 0x0903). -/
def fetchOk (s : Dev) (c x : Nat) : Bool :=
  match sfld x 56 4 with
  | 0 => let n := sfld x 40 9; s.bit (Reg.SMP_CH_CFG.EN (n / 16) (n % 16))
  | 1 =>
    let q := sfld x 40 10
    if q < 512 then s.get (Reg.STM_DEST.KIND q) == 1 && s.get (Reg.STM_DEST.TARGET q) == c
    else s.get (Reg.FRM_Q_A.BIND (q - 512)) == 1 && s.get (Reg.FRM_Q_B.TARGET (q - 512)) == c
  | 2 => match s.objOf (sfld x 32 16) (sfld x 24 8) with
    | some o => cellType o.type && o.right != .wo
    | none => false
  | 3 => let c' := sfld x 40 6; (s.outWord c' (s.celBank c') (sfld x 32 3) 0).testBit 31
  | _ => true

/-- Another enabled cell drives TOUT pin `p` from its active bank. -/
def pinTaken (s : Dev) (c p : Nat) : Bool :=
  (List.range 64).any fun c' => c' != c && s.bit (Reg.CEL_CFG.EN c') &&
    (List.range 8).any fun o => let w := s.outWord c' (s.celBank c') o 0; w.testBit 31 && w / 2 ^ 28 % 8 == 2 && w % 32 == p

/-- An enabled output's target exists (code 0x0904). -/
def outOk (s : Dev) (c b o : Nat) : Bool :=
  let w := s.outWord c b o 0
  if ¬ w.testBit 31 then true
  else match w / 2 ^ 28 % 8 with
  | 0 => let f := w / 256 % 64; s.bit (Reg.CEL_FMT_A.EN f) && s.bit (Reg.STM_CTX_CFG.EN (s.get (Reg.CEL_FMT_A.CTX f))) && s.isTx (s.get (Reg.CEL_FMT_A.CTX f))
  | 2 => !s.pinTaken c (w % 32)
  | 3 => match s.objOf (w / 256 % 65536) (w % 256) with
    | some ob => cellType ob.type && (ob.right == .rw || ob.right == .wo)
    | none => false
  | _ => true

/-- The first failing code of bank `b` of cell `c` among 0x0901, 0x0903 and 0x0904, with its step. -/
def bankCheck (s : Dev) (c b : Nat) : Option (Nat × Nat) :=
  match s.bank901 c b with
  | some k => some (0x0901, k)
  | none =>
    match (List.range (s.bankSteps c b)).find? fun k => s.step64 c b k / 2 ^ 60 == 1 && !s.fetchOk c (s.step64 c b k) with
    | some k => some (0x0903, k)
    | none => ((List.range 8).find? fun o => !s.outOk c b o).map fun o => (0x0904, s.outStep c b o)

/-- CEL_ADMIT. -/
def celAdmit (s : Dev) (code c k : Nat) : Dev := s.setWord Reg.CEL_ADMIT (BitVec.ofNat 32 (k % 64 * 2 ^ 24 + c * 65536 + code))

/-- A write of CEL_BANK (R217); a SWAP write while a swap waits has no effect. -/
def celBankWrite (s : Dev) (c : Nat) (v : Word) : Dev :=
  if wbit v 0 ∧ s.bit (Reg.CEL_BANK.SWAP_PEND c) then s
  else
  let s := s.writeFields bCEL (Reg.CEL_BANK c) v
  if ¬ wbit v 0 then s
  else match s.bankCheck c (1 - s.celBank c) with
  | some (code, k) => s.celAdmit code c k
  | none => (s.put (Reg.CEL_BANK.SWAP_PEND c) 1).modCell c fun x => { x with boundary := false }

/-- A write to a word of bank `b` of cell `c`: the active bank, and the idle bank while a swap waits, are not written and ACTIVE_WR is set (R217); the reserved words read 0. -/
def celTblWrite (s : Dev) (c b key : Nat) (v : Word) : Dev :=
  if s.celBank c = b ∨ s.bit (Reg.CEL_BANK.SWAP_PEND c) then s.put (Reg.CEL_BANK.ACTIVE_WR c) 1
  else if 0x1800 ≤ (key - Reg.CEL_TBL c b 0) then s
  else s.setWord key v

end Dev

/-- ACTIVATION_START (R208). -/
def execActivationStart (c : Fin 64) (s : State) := devStep (·.activationStart c) s
/-- ACTIVATION_COMPARISON (R212). -/
def execActivationComparison (c : Fin 64) (agree ckptBad : Bool) (s : State) := devStep (·.activationComparison c agree ckptBad) s
/-- CELL_BANK_SWAP (R217). -/
def execCellBankSwap (c : Fin 64) (value : Word) (s : State) :=
  devStep (fun d => d.hostGate bCEL (Reg.CEL_BANK c) value (·.celBankWrite c value)) s

end Sys2Proof.Machine
end

