-- ==== Sys2Proof/Machine/Chuck.lean ====
section
/-! DEFINITION. Chuck from the raw word to the destinations (R228–R235): filters, comparators, flat line, events, streams and capture. -/

namespace Sys2Proof.Machine

/-- The moving-sum kernel of a CIC stage of order `n` and decimation `r`: `n` convolutions of `r` ones (R228). -/
def cicKernel (r : Nat) : Nat → List Nat
  | 0 => [1]
  | n + 1 =>
    let k := cicKernel r n
    (List.range (k.length + r - 1)).map fun i => (((k.take (i + 1)).drop (i + 1 - r))).foldl (· + ·) 0

/-- The sum of products of two lists. -/
def dot : List Int → List Int → Int
  | x :: xs, y :: ys => x * y + dot xs ys
  | _, _ => 0

namespace Dev

/-- The event of a channel goes to every cell with an enabled input that names it (R233, R209). -/
def chanEvent (s : Dev) (n : Nat) (y : Int) : Dev :=
  (List.range 64).foldl (fun s c => if (s.celInput c (1024 + n)).isSome then s.celEvent c (1024 + n) y none else s) s

/-- One comparator (R231): whether it sets, whether it is set, its new floor. `A` and `B` give their fields. -/
def comparator (s : Dev) (en rect adapt tc ratio margin hyst stat : Fld) (floor y : Int) : Bool × Bool × Int :=
  if ¬ s.bit en then (false, false, floor)
  else
    let m := if s.bit rect then |y| else y
    let ad := s.bit adapt
    let f : Int := if ad then floor else 0
    let t := s.getS ratio * f + s.getS margin * 2 ^ 32
    let m48 := m * 2 ^ 32
    let was := s.bit stat
    let sets := !was && decide (t < m48)
    let clears := was && decide (m48 < t - s.getS hyst * 2 ^ 32)
    let k : Int := 2 ^ s.get tc
    let f' :=
      if ¬ ad then 0
      else if s.bit (ctlBit bSMP 16) then floor
      else
        let f48 := f * 65536
        let x := f48 * k + (min m48 t - f48)
        (2 * x + 65536 * k) / (2 * (65536 * k))
    (sets, (was || sets) && !clears, f')

/-- A payload of the device's own without a header in the spec: fourteen free header octets, then the payload, padded to 64 bytes with the FCS (log entry 14). -/
def payloadFrame (s : Dev) (payload : List Octet) : List Octet × Dev :=
  let (a, s) := s.freeWord
  let (b, s) := s.freeWord
  let (c, s) := s.freeWord
  let (d, s) := s.freeWord
  (padTo 60 (((octetsBE 4 a ++ octetsBE 4 b) ++ (octetsBE 4 c ++ (octetsBE 4 d).take 2)) ++ payload), s)

/-- The seconds [15:0], nanoseconds and fraction of a native stamp, as eight octets (R234, R62). -/
def shortStamp (x : Nat) : List Octet := octetsBE 8 (x % 2 ^ 64)

/-- The records of a channel leave as a payload when MAX_REC are held (R234). -/
def streamOut (s : Dev) (n : Nat) (r : ChRec) : Dev :=
  let k := n / 16
  let i := n % 16
  if ¬ s.bit (Reg.SMP_CH_DEST.STREAM_EN k i) then s
  else
    let x := s.chan n
    let recs := x.recs ++ [r]
    if recs.length < s.get (Reg.SMP_CH_DEST.MAX_REC k i) then s.setChan n { x with recs := recs }
    else
      let body := recs.flatMap fun r => octetsBE 4 (ofSigned 32 r.value) ++ (shortStamp r.stamp ++ octetsBE 8 r.angle)
      let payload := [0x53, 0] ++ (octetsBE 2 x.seq ++ ([BitVec.ofNat 8 recs.length, 0] ++ (octetsBE 2 n ++ body)))
      let s := s.setChan n { x with recs := [], seq := (x.seq + 1) % 65536 }
      let (f, s) := s.payloadFrame payload
      let ctx := s.get (Reg.SMP_CH_DEST.STREAM k i)
      match s.handover ctx (s.ctxGen ctx) f none with
      | (true, s) => s
      | (false, s) => s.inc (Reg.SMP_CH_DROP.COUNT k i)

/-- The sixteen octets of a capture record (R235). -/
def captureRecord (r : ChRec) : List Octet :=
  octetsLE 4 (ofSigned 32 r.value)
    ++ (octetsLE 4 (r.angle / 2 ^ 62 * 2 ^ 30 + r.stamp / 65536 % 2 ^ 30)
    ++ (octetsLE 4 (r.angle % 65536 * 65536 + r.stamp / 2 ^ 48 % 65536) ++ octetsLE 4 (r.angle / 65536 % 2 ^ 32)))

/-- A record that is lost: SMP_CH_DROP and CAP_FAIL (R235). -/
def captureFail (s : Dev) (n : Nat) : Dev := (s.inc (Reg.SMP_CH_DROP.COUNT (n / 16) (n % 16))).fault bSMP 1

/-- An output is written through RT0 into the channel's buffer (R235); with no buffer placed the record is lost (DEDUCED, log entry 34). -/
def captureOut (s : Dev) (n : Nat) (r : ChRec) : Dev :=
  let k := n / 16
  let i := n % 16
  if ¬ s.bit (Reg.SMP_CH_DEST.CAP_EN k i) then s
  else if ¬ (s.plc.caps.any fun e => e.1 == n) then s.captureFail n
  else
    let x := s.chan n
    let a := s.get (Reg.SMP_CAP_ADDR.ADDR k i) * 64 + 16 * (x.capN % 2 ^ s.get (Reg.SMP_CH_DEST.CAP_LOG k i))
    let s := s.setChan n { x with capN := x.capN + 1 }
    let writes := (List.range 16).zipWith (fun j o => (a + j, o)) (captureRecord r)
    match s.rtWrite (memChan a) { port := 0, block := a / 64, writes := writes, owner := .capture n } with
    | (true, s) => s.modChan n fun x => { x with capQ := x.capQ ++ [x.capN - 1] }
    | (false, s) => s.captureFail n

/-- Flat-line detection on a raw word (R232); the flag says it sets here. -/
def flatLine (s : Dev) (n raw : Nat) : Bool × Dev :=
  let k := n / 16
  let i := n % 16
  let x := s.chan n
  let s := s.setChan n { x with lastRaw := some raw }
  let flat := Reg.SMP_CH_STAT.FLAT k i
  if ¬ s.bit (Reg.SMP_CH_FLAT.EN k i) then (false, (s.put flat 0).modChan n fun x => { x with flatN := 0 })
  else match x.lastRaw with
  | none => (false, s)
  | some p =>
    if (if raw ≤ p then p - raw else raw - p) ≤ s.get (Reg.SMP_CH_FLAT.TOL k i) then
      let c := x.flatN + 1
      let s := s.modChan n fun x => { x with flatN := c }
      if max 1 (s.get (Reg.SMP_CH_FLAT.N k i)) ≤ c ∧ ¬ s.bit flat then
        (true, (((s.put flat 1).modChan n fun x => { x with flatNew := true }).raise bSMP 1).fault bSMP 0)
      else (false, s)
    else (false, (s.put flat 0).modChan n fun x => { x with flatN := 0 })

/-- The trace record of a channel (R395, source 4). -/
def chanTrace (s : Dev) (n : Nat) : Dev :=
  let k := n / 16
  let i := n % 16
  let w := (s.word (Reg.SMP_CH_STAT k i)).toNat / 2 ^ 29 * 2 ^ 29
  s.trace 4 n k (s.word (Reg.SMP_CH_VALUE k i)).toNat (w + (s.word (Reg.SMP_CH_ANG_LO k i)).toNat % 2 ^ 24)

/-- An output value with the stamps of its newest raw sample goes to its registers, comparators, events and destinations (R230–R235). -/
def chanOutput (s : Dev) (n : Nat) (r : ChRec) : Dev :=
  let k := n / 16
  let i := n % 16
  let x := s.chan n
  let s := s.setWord (Reg.SMP_CH_VALUE k i) (BitVec.ofInt 32 r.value)
  let s := s.setStamp3 (Reg.SMP_CH_STAMP_LO k i) r.stamp
  let s := (s.setWord (Reg.SMP_CH_ANG_LO k i) (BitVec.ofNat 32 r.angle)).setWord (Reg.SMP_CH_ANG_HI k i) (BitVec.ofNat 32 (r.angle / 2 ^ 32))
  let s := s.inc (Reg.SMP_CH_CNT.COUNT k i)
  let (sa, isA, fa) := s.comparator (Reg.SMP_CMP_A_CFG.EN k i) (Reg.SMP_CMP_A_CFG.RECT k i) (Reg.SMP_CMP_A_CFG.ADAPT k i) (Reg.SMP_CMP_A_CFG.TC k i)
    (Reg.SMP_CMP_A_RATIO.VALUE k i) (Reg.SMP_CMP_A_MARGIN.VALUE k i) (Reg.SMP_CMP_A_HYST.VALUE k i) (Reg.SMP_CH_STAT.CMP_A k i) x.floorA r.value
  let (sb, isB, fb) := s.comparator (Reg.SMP_CMP_B_CFG.EN k i) (Reg.SMP_CMP_B_CFG.RECT k i) (Reg.SMP_CMP_B_CFG.ADAPT k i) (Reg.SMP_CMP_B_CFG.TC k i)
    (Reg.SMP_CMP_B_RATIO.VALUE k i) (Reg.SMP_CMP_B_MARGIN.VALUE k i) (Reg.SMP_CMP_B_HYST.VALUE k i) (Reg.SMP_CH_STAT.CMP_B k i) x.floorB r.value
  let s := (s.putBit (Reg.SMP_CH_STAT.CMP_A k i) isA).putBit (Reg.SMP_CH_STAT.CMP_B k i) isB
  let s := (s.setWord (Reg.SMP_FLOOR_A k i) (BitVec.ofInt 32 (qStore fa 65536))).setWord (Reg.SMP_FLOOR_B k i) (BitVec.ofInt 32 (qStore fb 65536))
  let s := s.modChan n fun x => { x with floorA := fa, floorB := fb, flatNew := false }
  let s := s.when (sa || sb) (·.raise bSMP 0)
  let s := s.when (sa || sb) (·.chanTrace n)
  let raise : Bool := match s.get (Reg.SMP_CH_CFG.EVT_SEL k i) with
    | 1 => true
    | 2 => sa
    | 3 => sa || sb
    | 4 => x.flatNew
    | _ => false
  let s := s.when raise (·.chanEvent n r.value)
  (s.streamOut n r).captureOut n r

/-- The coefficient bank's filter on the newest values of c (R229), a coefficient with a parity error as 0 (R243); both in units of 2^-65 after it. -/
def firValue (s : Dev) (n : Nat) (cics : List Int) : Int :=
  let k := n / 16
  let i := n % 16
  if s.bit (Reg.SMP_CH_FILT.FIR_EN k i) then
    let b := s.get (Reg.SMP_FIR_CTL.ACTIVE k)
    let t := s.get (Reg.SMP_CH_FILT.FIR_TAB k i)
    let h (j : Nat) : Int := if s.badWord (Reg.SMP_FIR k b t j) then 0 else s.getS (Reg.SMP_FIR.COEF k b t j)
    dot ((List.range 16).map fun j => h (min j (15 - j))) cics
  else cics.headD 0 * 2 ^ 22

/-- One raw word of a channel with its stamps (R228–R230). -/
def chanRaw (s : Dev) (n word stamp angle : Nat) : Dev :=
  let k := n / 16
  let i := n % 16
  let w := widthBits (s.get (Reg.SMP_CH_CFG.WIDTH k i))
  let raw := word % 2 ^ w
  let v : Int := if s.bit (Reg.SMP_CH_CFG.SIGNED k i) then toSigned w raw else (raw : Int) - 2 ^ (w - 1)
  let (flat, s) := s.flatLine n (v + 2 ^ (w - 1)).toNat
  let x := s.chan n
  let raws := (v * 2 ^ (24 - w) :: x.raws).take 125
  let order := min 4 (s.get (Reg.SMP_CH_FILT.CIC_N k i))
  let r := 2 ^ min 5 (s.get (Reg.SMP_CH_FILT.RLOG k i))
  let s := s.setChan n { x with rawN := x.rawN + 1, raws := raws }
  if order ≠ 0 ∧ (x.rawN + 1) % r ≠ 0 then s.when flat (·.chanTrace n)
  else
    let c : Int :=
      if order = 0 then raws.headD 0 * 2 ^ 20
      else dot ((cicKernel r order).map fun a => (a : Int)) raws * 2 ^ 20 / (r : Int) ^ order
    let cics := (c :: x.cics).take 16
    let s := s.modChan n fun x => { x with cics := cics }
    let f := s.firValue n cics
    let g := s.getS (Reg.SMP_CH_GAIN.VALUE k i)
    let o := s.getS (Reg.SMP_CH_OFFSET.VALUE k i)
    let y := qSat ((2 * (g * f + o * 2 ^ 65) + 2 ^ 65) / 2 ^ 66)
    let s := s.chanOutput n ⟨y, stamp, angle⟩
    s.when flat (·.chanTrace n)

/-- TRANSACTION_END (R223, R226), once the last bit has been clocked: the words clocked in on MISO are processed; a command's response is stored and its followers become due. -/
def transactionEnd (s : Dev) (k : Nat) (words : List Nat) : Dev :=
  let x := s.chk k
  if ¬ s.chkOn k ∨ s.up < x.bitsUp then s
  else match x.txn with
  | none => s
  | some (.command cs w32 _) =>
    let s := s.setChk k { x with txn := none }
    let s := s.put (Reg.SMP_CMD_RESP.WORD k cs) (words.headD 0 % 2 ^ (if w32 then 32 else 16))
    let s := s.inc (Reg.SMP_CMD_SENT.COUNT k)
    ((List.range 16).map (16 * k + ·)).foldl (fun s n =>
      if s.chanOn n ∧ s.chanTrig n = 5 ∧ s.chanCs n = cs then s.chanDue n true else s) s
  | some (.read _ chans stamp) =>
    let s := s.setChk k { x with txn := none }
    chans.foldl (fun s (i, a) =>
      let n := 16 * k + i
      if s.chanOn n then s.chanRaw n (words.getD (s.get (Reg.SMP_CH_CFG.SLOT k i)) 0) (stampOf stamp) a else s) s

/-- CAPTURE_WRITE_COMPLETE (R235): the oldest record whose write has left the buffer is complete, or fails. -/
def captureComplete (s : Dev) (n : Nat) (ok : Bool) : Dev :=
  let x := s.chan n
  let waiting (ch : Nat) : Nat := ((s.chn ch).waits.filter fun a => a.owner == .capture n).length
  match x.capQ with
  | [] => s
  | _ :: q =>
    if x.capQ.length ≤ waiting 0 + waiting 1 then s
    else
      let s := s.setChan n { x with capQ := q }
      if ok then s.inc (Reg.SMP_CAP_COUNT.COUNT (n / 16) (n % 16)) else s.captureFail n

end Dev

/-- TRANSACTION_END (R223). -/
def execTransactionEnd (k : Fin 32) (words : List Nat) (s : State) := devStep (·.transactionEnd k words) s
/-- CAPTURE_WRITE_COMPLETE (R235). -/
def execCaptureWriteComplete (n : Fin 512) (ok : Bool) (s : State) := devStep (·.captureComplete n ok) s

end Sys2Proof.Machine
end

