-- ==== Sys2Proof/Machine/Angle.lean ====
section
/-! DEFINITION. The Spindle (chapter 3): states and their consumers, tooth and mains tracking, boundaries and marks, publication and remote domains. -/

namespace Sys2Proof.Machine

namespace Dev

/-- REASON codes of INVALID (R66). -/
abbrev whyCoast := 1

/-- Put a domain in a state; consumers apply their policies when it stops being valid, and take it up again when it is valid (R58). -/
def setAngState (s : Dev) (n st : Nat) : Dev :=
  let was := s.angOk n
  let s := s.angSettle n
  let s := s.put (Reg.ANG_STATE.STATE n) st
  let now := s.angOk n
  let s := s.putBit (statusBit bANG n) now
  if was ∧ ¬ now then ((s.scrDomLost n).chkDomLost n).celDomLost n
  else if ¬ was ∧ now then ((s.scrDomBack n).chkDomBack n).celDomBack n
  else s

/-- The edges that a forward jump of domain `d` from angle `a` skips execute in the core clocks that follow, and are not late (R51). -/
def scrJump (s : Dev) (d : Nat) (a : Int) : Dev :=
  (List.range 32).foldl (fun s p =>
    if (s.pin p).queue.any fun e => (s.jumped d a e.target).isSome then
      s.modPin p fun x => { x with queue := x.queue.map fun e => if (s.jumped d a e.target).isSome then { e with target := .atOnce } else e }
    else s) s

/-- The published angle has stood at `a` up to this instant: where it jumps forward now, the armed actions in between are released (R51). -/
def angJump (s : Dev) (n : Nat) (a : Int) : Dev := if s.pubAngle n ≤ a then s else (s.chkJump n a).scrJump n a

/-- A domain whose position is known: VALID, COASTING or REVERSE. -/
def angTracked (s : Dev) (n : Nat) : Bool := s.angOk n || s.angState n == angReverse

/-- The domain becomes INVALID for `reason` (R47, R53, R54): REASON, INVALID_EVT and DOM_INVALID. Its position is counted on for a phase flip (R57). -/
def angFall (s : Dev) (n reason : Nat) : Dev :=
  let p := s.get (Reg.ANG_STATE.POSITION n)
  let tracked := s.angTracked n
  let s := s.modAng n fun x => { x with invAt := some s.up, shadow := if tracked then some p else x.shadow }
  ((((s.setAngState n angInvalid).put (Reg.ANG_STATE.REASON n) reason).raise bANG (8 + n)).fault bANG n)

/-- A condition makes the domain INVALID; one that falls in the core clock of a RESYNC or PHASE_FLIP adds no event to the command's (R65). -/
def angInvalidate (s : Dev) (n reason : Nat) : Dev :=
  if (s.ang n).cmdAt = some s.up then s else s.angFall n reason

/-- A command makes the domain INVALID: where a condition has just done so in this core clock, only REASON shows the command (R65). -/
def angCommand (s : Dev) (n reason : Nat) : Dev :=
  let s := s.modAng n fun x => { x with cmdAt := some s.up }
  if s.angState n = angInvalid ∧ (s.ang n).invAt = some s.up then s.put (Reg.ANG_STATE.REASON n) reason else s.angFall n reason

/-- A new search starts with nothing tracked (R47, R49). -/
def angToSearch (s : Dev) (n : Nat) : Dev :=
  if s.isGrave bANG then s
  else
    let s := s.modAng n fun x => { x with
      edgeAt := none, t1 := none, t0 := none, th := (0, 1), lastIv := none, nSince := none, index := false, crossings := 0
      declared := 0, good := false, errCyc := none, errRun := 0, hiRun := 0, loRun := 0, recN := 0, lastRec := none, searchAt := s.up }
    s.setAngState n angSearch

/-- TEETH as it acts. -/
def angTeeth (s : Dev) (n : Nat) : Nat :=
  let t := s.get (Reg.ANG_TOOTH.TEETH n)
  if 1 ≤ t ∧ t ≤ 1024 then t else 1024

/-- A mains source. -/
def angMains (s : Dev) (n : Nat) : Bool := s.get (Reg.ANG_SRC.KIND n) == 2
/-- Positions of one revolution. -/
def angRev (s : Dev) (n : Nat) : Nat := if s.angMains n then (if s.bit (Reg.ANG_SRC.EDGE n) then 2 else 1) else s.angTeeth n
/-- P: positions of one cycle (R48, R56). -/
def angP (s : Dev) (n : Nat) : Nat := if s.angMains n then s.angRev n else s.angTeeth n * (1 + s.get (Reg.ANG_SRC.REVS2 n))
/-- MISSING as it acts. -/
def angMissing (s : Dev) (n : Nat) : Nat := if s.angMains n then 0 else s.get (Reg.ANG_TOOTH.MISSING n)

/-- The next position forward: position, positions spanned, cycles advanced (R53). -/
def posNext (s : Dev) (n p : Nat) : Nat × Nat × Nat :=
  let m := s.angMissing n
  let q := if m ≠ 0 ∧ (p + 1) % s.angRev n = s.angRev n - m then p + 1 + m else p + 1
  if s.angP n ≤ q then (q - s.angP n, q - p, 1) else (q, q - p, 0)

/-- The position before `p`: position, positions spanned, cycles gone back (R55). -/
def posPrev (s : Dev) (n p : Nat) : Nat × Nat × Nat :=
  let m := s.angMissing n
  let d := if m ≠ 0 ∧ p % s.angRev n = 0 then m + 1 else 1
  if d ≤ p then (p - d, d, 0) else (p + s.angP n - d, d, 1)

/-- The tooth angle of position `p` in cycle `c` (R48). -/
def toothAngle (s : Dev) (n : Nat) (c : Int) (p : Nat) : Int :=
  c * cycleUnits + (p * 16777216 / s.angP n : Nat) + (s.ang n).ofs

/-- BW follows the prediction error of an interval; the runs of large and small errors count on while BW is frozen or at its limit, and start again where BW changes (R50). -/
def bwAdapt (s : Dev) (n iv sp : Nat) : Dev :=
  let x := s.ang n
  let frozen := s.bit (Reg.ANG_TRACK.BW_FREEZE n) || s.bit (ctlBit bANG 16)
  if x.th.1 = 0 then s
  else
    let d := iv * x.th.2
    let e := if x.th.1 * sp ≤ d then d - x.th.1 * sp else x.th.1 * sp - d
    let hi := if d < 8 * e then x.hiRun + 1 else 0
    let lo := if 64 * e < d then x.loRun + 1 else 0
    let bw := s.get (Reg.ANG_TRACK.BW_NOW n)
    let bmax := s.get (Reg.ANG_TRACK.BW_MAX n)
    let bmin := min (s.get (Reg.ANG_TRACK.BW_MIN n)) bmax
    let bw' := if frozen then bw else if 2 ≤ hi ∧ bw < bmax then bw + 1 else if 16 ≤ lo ∧ bmin < bw then bw - 1 else bw
    if bw' = bw then s.modAng n fun x => { x with hiRun := hi, loRun := lo }
    else (s.put (Reg.ANG_TRACK.BW_NOW n) bw').modAng n fun x => { x with hiRun := 0, loRun := 0 }

/-- The prediction T̂ after an interval of `iv` over `sp` positions, as a fraction (R50). -/
def predict (bw iv sp : Nat) (prev : Option (Nat × Nat)) : Nat × Nat :=
  match prev with
  | none => (iv, sp)
  | some (n0, d0) =>
    let num : Int := (iv * d0 * (16 + bw) : Nat) - (bw * n0 * sp : Nat)
    let den := 16 * sp * d0
    if num * (4 * sp) < (iv : Int) * den then (iv, 4 * sp) else (num.toNat, den)

/-- The tracking loop takes an interval; the internal angle then runs at one pitch per T̂ (R50, R51). A BW that this edge changes serves the prediction of this edge already (DESIGN CHOICE, log entry 65). -/
def angTrack (s : Dev) (n iv sp : Nat) (adapt : Bool) : Dev :=
  let s := if adapt then s.bwAdapt n iv sp else s
  let th := predict (s.get (Reg.ANG_TRACK.BW_NOW n)) iv sp (s.ang n).t1
  s.modAng n fun x => { x with t0 := x.t1, t1 := some (iv, sp), th := th, rateN := (16777216 * th.2 : Nat), rateD := s.angP n * th.1, lastIv := some iv }

/-- The last position and its cycle are known at stamp `se`: the internal angle restarts at the tooth angle (R51). -/
def angAt (s : Dev) (n p : Nat) (c : Int) (se : Int) : Dev :=
  let s := s.put (Reg.ANG_STATE.POSITION n) p
  let a := s.toothAngle n c p
  s.modAng n fun x => { x with cyc := c, base := a, at' := se, edgeAt := some se, declared := 0 }

/-- The cycle count of the next synchronisation (R54). -/
def syncCycle (s : Dev) (n : Nat) : Int := if (s.ang n).ever then (s.ang n).pub / cycleUnits + 1 else 0

/-- The domain becomes VALID at position `p` (R49, R54, R57). The synchronisation itself is no angle-cycle boundary, and a mark exactly at its angle does not fire (DESIGN CHOICE, log entry 66). -/
def angSync (s : Dev) (n p : Nat) (se : Int) : Dev :=
  let c := s.syncCycle n
  let s := s.modAng n fun x => { x with ever := true, ofs := s.get (Reg.ANG_PHASE.PHASE_OFS n), flip := false, shadow := none, good := false }
  let s := s.angAt n p c se
  let s := s.modAng n fun x => { x with pub := x.base, bcyc := x.base / cycleUnits, markAt := x.base, markIx := 257 }
  s.setAngState n angValid

/-- An interval is a gap (R49). -/
def isGap (s : Dev) (n iv : Nat) : Bool :=
  match (s.ang n).lastIv with
  | some p => p != 0 && Nat.ble ((8 + s.get (Reg.ANG_TOOTH.GAP n)) * p) (iv * 8)
  | none => false

/-- A pattern error in cycle `c` (R49); the flag says the domain became INVALID. -/
def patternError (s : Dev) (n : Nat) (c : Int) : Bool × Dev :=
  let s := (s.inc (Reg.ANG_PATTERN_CNT.COUNT n)).fault bANG (8 + n)
  let x := s.ang n
  let run := if x.errCyc = some c then x.errRun else if x.errCyc = some (c - 1) then x.errRun + 1 else 1
  let s := s.setAng n { x with errCyc := some c, errRun := run }
  if max 1 (s.get (Reg.ANG_TOOTH.PAT_LIMIT n)) ≤ run then (true, s.angInvalidate n 2) else (false, s)

/-- The interval since the last edge, as a whole number of 2^-40 ns. -/
def sinceEdge (s : Dev) (n : Nat) (se : Int) : Option Nat := (s.ang n).edgeAt.map fun t => (se - t).toNat

/-- A record for publication (R61). -/
def angRecord (s : Dev) (n : Nat) : Dev :=
  if ¬ s.bit (Reg.ANG_PUB.EN n) then s
  else
    let x := s.ang n
    if x.pubDiv + 1 ≤ s.get (Reg.ANG_PUB.DIV n) then s.setAng n { x with pubDiv := x.pubDiv + 1 }
    else s.setAng n { x with pubDiv := 0, recs := x.recs ++ [(ofSigned 48 x.base, ((x.at' + s.tim.steps) / 2 ^ 24).toNat)] }

/-- A tooth edge in SEARCH (R49, R48). -/
def searchEdge (s : Dev) (n : Nat) (cam : Bool) (se : Int) : Dev :=
  let m := s.angMissing n
  let x := s.ang n
  let iv := (s.sinceEdge n se).getD 0
  let gap : Bool := m != 0 && iv != 0 && s.isGap n iv
  let marker := if m = 0 then x.index else gap
  let sp := if gap then m + 1 else 1
  let s := if iv = 0 then s else s.angTrack n iv sp false
  let since := x.nSince.map (· + sp)
  let s := s.modAng n fun x => { x with edgeAt := some se, index := false, nSince := since }
  if ¬ marker then s
  else if since = some (s.angRev n) then
    let revs2 := s.bit (Reg.ANG_SRC.REVS2 n)
    let camEn := s.bit (Reg.ANG_SRC.CAM_EN n)
    let flipped : Bool := match x.shadow with
      | some h => (h + s.angRev n / 2) / s.angRev n % 2 == 1
      | none => false
    let first : Bool := if ¬ revs2 then true else if camEn then cam == s.bit (Reg.ANG_SRC.CAM_POL n) else if x.flip then flipped else true
    let s := s.putBit (Reg.ANG_STATE.PHASE_ASSUMED n) (if x.flip && !camEn then s.bit (Reg.ANG_STATE.PHASE_ASSUMED n) else revs2 && !camEn)
    (s.angSync n (if first then 0 else s.angRev n) se).angRecord n
  else s.modAng n fun x => { x with nSince := some 0 }

/-- The position whose predicted time is nearest to `iv` after the last edge: position, span, cycles, whether it follows directly (R53). -/
def nearest (s : Dev) (n iv : Nat) : Nat → Nat → Nat → Nat → Bool → Nat × Nat × Nat × Bool
  | 0, p, sp, dw, first => (p, sp, dw, first)
  | k + 1, p, sp, dw, first =>
    let (q, d, w) := s.posNext n p
    let th := (s.ang n).th
    let err (m : Nat) : Nat := if m * th.1 ≤ iv * th.2 then iv * th.2 - m * th.1 else m * th.1 - iv * th.2
    if err (sp + d) < err sp then s.nearest n iv k q (sp + d) (dw + w) false else (p, sp, dw, first)

/-- A forward edge of a domain that is VALID or COASTING (R49–R53). The gap, or the index, is expected where the positions passed reach or cross the start of a revolution; also of an edge that arrives while COASTING. -/
def forwardEdge (s : Dev) (n : Nat) (se : Int) : Dev :=
  let s := s.angSettle n
  let x := s.ang n
  let iv := (s.sinceEdge n se).getD 0
  let p := s.get (Reg.ANG_STATE.POSITION n)
  let coasting := s.angState n == angCoasting
  let (q1, sp1, dw1) := s.posNext n p
  let (q, sp, dw, follows) := if coasting then s.nearest n iv 64 q1 sp1 dw1 true else (q1, sp1, dw1, true)
  let c := x.cyc + dw
  let past := Nat.blt (p / s.angRev n) ((p + sp) / s.angRev n)
  let wrong : Bool :=
    if s.angMains n then !(Nat.ble (1000000 * 2 ^ 40) iv && Nat.ble iv (100000000 * 2 ^ 40))
    else if s.angMissing n ≠ 0 then x.lastIv.isSome && (s.isGap n iv != past)
    else x.index != past
  let (dead, s) := if wrong then s.patternError n c else (false, s)
  if dead then s
  else
    let s := if iv = 0 then s else s.angTrack n iv sp true
    let s := s.angAt n q c se
    let s := s.modAng n fun y => { y with pub := max x.pub y.base, index := false, good := coasting }
    let s := (s.angJump n x.pub).angRecord n
    if coasting ∧ x.good ∧ follows then (s.modAng n fun y => { y with good := false }).setAngState n angValid else s

/-- The published angle has passed the high-water angle in forward rotation: the domain is VALID again with its published angle there, so work beyond it resumes and nothing is skipped; then the published angle goes on (R55). -/
def angReturn (s : Dev) (n : Nat) : Dev :=
  let x := s.ang n
  let s := (s.setAng n { x with pub := x.high, base := x.high, rateN := 0, rateD := 1 }).setAngState n angValid
  (s.modAng n fun y => { y with base := x.base, rateN := x.rateN, rateD := x.rateD }).angJump n x.high

/-- An edge with reverse sense, or any edge in REVERSE (R55). Between edges the published angle is held, so the return to VALID comes at an edge (DESIGN CHOICE, log entry 69). -/
def reverseEdge (s : Dev) (n : Nat) (back : Bool) (se : Int) : Dev :=
  let s := s.angSettle n
  let x := s.ang n
  let iv := (s.sinceEdge n se).getD 0
  let p := s.get (Reg.ANG_STATE.POSITION n)
  let entering : Bool := s.angState n != angReverse
  let s := if entering then (s.modAng n fun y => { y with high := x.pub }).setAngState n angReverse else s
  let turn : Bool := entering || back != x.backward
  let (q, sp, c) : Nat × Nat × Int :=
    if turn then (p, 0, x.cyc)
    else if back then
      let (q, d, w) := s.posPrev n p
      (q, d, x.cyc - w)
    else
      let (q, d, w) := s.posNext n p
      (q, d, x.cyc + w)
  let s := if sp = 0 ∨ iv = 0 then s else s.angTrack n iv sp true
  let s := (s.angAt n q c se).modAng n fun y => { y with backward := back, pub := y.base, index := false, lastIv := none }
  let s := s.angRecord n
  if ¬ back ∧ (s.ang n).high < (s.ang n).pub then s.angReturn n else s

/-- A crossing of a mains source in SEARCH (R56): its cycles are counted from the first crossing, and take the domain's count at the synchronisation. -/
def mainsSearch (s : Dev) (n : Nat) (se : Int) : Dev :=
  let iv := (s.sinceEdge n se).getD 0
  let x := s.ang n
  let bad : Bool := x.crossings != 0 && !(Nat.ble (1000000 * 2 ^ 40) iv && Nat.ble iv (100000000 * 2 ^ 40))
  let per := max 1 (s.angP n)
  let (dead, s) := if bad then s.patternError n (x.crossings / per : Nat) else (false, s)
  if dead then s
  else
    let s := if x.crossings = 0 then s else s.angTrack n iv 1 false
    let s := s.modAng n fun y => { y with edgeAt := some se, crossings := y.crossings + 1 }
    if x.crossings + 1 < 3 then s
    else
      let c := s.syncCycle n - (2 / per : Nat)
      ((s.modAng n fun y => { y with errCyc := y.errCyc.map (· + c) }).angSync n 0 se).angRecord n

/-- A mains crossing within the hold-off after an accepted one is ignored (R56). -/
def heldOff (s : Dev) (n : Nat) (se : Int) : Bool :=
  let x := s.ang n
  match s.sinceEdge n se with
  | some iv => x.th.1 != 0 && Nat.ble (iv * 16 * x.th.2) (s.get (Reg.ANG_TOOTH.HOLDOFF n) * x.th.1)
  | none => false

/-- An edge of a domain in SEARCH or INVALID moves the position counted on: by one forward or back, by none where the sense turns (R55, R57). -/
def shadowEdge (s : Dev) (n : Nat) (back : Bool) : Dev :=
  s.modAng n fun x =>
    { x with
      backward := back
      shadow := x.shadow.map fun h => if back ≠ x.backward then h else if back then (s.posPrev n h).1 else (s.posNext n h).1 }

/-- ACCEPTED_EDGE: a pulse of the domain's tooth, index or mains input (R47–R56); `width` in ns, `cam` the level of ANG_C. -/
def acceptedEdge (s : Dev) (n : Nat) (index cam : Bool) (width : Nat) : Dev :=
  let st := s.angState n
  let kind := s.get (Reg.ANG_SRC.KIND n)
  if st = angOff ∨ s.isGrave bANG ∨ ¬ (kind = 1 ∨ kind = 2) ∨ width < s.get (Reg.ANG_SRC.FILT n) * 10 then s
  else if index then (if kind = 1 ∧ s.angMissing n = 0 then s.modAng n fun x => { x with index := true } else s)
  else
    let se := s.edgeTime
    let dir := s.get (Reg.ANG_SRC.DIR_MODE n)
    let back : Bool := kind == 1 && ((dir == 1 && Nat.ble (s.get (Reg.ANG_SRC.DIR_WIDTH n) * 10) width)
      || (dir == 2 && !s.bit (Reg.ANG_SRC.CAM_EN n) && cam))
    if kind = 2 ∧ s.heldOff n se then s
    else
      let s := if st = angSearch ∨ st = angInvalid then s.shadowEdge n back else s
      if st = angInvalid ∧ ¬ s.bit (Reg.ANG_SRC.AUTO_RESYNC n) then s
      else
      let s := if st = angInvalid then s.angToSearch n else s
      let st := s.angState n
      if st = angSearch then (if kind = 2 then s.mainsSearch n se else s.searchEdge n cam se)
      else if st = angReverse ∨ back then s.reverseEdge n back se
      else s.forwardEdge n se

/-- MISSING_TOOTH: the expected time of the next missing tooth has come (R53); in REVERSE none is declared (DESIGN CHOICE, log entry 67). -/
def missingTooth (s : Dev) (n : Nat) : Dev :=
  let x := s.ang n
  let kind := s.get (Reg.ANG_SRC.KIND n)
  let el := (s.stepless - x.edgeAt.getD s.stepless).toNat
  let (_, sp, _) := s.posNext n (s.get (Reg.ANG_STATE.POSITION n))
  let due : Bool := Nat.ble ((8 * (x.declared + sp) + s.get (Reg.ANG_TOOTH.MISS n)) * x.th.1) (el * 8 * x.th.2)
  if ¬ s.angOk n ∨ ¬ (kind = 1 ∨ kind = 2) ∨ x.th.1 = 0 ∨ ¬ due then s
  else
    let s := s.setAng n { x with declared := x.declared + 1 }
    let s := if s.angState n = angValid then (s.setAngState n angCoasting).inc (Reg.ANG_COAST_CNT.COUNT n) else s
    if max 1 (s.get (Reg.ANG_SRC.COAST_TEETH n)) ≤ x.declared + 1 then s.angInvalidate n 1 else s

/-! ### Marks and boundaries (R52, R57, R59) -/

/-- The next enabled mark of the running cycle after the last one fired: its angle and index. An entry with a parity error is disabled until it is rewritten (R59). -/
def nextMark (s : Dev) (n : Nat) : Option (Int × Nat) :=
  let x := s.ang n
  let b := s.get (Reg.ANG_MARK_CTL.ACTIVE n)
  let keys := (List.range 256).filterMap fun i =>
    let w := (s.word (Reg.ANG_MARK b n i)).toNat
    let a : Int := x.bcyc * cycleUnits + (w % 16777216 : Nat)
    if w.testBit 31 ∧ ¬ s.badWord (Reg.ANG_MARK b n i) ∧ (x.markAt < a ∨ (x.markAt = a ∧ x.markIx < i + 1)) then some (a, i) else none
  match keys with
  | [] => none
  | k :: rest => some (rest.foldl (fun m k => if k.1 < m.1 then k else m) k)

/-- MARK_EVENT: the published angle has reached the next mark, which reaches its subscribers (R59). -/
def markEvent (s : Dev) (n : Nat) : Dev :=
  if ¬ s.angOk n then s
  else match s.nextMark n with
  | some (a, i) =>
    if a ≤ s.pubAngle n then
      let s := (s.angSettle n).modAng n fun x => { x with markAt := a, markIx := i + 1 }
      (s.chkMark n i).celMark n i
    else s
  | none => s

/-- ANGLE_CYCLE_BOUNDARY: the published cycle count advances (R52); marks of the old cycle come first, then the mark banks swap and a waiting phase offset takes effect (R57, R59). -/
def cycleBoundary (s : Dev) (n : Nat) : Dev :=
  if ¬ s.angOk n ∨ s.pubAngle n / cycleUnits ≤ (s.ang n).bcyc then s
  else
    let s := (List.range 256).foldl (fun s _ => s.markEvent n) s
    let s := s.angSettle n
    let c := (s.ang n).bcyc + 1
    let s := s.modAng n fun x => { x with bcyc := c, boundAt := some s.up, markAt := c * cycleUnits - 1, markIx := 257 }
    let s := if s.bit (Reg.ANG_MARK_CTL.SWAP_PEND n) then
        (s.put (Reg.ANG_MARK_CTL.ACTIVE n) (1 - s.get (Reg.ANG_MARK_CTL.ACTIVE n))).put (Reg.ANG_MARK_CTL.SWAP_PEND n) 0
      else s
    let ofs := s.get (Reg.ANG_PHASE.PHASE_OFS n)
    let a := s.pubAngle n
    let s := if s.get (Reg.ANG_SRC.KIND n) = 3 then s else (s.modAng n fun x => { x with ofs := ofs, base := x.base + (ofs : Int) - x.ofs }).angJump n a
    (s.chkBoundary n (c * cycleUnits)).celBoundary n

/-- A write of ANG_MARK_CTL (R59). -/
def markCtlWrite (s : Dev) (n : Nat) (v : Word) : Dev :=
  let s := s.writeFields bANG (Reg.ANG_MARK_CTL n) v
  if wbit v 0 then s.put (Reg.ANG_MARK_CTL.SWAP_PEND n) 1 else s

/-- A write of a mark entry of bank `b`; the active bank is not written (R59). -/
def markWrite (s : Dev) (n b key : Nat) (v : Word) : Dev :=
  if s.get (Reg.ANG_MARK_CTL.ACTIVE n) = b then s.put (Reg.ANG_MARK_CTL.ACTIVE_WR n) 1 else s.writeFields bANG key v

/-! ### Configuration and commands (R47, R54, R57) -/

/-- A write of ANG_SRC or ANG_TOOTH (R47). -/
def angCfgWrite (s : Dev) (n key : Nat) (v : Word) : Dev :=
  let off := s.angState n == angOff
  let s := if off then s else (s.angInvalidate n 8).modAng n fun x => { x with payAt := none, payIvl := 0 }
  let s := s.writeFields bANG key v
  let kind := s.get (Reg.ANG_SRC.KIND n)
  if off ∧ key ≠ Reg.ANG_SRC n then s
  else if kind = 0 then (if off then s else s.setAngState n angOff)
  else s.angToSearch n

/-- RESYNC (R54). -/
def angResync (s : Dev) (n : Nat) : Dev := if s.angState n = angOff then s else (s.angCommand n 7).angToSearch n

/-- PHASE_FLIP (R57): which occurrence is the other one is told by the position counted on. A domain that is OFF ignores it (DESIGN CHOICE, log entry 70). -/
def angFlip (s : Dev) (n : Nat) : Dev :=
  if s.angState n = angOff then s
  else
    let s := s.angCommand n 3
    s.when (!s.bit (Reg.ANG_SRC.CAM_EN n)) (·.modAng n fun x => { x with flip := true })

/-- A write of ANG_CMD. -/
def angCmdWrite (s : Dev) (n : Nat) (v : Word) : Dev :=
  let s := s.when (wbit v 1) (·.angFlip n)
  s.when (wbit v 0) (·.angResync n)

/-! ### Publication and remote domains (R61–R63) -/

/-- ANGLE_PAYLOAD_SEND: a transmit opportunity hands the waiting records over (R61, R62). -/
def anglePayload (s : Dev) (n : Nat) : Dev :=
  if ¬ s.bit (Reg.ANG_PUB.EN n) then s
  else
    let x := s.ang n
    let m := s.get (Reg.ANG_PUB.MAX_REC n)
    let m := if m = 0 then 1 else min m 32
    let drop := x.recs.length - m
    let recs := x.recs.drop drop
    let flags := s.angStamp n / 2 ^ 61
    let head := [0x41, BitVec.ofNat 8 (flags / 4 % 2 * 128 + flags % 2 * 64 + flags / 2 % 2 * 32 + n)]
      ++ (octetsBE 2 x.pubSeq ++ ([BitVec.ofNat 8 recs.length, 0] ++ octetsBE 2 (s.angP n)))
    let body := recs.flatMap fun r => octetsBE 6 r.1 ++ octetsBE 8 (stampOf r.2 % 2 ^ 64)
    let s := (s.setAng n { x with recs := [], pubSeq := (x.pubSeq + 1) % 65536 }).incBy (Reg.ANG_PUB_OVF.COUNT n) drop
    let (f, s) := s.payloadFrame (head ++ body)
    let c := s.get (Reg.ANG_PUB.STREAM n)
    (s.handover c (s.ctxGen c) f none).2

/-- The native time in 2^-16 ns nearest to local time `now` of a record's TIME, which counts seconds modulo 2^16 (R63). -/
def expandTime (now x : Nat) : Nat :=
  let m : Int := 65536 * 1000000000 * 65536
  let t : Int := (x / 2 ^ 48 % 65536 * 1000000000 + x / 65536 % 2 ^ 32 : Nat) * 65536 + (x % 65536 : Nat)
  let e : Int := now + ((t - now + m / 2) % m - m / 2)
  (if e < 0 then e + m else e).toNat

/-- One record applied to a remote domain (R63). -/
def remoteRecord (s : Dev) (n angle time : Nat) (reverse : Bool) : Dev :=
  let t : Int := (time : Int) * 2 ^ 24 - s.tim.steps
  let x := s.ang n
  let late : Bool := match x.lastRec with
    | some (_, t') => decide (t ≤ t')
    | none => false
  if late then s
  else
    let s := s.angSettle n
    let x := s.ang n
    let (dA, dT) : Int × Int := match x.lastRec with
      | some (a', t') => (sdiff angle a' 48, t - t')
      | none => (0, 0)
    let s := s.setAng n { x with lastRec := some (angle, t), recN := x.recN + 1, base := x.base + dA, at' := t, rateN := dA, rateD := if dT = 0 then 1 else dT.toNat }
    let st := s.angState n
    if st = angSearch then
      let servo := s.get Reg.TIM_SERVO.STATE
      if 2 ≤ (s.ang n).recN ∧ (servo = 2 ∨ servo = 5) then
        let c := s.syncCycle n
        let a : Int := c * cycleUnits + (angle % 16777216 : Nat)
        let s := s.modAng n fun y => { y with ever := true, cyc := c, base := a, pub := a, bcyc := c, markAt := a, markIx := 257 }
        s.setAngState n angValid
      else s
    else if reverse then
      let s := if st = angReverse then s else (s.modAng n fun y => { y with high := x.pub }).setAngState n angReverse
      s.modAng n fun y => { y with pub := y.base }
    else if st = angReverse then
      let s := s.modAng n fun y => { y with pub := y.base }
      if x.high < (s.ang n).pub then s.angReturn n else s
    else if s.angOk n then (s.modAng n fun y => { y with pub := max x.pub y.base }).angJump n x.pub
    else s

/-- The records of a payload: 14 octets each. -/
def remoteRecords (s : Dev) (n : Nat) (reverse : Bool) : Nat → List Octet → Dev
  | 0, _ => s
  | k + 1, l => (s.remoteRecord n (fieldBE l 0 6) (expandTime s.now (fieldBE l 6 8)) reverse).remoteRecords n reverse k (l.drop 14)

/-- A payload of the receiving context reaches a remote domain (R62, R63). At a synchronisation the cycle count is the domain's own of R54, not the record's, and the next accepted edge of AUTO_RESYNC is the next payload with VALID at 1 (DESIGN CHOICE, log entry 68). -/
def remotePayload (s : Dev) (n : Nat) (l : List Octet) : Dev :=
  let st := s.angState n
  if st = angOff ∨ s.get (Reg.ANG_SRC.KIND n) ≠ 3 ∨ s.isGrave bANG then s
  else if l.head? ≠ some 0x41 then (s.inc (Reg.ANG_PATTERN_CNT.COUNT n)).fault bANG (8 + n)
  else
    let flags := fieldBE l 1 1
    let s := s.modAng n fun x => { x with payIvl := (x.payAt.map fun t => s.up - t).getD 0, payAt := some s.up }
    if ¬ flags.testBit 7 then (if st = angInvalid then s else s.angInvalidate n 5)
    else
      let s := if st = angInvalid ∧ s.bit (Reg.ANG_SRC.AUTO_RESYNC n) then s.angToSearch n else s
      if s.angState n = angInvalid then s
      else
        let s := if s.angState n = angCoasting then s.setAngState n angValid else s
        let s := s.remoteRecords n (flags.testBit 6) (min 32 (fieldBE l 4 1)) (l.drop 8)
        if flags.testBit 6 ∧ s.angOk n then (s.modAng n fun y => { y with high := s.pubAngle n }).setAngState n angReverse else s

/-- The domains that take payloads of stream context `x` (R63). -/
def remoteOf (s : Dev) (x : Nat) : List Nat :=
  (List.range 8).filter fun n => s.get (Reg.ANG_SRC.KIND n) == 3 && s.get (Reg.ANG_REMOTE.STREAM n) == x

/-- REMOTE_COASTING: no payload for 1.5 times the last payload interval (R63). -/
def remoteCoasting (s : Dev) (n : Nat) : Dev :=
  let x := s.ang n
  if s.get (Reg.ANG_SRC.KIND n) = 3 ∧ s.angState n = angValid ∧ x.payIvl ≠ 0 ∧ 3 * x.payIvl ≤ 2 * (s.up - x.payAt.getD s.up) then
    (s.setAngState n angCoasting).inc (Reg.ANG_COAST_CNT.COUNT n)
  else s

/-- REMOTE_TIMEOUT: no payload for TIMEOUT µs, counted from the start of SEARCH where none has ever come (R63). -/
def remoteTimeout (s : Dev) (n : Nat) : Dev :=
  let x := s.ang n
  if s.get (Reg.ANG_SRC.KIND n) = 3 ∧ s.angState n ≠ angOff ∧ s.angState n ≠ angInvalid
      ∧ max 1 (s.get (Reg.ANG_REMOTE.TIMEOUT n)) * 1000 ≤ s.up - x.payAt.getD x.searchAt then s.angInvalidate n 4
  else s

/-- The node's time is stepped: remote domains become INVALID (R63). -/
def angTimeStep (s : Dev) : Dev :=
  (List.range 8).foldl (fun s n =>
    if s.get (Reg.ANG_SRC.KIND n) = 3 ∧ s.angState n ≠ angOff ∧ s.angState n ≠ angInvalid then s.angInvalidate n 6 else s) s

/-- ANG, or TIM, became GRAVE: every domain that is not OFF is INVALID, with its REASON kept (R353). -/
def angBecomeGrave (s : Dev) : Dev :=
  (List.range 8).foldl (fun s n =>
    if s.angState n = angOff ∨ s.angState n = angInvalid then s else (s.setAngState n angInvalid).raise bANG (8 + n)) s

end Dev

/-- ACCEPTED_EDGE (R50). -/
def execAcceptedEdge (n : Fin 8) (index cam : Bool) (width : Nat) (s : State) :=
  devStep (fun d => d.atBlock bANG (·.acceptedEdge n index cam width)) s
/-- MISSING_TOOTH (R53). -/
def execMissingTooth (n : Fin 8) (s : State) := devStep (fun d => d.atBlock bANG (·.missingTooth n)) s
/-- ANGLE_CYCLE_BOUNDARY (R52). -/
def execAngleCycleBoundary (n : Fin 8) (s : State) := devStep (fun d => d.atBlock bANG (·.cycleBoundary n)) s
/-- MARK_EVENT (R59). -/
def execMarkEvent (n : Fin 8) (s : State) := devStep (fun d => d.atBlock bANG (·.markEvent n)) s
/-- ANG_SRC_WRITE (R47). -/
def execAngSrcWrite (n : Fin 8) (value : Word) (s : State) :=
  devStep (fun d => d.hostGate bANG (Reg.ANG_SRC n) value (·.angCfgWrite n (Reg.ANG_SRC n) value)) s
/-- ANG_TOOTH_WRITE (R47). -/
def execAngToothWrite (n : Fin 8) (value : Word) (s : State) :=
  devStep (fun d => d.hostGate bANG (Reg.ANG_TOOTH n) value (·.angCfgWrite n (Reg.ANG_TOOTH n) value)) s
/-- RESYNC (R54). -/
def execResync (n : Fin 8) (s : State) := devStep (fun d => d.hostGate bANG (Reg.ANG_CMD n) 1 (·.angResync n)) s
/-- PHASE_FLIP (R57). -/
def execPhaseFlip (n : Fin 8) (s : State) := devStep (fun d => d.hostGate bANG (Reg.ANG_CMD n) 2 (·.angFlip n)) s
/-- MARK_SWAP (R59). -/
def execMarkSwap (n : Fin 8) (s : State) := devStep (fun d => d.hostGate bANG (Reg.ANG_MARK_CTL n) 1 (·.markCtlWrite n 1)) s
/-- ANGLE_PAYLOAD_SEND (R61). -/
def execAnglePayloadSend (n : Fin 8) (s : State) := devStep (fun d => d.atBlock bANG (·.anglePayload n)) s
/-- REMOTE_COASTING (R63). -/
def execRemoteCoasting (n : Fin 8) (s : State) := devStep (fun d => d.atBlock bANG (·.remoteCoasting n)) s
/-- REMOTE_TIMEOUT (R63). -/
def execRemoteTimeout (n : Fin 8) (s : State) := devStep (fun d => d.atBlock bANG (·.remoteTimeout n)) s

end Sys2Proof.Machine
end

