-- ==== Sys2Proof/Machine/Crypto.lean ====
section
/-! DEFINITION. The algorithms that the authentication unit runs: AES-128 (FIPS 197), CMAC (NIST SP 800-38B) and the unwrapping of KW (NIST SP 800-38F), named by R288, R293 and R294. Blocks and keys are numbers, first octet most significant. -/

namespace Sys2Proof.Machine.Aes

/-- The S-box, octet of index i in bits [8i + 7 : 8i]. -/
def sboxTable : Nat := 0x16bb54b00f2d99416842e6bf0d89a18cdf2855cee9871e9b948ed9691198f8e19e1dc186b95735610ef6034866b53e708a8bbd4b1f74dde8c6b4a61c2e2578ba08ae7a65eaf4566ca94ed58d6d37c8e779e4959162acd3c25c2406490a3a32e0db0b5ede14b8ee4688902a22dc4f816073195d643d7ea7c41744975fec130ccdd2f3ff1021dab6bcf5389d928f40a351a89f3c507f02f94585334d43fbaaefd0cf584c4a39becb6a5bb1fc20ed00d153842fe329b3d63b52a05a6e1b1a2c830975b227ebe28012079a059618c323c7041531d871f1e5a534ccf73f362693fdb7c072a49cafa2d4adf04759fa7dc982ca76abd7fe2b670130c56f6bf27b777c63
/-- The inverse S-box. -/
def invTable : Nat := 0x7d0c2155631469e126d677ba7e042b17619953833cbbebc8b0f52aae4d3be0a0ef9cc9939f7ae52d0d4ab519a97f51605fec8027591012b131c7078833a8dd1ff45acd78fec0db9a2079d2c64b3e56fc1bbe18aa0e62b76f89c5291d711af1476edf751ce837f9e28535ade72274ac9673e6b4f0cecff297eadc674f4111913a6b8a130103bdafc1020f3fca8f1e2cd00645b3b80558e4f70ad3bc8c00abd890849d8da75746155edab9edfd5048706c92b6655dcc5ca4d41698688664f6f87225d18b6d49a25b76b224d92866a12e084ec3fa420b954cee3d23c2a632947b54cbe9dec444438e3487ff2f9b8239e37cfbd7f3819ea340bf38a53630d56a0952

/-- Octet i of a table. -/
def lookup (t i : Nat) : Nat := t / 2 ^ (8 * i) % 256

/-- Multiplication by x in GF(2^8). -/
def xtime (a : Nat) : Nat := if a < 128 then 2 * a else (2 * a % 256) ^^^ 0x1B

/-- Multiplication by a small constant in GF(2^8), by its bits. -/
def gmul (a : Nat) (k : Nat) : Nat :=
  let a1 := xtime a
  let a2 := xtime a1
  let a3 := xtime a2
  (if k.testBit 0 then a else 0) ^^^ ((if k.testBit 1 then a1 else 0) ^^^ ((if k.testBit 2 then a2 else 0) ^^^ (if k.testBit 3 then a3 else 0)))

/-- The octets of a block. -/
def bytes (x : Nat) : List Nat := (List.range 16).map fun i => x / 2 ^ (8 * (15 - i)) % 256

/-- The block of a list of octets. -/
def block (l : List Nat) : Nat := l.foldl (fun a b => a * 256 + b) 0

/-- The octets picked by a list of places. -/
def pick (l : List Nat) (ix : List Nat) : List Nat := ix.map fun i => l.getD i 0

/-- ShiftRows and its inverse as places. -/
def shiftIx : List Nat := [0, 5, 10, 15, 4, 9, 14, 3, 8, 13, 2, 7, 12, 1, 6, 11]
/-- Its inverse. -/
def unshiftIx : List Nat := [0, 13, 10, 7, 4, 1, 14, 11, 8, 5, 2, 15, 12, 9, 6, 3]

/-- One octet of a column times the circulant matrix with first row `m`. -/
def mixOne (l : List Nat) (m : List Nat) (c r : Nat) : Nat :=
  (List.range 4).foldl (fun a k => a ^^^ gmul (l.getD (4 * c + k) 0) (m.getD ((k + 4 - r) % 4) 0)) 0

/-- MixColumns with the matrix of first row `m`. -/
def mix (m l : List Nat) : List Nat := (List.range 16).map fun i => mixOne l m (i / 4) (i % 4)

/-- The next round key (FIPS 197 section 5.2). -/
def nextKey (k rcon : Nat) : Nat :=
  let w3 := k % 2 ^ 32
  let rot := w3 % 2 ^ 24 * 256 + w3 / 2 ^ 24
  let sub := (List.range 4).foldl (fun a i => a + lookup sboxTable (rot / 2 ^ (8 * i) % 256) * 2 ^ (8 * i)) 0
  let t := sub ^^^ (rcon * 2 ^ 24)
  let w0 := (k / 2 ^ 96) ^^^ t
  let w1 := (k / 2 ^ 64 % 2 ^ 32) ^^^ w0
  let w2 := (k / 2 ^ 32 % 2 ^ 32) ^^^ w1
  let w3' := w3 ^^^ w2
  w0 * 2 ^ 96 + w1 * 2 ^ 64 + w2 * 2 ^ 32 + w3'

/-- The round keys after `k`, one for each constant. -/
def keysFrom (k : Nat) : List Nat → List Nat
  | [] => []
  | r :: rs => let n := nextKey k r; n :: keysFrom n rs

/-- The ten round keys after the cipher key. -/
def roundKeys (k : Nat) : List Nat := keysFrom k [1, 2, 4, 8, 16, 32, 64, 128, 0x1B, 0x36]

/-- SubBytes and ShiftRows. -/
def subShift (x : Nat) : List Nat := (pick (bytes x) shiftIx).map (lookup sboxTable)

/-- The rounds of the cipher: the last has no MixColumns. -/
def encRounds (x : Nat) : List Nat → Nat
  | [] => x
  | [k] => block (subShift x) ^^^ k
  | k :: ks => encRounds (block (mix [2, 3, 1, 1] (subShift x)) ^^^ k) ks

/-- AES-128 encryption. -/
def encrypt (key x : Nat) : Nat := encRounds (x ^^^ key) (roundKeys key)

/-- The rounds of the inverse cipher; the keys come last first, the cipher key at the end. -/
def decRounds (x : Nat) : List Nat → Nat
  | [] => x
  | [k] => block ((pick (bytes x) unshiftIx).map (lookup invTable)) ^^^ k
  | k :: ks => decRounds (block (mix [14, 11, 13, 9] (bytes (block ((pick (bytes x) unshiftIx).map (lookup invTable)) ^^^ k)))) ks

/-- AES-128 decryption. -/
def decrypt (key x : Nat) : Nat :=
  match (key :: roundKeys key).reverse with
  | [] => x
  | k :: ks => decRounds (x ^^^ k) ks

/-- Doubling in GF(2^128) for the CMAC subkeys. -/
def dbl (x : Nat) : Nat := if x < 2 ^ 127 then 2 * x else (2 * x % 2 ^ 128) ^^^ 0x87

/-- The CBC chain of CMAC over whole blocks but the last. -/
def cmacGo (key k1 k2 : Nat) (acc : Nat) (l : List Octet) : Nat → Nat
  | 0 =>
    let last := if l.length = 16 then numBE l ^^^ k1 else (numBE (padTo 16 (l ++ [(0x80 : Octet)]))) ^^^ k2
    encrypt key (acc ^^^ last)
  | n + 1 => cmacGo key k1 k2 (encrypt key (acc ^^^ numBE (l.take 16))) (l.drop 16) n

/-- AES-128-CMAC (NIST SP 800-38B). -/
def cmac (key : Nat) (l : List Octet) : Nat :=
  let k1 := dbl (encrypt key 0)
  cmacGo key k1 (dbl k1) 0 l ((l.length - 1) / 16)

/-- The steps of KW's unwrapping, from step `t` down to 1, over three semiblocks (NIST SP 800-38F). -/
def unwrapGo (key : Nat) (a : Nat) (r : List Nat) : Nat → Nat × List Nat
  | 0 => (a, r)
  | t + 1 =>
    let i := t % 3
    let b := decrypt key ((a ^^^ (t + 1)) * 2 ^ 64 + r.getD i 0)
    unwrapGo key (b / 2 ^ 64) (r.set i (b % 2 ^ 64)) t

/-- A wrapped key of 32 octets: its plaintext of 24 octets as a number, none where the integrity check value is wrong. -/
def unwrap (key c : Nat) : Option Nat :=
  let (a, r) := unwrapGo key (c / 2 ^ 192) [c / 2 ^ 128 % 2 ^ 64, c / 2 ^ 64 % 2 ^ 64, c % 2 ^ 64] 18
  if a = 0xA6A6A6A6A6A6A6A6 then some (r.getD 0 0 * 2 ^ 128 + r.getD 1 0 * 2 ^ 64 + r.getD 2 0) else none

end Sys2Proof.Machine.Aes
end

