-- ==== Sys2Proof/Machine/AuthUnit.lean ====
section
/-! DEFINITION. The authentication unit (spec/13_clients_authentication.md): client records, the checks of a critical command, key loads, and the test CMAC. -/

namespace Sys2Proof.Machine

/-- The wrapping key and the image key of a master key (R293). -/
def wrapKey (km : BitVec 128) : Nat := Aes.encrypt km.toNat 1
def imageKey (km : BitVec 128) : Nat := Aes.encrypt km.toNat 2

namespace Dev

/-! ### Client records (R284) -/

/-- STATE of a client: 0 unused, 1 active, 2 locked. -/
def clientState (s : Dev) (id : Nat) : Nat := s.get (Reg.AUT_CL_CFG.STATE id)
/-- LAST of a client. -/
def clientLast (s : Dev) (id : Nat) : Nat := s.get (Reg.AUT_CL_CTR_LO.LAST id) + s.get (Reg.AUT_CL_CTR_HI.LAST id) * 2 ^ 32
/-- Replace LAST. -/
def setClientLast (s : Dev) (id n : Nat) : Dev := (s.put (Reg.AUT_CL_CTR_LO.LAST id) n).put (Reg.AUT_CL_CTR_HI.LAST id) (n / 2 ^ 32)
/-- The key of a client; zero while it has none. -/
def clientKey (s : Dev) (id : Nat) : BitVec 128 := Tab.get (fun _ => 0) s.keys id

/-- A committed AUT_CL_CFG: RIGHTS is written, STATE 0 retires the client, other values of STATE are ignored (R286). -/
def clientCfgWrite (s : Dev) (id : Nat) (v : Word) : Dev :=
  let s := s.put (Reg.AUT_CL_CFG.RIGHTS id) (wfld v 0 10)
  if wfld v 30 2 = 0 then
    let s := (s.put (Reg.AUT_CL_CFG.STATE id) 0).put (Reg.AUT_CL_CFG.KEY_GEN id) 0
    let s := s.setClientLast id 0
    { s with keys := Tab.set (fun _ => 0) s.keys id 0, keyBad := s.keyBad.filter (· != id) }
  else s

/-- A committed ownership range. -/
def clientOwnWrite (s : Dev) (id i : Nat) (v : Word) : Dev :=
  (s.put (Reg.AUT_CL_OWN.FIRST id i) (wfld v 16 9)).put (Reg.AUT_CL_OWN.LAST id i) (wfld v 0 9)

/-- The plaintext of a wrapped key: key, client, KEY_GEN; none where it does not unwrap, the master key is blank, or the unit is GRAVE (R293, R294, R353). -/
def unwrapped (s : Dev) (v : List Octet) : Option (BitVec 128 × Nat × Nat) :=
  match if s.isGrave bAUT then none else s.pwr.masterKey with
  | none => none
  | some km => match Aes.unwrap (wrapKey km) (numBE v) with
    | some x => some (BitVec.ofNat 128 (x / 2 ^ 64), x / 2 ^ 48 % 4096, x / 2 ^ 40 % 16)
    | none => none

/-- A key load at its commit point (R295). -/
def keyLoad (s : Dev) (id : Nat) (v : List Octet) : Dev :=
  match s.unwrapped v with
  | none => s
  | some (k, _, g) =>
    let s := (s.put (Reg.AUT_CL_CFG.KEY_GEN id) g).put (Reg.AUT_CL_CFG.STATE id) 1
    let s := s.setClientLast id 0
    ({ s with keys := Tab.set (fun _ => 0) s.keys id k, keyBad := s.keyBad.filter (· != id) }).raise bAUT 2

/-! ### The critical command (R287–R292) -/

/-- BOOT_ID as octets, most significant first. -/
def bootIdOctets (s : Dev) : List Octet := octetsBE 4 (s.word Reg.GLB_BOOT_ID_HI).toNat ++ octetsBE 4 (s.word Reg.GLB_BOOT_ID_LO).toNat

/-- RIGHTS of the client grant the inner operation (R285). -/
def innerGranted (s : Dev) (id op x : Nat) : Bool :=
  let rights := s.get (Reg.AUT_CL_CFG.RIGHTS id)
  if op = 5 ∨ op = 6 then rights != 0
  else match regionOfIndex x with
    | none => false
    | some r => Nat.ble r 9 && rights.testBit r &&
      (r != 2 || (List.range 4).any fun i =>
        Nat.ble (s.get (Reg.AUT_CL_OWN.FIRST id i)) (x - 0x2000) && Nat.ble (x - 0x2000) (s.get (Reg.AUT_CL_OWN.LAST id i)))

/-- The first of checks 0x10 to 0x16 that a critical command fails (R290); a GRAVE unit refuses every one with KEY_FAULT (R353). -/
def critOuter (s : Dev) (d : List Octet) : Option Nat :=
  let w := fieldBE d 0 2
  let id := w % 4096
  let l := d.length - 34
  if s.isGrave bAUT then some 0x14
  else if s.clientState id = 0 then some 0x10
  else if s.clientState id = 2 then some 0x11
  else if fieldBE d 2 2 ≠ s.get Reg.AUT_CFG.DEV_ADDR then some 0x12
  else if w / 4096 ≠ s.get (Reg.AUT_CL_CFG.KEY_GEN id) then some 0x13
  else if s.keyBad.contains id then some 0x14
  else if fieldBE d (26 + l) 8 ≠ Aes.cmac (s.clientKey id).toNat (s.bootIdOctets ++ d.take (26 + l)) / 2 ^ 64 then some 0x15
  else if fieldBE d 4 6 ≤ s.clientLast id then some 0x16
  else none

/-- Checks 0x17 and 0x18 of the inner operation. -/
def critInner (s : Dev) (d : List Octet) : Option Nat :=
  let op := fieldBE d 11 1
  if ¬ (op = 2 ∨ op = 8 ∨ op = 5 ∨ op = 6) ∨ fieldBE d 10 1 ≠ 1 ∨ fieldBE d 20 2 ≠ d.length - 34 then some 0x17
  else if ¬ s.innerGranted (fieldBE d 0 2 % 4096) op (fieldBE d 16 2) then some 0x18
  else none

/-- A command refused with a code of R290 (R299); `src` is its ingress port or mailbox. -/
def critRefuse (s : Dev) (src code id : Nat) : Dev :=
  let s := ((s.put Reg.AUT_LAST_FAIL.STATUS code).put Reg.AUT_LAST_FAIL.PORT src).put Reg.AUT_LAST_FAIL.CLIENT id
  let s := (s.inc Reg.AUT_FAIL_CNT.COUNT).raise bAUT 0
  let s := s.when (code == 0x15) (·.fault bAUT 2)
  s.when (code == 0x16) (·.fault bAUT 3)

/-- COUNTER 2^48 − 1 locks its client (R291). -/
def critLock (s : Dev) (d : List Octet) : Dev :=
  if fieldBE d 4 6 = 2 ^ 48 - 1 then (s.put (Reg.AUT_CL_CFG.STATE (fieldBE d 0 2 % 4096)) 2).raise bAUT 1 else s

/-- Judge a critical command `d` (R290): a refusal code, and the context of the reply where checks 0x10 to 0x16 passed. -/
def critJudge (s : Dev) (src : Nat) (d : List Octet) : Option Nat × Option CritCtx × Dev :=
  let w := fieldBE d 0 2
  let id := w % 4096
  match s.critOuter d with
  | some c => (some c, none, s.critRefuse src c id)
  | none =>
    let ctx : CritCtx := ⟨w, fieldBE d 4 6, s.clientKey id⟩
    let s := s.setClientLast id (fieldBE d 4 6)
    match s.critInner d with
    | some c => (some c, some ctx, (s.critRefuse src c id).critLock d)
    | none => (none, some ctx, (s.inc Reg.AUT_OK_CNT.COUNT).critLock d)

/-- The first 16 octets of the reply to a command that passed checks 0x10 to 0x16 (R292). -/
def critPrefix (s : Dev) (x : CritCtx) (status : Nat) : List Octet :=
  let body := octetsBE 2 x.client ++ octetsBE 6 x.counter
  body ++ octetsBE 8 (Aes.cmac x.key.toNat (s.bootIdOctets ++ (body ++ [(0xFF : Octet), BitVec.ofNat 8 status])) / 2 ^ 64)

/-! ### The test CMAC (R299) -/

/-- A write of AUT_TEST_CTL; a START while a test runs has no effect (R298). -/
def testCtlWrite (s : Dev) (v : Word) : Dev :=
  if wbit v 31 ∧ s.bit Reg.AUT_TEST_CTL.START then s else s.writeFields bAUT Reg.AUT_TEST_CTL v

/-- The octets of the test key and of the test message. -/
def testKey (s : Dev) : Nat := numBE ((List.range 4).flatMap fun w => octetsBE 4 (s.word (Reg.AUT_TEST_KEY w)).toNat)
def testMsg (s : Dev) : List Octet :=
  ((List.range 16).flatMap fun w => octetsBE 4 (s.word (Reg.AUT_TEST_MSG w)).toNat).take (min 64 (s.get Reg.AUT_TEST_CTL.LEN))

/-- The test CMAC is complete. -/
def testDone (s : Dev) : Dev :=
  if ¬ s.bit Reg.AUT_TEST_CTL.START then s
  else
    let m := Aes.cmac s.testKey s.testMsg
    let s := (List.range 4).foldl (fun s w => s.setWord (Reg.AUT_TEST_MAC w) (BitVec.ofNat 32 (m / 2 ^ (32 * (3 - w))))) s
    (s.put Reg.AUT_TEST_CTL.START 0).raise bAUT 3

end Dev

/-- TEST_CMAC_START (R299). -/
def execTestCmacStart (value : Word) (s : State) :=
  devStep (fun d => d.hostGate bAUT Reg.AUT_TEST_CTL (value ||| 0x80000000#32) (·.testCtlWrite (value ||| 0x80000000#32))) s
/-- TEST_CMAC_DONE (R299). -/
def execTestCmacDone (s : State) := devStep (fun d => d.atBlock bAUT (·.testDone)) s

end Sys2Proof.Machine
end

