-- ==== Sys2Proof/Machine/Grave.lean ====
section
/-! DEFINITION. GRAVE (R351–R356): a block whose own source is classed GRAVE, the propagation from TIM, the safe behaviours, the log entries, the notice and the drive of FAULT_N. -/

namespace Sys2Proof.Machine

namespace Dev

/-- The blocks that GRAVE of block `b` reaches (R352). -/
def graveReach (b : Nat) : List Nat := if b = bTIM then [bTIM, bANG, bCEL, bSMP, bSCR] else [b]

/-- The safe behaviour that block `b` takes as it becomes GRAVE (R353); `old` is the state before. TIM: the servo enters FREE with RATE kept. -/
def graveSafe (old s : Dev) (b : Nat) : Dev :=
  let s := s.when (b == bTIM) fun s => { s.put Reg.TIM_SERVO.STATE 0 with tim := { s.tim with setDue := false, syncs := 0 } }
  let s := s.when (b == bANG) (·.angBecomeGrave)
  let s := s.when (b == bCEL) (·.celBecomeGrave)
  let s := s.when (b == bSMP) (·.chkBecomeGrave)
  s.when (b == bANG || b == bCEL || b == bSMP || b == bSCR) (scrBecomeGrave old)

/-- One log entry of kind GRAVE for block `b` (R351, R359): its own source, or a free value where it is GRAVE by propagation only (log entry 17). -/
def graveLog (s : Dev) (b : Nat) (own : Option Nat) : Dev :=
  let (src, s) := match own with
    | some n => (n, s)
    | none => let (w, s) := s.freeWord; (w % 256, s)
  s.logStage 1 b src 3 (s.word Reg.STA_GRAVE).toNat

/-- Source `n` of block `b` has been classed GRAVE: what happens in that core clock (R351–R356). -/
def becomeGrave (s : Dev) (b n : Nat) : Dev :=
  let new := (graveReach b).filter fun x => !s.isGrave x
  let old := s
  let s := s.put ⟨Reg.STA_GRAVE_OWN, b, 1⟩ 1
  if new = [] then s
  else
    let s := new.foldl (fun s x => s.put ⟨Reg.STA_GRAVE, x, 1⟩ 1) s
    let s := s.put Reg.STA_FLINE.DRIVING 1
    let s := new.foldl (graveSafe old) s
    let s := new.foldl (fun s x => s.graveLog x (if x = b then some n else none)) s
    let s := s.notice 4 s.sysAddr (s.word Reg.STA_GRAVE).toNat
    { s with pwr := { s.pwr with graveInEntry := s.pwr.graveInEntry || decide (s.pwr.phase = .entering 3) } }

/-- An event of a source that may be classed GRAVE (R345–R352). -/
def graveFault (s : Dev) (b n : Nat) : Dev :=
  let opening := !s.bit (stickyBit b n)
  let s := s.fault b n
  if opening ∧ (s.fltSrc b n).cls = .grave then s.becomeGrave b n else s

/-- REEXECUTION_COMPLETE: the pairs change and the outputs are released; or neither, and SPARE_MISMATCH records an event, whose class is GRAVE (R213, R214). -/
def reexecutionComplete (s : Dev) (c : Nat) (agree : Bool) : Dev :=
  match (s.cell c).run with
  | some r =>
    match r.spare with
    | some p =>
      if s.up < r.doneUp ∨ s.isGrave bCEL then s
      else
        let s := s.reexecCount c p
        if agree then (s.reexecPairs c p).celRelease c r true
        else
          let s := s.celTrace c 2 p r (s.up - r.startUp)
          ((s.modCell c fun x => { x with run := none }).graveFault bCEL 1).celAfter c
    | none => s
  | none => s

end Dev

/-- REEXECUTION_COMPLETE (R213). -/
def execReexecutionComplete (c : Fin 64) (agree : Bool) (s : State) := devStep (fun d => d.atBlock bCEL (·.reexecutionComplete c agree)) s

end Sys2Proof.Machine
end

