-- ==== Sys2Proof/Machine/Shroud.lean ====
section
/-! DEFINITION. The Shroud (spec/08_mizal_ring.md): ring cycles, beacons, master role, claims, breaks, wrapping, restoration and relays; and the notice map (R107–R109). Octets of control frames are counted from the destination address, so a body octet b lies at 26 + b. -/

namespace Sys2Proof.Machine

namespace Dev

/-! ### Readings -/

/-- Node ID of this node. -/
def nodeId (s : Dev) : Nat := s.get Reg.SHD_CFG.NODE_ID
/-- The ring is in use. -/
def ringEn (s : Dev) (r : Nat) : Bool := s.bit (Reg.SHD_RING_CFG.EN r)
/-- Mean link delay of a port in 2^-16 ns, 0 while none is valid. -/
def linkDelay (s : Dev) (p : Nat) : Nat := Tab.get (fun _ => 0) s.tim.delay p - 1
/-- Index of the present ring cycle. -/
def cycleIdx (s : Dev) (r : Nat) : Int := (s.ringSchedule r).index s.now
/-- Cycle number of an index. -/
def cycleNo (k : Int) : Nat := ofSigned 32 k
/-- Generation of the active slot table bank. -/
def tableGen (s : Dev) (r : Nat) : Nat :=
  if s.slotBank r = 0 then s.get (Reg.SHD_TABLE_GEN.BANK_ZERO_GEN r) else s.get (Reg.SHD_TABLE_GEN.BANK_ONE_GEN r)
/-- This node acts as the timing master of the ring. -/
def isMaster (s : Dev) (r : Nat) : Bool := s.get (Reg.SHD_STATE.ROLE_NOW r) == 1
/-- System address of the configured master. -/
def masterAddr (s : Dev) (r : Nat) : Nat := s.get Reg.SHD_CFG.RING_ID * 256 + s.get (Reg.SHD_RING_CFG.MASTER_NODE r)
/-- READY_W or READY_E. -/
def readyFld (p : Nat) : Fld := if p % 2 = 0 then Reg.SHD_STATE.READY_W (p / 2) else Reg.SHD_STATE.READY_E (p / 2)
/-- Claim record of node `n`. -/
def recFld (r n : Nat) : Fld := ⟨Reg.SHD_CLAIM_REC r (n / 4), 8 * (n % 4), 8⟩
/-- Trace record of source 2 (R393, R395). -/
def ringTrace (s : Dev) (r kind : Nat) (east : Bool) (slot : Nat) : Dev :=
  s.trace 2 r r (kind * 2 ^ 30 + east.toNat * 2 ^ 29 + slot) (cycleNo (s.cycleIdx r))

/-- Priority of a frame that belongs to no context (R112). -/
def frameprio (s : Dev) (p : Nat) (data : List Octet) : Nat :=
  let q := parse data
  if q.tagged then q.pcp else s.get (Reg.GTE_PORT_CTL.PRIO_DEFAULT p)

/-! ### Beacons (R165–R168, R173) -/

/-- A grant entry of a beacon (R166). -/
def grantOctets (g : Grant) : List Octet :=
  octetsBE 2 (g.release.toNat * 0x8000 + g.slot) ++ octetsBE 1 g.node ++ octetsBE 1 g.claimId ++ octetsBE 1 g.gen ++ octetsBE 1 0

/-- The bits of a ROLL with node `n` set. -/
def rollOctets (n : Nat) : List Octet := (List.range 32).map fun i => if i = n / 8 then BitVec.ofNat 8 (2 ^ (7 - n % 8)) else 0

/-- Any port of the ring is wrapped. -/
def ringWrapped (s : Dev) (r : Nat) : Bool := s.wrapped (2 * r) || s.wrapped (2 * r + 1)

/-- The master's beacon of cycle `k` (R166). -/
def beaconData (s : Dev) (r : Nat) (k : Int) : List Octet :=
  let gs := (s.ring r).listing
  let body :=
    octetsBE 4 (cycleNo k) ++ (octetsBE 12 0 ++ octetsBE 8 0)
      ++ (octetsBE 2 (s.tableGen r) ++ octetsBE 2 s.sysAddr)
      ++ (octetsBE 1 ((s.ringWrapped r).toNat * 0x80 + (s.ring r).backupOn.toNat * 0x40 + s.slotBank r) ++ octetsBE 1 gs.length ++ octetsBE 2 0)
      ++ (rollOctets s.nodeId ++ padTo 96 (gs.flatMap grantOctets))
  s.controlFrame (eastPort r) true 1 1 0 body

/-- The master sends one beacon on both ports (R165). -/
def beaconSend (s : Dev) (r : Nat) (k : Int) : Dev :=
  let data := s.beaconData r k
  match s.allocDevice .device data 2 with
  | none => s
  | some (d, s) =>
    let e : QEnt := { desc := d, data := data, fix := .origin 30 }
    (s.queueRing (eastPort r) 7 e).queueRing (2 * r) 7 e

/-- The beacon of the running cycle is sent once slot 0 has started (R165); none in GRAVE of TIM (R353). -/
def beaconSlot (s : Dev) (r : Nat) : Dev :=
  match (s.ring r).beaconDue with
  | none => s
  | some k =>
    let ofs := (s.word (Reg.SHD_SLOT_OFS r (s.slotBank r) 0)).toNat
    if k ≠ s.cycleIdx r ∨ (s.ringSchedule r).phase s.now < ofs * 65536 then s
    else
      let s := s.setRing r { s.ring r with beaconDue := none }
      s.when (s.isMaster r && !s.bit ⟨Reg.STA_GRAVE, bTIM, 1⟩) (·.beaconSend r k)

/-- Set the result of the pending claim: 2 granted, 3 failed (R175). -/
def claimResult (s : Dev) (r res : Nat) : Dev :=
  let s := (s.put (Reg.SHD_CLAIM_STAT.RESULT r) res).put (Reg.SHD_CLAIM.START r) 0
  (s.raise bSHD (4 + r)).setRing r { s.ring r with sendIn := none }

/-- The grants that a beacon carries. -/
def beaconGrants (data : List Octet) : List Grant :=
  (List.range (min 16 (fieldBE data 55 1))).map fun i =>
    let o := 90 + 6 * i
    let w := fieldBE data o 2
    ⟨w.testBit 15, w % 4096, fieldBE data (o + 2) 1, fieldBE data (o + 3) 1, fieldBE data (o + 4) 1⟩

/-- The grant answers this node's pending claim (R175). -/
def grantsMe (s : Dev) (r : Nat) (g : Grant) : Bool :=
  g.node == s.nodeId && g.claimId == s.get (Reg.SHD_CLAIM.CLAIM_ID r) && g.slot == s.get (Reg.SHD_CLAIM.SLOT r)
    && g.release == s.bit (Reg.SHD_CLAIM.RELEASE r)
    && decide (0 ≤ sdiff g.gen (s.get (Reg.SHD_CLAIM_STAT.GEN_FIRST r)) 8)

/-- The first copy of a cycle number is acted on (R165, R173, R175, R177). -/
def firstBeacon (s : Dev) (p : Nat) (data : List Octet) : Dev :=
  let r := ringOf p
  let cyc := fieldBE data 26 4
  let grants := beaconGrants data
  let s := s.setRing r { s.ring r with acted := (cyc :: (s.ring r).acted).take 1024, grants := (s.ring r).grants ++ grants, beaconWrapped := (fieldBE data 54 1).testBit 7 }
  let s := s.setWord (Reg.SHD_CYCLE_NOW r) (BitVec.ofNat 32 cyc)
  let s := s.trace 2 r r ((p % 2) * 2 ^ 29) cyc
  let s := if fieldBE data 50 2 = s.tableGen r then s.put (Reg.SHD_STATE.TABLE_MISMATCH r) 0
    else ((s.put (Reg.SHD_STATE.TABLE_MISMATCH r) 1).raise bSHD 7).fault bSHD 4
  s.when (s.get (Reg.SHD_CLAIM_STAT.RESULT r) == 1 && grants.any fun g => s.grantsMe r g) fun s => s.claimResult r 2

/-- Word `w` of SHD_ROLL from a beacon's ROLL. -/
def rollWord (data : List Octet) (w : Nat) : Nat :=
  (List.range 32).foldl (fun m j =>
    let n := 32 * w + j
    if (fieldBE data (58 + n / 8) 1).testBit (7 - n % 8) then m + 2 ^ j else m) 0

/-- A beacon copy at port `p` with ingress stamp `t` in 2^-16 ns (R166–R168). -/
def beaconCopy (s : Dev) (p t src : Nat) (data : List Octet) : Dev :=
  let r := ringOf p
  let cyc := fieldBE data 26 4
  let current := cyc == cycleNo (s.cycleIdx r)
  let firstHere := decide ((s.side p).seenCyc ≠ some cyc)
  let hop := fieldBE data 52 2
  let s := s.modSide p fun d => { d with got := d.got || current, seenCyc := some cyc, neighbour := hop }
  let s := s.put (if p % 2 = 0 then Reg.SHD_STATE.WEST_NB r else Reg.SHD_STATE.EAST_NB r) hop
  let s := s.when firstHere fun s =>
    let at' : Int := (ofStamp (fieldBE data 30 12) : Int) + toSigned 64 (fieldBE data 42 8) + s.linkDelay p
    let ofs : Int := (t : Int) - at'
    let ns := max (-2147483648) (min 2147483647 (ofs / 65536))
    let s := s.put (Reg.SHD_BCN_OFS.OFFSET r) (ofSigned 32 ns)
    let s := s.when (decide ((s.get (Reg.SHD_TIMING.BCN_TOL r) : Int) * 65536 < |ofs|)) fun s =>
      (s.inc (Reg.SHD_BCN_SKEW.COUNT r)).raise bSHD 8
    s.when (p % 2 == 0) fun s => (List.range 8).foldl (fun s w => s.setWord (Reg.SHD_ROLL r w) (BitVec.ofNat 32 (rollWord data w))) s
  let s := s.when current fun s => s.put (Reg.SHD_STATE.MASTER_LOST r) 0
  let s := s.when (src % 256 == s.get (Reg.SHD_RING_CFG.MASTER_NODE r) && !(fieldBE data 54 1).testBit 6 && (s.ring r).backupOn) fun s =>
    s.setRing r { s.ring r with backupStop := true }
  if (s.ring r).acted.contains cyc then s else s.firstBeacon p data

/-! ### Claims (R174–R177) -/

/-- The master judges a claim (R176). -/
def claimTake (s : Dev) (p src : Nat) (data : List Octet) : Dev :=
  let r := ringOf p
  if ¬ s.isMaster r then s
  else if s.bit (Reg.SHD_STATE.HOLDOFF r) then s.inc (Reg.SHD_CLAIM_REFUSED.COUNT r)
  else
    let node := src % 256
    let gen := fieldBE data 27 1
    let w := fieldBE data 28 2
    let slot := w % 4096
    if sdiff gen (s.get (recFld r node)) 8 ≤ 0 then s.inc (Reg.SHD_CLAIM_STALE.COUNT r)
    else
      let s := s.put (recFld r node) gen
      let b := s.slotBank r
      let kind := s.slotKind r b slot
      let mine := kind == 1 && s.get (Reg.SHD_SLOT_DESC.OWNER r b slot) == node
      let acc := (s.ring r).accepted
      let free := !(acc ++ (s.ring r).listed).any fun g => g.slot == slot && g.node != node
      let ok := if w.testBit 15 then mine else (kind == 2 || mine) && free
      if ok && Nat.blt acc.length 16 then
        (s.setRing r { s.ring r with accepted := acc ++ [⟨w.testBit 15, slot, node, fieldBE data 26 1, gen⟩] }).inc (Reg.SHD_CLAIM_ACCEPT.COUNT r)
      else s.inc (Reg.SHD_CLAIM_REFUSED.COUNT r)

/-- One grant is applied to the active bank and the claim records (R177). -/
def applyGrant (s : Dev) (r : Nat) (g : Grant) : Dev :=
  let b := s.slotBank r
  let kind := s.slotKind r b g.slot
  let s := s.setRing r { s.ring r with listed := (s.ring r).listed.filter fun x => x.slot != g.slot }
  let mine := kind == 1 && s.get (Reg.SHD_SLOT_DESC.OWNER r b g.slot) == g.node
  let s := s.when (decide (0 < sdiff g.gen (s.get (recFld r g.node)) 8)) fun s => s.put (recFld r g.node) g.gen
  if (if g.release then mine else kind == 2 || mine) then
    let s := s.put (Reg.SHD_SLOT_DESC.KIND r b g.slot) (if g.release then 2 else 1)
    let s := s.when (!g.release) fun s => s.put (Reg.SHD_SLOT_DESC.OWNER r b g.slot) g.node
    s.ringTrace r 3 false g.slot
  else s

/-- A write of SHD_CLAIM; it has no effect while a claim is pending, and START begins one (R175). -/
def claimWrite (s : Dev) (r : Nat) (v : Word) : Dev :=
  let pend := s.get (Reg.SHD_CLAIM_STAT.RESULT r) == 1
  let s := s.when (!pend) fun s => s.writeFields bSHD (Reg.SHD_CLAIM r) v
  if wbit v 31 && !pend then
    let s := s.put (Reg.SHD_CLAIM_STAT.GEN_FIRST r) (s.get (Reg.SHD_CLAIM_STAT.GEN r) + 1)
    let s := (s.put (Reg.SHD_CLAIM_STAT.RESULT r) 1).put (Reg.SHD_CLAIM_STAT.TRIES_USED r) 0
    s.setRing r { s.ring r with sendIn := none, sentCycle := s.cycleIdx r }
  else s

/-- What a cycle start does to the pending claim (R175); one not sent in its cycle is to be sent in this one (log entry 76). -/
def claimCycle (s : Dev) (r : Nat) (k : Int) : Dev :=
  let x := s.ring r
  let tries := s.get (Reg.SHD_CLAIM_STAT.TRIES_USED r)
  if s.get (Reg.SHD_CLAIM_STAT.RESULT r) ≠ 1 then s
  else if x.sendIn.isSome then s.setRing r { x with sendIn := some k }
  else if tries = 0 then
    if x.sentCycle < k then s.setRing r { x with sendIn := some k } else s
  else if x.sentCycle + s.get (Reg.SHD_TIMING.CLAIM_WAIT r) < k then
    if s.get (Reg.SHD_TIMING.CLAIM_TRIES r) ≤ tries then s.claimResult r 3
    else s.setRing r { x with sendIn := some k }
  else s

/-- The present instant lies in the first claim window of the cycle (R175). -/
def inClaimWindow (s : Dev) (r : Nat) : Bool :=
  let ph := (s.ringSchedule r).phase s.now
  let l := (s.slots r (s.slotBank r)).filter fun x => x.kind == 3
  l.any fun x => (l.all fun y => Nat.ble x.ofs y.ofs) && Nat.ble (x.ofs * 65536) ph && Nat.blt ph ((x.ofs + x.dur) * 65536)

/-- A claim due in this cycle is sent in its first claim window, with GEN advanced (R175); not during a table mismatch (R173). -/
def claimSend (s : Dev) (r : Nat) : Dev :=
  let x := s.ring r
  if x.sendIn ≠ some (s.cycleIdx r) ∨ ¬ s.inClaimWindow r ∨ s.bit (Reg.SHD_STATE.TABLE_MISMATCH r) then s
  else
    let s := s.put (Reg.SHD_CLAIM_STAT.GEN r) (s.get (Reg.SHD_CLAIM_STAT.GEN r) + 1)
    let s := s.put (Reg.SHD_CLAIM_STAT.TRIES_USED r) (s.get (Reg.SHD_CLAIM_STAT.TRIES_USED r) + 1)
    let s := s.setRing r { x with sendIn := none, sentCycle := s.cycleIdx r }
    let body := octetsBE 1 (s.get (Reg.SHD_CLAIM.CLAIM_ID r)) ++ octetsBE 1 (s.get (Reg.SHD_CLAIM_STAT.GEN r))
      ++ octetsBE 2 ((s.bit (Reg.SHD_CLAIM.RELEASE r)).toNat * 0x8000 + s.get (Reg.SHD_CLAIM.SLOT r)) ++ octetsBE 4 (cycleNo (s.cycleIdx r))
    let data := s.controlFrame (eastPort r) true 2 1 0 body
    match s.allocDevice .device data 1 with
    | none => s
    | some (d, s) => s.queueRing (eastPort r) 7 { desc := d, data := data }

/-! ### The notice map (R107–R109) -/

/-- LIMIT: 1 to 1,024, others act as 1,024. -/
def noticeLimit (s : Dev) : Nat := let l := s.get Reg.FRM_NOTICE_CTL.LIMIT; if 1 ≤ l ∧ l ≤ 1024 then l else 1024

/-- A notice may open an incident; at most one NOTICE bit is set per cycle of a ring, a later one is held (R108). -/
def noticeIncident (s : Dev) (r code subject : Nat) : Dev :=
  if s.bit Reg.FRM_NOTICE_CTL.OPEN ∧ s.get Reg.FRM_NOTICE_INC.CODE = code ∧ s.get Reg.FRM_NOTICE_INC.SUBJECT = subject then s
  else
    let s := ((s.put Reg.FRM_NOTICE_INC.CODE code).put Reg.FRM_NOTICE_INC.SUBJECT subject).put Reg.FRM_NOTICE_CTL.OPEN 1
    if (s.ring r).incidentSet then s.put ⟨Reg.FRM_NOTICE_CTL, 28 + r, 1⟩ 1
    else (s.raise bFRM r).setRing r { s.ring r with incidentSet := true }

/-- A fault notice that arrives on ring `r` (R107, R109). -/
def noticeTake (s : Dev) (r src code subject : Nat) : Dev := s.atBlock bFRM fun s =>
  let x := s.ring r
  if s.noticeLimit ≤ x.notices then
    let s := (s.inc Reg.FRM_NOTICE_POLICED.COUNT).raise bFRM 2
    if x.flooded then s else (s.setRing r { x with flooded := true }).fault bFRM 3
  else
    let s := s.setRing r { x with notices := x.notices + 1 }
    let s := (s.put ⟨Reg.FRM_NOTICE_MAP (src / 32), src % 32, 1⟩ 1).inc Reg.FRM_NOTICE_CNT.COUNT
    s.noticeIncident r code subject

/-- At a cycle boundary the ring's notice count starts anew, and a held incident sets its bit (R108, R109). -/
def noticeCycle (s : Dev) (r : Nat) : Dev :=
  let held := s.bit ⟨Reg.FRM_NOTICE_CTL, 28 + r, 1⟩
  let s := s.setRing r { s.ring r with notices := 0, flooded := false, incidentSet := held }
  s.when held fun s => (s.put ⟨Reg.FRM_NOTICE_CTL, 28 + r, 1⟩ 0).raise bFRM r

/-! ### Breaks, wraps and restoration (R178–R184) -/

/-- The frames queued for a port that wraps move to the other port; those of this node that would leave east are removed, and a cut-off node discards them (R161, R180). -/
def turnQueues (s : Dev) (p : Nat) : Dev :=
  let o := otherPort p
  let s := (s.creditSyncAll p).creditSyncAll o
  (List.range 8).foldl (fun s c =>
    let q := s.classQueue p c
    if q = [] then s
    else if s.wrapped o then
      q.foldl (fun s e => (s.inc (Reg.SHD_PASS_LATE.COUNT (ringOf p))).releaseCopy e.desc) (s.setClassQueue p c [])
    else
      let gone (e : QEnt) : Bool := e.relay.isSome && o % 2 == 1 && fieldBE e.data 16 2 == s.sysAddr && !isBeacon e.data
      q.foldl (fun s e => if gone e then s.releaseCopy e.desc else s.queueCopy o c { e with data := s.leavingBy e.data (o % 2 == 0) }) (s.setClassQueue p c [])) s

/-- A port that detected a break is wrapped (R180, R182). -/
def wrap (s : Dev) (p : Nat) : Dev :=
  let r := ringOf p
  let code := (s.side p).broken
  if code = 0 ∨ s.wrapped p ∨ ¬ s.ringEn r then s
  else
    let s := s.modSide p fun d => { d with broken := 0, soloMiss := 0 }
    let s := (s.put (wrapFld p) 1).raise bSHD r
    let s := (s.inc (Reg.SHD_WRAP_CNT.COUNT r)).fault bSHD r
    let s := s.ringTrace r 1 (p % 2 == 1) 0
    (s.turnQueues p).notice code (s.side p).neighbour 0

/-- A port that detected a break begins to send the link fault indication, wrapped by then or not (R179). -/
def faultIndication (s : Dev) (p : Nat) : Dev :=
  s.when ((s.side p).indDue || (s.wrapped p && !s.linkUp p)) fun s => s.modSide p fun d => { d with indicating := true, indAt := s.up, indDue := false }

/-- The port sends the link fault indication: while its own receive path shows link loss, and for 10 µs (R179). -/
def indicates (s : Dev) (p : Nat) : Bool := (s.side p).indicating && (!s.linkUp p || Nat.blt s.up ((s.side p).indAt + 10000))

/-- The port makes a new proposal (R183). -/
def propose (s : Dev) (p : Nat) : Dev :=
  let r := ringOf p
  let u := cycleNo (s.cycleIdx r + max 2 (s.get (Reg.SHD_CLEAN.UNWRAP_LEAD r)))
  s.modSide p fun d => { d with proposal := some u, partnerOkAt := none }

/-- CLEAN_MS in ns. -/
def cleanNs (s : Dev) (r : Nat) : Nat := max 1 (s.get (Reg.SHD_CLEAN.CLEAN_MS r)) * 1000000

/-- A wrapped port has been clean for CLEAN_MS (R183). -/
def clean (s : Dev) (p : Nat) : Dev :=
  match (s.side p).cleanAt with
  | none => s
  | some t =>
    if ¬ s.wrapped p ∨ ¬ s.linkUp p ∨ s.bit (readyFld p) ∨ s.up < t + s.cleanNs (ringOf p) then s
    else (s.put (readyFld p) 1).propose p

/-- A wrapped port with its link up sends one link frame in class 6 out of itself (R183, R184). -/
def linkFrame (s : Dev) (p : Nat) : Dev :=
  let d := s.side p
  let ready := s.bit (readyFld p)
  let body := octetsBE 1 (ready.toNat * 0x80) ++ octetsBE 3 0
    ++ octetsBE 4 (if ready then d.proposal.getD 0 else 0) ++ octetsBE 4 d.partnerProp
  let data := withRev (s.controlFrame p false 4 0 d.neighbour body) (p % 2 == 0)
  match s.allocDevice .device data 1 with
  | none => s
  | some (n, s) => s.queueCopy p 6 { desc := n, data := data }

/-- The later of two cycle numbers (R5). -/
def later (a b : Nat) : Nat := if 0 < sdiff b a 32 then b else a

/-- What a cycle start `k` does to a wrapped port: the agreed unwrap, or a proposal withdrawn and made anew (R184). -/
def unwrapCycle (s : Dev) (p k : Nat) : Dev :=
  let r := ringOf p
  let d := s.side p
  match d.proposal with
  | none => s
  | some own =>
    if ¬ s.wrapped p then s
    else
      let u := if d.partnerReady then later own d.partnerProp else own
      let ok := match d.partnerOkAt with
        | some c => decide (sdiff c (ofSigned 32 ((u : Int) - 1)) 32 < 0)
        | none => false
      if ok then
        if sdiff k u 32 < 0 then s
        else
          let s := (s.put (wrapFld p) 0).put (readyFld p) 0
          let s := s.modSide p fun d => { d with proposal := none, partnerReady := false, partnerProp := 0, partnerEcho := 0, partnerOkAt := none, soloMiss := 0 }
          ((s.raise bSHD (2 + r)).inc (Reg.SHD_UNWRAP_CNT.COUNT r)).ringTrace r 2 (p % 2 == 1) 0
      else if sdiff k (ofSigned 32 ((u : Int) - 1)) 32 < 0 then s
      else s.propose p

/-- A link frame from the partner (R184). -/
def linkFrameTake (s : Dev) (p : Nat) (data : List Octet) : Dev :=
  let ready := (fieldBE data 26 1).testBit 7
  let prop := fieldBE data 30 4
  let echo := fieldBE data 34 4
  let k := cycleNo (s.cycleIdx (ringOf p))
  s.modSide p fun d => { d with
    partnerReady := ready
    partnerProp := prop
    partnerEcho := echo
    partnerOkAt := if ready && decide (d.proposal = some echo) then some (d.partnerOkAt.getD k) else none }

/-! ### The ring cycle (R168, R169, R178) -/

/-- Misses and receptions of the cycle that ended are counted, and beacon loss decided (R168, R178, R188). -/
def missCycle (s : Dev) (r : Nat) : Dev :=
  let x := s.ring r
  let step (d o : Side) : Side := { d with
    gotPrev := d.got, got := false
    miss := if d.got then 0 else d.miss + 1
    soloMiss := if d.got ∨ ¬ o.got then 0 else d.soloMiss + 1 }
  let s := s.setRing r { x with west := step x.west x.east, east := step x.east x.west }
  [2 * r, 2 * r + 1].foldl (fun s p =>
    if (s.side p).soloMiss = 3 ∧ ¬ s.bit (Reg.SHD_STATE.MASTER_LOST r) ∧ ¬ s.wrapped p then (s.fault bSHD 2).detectBreak p 2
    else s) s

/-- Both ports have missed BACKUP_MISS cycles (R168, R182). -/
def masterLost (s : Dev) (r : Nat) : Dev :=
  let x := s.ring r
  let lim := max 1 (s.get (Reg.SHD_TIMING.BACKUP_MISS r))
  if lim ≤ x.west.miss ∧ lim ≤ x.east.miss ∧ ¬ s.bit (Reg.SHD_STATE.MASTER_LOST r) then
    let s := ((s.put (Reg.SHD_STATE.MASTER_LOST r) 1).raise bSHD 6).inc (Reg.SHD_BCN_MISS.COUNT r)
    let s := (s.fault bSHD 3).notice 3 (s.masterAddr r) 0
    s.when (s.get (Reg.SHD_RING_CFG.ROLE r) == 2 && !(s.ring r).backupOn) fun s => s.setRing r { s.ring r with backupStart := true }
  else s

/-- ROLE_NOW at a cycle start (R168, R169). -/
def roleCycle (s : Dev) (r : Nat) : Dev :=
  let x := s.ring r
  let role := s.get (Reg.SHD_RING_CFG.ROLE r)
  let on := role == 2 && ((x.backupOn && !x.backupStop) || x.backupStart)
  let now := if role = 1 ∨ on then 1 else if role = 2 then 2 else 0
  let was := s.get (Reg.SHD_STATE.ROLE_NOW r)
  let took := now == 1 && was != 1
  let s := s.when (x.backupOn != on) fun s => s.raise bSHD 9
  let s := s.setRing r { x with
    backupOn := on, backupStart := false, backupStop := false
    accepted := if took then [] else x.accepted, listed := if took then [] else x.listed
    roleAt := if took then s.up else x.roleAt
    roleCycles := if took then 0 else x.roleCycles + 1 }
  let s := s.put (Reg.SHD_STATE.ROLE_NOW r) now
  if took then s.put (Reg.SHD_STATE.HOLDOFF r) 1
  else s.when (now != 1) fun s => s.put (Reg.SHD_STATE.HOLDOFF r) 0

/-- A ring cycle starts at the east port's gate cycle start (R165–R184). -/
def ringCycle (s : Dev) (r : Nat) : Dev :=
  let k := s.cycleIdx r
  if ¬ s.ringEn r ∨ ¬ s.gating (eastPort r) ∨ (s.ring r).cycle = some k then s
  else
    let seen := (s.ring r).cycle.isSome
    let s := s.when seen fun s => s.missCycle r
    let s := s.roleCycle r
    let s := s.when seen fun s => s.masterLost r
    let grants := (s.ring r).grants
    let s := s.setRing r { s.ring r with
      cycle := some k, grants := [], accepted := [], listing := (s.ring r).accepted, listed := (s.ring r).listed ++ (s.ring r).accepted
      beaconDue := if s.isMaster r then some k else none }
    let s := grants.foldl (fun s g => s.applyGrant r g) s
    let s := (s.noticeCycle r).claimCycle r k
    let s := (s.unwrapCycle (2 * r) (cycleNo k)).unwrapCycle (2 * r + 1) (cycleNo k)
    let s := [2 * r, 2 * r + 1].foldl (fun s p => if s.wrapped p && s.linkUp p then s.linkFrame p else s) s
    (s.reassignSlots r).beaconSlot r

/-- The holdoff of a new master ends (R169). -/
def holdoffEnd (s : Dev) (r : Nat) : Dev :=
  let x := s.ring r
  if s.bit (Reg.SHD_STATE.HOLDOFF r) ∧ 8 ≤ x.roleCycles ∧ x.roleAt + s.get (Reg.SHD_TIMING.HOLDOFF_MS r) * 1000000 ≤ s.up then
    s.put (Reg.SHD_STATE.HOLDOFF r) 0
  else s

/-! ### Relays (R161) -/

/-- A counted drop at step 6 of R94: PRT_RX_OVF_DROP and the FRM counter (R99). -/
def dropNoRoom (s : Dev) (p : Nat) (a : Alloc) : Dev :=
  let s := s.incRx p 19
  match a with
  | .noDesc => s.inc Reg.FRM_DROP_DESC.COUNT
  | .noGran => s.inc Reg.FRM_DROP_GRAN.COUNT
  | .ok _ => s

/-- How a relayed frame's correction is completed at egress (R42, R165); `t` is its ingress stamp. A Follow_Up matches the Sync of the same sourcePortIdentity and sequenceId. -/
def relayFix (s : Dev) (p t : Nat) (data : List Octet) : Fixup :=
  let plain := removeRingTag data
  let q := parse plain
  let o := q.body + 6
  let type := fieldBE plain q.body 1 % 16
  let key := 1000 + 2 * (fieldBE plain (q.body + 20) 12) + ringOf p
  if (fieldBE data 14 2).testBit 13 then (if fieldBE data 18 1 = 1 then .sync 42 t (s.linkDelay p) else .none)
  else if q.etype = 0x88F7 then
    if type = 0 then
      if (fieldBE plain (q.body + 6) 1).testBit 1 then .twoStep key t (s.linkDelay p) else .sync (o + 8) t (s.linkDelay p)
    else if type = 8 then .followUp key (o + 8)
    else if type ≤ 3 then .residence (o + 8) t
    else .none
  else .none

/-- A tagged frame received at port `p` is relayed out of the other port, or removed (R161); `src` is its SRC. -/
def relay (s : Dev) (p t src : Nat) (data : List Octet) : Dev :=
  let r := ringOf p
  let flags := fieldBE data 14 2
  let ctrl := flags.testBit 13
  let type := fieldBE data 18 1
  let hops := flags % 1024 + 1
  let o := otherPort p
  let q := if s.wrapped o then p else o
  let own := src == s.sysAddr
  let da := fieldBE data 0 6
  if ctrl ∧ type = 1 ∧ own then s
  else if own ∧ q % 2 = 1 then s
  else if s.get (Reg.SHD_RING_CFG.HOP_LIMIT r) < hops then (s.inc (Reg.SHD_STRIP_HOPS.COUNT r)).fault bSHD 6
  else if ¬ ctrl ∧ (da = s.macOf (2 * r) ∨ da = s.macOf (2 * r + 1)) then s
  else if ctrl ∧ type = 4 then s
  else
    let data := patch data 14 (octetsBE 2 (flags / 1024 * 1024 + hops % 1024))
    let data := if ctrl && type == 1 then
        let d1 := patch data 52 (octetsBE 2 s.sysAddr)
        let d2 := if s.ringWrapped r then patch d1 54 (octetsBE 1 (fieldBE d1 54 1 ||| 0x80)) else d1
        let b := 58 + s.nodeId / 8
        patch d2 b (octetsBE 1 (fieldBE d2 b 1 ||| 2 ^ (7 - s.nodeId % 8)))
      else data
    match s.allocCheck (.pass r) (frameLen data) with
    | .ok sh =>
      let (d, s) := s.placeFrame (.pass r) sh data 1 p
      let c :=
        if flags.testBit 14 then 7
        else if ctrl then 6
        else
          let c := s.classOf q (s.frameprio q (removeRingTag data))
          if c = 7 then 6 else c
      s.queueRing o c { desc := d, data := data, relay := some r, fix := s.relayFix p t data }
    | a => s.dropNoRoom p a

/-- A link frame of the Shroud (R184). -/
def isLinkFrame (s : Dev) (data : List Octet) : Bool :=
  (ringTag (s.get Reg.SHD_CFG.ETYPE) data).isSome && (fieldBE data 14 2).testBit 13 && fieldBE data 18 1 == 4

/-- The Shroud takes a tagged frame at ring port `p` with ingress stamp `t`; the local copy, if one is made, goes on (R162). -/
def shroudTake (s : Dev) (p t : Nat) (data : List Octet) : Option (List Octet) × Dev :=
  let r := ringOf p
  let flags := fieldBE data 14 2
  let src := fieldBE data 16 2
  let ctrl := flags.testBit 13
  let type := fieldBE data 18 1
  if ¬ s.ringEn r then (none, s)
  else
    let s := s.when (flags.testBit 15) fun s => s.inc (Reg.SHD_REV_RX.COUNT r)
    if ctrl then
      if type = 1 then (none, (s.beaconCopy p t src data).relay p t src data)
      else if type = 2 then (none, (s.claimTake p src data).relay p t src data)
      else if type = 3 then (none, (s.noticeTake r src (fieldBE data 26 1) (fieldBE data 28 2)).relay p t src data)
      else if type = 4 then (none, s.linkFrameTake p data)
      else (none, s.inc (Reg.SHD_UNTAGGED.COUNT r))
    else (if src = s.sysAddr then none else some (removeRingTag data), s.relay p t src data)

/-! ### Host writes (R172, R182) -/

/-- A SWAP write arms a change of slot table bank (R172). -/
def slotSwap (s : Dev) (r : Nat) : Dev := s.put (Reg.SHD_SLOT_CTL.SWAP_PEND r) 1

/-- A software notice on the ring of the register's set; codes below 0x10 have no effect (R182). -/
def noticeTx (s : Dev) (r code subject : Nat) : Dev :=
  s.when (Nat.ble 0x10 code && s.ringEn r) fun s => s.noticeOn r code subject 0

/-- The word of a claim START over the present fields. -/
def claimStartWord (s : Dev) (r : Nat) : Word := s.word (Reg.SHD_CLAIM r) ||| 0x80000000

/-- A write of FRM_NOTICE_CTL.ACK closes the incident (R108). -/
def noticeAck (s : Dev) : Dev := s.put Reg.FRM_NOTICE_CTL.OPEN 0

end Dev

/-- RING_CYCLE_START (R165). -/
def execRingCycleStart (r : Fin 2) (s : State) := devStep (fun d => d.atBlock bSHD (·.ringCycle r)) s
/-- HOLDOFF_END (R169). -/
def execHoldoffEnd (r : Fin 2) (s : State) := devStep (fun d => d.atBlock bSHD (·.holdoffEnd r)) s
/-- SLOT_SWAP (R172). -/
def execSlotSwap (r : Fin 2) (s : State) := devStep (fun d => d.hostGate bSHD (Reg.SHD_SLOT_CTL r) 1 (·.slotSwap r)) s
/-- CLAIM_START (R175). -/
def execClaimStart (r : Fin 2) (s : State) :=
  devStep (fun d => d.hostGate bSHD (Reg.SHD_CLAIM r) (d.claimStartWord r) fun d => d.claimWrite r (d.claimStartWord r)) s
/-- CLAIM_SEND (R175). -/
def execClaimSend (r : Fin 2) (s : State) := devStep (fun d => d.atBlock bSHD (·.claimSend r)) s
/-- WRAP (R180). -/
def execWrap (p : Fin 4) (s : State) := devStep (fun d => d.atBlock bSHD (·.wrap p)) s
/-- NOTICE_TX_SEND (R182). -/
def execNoticeTxSend (r : Fin 2) (code : BitVec 8) (subject : BitVec 16) (s : State) :=
  devStep (fun d => d.hostGate bSHD (Reg.SHD_NOTICE_TX r) 0x80000000 (·.noticeTx r code.toNat subject.toNat)) s
/-- LINK_FAULT_INDICATION (R179). -/
def execLinkFaultIndication (p : Fin 4) (s : State) := devStep (fun d => d.atBlock bSHD (·.faultIndication p)) s
/-- CLEAN (R183). -/
def execClean (p : Fin 4) (s : State) := devStep (fun d => d.atBlock bSHD (·.clean p)) s
/-- NOTICE_ACK (R108). -/
def execNoticeAck (s : State) := devStep (fun d => d.hostGate bFRM Reg.FRM_NOTICE_CTL 0x80000000 (·.noticeAck)) s

end Sys2Proof.Machine
end

