-- ==== Sys2Proof/Machine/Time.lean ====
section
/-! DEFINITION. Network time (spec/02_network_time.md): the servo, steps of time, the pair of Halyards, local copies, and the PTP messages of the ports. -/

namespace Sys2Proof.Machine

namespace Dev

/-! ### The rate word and steps (R27–R30, R33) -/

/-- The limit of RATE, 500 ppm (R28). -/
def rateLimit : Int := 549755813

/-- TIM_SERVO.STATE. -/
def servo (s : Dev) : Nat := s.get Reg.TIM_SERVO.STATE
abbrev servoFree := 0
abbrev servoAcquiring := 1
abbrev servoLocked := 2
abbrev servoSlewing := 3
abbrev servoHoldover := 4
abbrev servoMaster := 5
/-- Replace it. -/
def setServo (s : Dev) (st : Nat) : Dev := s.put Reg.TIM_SERVO.STATE st

/-- RATE takes a value, clamped (R28); its last value in LOCKED is kept for HOLDOVER (R34). -/
def setRate (s : Dev) (r : Int) : Dev :=
  let r := max (-rateLimit) (min rateLimit r)
  let s := s.put Reg.TIM_RATE.RATE (ofSigned 32 r)
  if s.servo = servoLocked then { s with tim := { s.tim with lockedRate := r } } else s

/-- LOOP_FREEZE (R34). -/
def loopFreeze (s : Dev) : Bool := s.bit (ctlBit bTIM 16)
/-- SERVO_EN. -/
def servoEn (s : Dev) : Bool := s.bit (ctlBit bTIM 0)
/-- The servo sets RATE, unless the loop is frozen (R34). -/
def servoRate (s : Dev) (r : Int) : Dev := if s.loopFreeze then s else s.setRate r

/-- Every local time jumps by `delta` in 2^-40 ns in one core clock (R33): skipped actions are released, schedules and remote angle domains react. -/
def timeJump (s : Dev) (delta : Int) : Dev :=
  let t0 := s.now
  let d := max delta (-(min s.tim.accA s.tim.accB : Nat))
  let s := { s with tim := { s.tim with
    accA := ((s.tim.accA : Int) + d).toNat
    accB := ((s.tim.accB : Int) + d).toNat
    steps := s.tim.steps + d
    theta := s.offsetNow - d
    applied := 0 } }
  let s := if t0 < s.now then ((s.scrTimeStep t0).chkTimeStep t0).celTimeStep t0 else s
  (s.angTimeStep).gatesAfterStep t0

/-- The one step of an episode: STEP_USED and STEPPED (R29). -/
def episodeStep (s : Dev) (delta : Int) : Dev :=
  ((s.put (statusBit bTIM 4) 1).raise bTIM 8).timeJump delta

/-! ### The servo (R29–R34, R428, R429) -/

/-- STEP_THR in 2^-40 ns; values below 100 act as 100. -/
def stepThr (s : Dev) : Int := (max 100 (s.get Reg.TIM_CFG.STEP_THR) : Nat) * 2 ^ 40

/-- Entry to LOCKED: I takes the RATE held (R428). -/
def enterLocked (s : Dev) : Dev :=
  let r := s.getS Reg.TIM_RATE.RATE
  let s := s.setServo servoLocked
  { s with tim := { s.tim with integ := if s.loopFreeze then s.tim.integ else r * (1000000000 * 2 ^ 24), lockedRate := r } }

/-- RATE at the limit in the direction that closes the offset (R30). -/
def slewRate (s : Dev) : Dev := s.servoRate (if 0 < s.offsetNow then rateLimit else -rateLimit)

/-- A step is refused and the servo enters SLEWING (R30). -/
def refuseStep (s : Dev) : Dev :=
  let s := (s.raise bTIM 9).inc Reg.TIM_REFUSED_CNT.COUNT
  ((s.fault bTIM 3).setServo servoSlewing).slewRate

/-- LOCKED or SLEWING by the comparison of R30. -/
def judge (s : Dev) : Dev :=
  if s.stepThr ≤ |s.offsetNow| then s.refuseStep else s.enterLocked

/-- SERVO_BW as a power of two over 8 Hz; values above 3 act as 3. -/
def servoBw (s : Dev) : Nat := min 3 (s.get Reg.TIM_CFG.SERVO_BW)

/-- Ki × θ × Δ in 2^-64 ns per s, θ and Δ in 2^-40 ns (R428). -/
def servoInteg (s : Dev) (theta delta : Int) : Int :=
  ((Config.piScaled ^ 2 * 4 ^ s.servoBw : Nat) * theta * delta) / (16 * 10 ^ 40 * 2 ^ 16 * 10 ^ 9)

/-- Kp × θ in 2^-64 ns per s (R428). -/
def servoProp (s : Dev) (theta : Int) : Int :=
  ((14142 * Config.piScaled * 2 ^ s.servoBw * 2 ^ 24 : Nat) * theta) / (10 ^ 4 * (4 * 10 ^ 20))

/-- The proportional-integral law at one Sync accepted in LOCKED, `delta` after the previous one (R428). -/
def servoLaw (s : Dev) (delta : Int) : Dev :=
  if s.loopFreeze then s
  else
    let th := s.tim.theta
    let i := s.tim.integ + s.servoInteg th delta
    let y := i + s.servoProp th
    let r := (2 * y + 2 ^ 24 * 1000000000) / (2 ^ 25 * 1000000000)
    let c := max (-rateLimit) (min rateLimit r)
    let i := if c = r then i else c * (1000000000 * 2 ^ 24) - s.servoProp th
    ({ s with tim := { s.tim with integ := i } }).setRate c

/-- The magnitude of the offset is below STEP_THR / 2 (R30). -/
def offsetSmall (s : Dev) : Bool := decide (2 * |s.offsetNow| < s.stepThr)

/-- What an accepted Sync does to the servo, `delta` after the previous one, on port `p` (R29, R30, R34, R428, R429). -/
def servoSync (s : Dev) (p : Nat) (delta : Int) : Dev :=
  let st := s.servo
  if ¬ s.servoEn then s
  else if st = servoFree then { s.setServo servoAcquiring with tim := { s.tim with syncs := 1 } }
  else if st = servoAcquiring then
    let s := { s with tim := { s.tim with syncs := s.tim.syncs + 1 } }
    if s.tim.syncs < 2 ∨ Tab.get (fun _ => 0) s.tim.delay p = 0 then s
    else if s.bit (statusBit bTIM 4) then s.judge
    else if s.tim.setEpisode then s
    else (s.episodeStep s.offsetNow).enterLocked
  else if st = servoLocked then
    if s.stepThr ≤ |s.offsetNow| then s.refuseStep else s.servoLaw delta
  else if st = servoSlewing then (if s.offsetSmall then s.enterLocked else s.slewRate)
  else if st = servoHoldover then s.judge
  else s

/-! ### The source of time (R39, R41) -/

/-- Which source a port belongs to: 0 ring A, 1 ring B, 2 the edge ports. -/
def sourceOf (p : Nat) : Nat := min 2 (p / 2)

/-- The source from which the servo takes time, as it would choose it now (R41). -/
def wantedSource (s : Dev) : Nat :=
  let m := s.get Reg.TIM_CFG.SRC_RING
  if m = 0 then (if s.ringIsWrapped 0 && !s.ringIsWrapped 1 then 1 else 0) else m - 1

/-- Replace the slave port of a source. -/
def setSlave (s : Dev) (src : Nat) (p : Option Nat) : Dev :=
  { s with tim := { s.tim with slaves := Tab.set (fun _ => 0) s.tim.slaves src (match p with
    | some p => p + 1
    | none => 0) } }

/-- Port `p` may be the slave port of its source: it has a PTP role that can be slave, and no other port is. -/
def mayFollow (s : Dev) (p : Nat) : Bool :=
  s.ptpRole p != 0 && s.ptpRole p != 4 && (match s.slaveOf (sourceOf p) with
    | none => true
    | some q => q == p)

/-- The grandmaster is now `gm`: a change sets GM_CHANGED, and the Sync messages are counted anew (R29, R31). -/
def takeGm (s : Dev) (gm : Nat) : Dev :=
  if s.tim.gm = gm then s
  else
    let s := s.when (s.tim.gm != 0) (·.raise bTIM 11)
    { s with tim := { s.tim with gm := gm, syncs := 0 } }

/-- An edge port that becomes the servo's slave port clears DS_EN and renegotiates to SPEED_MAX (R82). -/
def slaveDsClear (s : Dev) (p : Nat) : Dev :=
  if 4 ≤ p ∧ s.bit (Reg.PRT_DS.DS_EN p) then
    (s.put (Reg.PRT_DS.DS_EN p) 0).when (Nat.blt (s.rate p) (s.get (Reg.PRT_MODE.SPEED_MAX p))) (·.reneg p)
  else s

/-- SLAVE_PORT of TIM_SERVO follows the slave port of the source. A change from one port to another sets GM_CHANGED or RING_SWITCH (R31): which of the two where neither the grandmaster nor the ring changes with it (`alone`) is stated nowhere, a free value (log entry 60). -/
def showSlave (s : Dev) (p : Option Nat) (alone : Bool) : Dev :=
  let old := s.get Reg.TIM_SERVO.SLAVE_PORT
  let new := p.getD 0xFF
  if old = new then s
  else
    let s := if alone && old != 0xFF && new != 0xFF then
        let (w, s) := s.freeWord
        s.raise bTIM (if w % 2 = 0 then 11 else 13)
      else s
    let s := { s.put Reg.TIM_SERVO.SLAVE_PORT new with tim := { s.tim with syncs := 0 } }
    match p with
    | some q => s.slaveDsClear q
    | none => s

/-- Receive stamp at port `p` in 2^-16 ns of a frame that started `since` ago (R40). -/
def ingressStamp (s : Dev) (p since : Nat) : Int := (s.now : Int) - since - s.get (Reg.TIM_LAT.ING_LAT p) * 65536

/-- A wrapped ring port discards the messages it receives (R181). -/
def rxWrapped (s : Dev) (p : Nat) : Bool := Nat.blt p 4 && s.wrapped p

/-- SYNC_RECEIVED: a Sync of grandmaster `gm` with time `origin` and corrections `corr` in 2^-16 ns, whose frame started `since` ago (R30, R40, R41, R428). -/
def syncReceived (s : Dev) (p gm origin : Nat) (corr logIvl : Int) (since : Nat) : Dev :=
  let src := sourceOf p
  if s.isGrave bTIM ∨ ¬ s.tim.counting ∨ src ≠ s.wantedSource ∨ ¬ s.mayFollow p ∨ s.rxWrapped p then s
  else
    let alone := decide (s.tim.ring = some src) && s.tim.gm == gm
    let s := s.when (s.tim.ring.isSome && s.tim.ring != some src) (·.raise bTIM 13)
    let s := { s with tim := { s.tim with ring := some src } }
    let s := ((s.setSlave src (some p)).showSlave (some p) alone).takeGm gm
    let lat : Int := s.get (Reg.TIM_LAT.ING_LAT p)
    let rx := s.stepless - lat * 2 ^ 40 - since * 2 ^ 24
    let master : Int := (origin : Int) + corr + s.linkDelay p
    let theta := (master - s.ingressStamp p since) * 2 ^ 24
    let delta := match s.tim.syncAt with
      | some t => rx - t
      | none => 0
    let s := { s with tim := { s.tim with
      theta := theta, applied := 0, est := master * 2 ^ 24
      syncAt := some rx, syncLog := logIvl } }
    s.servoSync p delta

/-- SLEWING_END (R30). -/
def slewingEnd (s : Dev) : Dev :=
  if s.servo = servoSlewing ∧ s.offsetSmall then s.enterLocked else s

/-- The exponent n of the sync interval (R34). -/
def syncExp (s : Dev) : Int :=
  if -7 ≤ s.tim.syncLog ∧ s.tim.syncLog ≤ 4 then s.tim.syncLog else s.getS Reg.TIM_INTERVAL.LOG_SYNC

/-- A time in 2^-40 ns is at least `k` intervals of 2^n s. -/
def atLeastIntervals (t : Int) (k : Nat) (n : Int) : Bool :=
  decide ((k : Int) * 1000000000 * 2 ^ 40 * 2 ^ n.toNat ≤ t * 2 ^ (-n).toNat)

/-- HOLDOVER: three sync intervals without a Sync (R34). A RATE that LOOP_FREEZE has kept here or in SLEWING stays as it is when LOOP_FREEZE clears, until the next Sync or change of state sets it (DESIGN CHOICE, log entry 62). -/
def holdover (s : Dev) : Dev :=
  match s.tim.syncAt with
  | none => s
  | some t =>
    if (s.servo = servoLocked ∨ s.servo = servoSlewing) ∧ atLeastIntervals (s.stepless - t) 3 s.syncExp then
      (s.setServo servoHoldover).servoRate s.tim.lockedRate
    else s

/-- EPISODE_START (R32, R429). -/
def episodeStart (s : Dev) (set : Bool) : Dev :=
  if s.isGrave bTIM then s
  else
    let s := (s.inc Reg.TIM_SERVO.EPISODE).put (statusBit bTIM 4) 0
    let s := { s with tim := { s.tim with syncs := 0, setDue := set, setEpisode := set } }
    if s.servoEn then s.setServo servoAcquiring else s

/-- At the tick after a START with SET, the episode's step loads TIM_SET (R29). -/
def setLoad (s : Dev) : Dev :=
  if s.tim.setDue then
    let s := { s with tim := { s.tim with setDue := false } }
    s.episodeStep ((ofStamp (s.stamp3 Reg.TIM_SET_LO) : Int) * 2 ^ 24 - s.dist40)
  else s

/-- What a write of SERVO_EN does to the servo (R429). -/
def servoEnWrite (s : Dev) (en : Bool) : Dev :=
  let s := s.putBit (ctlBit bTIM 0) en
  if ¬ en ∧ servoAcquiring ≤ s.servo ∧ s.servo ≤ servoHoldover then s.setServo servoFree else s

/-- A write of TIM_RATE has effect while SERVO_EN is 0, clamped (R28). -/
def rateWrite (s : Dev) (v : Word) : Dev :=
  if s.servoEn then s else s.setRate (toSigned 32 v.toNat)

/-! ### The pair of Halyards (R35–R37) -/

/-- The servo's estimate of network time in 2^-40 ns; none in FREE, ACQUIRING and MASTER (R35). -/
def netEstimate (s : Dev) : Option Int :=
  match s.tim.syncAt with
  | some t => if servoLocked ≤ s.servo ∧ s.servo ≤ servoHoldover then some (s.tim.est + (s.stepless - t)) else none
  | none => none

/-- Halyard B is active. -/
def activeB (s : Dev) : Bool := s.bit (statusBit bTIM 3)

/-- Whether the device keeps Halyard B of two that differ by more than 8 ns (R35). Without an estimate and with neither PLL output in lock, it keeps the active one (DESIGN CHOICE, log entry 63). -/
def keepsB (s : Dev) (lockA lockB : Bool) : Bool :=
  match s.netEstimate with
  | some e =>
    let a := |(s.tim.accA : Int) - e|
    let b := |(s.tim.accB : Int) - e|
    if a = b then s.activeB else decide (b < a)
  | none => if lockA = lockB then s.activeB else lockB

/-- The standby becomes active, with the difference to be removed (R36). -/
def halFailover (s : Dev) : Dev :=
  let d := s.dist40
  let s := (s.putBit (statusBit bTIM 3) (!s.activeB)).raise bTIM 10
  let s := s.inc Reg.TIM_FAILOVER_CNT.COUNT
  { s with tim := { s.tim with hand := (d : Int) - (if s.activeB then s.tim.accB else s.tim.accA : Nat) } }

/-- Load the standby from the active Halyard (R37). -/
def halReload (s : Dev) : Dev :=
  { s with tim := { s.tim with
    loadDue := false, good := 0
    accA := if s.activeB then s.tim.accB else s.tim.accA
    accB := if s.activeB then s.tim.accB else s.tim.accA } }

/-- HALYARD_COMPARISON (R35–R37). TIM_HAL_DIFF shows whole ns, rounded toward zero as TIM_OFFSET and TIM_HANDOVER are (DESIGN CHOICE, log entry 63). -/
def halyardComparison (s : Dev) (lockA lockB : Bool) : Dev :=
  if ¬ s.tim.counting ∨ s.pwr.phase = PowerPhase.hold then s
  else
    let s := if s.tim.loadDue then s.halReload else s
    let diff : Int := (s.tim.accA : Int) - s.tim.accB
    let s := s.put Reg.TIM_HAL_DIFF.DIFF (ofSigned 32 (max (-2147483648) (min 2147483647 (diff.tdiv (2 ^ 40)))))
    if |diff| ≤ 8 * 2 ^ 40 then
      if s.tim.rejected then
        { s with tim := { s.tim with good := s.tim.good + 1, rejected := Nat.blt (s.tim.good + 1) 1000 } }
      else s
    else
      let both := match s.netEstimate with
        | some e => decide (100 * 2 ^ 40 < |(s.tim.accA : Int) - e|) && decide (100 * 2 ^ 40 < |(s.tim.accB : Int) - e|)
        | none => false
      let keepB := if s.tim.rejected then s.activeB else s.keepsB lockA lockB
      let s := s.fault bTIM (if keepB then 0 else 1)
      let s := if keepB ≠ s.activeB then s.halFailover else s
      let s := { s with tim := { s.tim with rejected := true, loadDue := true, good := 0 } }
      s.when both (·.graveFault bTIM 2)

/-- COPY_CHECK: a local copy more than 4 ns off is reloaded (R38). -/
def copyCheck (s : Dev) (dev : Int) : Dev :=
  if |dev| ≤ 4 * 65536 then s
  else ((s.inc Reg.TIM_COPY_ERR.COUNT).fault bTIM 4).raise bTIM 14

/-! ### PTP messages (R39, R40) -/

/-- A value kept for a PTP message to come. -/
def kept (s : Dev) (k : Nat) : Nat := Tab.get (fun _ => 0) s.tim.followUp k
/-- Keep one. -/
def keep (s : Dev) (k v : Nat) : Dev := { s with tim := { s.tim with followUp := Tab.set (fun _ => 0) s.tim.followUp k v } }

/-- The receipt stamp of a delay request of port `p` is kept for its response (R40); `type` is the message type. -/
def ptpReceipt (s : Dev) (p type since : Nat) : Dev :=
  if type = 1 ∨ type = 2 then s.keep (16 + p) ((s.ingressStamp p since).toNat + 1) else s

/-- The outcome of a best master clock algorithm for the source of port `p`: grandmaster, slave port, and the ports in a master role (R31, R39, R82). -/
def bmcaOutcome (s : Dev) (p gm : Nat) (slave : Option Nat) (masters : Nat) : Dev :=
  let src := sourceOf p
  let slave := slave.filter fun q => sourceOf q == src
  let mine := (List.range 8).foldl (fun m q => if sourceOf q = src then m + 2 ^ q else m) 0
  let s := { s.setSlave src slave with tim := { (s.setSlave src slave).tim with
    masters := (s.tim.masters &&& (255 - mine)) ||| (masters &&& mine) } }
  if src ≠ s.tim.ring.getD s.wantedSource then s
  else
    let s := (s.showSlave slave (s.tim.gm == gm)).takeGm gm
    match slave with
    | none => s.setServo servoMaster
    | some _ => s.when (s.servo == servoMaster) (·.setServo servoFree)

/-- Whether the algorithm, and not the configuration, decides the role of a port (R39). -/
def bmcaOn (s : Dev) (p : Nat) : Bool :=
  if p < 4 then s.bit Reg.TIM_CFG.BMCA_EN else s.ptpRole p == 2 || s.ptpRole p == 3

/-- PTP_MESSAGE_RECEIVED: a message of type `type` at a port with a PTP role; what the algorithms of the two standards make of it comes with the command (R39). -/
def ptpReceived (s : Dev) (p type : Nat) (bmca : Option (Nat × Option Nat × Nat)) (delay : Option Nat) (since : Nat) : Dev :=
  if s.ptpRole p = 0 ∨ s.isGrave bTIM ∨ s.rxWrapped p then s
  else
    let s := s.ptpReceipt p type since
    let s := match delay with
      | some d => { s with tim := { s.tim with delay := Tab.set (fun _ => 0) s.tim.delay p (d + 1) } }
      | none => s
    match bmca with
    | some (gm, slave, masters) => if s.bmcaOn p then s.bmcaOutcome p gm slave masters else s
    | none => s

/-- Port `p` is in a master role: by the algorithm, or as master only. -/
def ptpMaster (s : Dev) (p : Nat) : Bool :=
  s.ptpRole p == 4 || (s.bmcaOn p && s.ptpRole p != 5 && s.tim.masters.testBit p)

/-- The interval of a message kind (0 Sync, 2 Announce, 3 Pdelay_Req, 6 Delay_Req) has passed since its last send (R39, TIM_INTERVAL). -/
def ptpDue (s : Dev) (p kind : Nat) : Bool :=
  let n := s.getS (if kind = 0 then Reg.TIM_INTERVAL.LOG_SYNC else if kind = 2 then Reg.TIM_INTERVAL.LOG_ANNOUNCE else Reg.TIM_INTERVAL.LOG_PDELAY)
  let last := Tab.get (fun _ => 0) s.tim.sentAt (8 * kind + p)
  last == 0 || atLeastIntervals (((s.up : Int) - (last - 1)) * 2 ^ 40) 1 n

/-- The octets of a PTP message of port `p` whose part from the header on is `msg`, with its domain number. -/
def ptpData (s : Dev) (p : Nat) (msg : List Octet) : List Octet :=
  let dom := if p < 4 then s.get Reg.TIM_DOMAIN.GPTP_DOMAIN else s.get Reg.TIM_DOMAIN.PTP_DOMAIN
  patch (padTo 60 (octetsBE 6 0x0180C200000E ++ octetsBE 6 (s.macOf p) ++ octetsBE 2 0x88F7 ++ msg)) 18 (octetsBE 1 dom)

/-- Its class: that of the port's default priority, but never class 7 on a ring port (R112). -/
def ptpClass (s : Dev) (p : Nat) : Nat :=
  let c := s.classOf p (s.get (Reg.GTE_PORT_CTL.PRIO_DEFAULT p))
  if p < 4 ∧ c = 7 then 6 else c

/-- One PTP message leaves port `p` from the device pool with its domain number and class (R39, R99, R112), turned at a wrapped ring port (R180); not when the pool has no room. -/
def ptpQueue (s : Dev) (p kind : Nat) (msg : List Octet) (fix : Fixup) : Dev :=
  let data := s.ptpData p msg
  match s.allocDevice .device data 1 with
  | none => s
  | some (d, s) =>
    let c := s.ptpClass p
    let s := { s with tim := { s.tim with sentAt := Tab.set (fun _ => 0) s.tim.sentAt (8 * kind + p) (s.up + 1) } }
    let e : QEnt := { desc := d, data := data, fix := fix }
    if p < 4 then s.queueRing p c e else s.queueCopy p c e

/-- A kept stamp goes into the message that answers with it; nothing is sent while there is none. -/
def ptpAnswer (s : Dev) (p kind key : Nat) (msg : List Octet) (fix : Fixup) : Dev :=
  let t := s.kept key
  if t = 0 then s
  else
    let full := ptpStampInto (padTo 60 (List.replicate 14 0 ++ msg)) (t - 1)
    (s.keep key 0).ptpQueue p kind ((full.take (14 + msg.length)).drop 14) fix

/-- PTP_MESSAGE_SEND: `kind` 0 Sync, 1 Follow_Up, 2 Announce, 3 Pdelay_Req, 4 Pdelay_Resp, 5 Pdelay_Resp_Follow_Up, 6 Delay_Req, 7 Delay_Resp; `msg` the octets that the standard gives the message (R39). -/
def ptpSend (s : Dev) (p kind : Nat) (msg : List Octet) : Dev :=
  let e2e := s.bit (Reg.TIM_PORT_CFG.DELAY_E2E p) && Nat.ble 4 p
  let oneStep := s.bit (Reg.TIM_PORT_CFG.ONE_STEP p)
  let asMaster := kind == 0 || kind == 1 || kind == 2 || kind == 7
  if s.ptpRole p = 0 ∨ ¬ s.blockOn (bPRT p) ∨ (asMaster && (s.isGrave bTIM || !s.ptpMaster p)) then s
  else if kind = 0 then
    if s.ptpDue p 0 then s.ptpQueue p 0 msg (if oneStep then .ptpOrigin else .keepStamp (8 + p)) else s
  else if kind = 1 then (if oneStep then s else s.ptpAnswer p 1 (8 + p) msg .none)
  else if kind = 2 then (if s.ptpDue p 2 then s.ptpQueue p 2 msg .none else s)
  else if kind = 3 then (if !e2e && s.ptpDue p 3 then s.ptpQueue p 3 msg .none else s)
  else if kind = 4 then (if e2e then s else s.ptpAnswer p 4 (16 + p) msg (.keepStamp (24 + p)))
  else if kind = 5 then (if e2e then s else s.ptpAnswer p 5 (24 + p) msg .none)
  else if kind = 6 then (if e2e && s.ptpDue p 6 then s.ptpQueue p 6 msg .none else s)
  else if e2e then s.ptpAnswer p 7 (16 + p) msg .none
  else s

/-! ### One tick of the timebase (R27, R36) -/

/-- What of the handover difference one tick removes: 500 ns per ms (R36). -/
def handStep (h : Int) : Int := if 0 < h then min h rateLimit else max h (-rateLimit)

/-- One tick: both Halyards count, the handover difference shrinks, the offset is lowered, and an offset that reaches STEP_THR in LOCKED is refused (R27, R30, R36). In Hold only Halyard A counts. -/
def timTick (s : Dev) : Dev :=
  if ¬ s.tim.counting then s
  else
    let r := s.getS Reg.TIM_RATE.RATE
    let n : Nat := ((2 ^ 40 : Int) + r).toNat
    let s := { s with tim := { s.tim with
      accA := s.tim.accA + n
      accB := if s.pwr.phase = PowerPhase.hold then s.tim.accB else s.tim.accB + n
      hand := s.tim.hand - handStep s.tim.hand
      applied := s.tim.applied + r } }
    let s := s.setLoad
    if s.servo = servoLocked ∧ s.servoEn ∧ s.stepThr ≤ |s.offsetNow| then s.refuseStep else s

end Dev

/-- SYNC_RECEIVED (R428). -/
def execSyncReceived (a : Arrival) (gm : BitVec 64) (origin : Nat) (corr logIvl : Int) (s : State) :=
  devStep (fun d => d.atBlock bTIM (·.syncReceived a.port gm.toNat origin corr logIvl a.since)) s
/-- SLEWING_END (R30). -/
def execSlewingEnd (s : State) := devStep (fun d => d.atBlock bTIM (·.slewingEnd)) s
/-- HOLDOVER (R34). -/
def execHoldover (s : State) := devStep (fun d => d.atBlock bTIM (·.holdover)) s
/-- EPISODE_START (R32). -/
def execEpisodeStart (set : Bool) (s : State) :=
  devStep (fun d => d.hostGate bTIM Reg.TIM_EPISODE (if set then 3 else 1) (·.episodeStart set)) s
/-- SERVO_DISABLE (R429). -/
def execServoDisable (s : State) :=
  devStep (fun d => d.hostGate bTIM (ctlBit bTIM 0).addr (BitVec.ofNat 32 (fieldSet (d.word (ctlBit bTIM 0).addr).toNat 0 1 0)) (·.servoEnWrite false)) s
/-- SERVO_ENABLE (R429). -/
def execServoEnable (s : State) :=
  devStep (fun d => d.hostGate bTIM (ctlBit bTIM 0).addr (BitVec.ofNat 32 (fieldSet (d.word (ctlBit bTIM 0).addr).toNat 0 1 1)) (·.servoEnWrite true)) s
/-- HALYARD_COMPARISON (R35). -/
def execHalyardComparison (lockA lockB : Bool) (s : State) := devStep (fun d => d.atBlock bTIM (·.halyardComparison lockA lockB)) s
/-- COPY_CHECK (R38). -/
def execCopyCheck (b : Fin 28) (dev : Int) (s : State) := devStep (fun d => d.atBlock bTIM fun d => d.when (d.blockOn b) (·.copyCheck dev)) s
/-- PTP_MESSAGE_RECEIVED (R39). -/
def execPtpMessageReceived (a : Arrival) (type : BitVec 4) (bmca : Option (BitVec 64 × Option (Fin 8) × BitVec 8)) (delay : Option Nat) (s : State) :=
  devStep (fun d => d.atBlock bTIM (·.ptpReceived a.port type.toNat (bmca.map fun x => (x.1.toNat, x.2.1.map (·.val), x.2.2.toNat)) delay a.since)) s
/-- PTP_MESSAGE_SEND (R39). -/
def execPtpMessageSend (p kind : Fin 8) (msg : List Octet) (s : State) := devStep (fun d => d.atBlock bTIM (·.ptpSend p kind msg)) s
/-- TIMEBASE_PLL_UNLOCK (R349). -/
def execTimebasePllUnlock (s : State) := devStep (fun d => d.atBlock bTIM (·.fault bTIM 5)) s

end Sys2Proof.Machine
end

