-- ==== Sys2Proof/Machine/Placement.lean ====
section
/-! DEFINITION. The Rigger (spec/11_placement.md): planned moves, temperature moves, bank sets, evacuation and return of banks, jobs placed on units, and the switching off of empty domains. -/

namespace Sys2Proof.Machine

namespace Dev

/-! ### Policy (R246) -/

/-- POWER_EN. -/
def powerEn (s : Dev) : Bool := s.bit Reg.PLC_POLICY.POWER_EN
/-- LOOP_FREEZE of the Rigger: no planned move and no domain off. -/
def plcFrozen (s : Dev) : Bool := s.bit (ctlBit bPLC 16)

/-- A planned move may be made now (R246): the mode plans moves, the loop is not frozen, the placement has been read back after a STATE_PARITY event, and MOVE_GAP has passed. -/
def mayPlan (s : Dev) : Bool :=
  s.plcMode != 0 && !s.plcFrozen && Nat.ble s.plc.readTill s.up && (match s.plc.moveAt with
    | none => true
    | some t => Nat.ble (t + max 1 (s.get Reg.PLC_POLICY.MOVE_GAP) * 1000000) s.up)

/-- A planned move has been made. -/
def planned (s : Dev) : Dev := { s with plc := { s.plc with moveAt := some s.up } }

/-! ### Cells (R246–R249) -/

/-- Pair `p` may take cell `c` when it moves off its pair, which becomes spare: no cell is moved into a group at or above TEMP_LO (R192, R247, R248). -/
def moveFits (s : Dev) (c p : Nat) : Bool :=
  let g := p / 4
  let good (x : Nat) : Nat := if s.freqMax x = 8 then 1 else 0
  s.pairCarries c p && decide (s.grpTemp g < s.getS Reg.PLC_POLICY.TEMP_LO) && Nat.ble (4 + good g) (s.goodSpares + good (s.celPair c / 4))

/-- The coolest group's lowest pair among candidates in rising order. -/
def coolest (s : Dev) : List Nat → Option Nat
  | [] => none
  | p :: rest => some (rest.foldl (fun a b => if s.grpTemp (b / 4) < s.grpTemp (a / 4) then b else a) p)

/-- Where the policy would move cell `c`: to its pin's pair; in PACK to a lower group, in SPREAD to a cooler one (R246, R259). -/
def planTarget (s : Dev) (c : Nat) : Option Nat :=
  let cur := s.celPair c
  match s.pinTarget 0 c with
  | some p => if p ≠ cur ∧ p < 68 ∧ s.moveFits c p then some p else none
  | none =>
    let fit := (List.range 68).filter fun p => s.moveFits c p
    if s.plcMode = 1 then fit.find? fun p => Nat.blt (p / 4) (cur / 4)
    else match s.coolest fit with
      | some p => if s.grpTemp (p / 4) < s.grpTemp (cur / 4) then some p else none
      | none => none

/-- A planned move of a cell starts only in the core clock of a release, at least 250 ns before its activation's start plus 5 µs (R249). -/
def moveBoundary (s : Dev) (c : Nat) : Bool :=
  let x := s.cell c
  x.run.isNone && s.celState c != celOff && s.celPair c != 0x7F && x.relUp == some s.up && (match x.prevUp with
    | some t => Nat.ble (s.up + 250) (t + 5000)
    | none => false)

/-- Cell `c` moves to pair `p`: its state is copied within 250 ns, in which no activation starts; with an uncorrectable error the move is cancelled (R249). -/
def moveCell (s : Dev) (c p cause : Nat) (ecc : Bool) : Dev :=
  if ecc then s.fault bPLC 0
  else
    let q := s.celPair c
    let s := (s.setPair q 0).placeOn c p
    let s := s.modCell c fun x => { x with holdTill := max x.holdTill (s.up + 250) }
    (s.plcMove 0 cause p q c).planned

/-- A planned move of cell `c` under the policy; a group that its pin names is switched on first (R258, R259). -/
def planCell (s : Dev) (c : Nat) (ecc : Bool) : Dev :=
  match s.planTarget c with
  | some p => if s.moveBoundary c then s.moveCell c p causePolicy ecc else s
  | none =>
    match s.pinTarget 0 c with
    | some p => if p < 68 ∧ s.celPair c ≠ p ∧ s.freqNeed c ≤ s.freqMax (p / 4) then s.plcDomOn (groupDom (p / 4)) causePolicy else s
    | none => s

/-- TEMP_HI; below TEMP_LO it acts as TEMP_LO. -/
def tempHi (s : Dev) : Int := max (s.getS Reg.PLC_POLICY.TEMP_HI) (s.getS Reg.PLC_POLICY.TEMP_LO)

/-- PWR_TEMP follows a sensor's reading below 150 °C: it shows the hottest, and OVERTEMP_NOW ends with the sensor that made it (R376, R381). -/
def sensorSeen (s : Dev) (n t : Nat) : Dev :=
  let same := s.get Reg.PWR_TEMP.SENSOR == n
  let s := s.when same fun s => s.put (statusBit bPWR 4) 0
  s.when (same || decide (s.getS Reg.PWR_TEMP.MAX < toSigned 8 t)) fun s => (s.put Reg.PWR_TEMP.MAX t).put Reg.PWR_TEMP.SENSOR n

/-- The sensors' readings of the groups' temperatures: a group that reaches TEMP_HI takes no cells until it has fallen below TEMP_LO (R247). -/
def takeTemps (s : Dev) (l : List (Nat × Nat)) : Dev :=
  l.foldl (fun s e =>
    let s := (s.put (Reg.PLC_GRP_TEMP.TEMP e.1) e.2).sensorSeen e.1 e.2
    let t := s.grpTemp e.1
    let bit := 2 ^ e.1
    let hot := if s.tempHi ≤ t then s.plc.hot ||| bit
      else if t < s.getS Reg.PLC_POLICY.TEMP_LO then s.plc.hot &&& (2 ^ 17 - 1 - bit % 2 ^ 17) else s.plc.hot
    { s with plc := { s.plc with hot := hot } }) s

/-- TEMPERATURE_MOVE: cell `c` leaves a group at TEMP_HI for the coolest powered group that can carry it (R247). -/
def temperatureMove (s : Dev) (c : Nat) (temps : List (Nat × Nat)) (ecc : Bool) : Dev :=
  let s := s.takeTemps temps
  let g := s.celPair c / 4
  let fit := (List.range 68).filter fun p => s.moveFits c p
  match s.coolest fit with
  | some p =>
    if s.mayPlan ∧ s.tempHi ≤ s.grpTemp g ∧ s.moveBoundary c ∧ (s.pinTarget 0 c).isNone then s.moveCell c p causeTemp ecc else s
  | none => s

/-! ### Jobs on units (R257, R311) -/

/-- STATE of a job's place. -/
def jobPlace (s : Dev) (j : Nat) : Nat := s.get (Reg.PLC_JOB_MAP.STATE j)
/-- Unit of a placed job. -/
def jobUnit (s : Dev) (j : Nat) : Nat := s.get (Reg.PLC_JOB_MAP.UNIT j)
/-- The jobs that unit `u` carries. -/
def unitJobs (s : Dev) (u : Nat) : List Nat := (List.range 64).filter fun j => s.jobPlace j != 0 && s.jobUnit j == u
/-- The lowest free channel of a unit. -/
def freeChan (s : Dev) (u : Nat) : Option Nat :=
  (List.range 32).find? fun c => !(s.unitJobs u).any fun j => s.get (Reg.PLC_JOB_MAP.CHAN j) == c
/-- Domain of a Tackle unit. -/
def unitDom (u : Nat) : Nat := 69 + u

/-- The unit the Rigger gives job `j`: its pin's, else the one that carries fewer jobs, Tackle A when equal (R257, R259). -/
def chooseUnit (s : Dev) (j : Nat) : Nat :=
  match s.pinTarget 3 j with
  | some u => u % 2
  | none => if (s.unitJobs 1).length < (s.unitJobs 0).length then 1 else 0

/-- Job `j` takes channel `c` of unit `u`. -/
def placeJob (s : Dev) (j u c : Nat) : Dev :=
  ((s.put (Reg.PLC_JOB_MAP.STATE j) 1).put (Reg.PLC_JOB_MAP.UNIT j) u).put (Reg.PLC_JOB_MAP.CHAN j) c

/-- A job's channel is idle between transfers, with no shadow set armed (R257). -/
def jobIdle (s : Dev) (j : Nat) : Bool := s.get (Reg.DMA_STAT.STATE j) != 1 && s.get (Reg.DMA_STAT.ARMED j) == 0

/-- The DONE bit of job `j` in the window of unit `u`. -/
def doneFld (u j : Nat) : Fld := if j < 32 then ⟨Reg.DMA_DONE_LO u, j, 1⟩ else ⟨Reg.DMA_DONE_HI u, j - 32, 1⟩

/-- Job `j` moves to unit `u` if it has a free channel; the move carries its DONE bit (R257, R316). -/
def moveJob (s : Dev) (j u cause : Nat) : Dev :=
  match s.freeChan u with
  | some c =>
    let old := s.jobUnit j
    let done := s.bit (doneFld old j)
    let s := (s.placeJob j u c).plcMove 3 cause u old j
    s.when (done && u != old) fun s => (s.put (doneFld old j) 0).put (doneFld u j) 1
  | none => s

/-- A planned move of a job brings it to the unit its pin names, which is switched on first (R257, R258, R259). -/
def planJob (s : Dev) (j : Nat) : Dev :=
  match s.pinTarget 3 j with
  | some u =>
    if 2 ≤ u ∨ u = s.jobUnit j ∨ s.jobPlace j ≠ 1 ∨ ¬ s.jobIdle j ∨ (s.freeChan u).isNone then s
    else if s.domOn (unitDom u) then (s.moveJob j u causePolicy).planned
    else s.plcDomOn (unitDom u) causePolicy
  | none => s

/-! ### Evacuation and return of banks (R252) -/

/-- Bank `k` is in service again; the owners that their pins give it, and those left without a set, choose anew, and a waiting evacuation that R102 now permits begins (R102, R251, R252, R259). -/
def bankReturn (s : Dev) (k cause : Nat) : Dev :=
  let s := (s.put ⟨Reg.FRM_BANK_STATE, k, 1⟩ 1).plcMove 2 cause k 0 k
  let again (o : Nat) : Bool := s.bankSet o == 0 || (s.pinTarget 1 o).any fun m => m.testBit k
  ((s.ownerKeys.filter again).foldl setBanks s).evacNext

/-- An evacuated bank that no fault keeps out returns to service, after its domain has come on (R252, R258). -/
def bankBack (s : Dev) (k cause : Nat) : Dev :=
  if s.bankIn k ∨ s.plc.faulty.testBit k then s
  else if s.domOn (19 + k) then s.bankReturn k cause
  else
    let s := { s with plc := { s.plc with returning := s.plc.returning ||| 2 ^ k, returnCause := cause } }
    s.plcDomOn (19 + k) cause

/-- Banks return to service when a set needs them: those that the owner's pin names, and others while R102 does not hold or no banks take the owner's share (R102, R252, R259). -/
def banksNeeded (s : Dev) (o : Nat) : Dev :=
  (List.range 24).foldl (fun s k =>
    let pinned : Bool := match s.pinTarget 1 o with
      | some m => m.testBit k
      | none => (s.bankChoice o).isNone
    if s.inService < s.resvSum.1 + 512 ∨ pinned then s.bankBack k causePolicy else s) s

/-- The bank set of an owner is chosen anew; it applies to frames allocated from then on (R251). -/
def assignBanks (s : Dev) (o : Nat) : Dev := (s.banksNeeded o).setBanks o

/-- A bank that no owner's set names, all sets having been chosen. -/
def bankUnused (s : Dev) (k : Nat) : Bool :=
  s.bankIn k && s.liveOwners.all fun o => s.bankSet o.key != 0 && !(s.bankSet o.key).testBit k

/-- PLANNED_MOVE: kind 0 a cell, 1 an owner's bank set, 2 a job, 3 the evacuation of a bank left unused under PACK with POWER_EN (R246, R249, R251, R252). -/
def plannedMove (s : Dev) (kind item : Nat) (ecc : Bool) : Dev :=
  if ¬ s.mayPlan then s
  else if kind = 0 then (if item < 64 then s.planCell item ecc else s)
  else if kind = 1 then
    if item < 643 ∧ s.bankChoice item ≠ none ∧ s.bankChoice item ≠ some (s.bankSet item) then (s.assignBanks item).planned else s
  else if kind = 2 then (if item < 64 then s.planJob item else s)
  else if s.plcMode = 1 ∧ s.powerEn ∧ item < 24 ∧ s.bankUnused item ∧ (s.pinTarget 4 (19 + item)).isNone ∧ s.plc.evac.isNone ∧ s.evacAllowed item then
    (s.evacStart item causePolicy).planned
  else s

/-- A write of PLC_EVAC: START evacuates BANK, RETURN brings it back (R252). -/
def evacWrite (s : Dev) (v : Word) : Dev :=
  let k := wfld v 0 5
  let s := s.put Reg.PLC_EVAC.BANK k
  if 24 ≤ k then s
  else if wbit v 31 then s.evacBegin k causeSoftware
  else if wbit v 30 then s.bankBack k causeSoftware
  else s

/-- EVAC_FRAME_COPY: a frame of the bank under evacuation that has not started and has rested there for 10 ms is copied to other banks (R252). -/
def evacCopy (s : Dev) (d : Nat) : Dev :=
  match s.plc.evac with
  | none => s
  | some (k, _) =>
    let f := s.frameOf d
    if ¬ (f.granules.any fun g => g / 2048 == k) ∨ f.started ∨ s.up < f.since + 10000000 then s
    else
      let open' := s.openMask
      let set := s.bankSet f.owner.key &&& open'
      let start := Tab.get (fun _ => 0) s.bankNext f.owner.key
      let (gs, next) := pickGranules s.usedGranules (if set = 0 then open' else set) start f.granules.length
      if gs.length ≠ f.granules.length then s
      else
        let s := s.setFrame d { f with granules := gs, since := s.up }
        let s := { s with bankNext := Tab.set (fun _ => 0) s.bankNext f.owner.key (next % 24), locker := lockerWrite s.locker f.data gs }
        s.evacCheck.evacNext

/-! ### Empty domains (R258) -/

/-- R248 still holds without group `g`. -/
def sparesWithout (s : Dev) (g : Nat) : Bool :=
  let own := ((groupPairs g).filter fun p => s.pairState p == 0 && s.freqMax g == 8).length
  Nat.ble (4 + own) s.goodSpares && Nat.ble (4 + ((groupPairs g).filter fun p => s.pairState p == 0).length) (s.get Reg.CEL_SPARES.SPARE_NOW)

/-- A domain whose power the Rigger decides is empty (R258). -/
def domEmpty (s : Dev) (d : Nat) : Bool :=
  if 19 ≤ d ∧ d ≤ 42 then
    !s.bankIn (d - 19) && !s.plc.returning.testBit (d - 19) && s.ist.running != some (0, d - 19)
  else if 44 ≤ d ∧ d ≤ 59 then
    ((groupPairs (d - 43)).all fun p => s.pairState p != 1 && !s.pairReserved p && s.ist.running != some (1, p)) && s.sparesWithout (d - 43)
  else if d = 69 ∨ d = 70 then (s.unitJobs (d - 69)).isEmpty
  else d == 78 && s.ist.running.isNone && !s.ist.sweeping

/-- DOMAIN_SWITCH_OFF: the Rigger switches off an empty domain that nothing holds on (R246, R258, R259). -/
def domSwitchOff (s : Dev) (d : Nat) : Dev :=
  if s.powerEn ∧ ¬ s.plcFrozen ∧ riggerDom d ∧ s.domOn d ∧ (s.pinTarget 4 d).isNone ∧ s.domEmpty d then s.plcDomOff d causePolicy else s

end Dev

/-- PLANNED_MOVE (R249). -/
def execPlannedMove (kind : Fin 4) (item : Fin 643) (ecc : Bool) (s : State) := devStep (fun d => d.atBlock bPLC (·.plannedMove kind item ecc)) s
/-- TEMPERATURE_MOVE (R247). -/
def execTemperatureMove (c : Fin 64) (temps : List (Fin 17 × BitVec 8)) (ecc : Bool) (s : State) :=
  devStep (fun d => d.atBlock bPLC (·.temperatureMove c (temps.map fun e => (e.1.val, e.2.toNat)) ecc)) s
/-- EVAC_START (R252). -/
def execEvacStart (bank : Fin 32) (s : State) :=
  devStep (fun d => d.hostGate bPLC Reg.PLC_EVAC (BitVec.ofNat 32 (2 ^ 31 + bank)) (·.evacWrite (BitVec.ofNat 32 (2 ^ 31 + bank)))) s
/-- EVAC_FRAME_COPY (R252). -/
def execEvacFrameCopy (d : Fin 16384) (s : State) := devStep (fun x => x.atBlock bPLC (·.evacCopy d)) s
/-- EVAC_RETURN (R252). -/
def execEvacReturn (bank : Fin 32) (s : State) :=
  devStep (fun d => d.hostGate bPLC Reg.PLC_EVAC (BitVec.ofNat 32 (2 ^ 30 + bank)) (·.evacWrite (BitVec.ofNat 32 (2 ^ 30 + bank)))) s
end Sys2Proof.Machine
end

