-- ==== Sys2Proof/Machine/Tackle.lean ====
section
/-! DEFINITION. Tackle DMA (spec/14_host_dma.md, R311–R324): jobs, the check of a transfer, bursts, frames, shadow sets, request lines and bus errors. -/

namespace Sys2Proof.Machine

/-! ### Memories (R314, R326) -/

/-- An octet of a memory. -/
def Memory.at (m : Memory) (a : Nat) : Octet := Tab.get Memory.unlisted m a
/-- Store one octet. -/
def Memory.put (m : Memory) (a : Nat) (o : Octet) : Memory := Tab.set Memory.unlisted m a o
/-- Store octets in order. -/
def Memory.putAll (m : Memory) (l : List (Nat × Octet)) : Memory := l.foldl (fun m e => m.put e.1 e.2) m

/-- A change of the device alone. -/
def State.onDev (s : State) (f : Dev → Dev) : State := { s with dev := f s.dev }

/-- What a meaning that also reaches the memories answers: as `devStep`, over the whole state but the queue. -/
def memStep (f : State → State) (s : State) : Host.Outcome State Fault Refusal :=
  let t := f { s with dev := s.dev.fresh }
  .next { s with dev := Dev.settle s.dev.fresh t.dev, dram := t.dram, host := t.host }

/-- The outcome of one byte of a transfer: number within it and value. -/
abbrev Bytes := List (Nat × Octet)

/-! ### The shape of a transfer (R314) -/

/-- One side of a transfer. -/
structure XSide where
  space : Nat
  addr : Nat
  line : Nat
  lines : Nat
  stride : Int
  deriving DecidableEq, Repr

namespace XSide

/-- The line length as it acts: CNT where LINE_LEN is 0. -/
def len (x : XSide) (cnt : Nat) : Nat := if x.line = 0 then max 1 cnt else x.line

/-- The address of the byte of number `b` on this side, modulo 2^64 (R314). -/
def at' (x : XSide) (cnt b : Nat) : Nat :=
  (((x.addr : Int) + (b / x.len cnt : Nat) * x.stride + (b % x.len cnt : Nat)) % (2 ^ 64 : Int)).toNat

end XSide

namespace Dev

/-- Source side of a job. -/
def srcSide (s : Dev) (j : Nat) : XSide :=
  { space := s.get (Reg.DMA_CTL.SRC_SPACE j)
    addr := s.get (Reg.DMA_SRC_LO.ADDR j) + s.get (Reg.DMA_SRC_HI.ADDR j) * 2 ^ 32
    line := s.get (Reg.DMA_SRC_2D.LINE_LEN j), lines := s.get (Reg.DMA_SRC_2D.LINES j)
    stride := s.getS (Reg.DMA_SRC_STRIDE.STRIDE j) }

/-- Destination side of a job. -/
def dstSide (s : Dev) (j : Nat) : XSide :=
  { space := s.get (Reg.DMA_CTL.DST_SPACE j)
    addr := s.get (Reg.DMA_DST_LO.ADDR j) + s.get (Reg.DMA_DST_HI.ADDR j) * 2 ^ 32
    line := s.get (Reg.DMA_DST_2D.LINE_LEN j), lines := s.get (Reg.DMA_DST_2D.LINES j)
    stride := s.getS (Reg.DMA_DST_STRIDE.STRIDE j) }

/-- CNT of a job. -/
def jobCnt (s : Dev) (j : Nat) : Nat := s.get (Reg.DMA_CNT.CNT j)
/-- STATE of a job: 0 idle, 1 running, 2 stopped. -/
def jobState (s : Dev) (j : Nat) : Nat := s.get (Reg.DMA_STAT.STATE j)
/-- The unit is out of service after a bus error. -/
def unitStopped (s : Dev) (u : Nat) : Bool := s.bit (Reg.DMA_UNIT_CTL.STOPPED u)

/-- The queue that a frame source names, key as in `rxQ`: 0–127 a receive queue, 128 + x the deliveries of context x (R317). -/
def frameQueue (s : Dev) (j : Nat) : Nat :=
  let a := s.get (Reg.DMA_SRC_LO.ADDR j)
  if a.testBit 9 then 128 + a % 512 else a % 128

/-- The context that a frame side names, if any. -/
def jobCtx (s : Dev) (j : Nat) : Option Nat :=
  if s.get (Reg.DMA_CTL.DST_SPACE j) = 2 then some (s.get (Reg.DMA_DST_LO.ADDR j) % 512)
  else if s.get (Reg.DMA_CTL.SRC_SPACE j) = 2 ∧ (s.get (Reg.DMA_SRC_LO.ADDR j)).testBit 9 then some (s.get (Reg.DMA_SRC_LO.ADDR j) % 512)
  else none

/-- A DRAM side lies within usable memory, line by line. -/
def sideUsable (s : Dev) (x : XSide) (cnt : Nat) : Bool :=
  x.space != 0 || (List.range (if x.line = 0 then 1 else x.lines)).all fun l =>
    let a := x.at' cnt (l * x.len cnt)
    s.inUsable a (x.len cnt)

/-- A line shape agrees with CNT. -/
def shapeOk (x : XSide) (cnt : Nat) : Bool := x.line == 0 || x.line * x.lines == cnt

/-- A frame side names a queue or context in the role it needs (R313 check 2). -/
def frameSideOk (s : Dev) (j : Nat) (src dst : XSide) : Bool :=
  let q := s.frameQueue j
  (src.space != 2 || (src.addr / 1024 == 0 &&
      (if q < 128 then Nat.blt src.addr 128 && s.bit (Reg.FRM_Q_A.EN q)
      else s.ctxState (q - 128) == 1 && !s.isTx (q - 128) && s.get (Reg.STM_DEST.KIND (q - 128)) == 2)))
    && (dst.space != 2 || (let x := dst.addr % 512; s.ctxState x == 1 && s.isTx x))

/-- Every address, line length, stride and CNT is a multiple of 4. -/
def wordAligned (src dst : XSide) (cnt : Nat) : Bool :=
  [src.addr, dst.addr, src.line, dst.line, cnt].all (fun n => n % 4 == 0) && src.stride % 4 == 0 && dst.stride % 4 == 0

/-- The first failing check of a start; 0 when none fails (R313). -/
def startErr (s : Dev) (j : Nat) : Nat :=
  let src := s.srcSide j
  let dst := s.dstSide j
  let cnt := s.jobCnt j
  let frame := src.space == 2 || dst.space == 2
  if cnt = 0 ∨ ¬ shapeOk src cnt ∨ ¬ shapeOk dst cnt ∨ (src.space = 2 ∧ src.line = 0) ∨ (dst.space = 2 ∧ dst.line = 0) then 1
  else if src.space = 3 ∨ dst.space = 3 ∨ ¬ s.sideUsable src cnt ∨ ¬ s.sideUsable dst cnt ∨ ¬ s.frameSideOk j src dst then 2
  else if src.space = 2 ∧ dst.space = 2 then 3
  else if s.bit (Reg.DMA_CTL.PACED j) ∧ ((List.range 64).any fun i => i != j && s.jobEn i && s.jobState i == 1
      && s.get (Reg.DMA_CTL.REQ_LINE i) == s.get (Reg.DMA_CTL.REQ_LINE j)) then 4
  else if s.get (Reg.DMA_CTL.SWAP j) ≠ 0 ∧ (frame || !wordAligned src dst cnt) then 5
  else if s.unitStopped (s.jobUnit j) then 9
  else 0

/-- A start: the checks, and where none fails the job runs (R313); a frame side records the context's GEN (R318). -/
def jobStart (s : Dev) (j : Nat) : Dev :=
  let e := s.startErr j
  if e ≠ 0 then s.put (Reg.DMA_STAT.ERR j) e
  else
    let s := (s.put (Reg.DMA_STAT.ERR j) 0).put (Reg.DMA_STAT.STATE j) 1
    let s := match s.jobCtx j with
      | some x => s.put (Reg.DMA_STAT.GEN j) (s.ctxGen x)
      | none => s
    s.setJob j { total := s.jobCnt j }

/-- The shadow set becomes the job's set (R315). -/
def shadowCopy (s : Dev) (j : Nat) : Dev :=
  let s := (List.range 10).foldl (fun s i => s.setWord (Reg.DMA_SRC_LO j + 4 * i) (s.word (Reg.SH_SRC_LO j + 4 * i))) s
  s.put (Reg.DMA_STAT.ARMED j) 0

/-- The accesses of job `j` that wait or are under way. -/
def jobAccs (s : Dev) (j : Nat) : List Acc :=
  (List.range 2).flatMap fun ch => ((s.chn ch).waits ++ (s.chn ch).flight).filter fun a => a.owner == .job j

/-- Job `j` takes channel `c` of unit `u`; a unit that is off is switched on first, and the job takes its channel when it is on (R258; log entry 50). -/
def jobOnto (s : Dev) (j u c : Nat) : Dev := if s.domOn (unitDom u) then s.placeJob j u c else s.plcDomOn (unitDom u) causePolicy

/-- Job `j` is placed on the unit that the Rigger chooses, or on the other where that one is full and no pin names it (R257, R259). -/
def jobEnable (s : Dev) (j : Nat) : Dev :=
  let u := s.chooseUnit j
  match s.freeChan u with
  | some c => s.jobOnto j u c
  | none => match s.freeChan (1 - u) with
    | some c => if (s.pinTarget 3 j).isSome then s else s.jobOnto j (1 - u) c
    | none => s

/-- The job leaves its unit (R311). -/
def jobRemove (s : Dev) (j : Nat) : Dev :=
  let s := s.setWord (Reg.PLC_JOB_MAP j) 0
  let s := { s with regs := s.regs.filter fun e => !(Nat.ble (Reg.DMA_SRC_LO j) e.1 && Nat.blt e.1 (Reg.DMA_SRC_LO j + 0x80)) }
  s.setJob j {}

/-- The job whose bit was cleared leaves its unit; one whose bit has been set again meanwhile is placed anew (R311). -/
def jobGone (s : Dev) (j : Nat) : Dev := (s.jobRemove j).when (s.jobEn j) (·.jobEnable j)

/-- A stop takes effect once the burst or record under way has ended: the job is idle, ARMED clear, and removed where its bit was cleared (R311, R313, R320, R322). -/
def stopDone (s : Dev) (j : Nat) : Dev :=
  let x := s.job j
  if x.stopping && x.frame.isNone && !x.gather && (s.jobAccs j).isEmpty then
    let s := (s.put (Reg.DMA_STAT.STATE j) 0).put (Reg.DMA_STAT.ARMED j) 0
    (s.setJob j {}).when x.removing (·.jobGone j)
  else s

/-- A write of STOP: the transfer ends at the next burst boundary (R313). -/
def jobStop (s : Dev) (j : Nat) (remove : Bool) : Dev :=
  if s.jobState j = 1 then
    (s.setJob j { s.job j with stopping := true, removing := remove || (s.job j).removing }).stopDone j
  else
    let s := s.put (Reg.DMA_STAT.ARMED j) 0
    s.when remove (·.jobGone j)

/-- The bits of DMA_CTL that a running job takes: PRIO and IRQ_EN. -/
def ctlRunMask : Nat := 0xF000

/-- A write of DMA_CTL (R313, R322). -/
def dmaCtlWrite (s : Dev) (j : Nat) (v : Word) : Dev :=
  if ¬ s.jobEn j then s
  else if s.jobState j = 1 then
    let old := (s.word (Reg.DMA_CTL j)).toNat
    let rw := 0x3FFFF700
    let ignored := (old ^^^ v.toNat) &&& rw &&& (0xFFFFFFFF - ctlRunMask)
    let s := s.setWord (Reg.DMA_CTL j) (BitVec.ofNat 32 ((old &&& (0xFFFFFFFF - ctlRunMask)) ||| (v.toNat &&& ctlRunMask)))
    let s := s.when (ignored != 0) (·.put (Reg.DMA_STAT.WR_IGNORED j) 1)
    s.when (wbit v 30) (·.jobStop j false)
  else
    let s := s.setWord (Reg.DMA_CTL j) (BitVec.ofNat 32 (v.toNat &&& 0x3FFFF700))
    if wbit v 30 then s.jobStop j false
    else s.when (wbit v 31) (·.jobStart j)

/-- A write of DMA_SH_CTL (R315). -/
def shCtlWrite (s : Dev) (j : Nat) (v : Word) : Dev :=
  if ¬ s.jobEn j then s
  else if s.get (Reg.DMA_STAT.ARMED j) = 1 then s.put (Reg.DMA_STAT.WR_IGNORED j) 1
  else
    let s := s.setWord (Reg.SH_SRC_LO j + 0x14) (BitVec.ofNat 32 (v.toNat &&& 0x3FFFF700))
    if ¬ wbit v 31 then s
    else if s.jobState j = 0 then (s.shadowCopy j).jobStart j
    else s.put (Reg.DMA_STAT.ARMED j) 1

/-- A write to a word of a job set: while the job runs none but what DMA_CTL takes, to its shadow set none while ARMED is 1, each such write setting WR_IGNORED (R313, R315); DMA_STAT takes its W1C bits. -/
def dmaSetWrite (s : Dev) (j key : Nat) (v : Word) : Dev :=
  let o := key - Reg.DMA_SRC_LO j
  if ¬ s.jobEn j then s
  else if o = 0x14 then s.dmaCtlWrite j v
  else if o = 0x54 then s.shCtlWrite j v
  else if (o < 0x30 ∧ s.jobState j = 1) ∨ (0x40 ≤ o ∧ o < 0x68 ∧ s.get (Reg.DMA_STAT.ARMED j) = 1) then s.put (Reg.DMA_STAT.WR_IGNORED j) 1
  else s.writeFields (bDMA 0) key v

/-! ### Enabling jobs (R257, R311) -/

/-- The jobs that are enabled and wait for a unit to come on, in job order. -/
def jobsWaiting (s : Dev) : List Nat :=
  (List.range 64).filter fun j => s.jobPlace j == 0 && (s.word (if j < 32 then Reg.DMA_JOB_EN_LO else Reg.DMA_JOB_EN_HI)).toNat.testBit (j % 32)

/-- A new value of DMA_JOB_EN_LO (`hi` false) or _HI: bits set place jobs in job order, bits cleared stop and remove them (R311). -/
def jobEnSet (s : Dev) (hi : Bool) (v : Word) : Dev :=
  let key := if hi then Reg.DMA_JOB_EN_HI else Reg.DMA_JOB_EN_LO
  let old := s.word key
  let s := s.setWord key v
  (List.range 32).foldl (fun s i =>
    let j := i + (if hi then 32 else 0)
    if wbit v i && !wbit old i then s.when (!(s.job j).removing) (·.jobEnable j)
    else if wbit old i && !wbit v i then s.jobStop j true
    else s) s

/-! ### Bus errors (R321) -/

/-- Stopped jobs of unit `u` move, in job order, to free channels of the other unit; those that do not fit, and pinned ones, stay stopped, and where the other unit is off it is switched on first (R257, R258, R259). -/
def moveStopped (s : Dev) (u : Nat) (l : List Nat) : Dev :=
  l.foldl (fun s j =>
    if (s.pinTarget 3 j).isSome ∨ (s.freeChan (1 - u)).isNone then s.put (Reg.PLC_JOB_MAP.STATE j) 3
    else if s.domOn (unitDom (1 - u)) then s.moveJob j (1 - u) causeUnitStop
    else (s.put (Reg.PLC_JOB_MAP.STATE j) 3).plcDomOn (unitDom (1 - u)) causeUnitStop) s

/-- The stopped jobs of unit `u`. -/
def stoppedJobs (s : Dev) (u : Nat) : List Nat := (s.unitJobs u).filter fun j => s.jobPlace j == 3

/-- Something waits for unit `u` to come on: an enabled job, or the stopped jobs of the other unit. -/
def unitAwaited (s : Dev) (u : Nat) : Bool :=
  (s.jobsWaiting.any fun j => s.chooseUnit j == u) || (s.stoppedJobs (1 - u)).any fun j => (s.pinTarget 3 j).isNone

/-- Unit `u` has come on: the stopped jobs of the other one and the jobs that waited take their channels (R257, R258). -/
def unitArrives (s : Dev) (u : Nat) : Dev :=
  let s := s.moveStopped (1 - u) (s.stoppedJobs (1 - u))
  s.jobsWaiting.foldl jobEnable s

/-- The owner of a write of job `j` that completes after the job has stopped: it still counts down CNT, but for the record of a frame that stays in its source (R321). -/
def strayOwner (s : Dev) (j : Nat) : AccFor := .job (if s.get (Reg.DMA_CTL.SRC_SPACE j) = 2 then 128 else 64 + j)

/-- A bus error of job `j` on unit `u`: `kind` as in DMA_BUS_ERR_A (R321). -/
def unitStop (s : Dev) (u j kind space addr : Nat) : Dev :=
  if s.unitStopped u then s
  else
    let run := (s.unitJobs u).filter fun j => s.jobState j == 1
    let s := s.put (Reg.DMA_UNIT_CTL.STOPPED u) 1
    let s := ((s.put (Reg.DMA_BUS_ERR_A.KIND u) kind).put (Reg.DMA_BUS_ERR_A.SPACE u) space).put (Reg.DMA_BUS_ERR_A.JOB u) j
    let s := (s.put (Reg.DMA_BUS_ERR_LO.ADDR u) addr).put (Reg.DMA_BUS_ERR_HI.ADDR u) (addr / 2 ^ 32)
    let s := run.foldl (fun s j =>
      let rm := (s.job j).removing
      let s := (s.put (Reg.DMA_STAT.STATE j) 2).put (Reg.DMA_STAT.ARMED j) 0
      let s := s.setJob j {}
      s.when rm (·.jobGone j)) s
    let mine (a : Acc) : Bool := match a.owner with
      | .job j => run.contains j && !a.reads.isEmpty
      | _ => false
    let s := (List.range 2).foldl (fun s ch =>
      let c := s.chn ch
      let orphan (a : Acc) : Acc := match a.owner with
        | .job j => if run.contains j then { a with owner := s.strayOwner j } else a
        | _ => a
      s.setChn ch { c with waits := (c.waits.filter (fun a => !mine a)).map orphan, flight := (c.flight.filter fun a => !mine a).map orphan }) s
    (s.fault (bDMA u) 0).moveStopped u (run.filter fun j => s.jobPlace j != 0)

/-- A bus error seen by job `j`, wherever it is carried. -/
def jobBusError (s : Dev) (j kind space addr : Nat) : Dev := s.unitStop (s.jobUnit j) j kind space addr

/-- BUS_ERROR: a PCI Express error of a running job of the unit (R321). -/
def busError (s : Dev) (u j kind space addr : Nat) : Dev :=
  if s.jobPlace j ≠ 0 ∧ s.jobUnit j = u ∧ s.jobState j = 1 then s.unitStop u j kind space addr else s

/-- DMA_UNIT_CTL.CLEAR returns a stopped unit to service (R321). -/
def unitClear (s : Dev) (u : Nat) : Dev :=
  let s := s.put (Reg.DMA_UNIT_CTL.STOPPED u) 0
  (s.unitJobs u).foldl (fun s j => if s.jobPlace j = 3 then s.put (Reg.PLC_JOB_MAP.STATE j) 1 else s) s

/-- A write of DMA_REQ_SET word `w` (R319). -/
def requestSet (s : Dev) (w : Nat) (v : Word) : Dev :=
  (List.range 32).foldl (fun s i => if wbit v i then s.request (32 * w + i) else s) s

/-! ### Accesses to DRAM (R327, R339, R340) -/

/-- An uncorrectable error of a channel at block number `block` (R328). -/
def eccUncorr (s : Dev) (ch block : Nat) : Dev :=
  (((s.inc (Reg.MEM_ECC_UNCORR.COUNT ch)).put (Reg.MEM_ECC_ADDR.ADDR ch) block).raise bMEM 1).fault bMEM 0

/-- Offer an access of a job to its channel; on a channel that is not up it completes at once as an uncorrectable error, a bus error of the job (R321, R339); a read that must wait for a queued write is counted (R340). -/
def accIssue (s : Dev) (j : Nat) (a : Acc) : Dev :=
  let ch := memChan (64 * a.block)
  if s.jobState j ≠ 1 then s
  else if ¬ s.chUp ch then (s.eccUncorr ch a.block).jobBusError j 6 0 (64 * a.block)
  else
    let c := s.chn ch
    let raw := !a.reads.isEmpty && ((c.waits.any fun x => x.block == a.block && !x.writes.isEmpty) || (s.rt1Blocks ch true).contains a.block)
    (s.setChn ch { c with waits := c.waits ++ [a] }).when raw (·.inc (Reg.MEM_RAW_WAIT.COUNT ch))

/-- CNT counts down (R313). -/
def countDown (s : Dev) (j n : Nat) : Dev := s.put (Reg.DMA_CNT.CNT j) (s.jobCnt j - n)

end Dev

/-- Group (address, payload) pairs by 64-byte block, blocks in order of first use. -/
def byBlock {α : Type} (l : List (Nat × α)) : List (Nat × List (Nat × α)) :=
  ((l.map fun e => e.1 / 64).eraseDups).map fun b => (b, l.filter fun e => e.1 / 64 == b)

namespace Dev

/-- Issue writes of a job to DRAM, one access for each block. -/
def dramWrites (s : Dev) (j : Nat) (l : List (Nat × Octet)) : Dev :=
  let n := s.get (Reg.DMA_BURST_CNT.COUNT (s.jobUnit j))
  (byBlock l).foldl (fun s b => s.accIssue j { port := 2 + s.jobUnit j, block := b.1, writes := b.2, owner := .job j, burst := n }) s

/-- Issue reads of a job from DRAM as (address, number within the transfer). -/
def dramReads (s : Dev) (j : Nat) (l : List (Nat × Nat)) : Dev :=
  let n := s.get (Reg.DMA_BURST_CNT.COUNT (s.jobUnit j))
  (byBlock l).foldl (fun s b => s.accIssue j { port := 2 + s.jobUnit j, block := b.1, reads := b.2, owner := .job j, burst := n }) s

/-- Requests to host space are possible: the link is up and Bus Master Enable is 1 (R321). -/
def hostReach (s : Dev) : Bool := s.bit Reg.GLB_PCIE_STAT.LINK_UP && s.bit Reg.GLB_PCIE_STAT.BUS_MASTER && !s.pwr.perst

/-- The last byte of a frame's record has landed: the frame leaves its source, and CNT falls by the line (R317). -/
def frameLeaves (s : Dev) (j : Nat) : Dev :=
  match (s.job j).frame with
  | some d =>
    if (s.jobAccs j).isEmpty then
      let q := s.frameQueue j
      let s := { s with rxQ := Tab.set (fun _ => []) s.rxQ q ((Tab.get (fun _ => []) s.rxQ q).filter fun e => e.desc != d) }
      let s := s.setJob j { s.job j with frame := none }
      (s.releaseCopy d).countDown j ((s.dstSide j).len (s.job j).total)
    else s
  | none => s

/-- A job stops with an error of its own (R317, R318). -/
def jobFail (s : Dev) (j err state : Nat) : Dev :=
  let s := (s.put (Reg.DMA_STAT.ERR j) err).put (Reg.DMA_STAT.STATE j) state
  (s.put (Reg.DMA_STAT.ARMED j) 0).setJob j {}

/-- A record read for a frame destination is complete: its frame is handed on, or the job stops (R318). -/
def recordDone (s : Dev) (j : Nat) : Dev :=
  let x := s.job j
  if ¬ x.gather ∨ ¬ (s.jobAccs j).isEmpty then s
  else
    let sl := (s.srcSide j).len x.total
    let base := x.issued - sl
    let oct (i : Nat) : Octet := ((x.buf.find? fun e => e.1 == base + i).map (·.2)).getD 0
    let len := (oct 0).toNat + 256 * (oct 1).toNat
    let c := s.get (Reg.DMA_DST_LO.ADDR j) % 512
    let g := s.get (Reg.DMA_STAT.GEN j)
    let lmax := lmaxOfWord (s.resvWord (.ctx c))
    if len < 60 ∨ lmax < len + 4 ∨ sl < len + 8 then s.jobFail j 7 2
    else if ¬ s.refOk c g then (s.refuseRef c g).jobFail j 8 0
    else
      let s := s.setJob j { x with gather := false, buf := [] }
      ((s.handover c g ((List.range len).map fun i => oct (8 + i)) none).2).countDown j sl

end Dev

namespace State

/-- Octets of a transfer reach their destination: host memory at once, DRAM by way of its channel, a frame destination in the job's buffer (R314). -/
def deliver (s : State) (j : Nat) (l : Bytes) : State :=
  let d := s.dev
  let x := d.dstSide j
  let cnt := (d.job j).total
  if d.jobState j ≠ 1 then s
  else if x.space = 2 then { s with dev := (d.setJob j { d.job j with buf := (d.job j).buf ++ l }).recordDone j }
  else
    let out := l.map fun e => (x.at' cnt e.1, e.2)
    if x.space = 1 then
      if d.hostReach then
        let d := if (d.job j).frame.isSome then d.frameLeaves j else d.countDown j l.length
        { s with host := s.host.putAll out, dev := d }
      else { s with dev := d.jobBusError j 5 1 ((out.head?.map (·.1)).getD 0) }
    else { s with dev := d.dramWrites j out }

/-- One burst, or one record, of job `j`: `l` are the numbers of its bytes (R314, R317–R319). -/
def fetchBytes (s : State) (j : Nat) (l : List Nat) : State :=
  let d := s.dev
  let x := d.srcSide j
  let cnt := (d.job j).total
  let k := d.get (Reg.DMA_CTL.SWAP j)
  let src := l.map fun b => (x.at' cnt (b ^^^ k), b)
  if x.space = 1 then
    if d.hostReach then s.deliver j (src.map fun e => (e.2, s.host.at e.1))
    else { s with dev := d.jobBusError j 5 1 ((src.head?.map (·.1)).getD 0) }
  else { s with dev := d.dramReads j src }

/-- The record of a frame: its header and octets (R317). -/
def recordOf (f : Frame) (ctx : Option Nat) : List Octet :=
  octetsLE 2 f.data.length ++ (octetsLE 1 f.ingress ++ (octetsLE 1 ctx.isSome.toNat ++ (octetsLE 2 (ctx.getD 0) ++ (octetsLE 2 0 ++ f.data))))

/-- The next frame of a frame source is written as a record into the next destination line (R317). -/
def grantFrame (s : State) (j : Nat) : State :=
  let d := s.dev
  let x := d.job j
  match Tab.get (fun _ => []) d.rxQ (d.frameQueue j) with
  | [] => { s with dev := (d.put (Reg.DMA_STAT.SHORT j) 1).setJob j { x with short := true } }
  | e :: _ =>
    let rec' := recordOf (d.frameOf e.desc) (if (d.get (Reg.DMA_SRC_LO.ADDR j)).testBit 9 then some (d.get (Reg.DMA_SRC_LO.ADDR j) % 512) else e.ctx)
    let recBytes : Bytes := (List.range rec'.length).zipWith (fun i o => (x.issued + i, o)) rec'
    let dl := (d.dstSide j).len x.total
    let g := d.get (Reg.DMA_STAT.GEN j)
    match d.jobCtx j with
    | some c =>
      if ¬ d.refOk c g then { s with dev := (d.refuseRef c g).jobFail j 8 0 }
      else if dl < rec'.length then { s with dev := d.jobFail j 6 2 }
      else ({ s with dev := d.setJob j { x with issued := x.issued + dl, frame := some e.desc } }).deliver j recBytes
    | none =>
      if dl < rec'.length then { s with dev := d.jobFail j 6 2 }
      else ({ s with dev := d.setJob j { x with issued := x.issued + dl, frame := some e.desc } }).deliver j recBytes

/-- What one grant to job `j` does. -/
def grantJob (s : State) (j : Nat) : State :=
  let d := s.dev
  let x := d.job j
  let src := d.srcSide j
  let dst := d.dstSide j
  if src.space = 2 then s.grantFrame j
  else if dst.space = 2 then
    let n := src.len x.total
    ({ s with dev := d.setJob j { x with issued := x.issued + n, gather := true, buf := [] } }).fetchBytes j ((List.range n).map (x.issued + ·))
  else
    let sl := src.len x.total
    let dl := dst.len x.total
    let burst := 16 * 2 ^ min 4 (d.get (Reg.DMA_CTL.BURST j))
    let n := min (min burst (x.total - x.issued)) (min (sl - x.issued % sl) (dl - x.issued % dl))
    ({ s with dev := d.setJob j { x with issued := x.issued + n } }).fetchBytes j ((List.range n).map (x.issued + ·))

end State

namespace Dev

/-- A job may be granted a burst: it runs, more is to be issued, and a paced one has a request and, at a frame source, a frame (R319). -/
def jobEligible (s : Dev) (j : Nat) : Bool :=
  let x := s.job j
  s.jobState j == 1 && s.jobPlace j == 1 && !x.stopping && !x.short && x.frame.isNone && !x.gather && Nat.blt x.issued x.total
    && (!s.bit (Reg.DMA_CTL.PACED j)
      || (s.get (Reg.DMA_REQ_CNT.COUNT (s.get (Reg.DMA_CTL.REQ_LINE j))) != 0
        && (s.get (Reg.DMA_CTL.SRC_SPACE j) != 2 || !(Tab.get (fun _ => []) s.rxQ (s.frameQueue j)).isEmpty)))

/-- Bursts of a unit in flight (R320). -/
def burstsInFlight (s : Dev) (u : Nat) : Nat :=
  (((List.range 2).flatMap fun ch => ((s.chn ch).waits ++ (s.chn ch).flight).filter fun a => a.port == 2 + u).map (·.burst)).eraseDups.length

/-- The channel the unit granted last. -/
def rrLast (s : Dev) (u : Nat) : Nat := if u = 0 then s.rrA else s.rrB

/-- The job that unit `u` grants: the eligible one with the highest PRIO, round-robin by channel among equals (R320). -/
def pickJob (s : Dev) (u : Nat) : Option Nat :=
  let chan (j : Nat) : Nat := s.get (Reg.PLC_JOB_MAP.CHAN j)
  let rank (j : Nat) : Nat := s.get (Reg.DMA_CTL.PRIO j) * 32 + (31 - (chan j + 31 - s.rrLast u) % 32)
  ((s.unitJobs u).filter fun j => s.jobEligible j).foldl (fun (a : Option Nat) j => match a with
    | none => some j
    | some i => if rank i < rank j then some j else a) none

/-- One grant is counted, its request taken, the round-robin moved on. -/
def grantCount (s : Dev) (u j : Nat) : Dev :=
  let s := s.inc (Reg.DMA_BURST_CNT.COUNT u)
  let f := Reg.DMA_REQ_CNT.COUNT (s.get (Reg.DMA_CTL.REQ_LINE j))
  let s := s.when (s.bit (Reg.DMA_CTL.PACED j)) fun s => s.put f (s.get f - 1)
  let c := s.get (Reg.PLC_JOB_MAP.CHAN j)
  if u = 0 then { s with rrA := c } else { s with rrB := c }

/-- TRANSFER_END: every byte has been written, or the source ran short: DONE_CNT, the DONE bit, and the shadow set (R315, R316). -/
def transferEnd (s : Dev) (j : Nat) : Dev :=
  let x := s.job j
  if s.jobState j ≠ 1 ∨ x.stopping ∨ x.gather ∨ x.frame.isSome ∨ ¬ (x.short || Nat.ble x.total x.issued) ∨ ¬ (s.jobAccs j).isEmpty then s
  else
    let s := s.inc (Reg.DMA_DONE_CNT.COUNT j)
    let s := s.when (s.bit (Reg.DMA_CTL.IRQ_EN j)) fun s => s.put (doneFld (s.jobUnit j) j) 1
    let s := (s.put (Reg.DMA_STAT.STATE j) 0).setJob j {}
    s.when (s.get (Reg.DMA_STAT.ARMED j) == 1) fun s => (s.shadowCopy j).jobStart j

end Dev

/-- BURST_GRANT on the whole state (R320). -/
def State.burstGrant (s : State) (u : Nat) : State :=
  let d := s.dev
  if ¬ d.blockOn (bDMA u) ∨ d.unitStopped u ∨ 16 ≤ d.burstsInFlight u then s
  else match d.pickJob u with
  | none => s
  | some j => ({ s with dev := d.grantCount u j }).grantJob j

/-- The word that a host write of one window puts into a job's set: none while its unit is off, and only a word that no CRIT object backs (R12, R312). -/
def Dev.jobGate (s : Dev) (u key : Nat) (v : Word) (act : Dev → Dev) : Dev := s.hostGate (bDMA u) key v act

/-- JOB_EN_WRITE (R311). -/
def execJobEnWrite (u : Fin 2) (hi : Bool) (value : Word) (s : State) :=
  devStep (fun d => d.jobGate u (if hi then Reg.DMA_JOB_EN_HI else Reg.DMA_JOB_EN_LO) value (·.jobEnSet hi value)) s
/-- DMA_START (R313). -/
def execDmaStart (u : Fin 2) (j : Fin 64) (value : Word) (s : State) :=
  devStep (fun d => d.jobGate u (Reg.DMA_CTL j) (value ||| 0x80000000#32) (·.dmaCtlWrite j (value ||| 0x80000000#32))) s
/-- DMA_STOP (R313). -/
def execDmaStop (u : Fin 2) (j : Fin 64) (value : Word) (s : State) :=
  devStep (fun d => d.jobGate u (Reg.DMA_CTL j) (value ||| 0x40000000#32) (·.dmaCtlWrite j (value ||| 0x40000000#32))) s
/-- SHADOW_ARM (R315). -/
def execShadowArm (u : Fin 2) (j : Fin 64) (value : Word) (s : State) :=
  devStep (fun d => d.jobGate u (Reg.SH_SRC_LO j + 0x14) (value ||| 0x80000000#32) (·.shCtlWrite j (value ||| 0x80000000#32))) s
/-- REQUEST_SET (R319). -/
def execRequestSet (u : Fin 2) (w : Fin 4) (value : Word) (s : State) :=
  devStep (fun d => d.jobGate u (Reg.DMA_REQ_SET w) value (·.requestSet w value)) s
/-- BURST_GRANT (R320). -/
def execBurstGrant (u : Fin 2) (s : State) := memStep (·.burstGrant u) s
/-- TRANSFER_END (R316). -/
def execTransferEnd (j : Fin 64) (s : State) := devStep (fun d => d.when (d.jobPlace j != 0) (·.transferEnd j)) s
/-- BUS_ERROR (R321). -/
def execBusError (u : Fin 2) (j : Fin 64) (kind : Fin 5) (addr : BitVec 64) (s : State) :=
  devStep (fun d => d.atBlock (bDMA u) fun d => d.when (kind.val != 0) (·.busError u j kind 1 addr.toNat)) s
/-- UNIT_CLEAR (R321). -/
def execUnitClear (u : Fin 2) (s : State) := devStep (fun d => d.jobGate u (Reg.DMA_UNIT_CTL u) 0x80000000 (·.unitClear u)) s

end Sys2Proof.Machine
end

