-- ==== Sys2Proof/Machine/Memory.lean ====
section
/-! DEFINITION. The memory controller's commands: arbitration and accesses (R327–R329, R336–R340), refresh (R333, R334), MR4 (R332), retraining (R331), and a channel that goes down or is trained (R330, R339). -/

namespace Sys2Proof.Machine

/-- The bank of a 64-byte block (R327). -/
def bankOf (block : Nat) : Nat := 64 * block % 0x80000000 / 1792 % 8

namespace Dev

/-- The DRAM is not in self-refresh, as it is in Doze (R372). -/
def dramAwake (s : Dev) : Bool :=
  match s.pwr.phase with
  | .starting => true
  | .run => true
  | .entering _ => true
  | .stopped => true
  | _ => false

/-- The block of the access that RT1 asks for on channel `ch`: the log's next entry first, then the next trace record. -/
def rt1Next (s : Dev) (ch : Nat) : Option (Bool × Nat) :=
  if s.rt1Chan ≠ ch then none
  else if s.logWrites && !s.log.issued && s.ringFits (s.get Reg.STA_LOG_BASE.BASE) (s.get Reg.STA_LOG_CFG.SIZE_LOG) then
    some (true, s.logAddr s.log.written / 64)
  else if s.bit Reg.TRC_OUT.DRAM_EN && Nat.blt s.trc.dramIssued s.trc.dram.recs.length && s.ringFits (s.get Reg.TRC_DRAM_BASE.BASE) (s.get Reg.TRC_DRAM_CFG.SIZE_LOG) then
    some (false, s.trcAddr (s.trc.dramCount + s.trc.dramIssued) / 64)
  else none

/-! ### Refresh (R333, R334) -/

/-- A bank is in use while an access to it is queued or under way (R333). -/
def bankInUse (s : Dev) (ch b : Nat) : Bool :=
  ((s.chn ch).waits ++ (s.chn ch).flight).any (fun a => bankOf a.block == b)
    || (match s.rt1Next ch with | some (_, k) => bankOf k == b | none => false)

/-- Replace the number at place `i` of a list. -/
def listPut (l : List Nat) (i v : Nat) : List Nat := l.set i v

/-- The M in force on a channel. -/
def refMult (s : Dev) (ch : Nat) : Nat := 2 ^ min 2 (s.get (Reg.MEM_CH_STAT.REF_MULT ch))

/-- The postponed refreshes of the banks that are not in use are issued (R334). -/
def drainRefresh (s : Dev) (ch : Nat) : Dev :=
  (List.range 8).foldl (fun s b =>
    let c := s.chn ch
    let p := c.postponed.getD b 0
    if p = 0 ∨ s.bankInUse ch b then s
    else s.setChn ch { c with postponed := listPut c.postponed b 0, bankTill := listPut c.bankTill b (max s.up (c.bankTill.getD b 0) + p * s.trfc ch false) }) s

/-- A due refresh of bank `b` (R334). -/
def bankRefresh (s : Dev) (ch b : Nat) : Dev :=
  let c := s.chn ch
  let p := c.postponed.getD b 0
  if s.bankInUse ch b then
    if p + 1 < 8 then s.setChn ch { c with postponed := listPut c.postponed b (p + 1) }
    else
      let till := s.up + 8 * s.trfc ch false
      (s.setChn ch { c with postponed := listPut c.postponed b 0, bankTill := listPut c.bankTill b till, catchTill := max c.catchTill till }).inc (Reg.MEM_REF_SPLIT.COUNT ch)
  else s.setChn ch { c with postponed := listPut c.postponed b 0, bankTill := listPut c.bankTill b (max s.up (c.bankTill.getD b 0) + (p + 1) * s.trfc ch false) }

/-- REFRESH_DUE: in all-bank mode the channel takes no access for tRFCab; in per-bank mode the bank whose turn it is is refreshed, postponed or caught up; a new M applies from here (R332–R334). -/
def refreshDue (s : Dev) (ch : Nat) : Dev :=
  let c := s.chn ch
  if s.chState ch ≠ chReady ∨ ¬ s.dramAwake ∨ s.up < c.refAt then s
  else
    let s := match c.multNext with
      | some m => (s.put (Reg.MEM_CH_STAT.REF_MULT ch) m).setChn ch { c with multNext := none }
      | none => s
    let c := s.chn ch
    let m := s.refMult ch
    if s.bit Reg.MEM_CFG.REFRESH_MODE then
      s.setChn ch { c with busyTill := s.up + s.trfc ch true, refAt := c.refAt + 3904 / m }
    else (s.setChn ch { c with nextBank := (c.nextBank + 1) % 8, refAt := c.refAt + 488 / m }).bankRefresh ch (c.nextBank % 8)

/-! ### A channel that goes down (R339) -/

/-- A waiting or running access to a channel that has gone down: a job's completes as an uncorrectable error, a buffered capture write is discarded (R339). -/
def accLost (s : Dev) (ch : Nat) (a : Acc) : Dev :=
  match a.owner with
  | .capture n => ((s.inc (Reg.MEM_PORT_OVF.COUNT 0)).modChan n fun x => { x with capQ := x.capQ.dropLast }).captureFail n
  | .job j => (s.eccUncorr ch a.block).when (s.jobState j == 1) (·.jobBusError j 6 0 (64 * a.block))

/-- The channel goes down (R339). -/
def chanDown (s : Dev) (ch : Nat) : Dev :=
  let c := s.chn ch
  let s := s.setChn ch { c with waits := [], flight := [], postponed := [0, 0, 0, 0, 0, 0, 0, 0], stallFrom := none, driftBad := 0 }
  let s := ((s.put (Reg.MEM_CH_STAT.STATE ch) chDown).raise bMEM 4).fault bMEM 1
  ((c.flight ++ c.waits).foldl (fun s a => s.accLost ch a) s).panicUpdate

/-! ### Retraining and temperature (R331, R332) -/

/-- A number of ms read from a field where 0 acts as 1, in ns. -/
def msField (s : Dev) (f : Fld) : Nat := max 1 (s.get f) * 1000000

/-- The channel whose turn it is to be retrained: the one not retrained last, or the other where it is not ready. -/
def retrainNext (s : Dev) : Nat :=
  let ch := 1 - s.retrainTurn
  if s.chState ch = chReady then ch else 1 - ch

/-- RETRAIN_DUE: `drift` in ps is what the oscillator shows, `beyond` that the delay lines cannot follow it (R331). -/
def retrainDue (s : Dev) (drift : Nat) (beyond : Bool) : Dev :=
  let ch := s.retrainNext
  let c := s.chn ch
  let panic : Bool := s.bit (panicFld 0 0) || s.bit (panicFld 0 1) || s.bit (panicFld 1 0) || s.bit (panicFld 1 1)
  if s.chState ch ≠ chReady ∨ ¬ s.dramAwake ∨ s.up < s.retrainAt + s.msField Reg.MEM_CFG.RETRAIN_MS ∨ s.up < (s.chn 0).retrainTill ∨ s.up < (s.chn 1).retrainTill
      ∨ s.up < c.catchTill ∨ panic = true then s
  else
    let s := { s with retrainTurn := ch, retrainAt := s.up }
    if beyond then
      let s := (s.setChn ch { c with driftBad := c.driftBad + 1 }).fault bMEM 4
      s.when (c.driftBad == 1) (·.chanDown ch)
    else
      let s := s.setChn ch { c with driftBad := 0 }
      if s.get Reg.MEM_CFG.DRIFT_TOL < drift then
        ((s.setChn ch { s.chn ch with retrainTill := s.up + 300 }).inc (Reg.MEM_RETRAIN_CNT.COUNT ch)).raise bMEM 3
      else s

/-- The refresh multiplier code that an MR4 refresh rate asks for, with the coding of JESD209-4 (R332; PRESUMED, log entry 23). -/
def mr4Mult (code : Nat) : Nat := if code < 4 then 0 else if code = 4 then 1 else 2

/-- MR4_READ (R332): code 7 says that the device is above its temperature range. -/
def mr4Read (s : Dev) (ch code : Nat) : Dev :=
  let c := s.chn ch
  if s.chState ch ≠ chReady ∨ ¬ s.dramAwake ∨ s.up < c.mr4At + s.msField Reg.MEM_CFG.MR4_MS then s
  else
    let m := mr4Mult code
    let s := (s.put (Reg.MEM_CH_STAT.MR4_RATE ch) code).setChn ch { c with mr4At := s.up, multNext := some m }
    if code = 7 ∨ min 2 (s.get Reg.MEM_CFG.ADMIT_MULT) < m then (s.raise bMEM 5).fault bMEM 2 else s

/-! ### Arbitration (R336, R340) -/

/-- The access at the head of port `q` of channel `ch`, if it may be granted: its bank is not being refreshed, no write of the same block was accepted before it and waits, and RT1 holds no write of the block: for a read, queued or under way, for a write, under way (R336, R340). -/
def headReady (s : Dev) (ch q : Nat) : Option Acc :=
  let c := s.chn ch
  match c.waits.find? fun a => a.port == q with
  | none => none
  | some a =>
    let before := c.waits.takeWhile fun x => x.port != q
    if s.up < c.bankTill.getD (bankOf a.block) 0 ∨ before.any (fun x => x.block == a.block && !x.writes.isEmpty) = true
        ∨ (s.rt1Blocks ch (!a.reads.isEmpty)).contains a.block = true then none
    else some a

/-- Port `q` of channel `ch` has an access that may be granted. -/
def portReady (s : Dev) (ch q : Nat) : Bool :=
  if q = 1 then match s.rt1Next ch with
    | some (_, k) => decide ((s.chn ch).bankTill.getD (bankOf k) 0 ≤ s.up)
    | none => false
  else (s.headReady ch q).isSome

/-- The rank of a port in the order of R336: panic by fill and RT0 before RT1, then PRIO, then round-robin. -/
def portRank (s : Dev) (ch q : Nat) : Nat :=
  if Nat.blt q 2 && s.bit (panicFld q ch) then 1000 + 2 * s.rtFill q ch + (if q = 0 then 1 else 0)
  else 8 * s.get (Reg.MEM_PORT_CFG.PRIO q) + (4 - (q + 4 - (s.chn ch).last) % 5)

/-- The port that is granted. -/
def pickPort (s : Dev) (ch : Nat) : Option Nat :=
  ([0, 1, 2, 3, 4].filter fun q => s.portReady ch q).foldl (fun (a : Option Nat) q => match a with
    | none => some q
    | some p => if s.portRank ch p < s.portRank ch q then some q else a) none

/-- The stall of the real-time ports ends with this access; MEM_MAX_STALL keeps the longest (R335). -/
def stallEnd (s : Dev) (ch : Nat) : Dev :=
  let c := s.chn ch
  let d := s.up - c.stallFrom.getD s.up
  let f := Reg.MEM_MAX_STALL.NS ch
  let s := s.when (Nat.blt (s.get f) d) fun s => s.put f (min d 0xFFFFFFFF)
  s.setChn ch { c with stallFrom := if s.rtFill 0 ch = 0 ∧ s.rtFill 1 ch = 0 then none else some s.up }

/-- The write covers only a part of some 8-byte word of the block (R329). -/
def partialWrite (l : List (Nat × Octet)) : Bool :=
  l.any fun e => (List.range 8).any fun i => !l.any fun x => x.1 == e.1 / 8 * 8 + i

/-- A job's write has reached the DRAM: CNT falls, or a frame's record may be complete (R314, R317); one issued before a bus error stopped its job counts too (R321). -/
def writeLanded (s : Dev) (j n : Nat) : Dev :=
  if 64 ≤ j then s.when (Nat.blt j 128 && s.jobState (j - 64) == 2) (·.countDown (j - 64) n)
  else if s.jobState j ≠ 1 then s
  else
    let s := if (s.job j).frame.isSome then s.frameLeaves j else s.when (s.get (Reg.DMA_CTL.SRC_SPACE j) != 2) (·.countDown j n)
    s.stopDone j

end Dev

namespace State

/-- A granted access: a write reaches the DRAM, whose read-modify-write may find an uncorrectable error; a read takes what the DRAM holds (R329, R340). -/
def grantAcc (s : State) (ch : Nat) (a : Acc) (rmwBad : Bool) : State :=
  let d := s.dev
  let c := d.chn ch
  let c' := { c with waits := c.waits.erase a, last := a.port }
  let d := d.setChn ch c'
  if a.reads ≠ [] then
    { s with dev := d.setChn ch { c' with flight := c.flight ++ [{ a with data := a.reads.map fun r => (r.2, s.dram.at r.1) }] } }
  else if rmwBad && Dev.partialWrite a.writes then
    let d := d.eccUncorr ch a.block
    match a.owner with
    | .job j => { s with dev := d.when (d.jobState j == 1) (·.jobBusError j 6 0 (64 * a.block)) }
    | .capture _ => { s with dev := d }
  else
    let d := match a.owner with
      | .job j => d.writeLanded j a.writes.length
      | .capture _ => d
    { s with dram := s.dram.putAll a.writes, dev := d }

/-- DRAM_ACCESS_GRANT: one access of the highest-ranked port; a refresh that is due, a refresh under way and a retraining come first (R331, R333, R336). -/
def accessGrant (s : State) (ch : Nat) (rmwBad : Bool) : State :=
  let d := s.dev
  let c := d.chn ch
  if d.chState ch ≠ chReady ∨ ¬ d.dramAwake ∨ c.refAt ≤ d.up ∨ d.up < c.busyTill ∨ d.up < c.retrainTill then s
  else match d.pickPort ch with
  | none => s
  | some q =>
    let s := if q = 1 then
        match d.rt1Next ch with
        | some (true, _) => { s with dev := { d.setChn ch { c with last := 1 } with log := { d.log with issued := true } } }
        | some (false, _) => { s with dev := { d.setChn ch { c with last := 1 } with trc := { d.trc with dramIssued := d.trc.dramIssued + 1 } } }
        | none => s
      else match d.headReady ch q with
        | some a => s.grantAcc ch a rmwBad
        | none => s
    let d := s.dev
    let d := if q < 2 then d.stallEnd ch else d
    { s with dev := (d.drainRefresh ch).panicUpdate }

/-- DRAM_READ_COMPLETE: the oldest granted read returns its data (`res` 0), corrected (1), or marked uncorrectable (2) (R328). -/
def readComplete (s : State) (ch res : Nat) : State :=
  let d := s.dev
  let c := d.chn ch
  match c.flight with
  | [] => s
  | a :: rest =>
    let d := d.setChn ch { c with flight := rest }
    let d := d.when (res == 1) fun d => (d.inc (Reg.MEM_ECC_CORR.COUNT ch)).raise bMEM 0
    match a.owner with
    | .capture _ => { s with dev := d }
    | .job j =>
      let s := if res = 2 then { s with dev := (d.eccUncorr ch a.block).when (d.jobState j == 1) (·.jobBusError j 6 0 (64 * a.block)) }
        else ({ s with dev := d }).deliver j a.data
      { s with dev := (s.dev.stopDone j).drainRefresh ch }

end State

namespace Dev

/-- The usable size of a density in units of 64 KiB (R325). -/
def usableUnits (density : Nat) : Nat := [7168, 14336, 28672].getD density 28672

/-- The channel serves from now on: its refresh and MR4 timers start. -/
def chanReady (s : Dev) (ch : Nat) : Dev :=
  (s.put (Reg.MEM_CH_STAT.STATE ch) chReady).setChn ch { refAt := s.up + 488, mr4At := s.up }

/-- TRAINING_DONE: `answer` is the type and density that MR8 shows, none where no device answers; `rate` the highest rate that passes (R330, R339). -/
def trainingDone (s : Dev) (ch : Nat) (answer : Option (Nat × Nat)) (rate : Option Nat) : Dev :=
  if s.chState ch ≠ chTraining then s
  else match answer with
  | none =>
    if s.pwr.phase = .run then s.put (Reg.MEM_CH_STAT.STATE ch) chDown
    else (s.put (Reg.MEM_CH_STAT.STATE ch) chAbsent).domStop (71 + ch)
  | some (t, den) => match rate with
    | none => s.put (Reg.MEM_CH_STAT.STATE ch) chDown
    | some r =>
      let s := if s.pwr.phase = .run ∧ s.get (Reg.MEM_CH_USABLE.SIZE ch) ≠ 0 then s
        else (((s.put (Reg.MEM_CH_STAT.TYPE ch) t).put (Reg.MEM_CH_STAT.DENSITY ch) den).put (Reg.MEM_CH_STAT.RATE_NOW ch) r).put (Reg.MEM_CH_USABLE.SIZE ch) (usableUnits den)
      s.chanReady ch

/-- MEM_CH_CTL.RETRAIN of a channel that is down (R339). -/
def chanRetrain (s : Dev) (ch : Nat) : Dev := s.when (s.chState ch == chDown) fun s => s.put (Reg.MEM_CH_STAT.STATE ch) chTraining

end Dev

/-- TRAINING_DONE on the whole state: the contents of the channel are lost, but for the exit from self-refresh of a Hold wake (R339, R374). -/
def State.trainingDone (s : State) (ch : Nat) (answer : Option (Nat × Nat)) (rate : Option Nat) : State :=
  if s.dev.chState ch ≠ chTraining then s
  else
    { s with
      dev := s.dev.trainingDone ch answer rate
      dram := if s.dev.pwr.fromHold then s.dram else s.dram.filter fun e => memChan e.1 != ch }

/-- RETRAIN_DUE (R331). -/
def execRetrainDue (drift : Nat) (beyond : Bool) (s : State) := devStep (·.retrainDue drift beyond) s
/-- MR4_READ (R332). -/
def execMr4Read (ch : Fin 2) (code : BitVec 3) (s : State) := devStep (·.mr4Read ch code.toNat) s
/-- REFRESH_DUE (R333). -/
def execRefreshDue (ch : Fin 2) (s : State) := devStep (·.refreshDue ch) s
/-- DRAM_ACCESS_GRANT (R336). -/
def execDramAccessGrant (ch : Fin 2) (rmwBad : Bool) (s : State) := memStep (·.accessGrant ch rmwBad) s
/-- DRAM_READ_COMPLETE (R328). -/
def execDramReadComplete (ch : Fin 2) (result : Fin 3) (s : State) := memStep (·.readComplete ch result) s
/-- CHANNEL_DOWN (R339). -/
def execChannelDown (ch : Fin 2) (s : State) := devStep (fun d => d.when (d.chUp ch) (·.chanDown ch)) s
/-- CHANNEL_RETRAIN (R339). -/
def execChannelRetrain (ch : Fin 2) (value : Word) (s : State) :=
  devStep (fun d => d.hostGate bMEM (Reg.MEM_CH_CTL ch) (value ||| 0x80000000#32) (·.chanRetrain ch)) s
/-- TRAINING_DONE (R330, R339). -/
def execTrainingDone (ch : Fin 2) (answer : Option (Fin 2 × Fin 3)) (rate : Option (Fin 5)) (s : State) :=
  memStep (·.trainingDone ch (answer.map fun x => (x.1.val, x.2.val)) (rate.map (·.val))) s

end Sys2Proof.Machine
end

