-- ==== Sys2Proof/Machine/Faults.lean ====
section
/-! DEFINITION. Fault handling by command: acknowledgement and FLT_CFG (R346, R347), the FAULT_N monitor (R356–R358), the event log's writes (R360–R363), fault injection (R364) and the removal of VCORE (R354). -/

namespace Sys2Proof.Machine

namespace Dev

/-! ### FLT_STICKY and FLT_CFG (R345–R347) -/

/-- An acknowledgement of source `n`: nothing for a source classed GRAVE (R347). -/
def ackSource (s : Dev) (b n : Nat) : Dev :=
  let x := s.fltSrc b n
  if s.bit (stickyBit b n) ∧ x.cls ≠ .grave then
    (s.put (stickyBit b n) 0).setFltSrc b n { x with cls := .none, merged := 0, openAt := 0 }
  else s

/-- ACKNOWLEDGE: a write of `v` to FLT_STICKY. -/
def acknowledge (s : Dev) (b : Nat) (v : Word) : Dev :=
  (List.range (sourceCount b)).foldl (fun s n => if wbit v n then s.ackSource b n else s) s

/-- The source that FLT_CFG_SEL of block `b` selects. -/
def fltSel (s : Dev) (b : Nat) : Nat := s.get ⟨blockBase b + 0x2C, 0, 5⟩

/-- FLT_CFG_WRITE: WINDOW and COUNT_N take effect and the source's history is cleared (R346). -/
def fltCfgWrite (s : Dev) (b n : Nat) (v : Word) : Dev :=
  (s.writeFields b (fltCfgAddr b n) v).setFltSrc b n { s.fltSrc b n with hist := [] }

/-- A host write to FLT_CFG of block `b` reaches the source selected, if it exists (R349). -/
def fltCfgHost (s : Dev) (b : Nat) (v : Word) : Dev :=
  let n := s.fltSel b
  if sourceCount b ≤ n then s else s.hostGate b (fltCfgAddr b n) v (·.fltCfgWrite b n v)

/-! ### The FAULT_N line (R356–R358) -/

/-- LINE_WINDOW in ns; 0 acts as 1 ms. -/
def lineWindow (s : Dev) : Nat := s.msField Reg.STA_FLINE.LINE_WINDOW

/-- A log entry of kind FAULT_N and the event of its source (R357, R359). -/
def lineEvent (s : Dev) (src detail : Nat) : Dev := (s.logStage 3 bSTA src 0 detail).fault bSTA src

/-- EXTERNAL_ASSERTION: the filtered level falls; it is an external assertion while the device neither drives nor ignores the line (R357, R358). -/
def lineFall (s : Dev) : Dev :=
  if s.bit Reg.STA_FLINE.SEEN_LOW then s
  else
    let s := { s.put Reg.STA_FLINE.SEEN_LOW 1 with fline := { s.fline with since := s.up } }
    if s.bit Reg.STA_FLINE.DRIVING then s.put Reg.STA_FLINE.HIGH_FAULT 0
    else if s.bit Reg.STA_FLINE.IGNORING then s
    else ((s.raise bSTA 2).inc Reg.STA_EXT_CNT.COUNT).lineEvent 3 0

/-- FAULT_N_RISE: the filtered level is high while the device does not drive the line (R357). -/
def lineRise (s : Dev) : Dev :=
  if s.bit Reg.STA_FLINE.DRIVING ∨ ¬ s.bit Reg.STA_FLINE.SEEN_LOW then s
  else { s.put Reg.STA_FLINE.SEEN_LOW 0 with fline := { s.fline with since := s.up } }

/-- LINE_HIGH: driven low, the pad reads high for 1 µs; a line that stays high is one event (R356; log entry 31). -/
def lineHigh (s : Dev) : Dev :=
  if ¬ s.bit Reg.STA_FLINE.DRIVING ∨ s.bit Reg.STA_FLINE.HIGH_FAULT then s
  else
    let s := { s.put Reg.STA_FLINE.SEEN_LOW 0 with fline := { s.fline with since := s.up } }
    (s.put Reg.STA_FLINE.HIGH_FAULT 1).lineEvent 4 2

/-- LINE_STUCK (R358). -/
def lineStuck (s : Dev) : Dev :=
  if s.bit Reg.STA_FLINE.DRIVING ∨ ¬ s.bit Reg.STA_FLINE.SEEN_LOW ∨ s.bit Reg.STA_FLINE.IGNORING ∨ s.up < s.fline.since + s.lineWindow then s
  else (((s.put (statusBit bSTA 3) 1).put Reg.STA_FLINE.IGNORING 1)).lineEvent 2 1

/-- LINE_STUCK_CLEAR: high for 1 ms without a break (R358). -/
def lineStuckClear (s : Dev) : Dev :=
  if ¬ s.bit Reg.STA_FLINE.IGNORING ∨ s.bit Reg.STA_FLINE.SEEN_LOW ∨ s.up < s.fline.since + 1000000 then s
  else (s.put (statusBit bSTA 3) 0).put Reg.STA_FLINE.IGNORING 0

/-! ### The event log (R360–R363) -/

/-- The entry that is written next: a frozen one, then the gap entry, then the rest (R362). The gap entry is stamped with the write that resumed (log entry 24). -/
def logNext (s : Dev) : Option LogEntry :=
  let l := s.log
  if l.frozen = 0 ∧ l.overwritten ≠ 0 then
    some ⟨l.resumed.getD 0, 4, bSTA, 0, 0, l.overwritten, l.firstLost⟩
  else l.staged.head?

/-- The next entry has been written and leaves the log unit. -/
def logPop (s : Dev) : Dev :=
  let l := s.log
  let l := if l.frozen = 0 ∧ l.overwritten ≠ 0 then { l with overwritten := 0, firstLost := 0 }
    else { l with staged := l.staged.drop 1, frozen := l.frozen - 1 }
  { s with log := { l with written := l.written + 1, issued := false, resumed := if l.staged = [] ∧ l.overwritten = 0 then none else l.resumed } }

/-- A log write fails (R362). -/
def logFail (s : Dev) : Dev :=
  let l := s.log
  let s := { s with log := { l with memFail := true, issued := false, frozen := if l.resumed.isNone then min 8 l.staged.length else l.frozen } }
  (s.raise bSTA 0).fault bSTA 0

/-- LOG_RESUME: a write of 1 to LOG_MEM_FAIL (R362). -/
def logResume (s : Dev) : Dev :=
  if ¬ s.log.memFail then s
  else { s.put (statusBit bSTA 0) 0 with
    log := { s.log with memFail := false, issued := false, resumed := if s.log.staged = [] ∧ s.log.overwritten = 0 then none else some (stampOf s.now) } }

/-- A parity error in staging: LOG_STAGE_FAIL is set, and logging stops until RESET_N (R363). -/
def logDead (s : Dev) : Dev := { s.put (statusBit bSTA 1) 1 with log := { s.log with dead := true, issued := false } }

/-- LOG_STAGE_FAIL (R363): logging stops, and LOG_STAGE records an event. -/
def logStageFail (s : Dev) : Dev := s.logDead.fault bSTA 1

/-- A write of STA_LOG_CFG: numbering restarts when EN rises (R361). -/
def logCfgWrite (s : Dev) (v : Word) : Dev :=
  let old := s.bit Reg.STA_LOG_CFG.EN
  let s := s.writeFields bSTA Reg.STA_LOG_CFG v
  if ¬ old ∧ s.bit Reg.STA_LOG_CFG.EN then { s with log := { s.log with written := 0, issued := false } } else s

end Dev

/-- The 32 octets of a log entry (R360). -/
def LogEntry.octets (e : LogEntry) : List Octet :=
  octetsLE 12 e.stamp ++ (octetsLE 4 (e.kind * 2 ^ 28 + e.block % 256 * 2 ^ 16 + e.src % 256 * 256 + e.cls % 4 * 64)
    ++ (octetsLE 4 e.detail ++ (octetsLE 4 e.seq ++ octetsLE 8 0)))

/-- Store consecutive octets. -/
def Memory.putRun (m : Memory) (a : Nat) (l : List Octet) : Memory := m.putAll ((List.range l.length).zipWith (fun i o => (a + i, o)) l)

/-- LOG_WRITE_COMPLETE: the write of the next entry ends; on a channel that is down, or outside usable memory, it fails at once (R339, R361, R362). -/
def State.logWriteComplete (s : State) (ok : Bool) : State :=
  let d := s.dev
  if ¬ d.logWrites then s
  else if ¬ d.ringFits (d.get Reg.STA_LOG_BASE.BASE) (d.get Reg.STA_LOG_CFG.SIZE_LOG) then { s with dev := d.logFail }
  else if ¬ d.chUp d.rt1Chan then { s with dev := (d.inc (Reg.MEM_PORT_OVF.COUNT 1)).logFail }
  else if ¬ d.log.issued then s
  else if ¬ ok then { s with dev := d.logFail }
  else match d.logNext with
  | some e => { s with dram := s.dram.putRun (d.logAddr d.log.written) e.octets, dev := (d.logPop.inc Reg.STA_LOG_WR.COUNT).panicUpdate }
  | none => s

namespace Dev

/-! ### Removal of VCORE (R354) -/

/-- VCORE_REMOVAL: VCORE below its power-on threshold clears every GRAVE latch with the FLT_STICKY bit and the class of its source, and the drive of FAULT_N; it can fall only while the device is in reset or in Deep Hold (R354, R367, R375). -/
def vcoreRemoval (s : Dev) : Dev :=
  if s.pwr.phase = .off ∨ s.pwr.phase = .deepHold then
    let s := (s.flt.filter fun e => decide (e.2.cls = .grave)).foldl (fun s e =>
      (s.put (stickyBit (e.1 / 32) (e.1 % 32)) 0).setFltSrc (e.1 / 32) (e.1 % 32) {}) s
    (((s.setWord Reg.STA_GRAVE 0).setWord Reg.STA_GRAVE_OWN 0).put Reg.STA_FLINE.DRIVING 0).put Reg.STA_FLINE.HIGH_FAULT 0
  else s

end Dev

/-- ACKNOWLEDGE (R347). -/
def execAcknowledge (b : Fin 28) (value : Word) (s : State) :=
  devStep (fun d => d.hostGate b (stickyAddr b) value (·.acknowledge b value)) s
/-- FLT_CFG_WRITE (R346). -/
def execFltCfgWrite (b : Fin 28) (value : Word) (s : State) := devStep (fun d => d.atBlock b (·.fltCfgHost b value)) s
/-- EXTERNAL_ASSERTION (R357). -/
def execExternalAssertion (s : State) := devStep (fun d => d.atBlock bSTA (·.lineFall)) s
/-- LINE_HIGH (R356). -/
def execLineHigh (s : State) := devStep (fun d => d.atBlock bSTA (·.lineHigh)) s
/-- LINE_STUCK (R358). -/
def execLineStuck (s : State) := devStep (fun d => d.atBlock bSTA (·.lineStuck)) s
/-- LINE_STUCK_CLEAR (R358). -/
def execLineStuckClear (s : State) := devStep (fun d => d.atBlock bSTA (·.lineStuckClear)) s
/-- FAULT_N_RISE (R357). -/
def execFaultNRise (s : State) := devStep (fun d => d.atBlock bSTA (·.lineRise)) s
/-- LOG_WRITE_COMPLETE (R361, R362). -/
def execLogWriteComplete (ok : Bool) (s : State) := memStep (·.logWriteComplete ok) s
/-- LOG_RESUME (R362). -/
def execLogResume (s : State) := devStep (fun d => d.hostGate bSTA (statusAddr bSTA) 1 (·.logResume)) s
/-- LOG_STAGE_FAIL (R363). -/
def execLogStageFail (s : State) := devStep (fun d => d.atBlock bSTA (·.logStageFail)) s
/-- VCORE_REMOVAL (R354). -/
def execVcoreRemoval (s : State) := devStep (·.vcoreRemoval) s

end Sys2Proof.Machine
end

