-- ==== Sys2Proof/Machine/Burnisher.lean ====
section
/-! DEFINITION. The Burnisher (spec/18_inservice_test_live_change.md): sweeps, test units, and the power-cycling of a domain. -/

namespace Sys2Proof.Machine

/-- The units of a test, rising (R384). -/
def testUnits (t : Nat) : List (Nat × Nat) := (List.range ([24, 68, 2, 1, 8, 28].getD t 0)).map fun u => (t, u)

/-- A time in hours, 1 to 255, in ns; 0 acts as 1 (R385). -/
def hoursNs (h : Nat) : Nat := max 1 h * 3600000000000

namespace Dev

/-- IST_STATE.PERCENT follows the units done. -/
def sweepPercent (s : Dev) : Dev :=
  s.put Reg.IST_STATE.PERCENT ((s.ist.total - s.ist.left.length) * 100 / max 1 s.ist.total)

/-- Every unit of the sweep has run (R385). -/
def sweepEnd (s : Dev) : Dev :=
  if ¬ s.ist.sweeping ∨ s.ist.left ≠ [] ∨ s.ist.running.isSome then s
  else (({ s with ist := { s.ist with sweeping := false } }).put Reg.IST_STATE.BUSY 0).raise bIST 1 |>.inc Reg.IST_SWEEP_CNT.COUNT

/-- A sweep of the tests in `l` starts; the test engine's domain is switched on (R258, R385). -/
def sweepStart (s : Dev) (l : List Nat) : Dev :=
  let units := l.flatMap testUnits
  let s := { s with ist := { s.ist with left := units, total := units.length, sweeping := true, dueAt := if s.bit Reg.IST_CFG.EN then some (s.up + hoursNs (s.get Reg.IST_CFG.SWEEP_H)) else s.ist.dueAt } }
  (((s.put Reg.IST_STATE.BUSY 1).sweepPercent).plcDomOn 78 causeBurnisher).sweepEnd

/-- The tests that TEST_EN enables, rising. -/
def testsEnabled (s : Dev) : List Nat := (List.range 6).filter fun t => (s.get Reg.IST_CFG.TEST_EN).testBit t

/-- SWEEP_DUE: the units not run are skipped and the new sweep begins; in Doze it waits (R385, R391). -/
def sweepDue (s : Dev) : Dev :=
  match s.ist.dueAt with
  | none => s
  | some t =>
    if s.up < t ∨ s.pwr.phase ≠ .run ∨ ¬ s.bit Reg.IST_CFG.EN then s
    else
      let s := if s.ist.sweeping then ((s.ist.left.map (·.1)).eraseDups).foldl (fun s t => s.put (Reg.IST_RESULT.LAST t) 3) s else s
      s.sweepStart s.testsEnabled

/-- A write of IST_CMD: RUN_NOW starts a sweep at once unless one runs; with TEST_ONE it runs test TEST alone, and 6 and 7 have no effect (R385). -/
def istCmdWrite (s : Dev) (v : Word) : Dev :=
  if ¬ wbit v 31 ∨ s.ist.sweeping then s
  else if wbit v 30 then (if wfld v 0 3 < 6 then s.sweepStart [wfld v 0 3] else s)
  else s.sweepStart s.testsEnabled

/-! ### Conditions of the units (R384, R386) -/

/-- The eye scan of port `p` may run: on a ring port inside a quiet gap while the other ring is healthy, on an edge port as R80 gives. -/
def eyeAllowed (s : Dev) (p : Nat) : Bool :=
  if p < 4 then (s.inGap p).isSome && s.ringHealthy (1 - ringOf p)
  else (List.range 8).all fun c => !s.carriesScheduled p c || s.closedThrough p c s.now (s.now + 40000 * 65536)

/-- The starts of the present cycles of both rings. -/
def ringCycles (s : Dev) : List Nat := [0, 1].map fun r => s.now - (s.ringSchedule r).phase s.now

/-- No port of the other ring has been scanned in the present cycle of a ring (R386). -/
def otherRingRests (s : Dev) (p : Nat) : Bool :=
  match s.ist.scanned with
  | some (r, l) => Nat.ble 4 p || ringOf p == r || !(l.zip s.ringCycles).any fun e => e.1 == e.2
  | none => true

/-- A unit may start under its condition (R384). -/
def unitReady (s : Dev) (t u : Nat) : Bool :=
  match t with
  | 0 => !s.bankIn u && s.domOn (19 + u)
  | 1 => (s.pairFree u || s.pairState u == 2) && s.domOn (groupDom (u / 4)) && s.get (Reg.CEL_GRP_DVFS.FREQ_NOW (u / 4)) == 8
  | 2 =>
    let c := s.chn u
    s.chState u == chReady && c.waits.isEmpty && (s.rt1Next u).isNone && Nat.ble c.catchTill s.up && !s.bit (panicFld 0 u) && !s.bit (panicFld 1 u)
  | 3 => s.dct.queue.isEmpty
  | 4 => s.blockOn (bPRT u) && s.eyeAllowed u && s.otherRingRests u
  | _ => s.blockOn u

/-- What the Burnisher asks of the Rigger for a march test: the evacuation of a bank in service that R102 lets go, or the domain of a bank held off switched on (R252, R258, R384, R386). -/
def marchPrepare (s : Dev) (k : Nat) : Dev :=
  if s.bankIn k then
    if s.evacAllowed k then ({ s with ist := { s.ist with asked := s.ist.asked ||| 2 ^ k } }).evacBegin k causeBurnisher else s
  else if ¬ s.domOn (19 + k) then
    ({ s with ist := { s.ist with heldOff := s.ist.heldOff ||| 2 ^ k } }).plcDomOn (19 + k) causeBurnisher
  else s

/-- The unit waits to be run, by the sweep or by a power-cycle. -/
def unitWaits (s : Dev) (t u : Nat) : Bool := (s.ist.sweeping && s.ist.left.contains (t, u)) || (s.ist.cyclePhase == 4 && s.ist.cycle.contains (t, u))

/-- It is the unit's turn: no unit of an earlier test is left in the sweep, and no lower unit of the same test that could run (R385); a power-cycle's units have no order. -/
def unitTurn (s : Dev) (t u : Nat) : Bool :=
  s.ist.cycle.contains (t, u) || s.ist.left.all fun e => Nat.ble t e.1 && (e.1 != t || Nat.ble u e.2 || !s.unitReady t e.2)

/-- TEST_UNIT_START (R384). -/
def testUnitStart (s : Dev) (t u : Nat) : Dev :=
  if s.ist.running.isSome ∨ s.pwr.phase ≠ .run ∨ ¬ s.unitWaits t u ∨ ¬ s.unitTurn t u then s
  else
    let s := s.plcDomOn 78 causeBurnisher
    let s := s.when (t == 0) (·.marchPrepare u)
    if ¬ s.domOn 78 ∨ ¬ s.unitReady t u then s
    else
      let ist := { s.ist with running := some (t, u), startUp := s.up, left := s.ist.left.filter (· != (t, u)), cycle := s.ist.cycle.filter (· != (t, u)) }
      let ist := if t = 4 ∧ u < 4 then { ist with scanned := some (ringOf u, s.ringCycles) } else ist
      let s : Dev := { s with ist := ist }
      ((s.put (statusBit bIST 0) 1).put Reg.IST_STATE.TEST t).put Reg.IST_STATE.UNIT u

/-! ### Ends of the units (R384) -/

/-- The unit's result is recorded; `own` says the failure counts in its own source. -/
def testResult (s : Dev) (t u : Nat) (pass own : Bool) : Dev :=
  let s := s.put (Reg.IST_RESULT.LAST t) (if pass then 1 else 2)
  if pass then s
  else
    let s := (s.put (Reg.IST_RESULT.UNIT t) u).raise bIST 2
    if own then s
    else (s.put (Reg.IST_RESULT.FAIL_CNT t) (min 65535 (s.get (Reg.IST_RESULT.FAIL_CNT t) + 1))).fault bIST 0

/-- The end of a march test of bank `k` (R252, R384). -/
def marchEnd (s : Dev) (k : Nat) (pass : Bool) : Dev :=
  let bit := 2 ^ k
  let clear (m : Nat) : Nat := m &&& (2 ^ 24 - 1 - bit % 2 ^ 24)
  let asked := s.ist.asked.testBit k
  let held := s.ist.heldOff.testBit k
  let s := { s with ist := { s.ist with asked := clear s.ist.asked, heldOff := clear s.ist.heldOff } }
  if ¬ pass then { s with plc := { s.plc with faulty := s.plc.faulty ||| bit } }
  else
    let wasFaulty := s.plc.faulty.testBit k
    let s := { s with plc := { s.plc with faulty := clear s.plc.faulty }, retired := s.retired.filter fun g => g / 2048 != k }
    if held ∧ ¬ asked ∧ ¬ wasFaulty ∧ s.ist.cyclePhase ≠ 4 then s.plcDomOff (19 + k) causeBurnisher
    else s.bankBack k causeBurnisher

/-- The end of a golden run on pair `p` (R215, R250, R384). -/
def goldenEnd (s : Dev) (p : Nat) (pass : Bool) : Dev :=
  if pass then s.when (s.pairState p == 2) fun s => s.put (Reg.CEL_PAIR_STAT.TESTED p) 1
  else if s.pairState p = 0 then ((s.setPair p 2).put (Reg.CEL_PAIR_STAT.TESTED p) 0).spareRestore
  else s

/-- The end of a scrub of channel `ch` at block `pos`, with `corr` corrected errors (R328, R384). -/
def scrubEnd (s : Dev) (ch pos corr : Nat) (pass : Bool) : Dev :=
  let s := (s.put Reg.IST_SCRUB_POS.CH ch).put Reg.IST_SCRUB_POS.BLOCK pos
  let s := s.when (corr != 0) fun s => (s.incBy (Reg.MEM_ECC_CORR.COUNT ch) corr).raise bMEM 0
  if pass then s else (s.eccUncorr ch (ch * 0x2000000 + pos)).fault bIST 1

/-- The units of a power-cycle have run (R388). -/
def cycleEnd (s : Dev) : Dev :=
  if s.ist.cyclePhase = 4 ∧ s.ist.cycle = [] ∧ s.ist.running.isNone then
    (({ s with ist := { s.ist with cyclePhase := 0 } }).put Reg.IST_CYCLE.GO 0).raise bIST 3
  else s

/-- TEST_UNIT_END: `pass` as the test reports it; `a` and `b` are the eye's margins, `a` the scrub's block and `b` its corrected words, `a` the key slot found bad (R384). -/
def testUnitEnd (s : Dev) (pass : Bool) (a b : Nat) : Dev :=
  match s.ist.running with
  | none => s
  | some (t, u) =>
    if t = 0 ∧ s.up < s.ist.startUp + 1408000 then s
    else
      let s := ({ s with ist := { s.ist with running := none } }).put (statusBit bIST 0) 0
      let s := match t with
        | 0 => (s.testResult t u pass false).marchEnd u pass
        | 1 => (s.testResult t u pass false).goldenEnd u pass
        | 2 => (s.scrubEnd u (a % 0x2000000) b pass).testResult t u pass true
        | 3 =>
          let s := s.when (!pass) fun s => ({ s with keyBad := if s.keyBad.contains (a % 4096) then s.keyBad else s.keyBad ++ [a % 4096] }).graveFault bAUT 0
          s.testResult t u pass true
        | 4 =>
          let s := (s.put (Reg.IST_EYE.H_MARGIN u) a).put (Reg.IST_EYE.V_MARGIN u) b
          let ok := Nat.ble (s.get Reg.IST_EYE_LIMIT.H_MIN) (s.get (Reg.IST_EYE.H_MARGIN u)) && Nat.ble (s.get Reg.IST_EYE_LIMIT.V_MIN) (s.get (Reg.IST_EYE.V_MARGIN u))
          s.testResult t u ok false
        | _ => s.testResult t u pass false
      (s.sweepPercent.sweepEnd).cycleEnd

/-! ### Power-cycling a domain (R388) -/

/-- The domains that may be power-cycled. -/
def cycleDom (d : Nat) : Bool := (Nat.ble 19 d && Nat.ble d 42) || (Nat.ble 44 d && Nat.ble d 59) || d == 69 || d == 70

/-- Where a cell of group `g` may be moved: a pair of another group (R248). -/
def cycleTarget (s : Dev) (g c : Nat) : Option Nat :=
  if (s.pinTarget 0 c).isSome then none else (List.range 68).find? fun p => p / 4 != g && s.moveFits c p

/-- The Rigger can empty the domain without breaking R260. -/
def canEmpty (s : Dev) (d : Nat) : Bool :=
  if d ≤ 42 then !s.bankIn (d - 19) || s.evacAllowed (d - 19)
  else if d ≤ 59 then
    let g := d - 43
    let cells := s.groupCells g
    let own := ((groupPairs g).filter fun p => s.pairState p == 0).length
    cells.all (fun c => (s.cycleTarget g c).isSome) && Nat.ble (4 + own + cells.length) (s.get Reg.CEL_SPARES.SPARE_NOW)
  else
    let u := d - 69
    let jobs := s.unitJobs u
    jobs.all (fun j => (s.pinTarget 3 j).isNone) && Nat.ble (jobs.length + (s.unitJobs (1 - u)).length) 32

/-- The forced moves that empty the domain, as far as they can be made now: cells between two activations, jobs between transfers (R245, R388). -/
def emptyStep (s : Dev) (d : Nat) : Dev :=
  if d ≤ 42 then s.evacBegin (d - 19) causeBurnisher
  else if d ≤ 59 then
    (s.groupCells (d - 43)).foldl (fun s c =>
      match s.cycleTarget (d - 43) c with
      | some p => if (s.cell c).run.isNone then s.moveCell c p causeBurnisher false else s
      | none => s) s
  else
    (s.unitJobs (d - 69)).foldl (fun s j =>
      let u := 1 - (d - 69)
      if ¬ s.domOn (unitDom u) then s.plcDomOn (unitDom u) causeBurnisher
      else if s.jobIdle j then s.moveJob j u causeBurnisher
      else s) s

/-- POWER_CYCLE: a write of IST_CYCLE with GO names domain `d` (R388). -/
def powerCycle (s : Dev) (d : Nat) : Dev :=
  let s := s.put Reg.IST_CYCLE.DOM d
  let refuse (n : Nat) : Dev := s.put Reg.IST_CYCLE.REFUSE n
  if ¬ cycleDom d then refuse 1
  else if (s.pinTarget 4 d).isSome then refuse 2
  else if ¬ s.canEmpty d then refuse 3
  else if s.ist.running.isSome ∨ s.ist.cyclePhase ≠ 0 then refuse 4
  else
    let s := (s.put Reg.IST_CYCLE.REFUSE 0).put Reg.IST_CYCLE.GO 1
    let s := { s with ist := { s.ist with cyclePhase := if s.domOn d then 1 else 2, offAt := s.up, cycleDom := d } }
    s.when (s.domOn d) (·.emptyStep d)

/-- The domain under a power-cycle. -/
def cycling (s : Dev) (phase d : Nat) : Bool := s.ist.cyclePhase == phase && s.ist.cycleDom == d

/-- The domain has been emptied and switches off (R388 step 1). -/
def cycleOff (s : Dev) (d : Nat) : Dev :=
  let s := s.emptyStep d
  let empty : Bool := if d ≤ 42 then !s.bankIn (d - 19) else if d ≤ 59 then (groupPairs (d - 43)).all (fun p => s.pairState p != 1 && !s.pairReserved p) else (s.unitJobs (d - 69)).isEmpty
  if empty then
    let s := s.plcDomOff d causeBurnisher
    { s with ist := { s.ist with cyclePhase := 2, offAt := s.up } }
  else s

/-- The domain is on again: its units are to be tested (R388 step 3). -/
def cycleTests (s : Dev) (d : Nat) : Dev :=
  let units := if d ≤ 42 then [(0, d - 19)] else if d ≤ 59 then (groupPairs (d - 43)).map fun p => (1, p) else []
  ({ s with ist := { s.ist with cyclePhase := 4, cycle := units } }).cycleEnd

end Dev

/-- SWEEP_DUE (R385). -/
def execSweepDue (s : State) := devStep (fun d => d.atBlock bIST (·.sweepDue)) s
/-- RUN_NOW (R385). -/
def execRunNow (s : State) := devStep (fun d => d.hostGate bIST Reg.IST_CMD 0x80000000 (·.istCmdWrite 0x80000000)) s
/-- TEST_ONE (R385). -/
def execTestOne (test : Fin 8) (s : State) :=
  devStep (fun d => d.hostGate bIST Reg.IST_CMD (BitVec.ofNat 32 (0xC0000000 + test)) (·.istCmdWrite (BitVec.ofNat 32 (0xC0000000 + test)))) s
/-- TEST_UNIT_START (R384). -/
def execTestUnitStart (test : Fin 6) (unit : Fin 68) (s : State) := devStep (fun d => d.atBlock bIST (·.testUnitStart test unit)) s
/-- TEST_UNIT_END (R384). -/
def execTestUnitEnd (pass : Bool) (a b : Nat) (s : State) := devStep (fun d => d.atBlock bIST (·.testUnitEnd pass a b)) s
/-- POWER_CYCLE (R388). -/
def execPowerCycle (d : BitVec 7) (s : State) :=
  devStep (fun x => x.hostGate bIST Reg.IST_CYCLE (BitVec.ofNat 32 (0x80000000 + d.toNat)) (·.powerCycle d.toNat)) s

end Sys2Proof.Machine
end

