-- ==== Sys2Proof/Machine/Power.lean ====
section
/-! DEFINITION. The power sequencer (spec/17_power_startup.md): resets, the voltage loop, the power states and wakes, and the switching of single domains. The start-up sequence itself is in Startup.lean. -/

namespace Sys2Proof.Machine

namespace Dev

/-! ### Which domains are on (R17, R372) -/

/-- MODE of a port's register, as an enabled port needs it. -/
def portUsed (s : Dev) (p : Nat) : Bool := s.mode p != 0
/-- A ring is used while it is enabled or one of its ports is (R17). -/
def ringUsed (s : Dev) (r : Nat) : Bool := s.bit (Reg.SHD_RING_CFG.EN r) || s.portUsed (2 * r) || s.portUsed (2 * r + 1)

/-- The configuration uses domain `d`; those of the Rigger are its own matter (R17). Which configuration leaves PCI Express (13) or SPI management (14) unused is stated nowhere: the model takes both as used always (DESIGN CHOICE, log entry 59). -/
def domUsed (s : Dev) (d : Nat) : Bool :=
  if 5 ≤ d ∧ d ≤ 8 then s.ringUsed ((d - 5) / 2)
  else if 9 ≤ d ∧ d ≤ 12 then s.portUsed (d - 5)
  else if d = 15 ∨ d = 16 then s.ringUsed (d - 15)
  else if 61 ≤ d ∧ d ≤ 67 then (List.range 4).any fun k => s.bit (Reg.SMP_PORT_CFG.EN (4 * (d - 60) + k))
  else if d = 68 then (List.range 8).any fun n => s.get (Reg.ANG_SRC.KIND n) != 0
  else if d = 71 ∨ d = 72 then s.chState (d - 71) != chAbsent
  else if d = 76 then (List.range 8).any fun x => s.bit (Reg.TRC_SRC_CTL.EN x)
  else true

/-- Write PWR_DOM_ON from a set of domains. -/
def setDoms (s : Dev) (f : Nat → Bool) : Dev :=
  let w (i : Nat) : Nat := (List.range 32).foldl (fun a b => if Nat.blt (32 * i + b) 80 && f (32 * i + b) then a + 2 ^ b else a) 0
  ((s.put (Reg.PWR_DOM_ON.DOM 0) (w 0)).put (Reg.PWR_DOM_ON.DOM 1) (w 1)).put (Reg.PWR_DOM_ON.DOM 2) (w 2)

/-- The configuration to come uses domain `d`: the one in force, but for what the admitted values that wait have called for or leave unused (R17, R18). -/
def domNeeded (s : Dev) (d : Nat) : Bool := (s.domUsed d && !s.dct.unused.testBit d) || s.dct.calls.testBit d

/-- A port whose domain is about to go off gives up what it was sending. -/
def portQuit (s : Dev) (d : Nat) : Dev := s.when (Nat.ble 5 d && Nat.ble d 12) fun s => ((s.quietDrop (d - 5)).abandonHold (d - 5)).cutLine (d - 5)

/-- The domains that are left unused are switched off (R17). -/
def domTidy (s : Dev) : Dev :=
  (List.range 80).foldl (fun s d => if s.domOn d && !riggerDom d && !s.domNeeded d then (s.portQuit d).domStop d else s) s

/-- The domains that configuration `c` uses and that are off, those of the Rigger and of the memory channels apart (R18). -/
def domsMissing (s c : Dev) : List Nat :=
  (List.range 80).filter fun d => !riggerDom d && c.domUsed d && !s.domOn d && d != 71 && d != 72

/-- The domains that configuration `c` does not use, as a mask. -/
def domsUnused (c : Dev) : Nat := (List.range 80).foldl (fun m d => if !riggerDom d && !c.domUsed d then m + 2 ^ d else m) 0

/-- Domains on in Doze (R372). -/
def dozeOn (s : Dev) (d : Nat) : Bool :=
  Nat.ble d 4 || (Nat.ble 5 d && Nat.ble d 12 && s.portUsed (d - 5)) || (d == 13 && s.bit Reg.GLB_PCIE_STAT.LINK_UP) || (Nat.ble 14 d && Nat.ble d 18)
    || (Nat.ble 19 d && Nat.ble d 42 && s.bankIn (d - 19)) || d == 73 || d == 74 || d == 75 || d == 77 || d == 79

/-! ### Reset (R354, R368, R379) -/

/-- Keys of the GRAVE latches (R354). -/
def graveKey (k : Nat) : Bool := k == Reg.STA_GRAVE || k == Reg.STA_GRAVE_OWN

/-- Everything goes to reset but the register words that `keep` names, the GRAVE latches with the FLT_STICKY bit and the class of their source, and the drive of FAULT_N (R354). -/
def resetKeep (s : Dev) (keep : Nat → Bool) : Dev :=
  let latched := s.flt.filter fun e => decide (e.2.cls = .grave)
  let d : Dev := { regs := s.regs.filter fun e => keep e.1 || graveKey e.1, up := s.up, freeCount := s.freeCount, out := s.out, jtag := s.jtag
                   flt := latched.map fun e => (e.1, { cls := .grave }) }
  let d := { d with pwr := { d.pwr with perst := s.pwr.perst } }
  let d := latched.foldl (fun d e => d.put (stickyBit (e.1 / 32) (e.1 % 32)) 1) d
  d.put Reg.STA_FLINE.DRIVING (s.get Reg.STA_FLINE.DRIVING)

/-- The device goes into reset for `cause` (R379); the latches and PWR_WAKE_CAUSE stay. -/
def resetDev (s : Dev) (cause : Nat) : Dev := (s.resetKeep fun k => k == Reg.PWR_WAKE_CAUSE).put Reg.PWR_WAKE_CAUSE.RESET_CAUSE cause

/-- RESET: RESET_N low for 1 µs (R379); it finds nothing to do in a device that is in reset (R426). -/
def resetPin (s : Dev) : Dev := if s.pwr.phase = .off then s else s.resetDev 1

/-- POWER_FAIL_RESET: PWR_OK falls (R368); in Deep Hold the board may remove the rails (R375). -/
def powerFail (s : Dev) : Dev := if s.pwr.phase = .deepHold ∨ s.pwr.phase = .waking 3 then s else s.resetDev 2

/-- The device is powered and out of reset. -/
def powered (s : Dev) : Bool :=
  match s.pwr.phase with
  | .off => false
  | .deepHold => false
  | .waking 3 => false
  | _ => true

/-- CORE_PLL_UNLOCK: a loss of lock shorter than 1 µs is recorded, a longer one resets the device (R368). -/
def corePllUnlock (s : Dev) (long : Bool) : Dev :=
  if ¬ s.powered then s else if long then s.resetDev 4 else s.fault bPWR 3

/-! ### The voltage loop (R370) -/

/-- VMAX and VMIN as they act. -/
def avsMax (s : Dev) : Nat := min 40 (s.get Reg.PWR_AVS.VMAX)
/-- VMIN as it acts. -/
def avsMin (s : Dev) : Nat := min (s.get Reg.PWR_AVS.VMIN) s.avsMax
/-- VREQ holds its value. -/
def avsFrozen (s : Dev) : Bool := s.bit Reg.PWR_AVS.FREEZE || s.bit (ctlBit bPWR 16)

/-- The loop runs: from the AVS step of the start-up sequence on, while VCORE domains other than AON are powered. -/
def avsRuns (s : Dev) : Bool :=
  match s.pwr.phase with
  | .starting => Nat.ble 8 (s.get Reg.GLB_BOOT.STEP)
  | .run => true
  | .doze => true
  | .entering _ => true
  | .waking 1 => true
  | _ => false

/-- AVS_READING: the worst slack of the powered domains is `slack` ps, at domain `dom` (R370). -/
def avsReading (s : Dev) (dom : Nat) (slack : Int) : Dev :=
  let early : Bool := match s.pwr.avsAt with
    | some t => Nat.blt s.up (t + 10000)
    | none => false
  if ¬ s.avsRuns ∨ early = true ∨ ¬ s.domOn dom then s
  else
    let s := (s.put Reg.PWR_AVS_STAT.WORST_DOM dom).put Reg.PWR_AVS_STAT.SLACK (ofSigned 16 slack)
    let target : Int := s.get Reg.PWR_AVS.TARGET
    let v := s.get Reg.PWR_AVS_STAT.VREQ
    let good := if target + 20 ≤ slack then s.pwr.goodReads + 1 else 0
    let met := if target ≤ slack then s.pwr.targetReads + 1 else 0
    let s := { s with pwr := { s.pwr with avsAt := some s.up, goodReads := good, targetReads := met } }
    if slack < target then
      if s.avsMax ≤ v then (s.put (statusBit bPWR 3) 1).fault bPWR 1
      else (s.put (statusBit bPWR 3) 0).when (!s.avsFrozen) fun s => s.put Reg.PWR_AVS_STAT.VREQ (v + 1)
    else
      let s := s.put (statusBit bPWR 3) 0
      if 100 ≤ good ∧ ¬ s.avsFrozen then
        let s := { s with pwr := { s.pwr with goodReads := 0 } }
        s.when (Nat.blt s.avsMin v) fun s => s.put Reg.PWR_AVS_STAT.VREQ (v - 1)
      else s

/-! ### Standby states (R372–R375) -/

/-- A command is refused with a cause (R373). -/
def cmdRefuse (s : Dev) (n : Nat) : Dev := (s.put Reg.PWR_STATE.REFUSE n).raise bPWR 2

/-- A cell, Chuck channel, Scribe pin, angle domain, DMA job or capture buffer is enabled (R373). -/
def workEnabled (s : Dev) : Bool :=
  (List.range 64).any (fun c => s.bit (Reg.CEL_CFG.EN c)) || (List.range 8).any (fun n => s.get (Reg.ANG_SRC.KIND n) != 0)
    || (List.range 32).any (fun p => s.bit (Reg.SCR_PIN_CFG.EN p)) || s.word Reg.DMA_JOB_EN_LO != 0 || s.word Reg.DMA_JOB_EN_HI != 0
    || (List.range 512).any fun n => s.bit (Reg.SMP_CH_CFG.EN (n / 16) (n % 16)) || s.bit (Reg.SMP_CH_DEST.CAP_EN (n / 16) (n % 16))

/-- A wake source of Hold and Deep Hold is enabled (R373, R374). -/
def wakeEnabled (s : Dev) : Bool := s.get ⟨Reg.PWR_WAKE_CFG, 0, 3⟩ != 0

/-- PHY_LATCH takes the OR of WAKE_EN over all ports (R374). -/
def phyLatch (s : Dev) : Dev := s.putBit Reg.PWR_WAKE_CFG.PHY_LATCH ((List.range 8).any fun p => s.bit (Reg.PRT_PHY.WAKE_EN p))

/-- Entry to a standby state begins; for Hold and Deep Hold the Shroud sends a notice with code 0x05 first (R373). -/
def enterBegin (s : Dev) (t : Nat) : Dev :=
  let s := s.phyLatch
  let s := if t = 1 then s
    else
      let (w, s) := s.freeWord
      s.notice 5 s.sysAddr w
  { s.put Reg.PWR_STATE.STATE 4 with pwr := { s.pwr with phase := .entering t, wakeDue := false, graveInEntry := false } }

/-- A wake from Doze begins. -/
def wakeDoze (s : Dev) : Dev := { s.put Reg.PWR_STATE.STATE 5 with pwr := { s.pwr with phase := .waking 1, wakeDue := false } }

/-- A write of PWR_CMD with GO and TARGET `t` (R373, R374). -/
def pwrCmd (s : Dev) (t : Nat) : Dev :=
  let present : Option Nat := match s.pwr.phase with
    | .run => some 0
    | .doze => some 1
    | _ => none
  if t = 3 ∧ s.word Reg.STA_GRAVE ≠ 0 then s.cmdRefuse 1
  else if (t = 1 ∨ t = 2) ∧ s.workEnabled then s.cmdRefuse 2
  else if (t = 2 ∨ t = 3) ∧ ¬ s.wakeEnabled then s.cmdRefuse 3
  else match present with
  | none => s.cmdRefuse 4
  | some p =>
    if 3 < t ∨ t = p then s.cmdRefuse 4
    else if t = 0 then s.wakeDoze
    else s.enterBegin t

/-- The keys of the registers kept in Hold: GLB, PWR and TIM, with TIM's per-port words and their FLT_CFG (R372). -/
def holdKey (k : Nat) : Bool := Nat.blt k 0x30000 || (Nat.ble 0x1240000 k && Nat.blt k 0x1250000) || (Nat.ble 0x1260000 k && Nat.blt k 0x1260180)

/-- A Hold wake runs the start-up sequence from step 4, time going on (R374); Halyard B is loaded from A (R38). -/
def wakeHold (s : Dev) : Dev :=
  let s := ((s.put Reg.PWR_STATE.STATE 5).put Reg.GLB_BOOT.STEP 4).put Reg.GLB_BOOT.CODE 0
  let s := s.setDoms fun _ => true
  let s := { s with tim := { s.tim with accB := s.tim.accA } }
  { s with pwr := { s.pwr with phase := .starting, fromHold := true, startAt := s.up, wakeDue := false } }

/-- A wake from Deep Hold waits for PWR_OK (R375). -/
def wakeDeep (s : Dev) : Dev := { s with pwr := { s.pwr with phase := .waking 3, wakeDue := false } }

/-- The device is in Hold: time goes on from Halyard A, the registers of GLB, PWR and TIM stay (R372). -/
def toHold (s : Dev) : Dev :=
  let s := s.put (statusBit bGLB 0) 0
  let tim := if s.bit (statusBit bTIM 3) then { s.tim with hand := s.tim.hand + s.tim.accB - s.tim.accA } else s.tim
  let d := s.resetKeep holdKey
  let d := { d with
    tim := tim, lastTs := s.lastTs.filter (fun e => Nat.blt e.1 3), irq := s.irq.filter fun e => Nat.blt e.1 6
    flt := s.flt.filter fun e => Nat.blt e.1 96 || decide (e.2.cls = FltClass.grave)
    pwr := { d.pwr with phase := .hold, wakeDue := s.pwr.wakeDue } }
  (((d.put (statusBit bTIM 3) 0).setDoms fun n => n == 0 || n == 2 || n == 3).put Reg.PWR_STATE.STATE 2).raise bPWR 0

/-- The device is in Deep Hold: AON alone is on, PWR_WAKE_CFG and PWR_WAKE_CAUSE stay, time is lost (R372, R375). -/
def toDeepHold (s : Dev) : Dev :=
  let d := s.resetKeep fun k => k == Reg.PWR_WAKE_CFG || k == Reg.PWR_WAKE_CAUSE
  { d with pwr := { d.pwr with phase := .deepHold, wakeDue := s.pwr.wakeDue } }

/-- The device is in Doze: the domains not on are in retention (R372). -/
def toDoze (s : Dev) : Dev :=
  let ret := (List.range 80).foldl (fun a d => if s.domOn d && !s.dozeOn d then a + 2 ^ d else a) 0
  let t := s.setDoms fun d => s.domOn d && s.dozeOn d
  ({ t.put Reg.PWR_STATE.STATE 1 with pwr := { t.pwr with phase := .doze, retained := ret } }).raise bPWR 0

/-- The exit from Doze is complete: retained domains are on, the DRAM leaves self-refresh (R372, R376). -/
def fromDoze (s : Dev) : Dev :=
  let ret := s.pwr.retained
  let t := s.setDoms fun d => s.domOn d || ret.testBit d
  let t := { t.put Reg.PWR_STATE.STATE 0 with pwr := { t.pwr with phase := .run, retained := 0 } }
  let t := (List.range 2).foldl (fun t ch => t.setChn ch { t.chn ch with refAt := t.up + 488, mr4At := t.up }) t
  t.raise bPWR 0

/-- STATE_CHANGE: an entry or exit completes; a wake event met during the entry runs then (R372, R380). -/
def stateChange (s : Dev) : Dev :=
  match s.pwr.phase with
  | .entering t =>
    if t = 1 then
      let s := s.toDoze
      if s.pwr.wakeDue then s.wakeDoze else s
    else if t = 3 ∧ ¬ s.pwr.graveInEntry then
      let s := s.toDeepHold
      if s.pwr.wakeDue then s.wakeDeep else s
    else
      let s := s.toHold
      let s := s.when (t == 3) fun s => s.put Reg.PWR_STATE.REFUSE 1
      if s.pwr.wakeDue then s.wakeHold else s
  | .waking 1 => s.fromDoze
  | _ => s

/-- WAKE: source 0 WAKE, 1 PHY_WAKE_N, 2 CS_N of the SPI slave, 3 a PCI Express request in Doze (R374, R380). -/
def wake (s : Dev) (src : Nat) : Dev :=
  let enabled : Bool := (s.get ⟨Reg.PWR_WAKE_CFG, 0, 4⟩).testBit src && (src != 1 || s.bit Reg.PWR_WAKE_CFG.PHY_LATCH)
  let first : Bool := match s.pwr.phase with
    | .doze => true
    | .hold => true
    | .deepHold => true
    | .entering _ => !s.pwr.wakeDue
    | _ => false
  let later : Bool := match s.pwr.phase with
    | .entering _ => s.pwr.wakeDue
    | .waking _ => true
    | _ => false
  let doze : Bool := decide (s.pwr.phase = .doze) || decide (s.pwr.phase = .entering 1) || decide (s.pwr.phase = .waking 1)
  if ¬ enabled ∨ ¬ (first || later) ∨ (src = 3 ∧ ¬ doze) then s
  else
    let old := if first then 0 else s.get Reg.PWR_WAKE_CAUSE.WAKE
    let s := s.put Reg.PWR_WAKE_CAUSE.WAKE (old ||| 2 ^ src)
    if ¬ first then s
    else
      let s := (s.raise bPWR 1).raise bPWR 0
      match s.pwr.phase with
      | .doze => s.wakeDoze
      | .hold => s.wakeHold
      | .deepHold => s.wakeDeep
      | _ => { s with pwr := { s.pwr with wakeDue := true } }

/-! ### Single domains (R376) -/

/-- A domain should be on: the configuration uses it, the Rigger needs it, or POWER_EN is 0 (R17, R246, R258). -/
def domWanted (s : Dev) (d : Nat) : Bool :=
  if riggerDom d then
    !s.powerEn || s.cycling 2 d || s.cycling 3 d || (s.pinTarget 4 d).isSome
      || (Nat.ble 19 d && Nat.ble d 42 && (s.plc.returning.testBit (d - 19) || s.ist.heldOff.testBit (d - 19)))
      || (Nat.ble 44 d && Nat.ble d 59 && (s.restoreGroup == some (d - 43)
        || (List.range 64).any fun c => s.celWaits c && (s.choosePair c).isNone && s.groupFor c == some (d - 43)))
      || ((d == 69 || d == 70) && (!(s.unitJobs (d - 69)).isEmpty || s.unitAwaited (d - 69) || s.dct.calls.testBit d)) || (d == 78 && s.ist.sweeping)
  else s.domNeeded d

/-- DOMAIN_SWITCH_ON: a domain that should be on begins to switch on; one under a power-cycle has been off for 10 µs (R376, R388). -/
def domSwitchOn (s : Dev) (d : Nat) : Dev :=
  if s.domOn d ∨ s.pwr.switching.testBit d ∨ s.pwr.phase ≠ .run ∨ ¬ s.domWanted d then s
  else if s.cycling 2 d then
    if s.up < s.ist.offAt + 10000 then s
    else ({ s with ist := { s.ist with cyclePhase := 3 } }).plcDomOn d causeBurnisher
  else if riggerDom d then s.plcDomOn d (if Nat.ble 44 d && Nat.ble d 59 && s.restoreGroup == some (d - 43) then causeSpare else causePolicy)
  else s.domStart d

/-- What a domain that has come on brings back into use. -/
def domArrives (s : Dev) (d : Nat) : Dev :=
  if 5 ≤ d ∧ d ≤ 12 then s.tuned (d - 5)
  else if 19 ≤ d ∧ d ≤ 42 then
    let k := d - 19
    let s := { s with locker := s.locker.filter fun e => e.1 / 524288 != k }
    if s.plc.returning.testBit k then
      let s := { s with plc := { s.plc with returning := s.plc.returning &&& (2 ^ 24 - 1 - 2 ^ k % 2 ^ 24) } }
      s.bankReturn k s.plc.returnCause
    else s
  else if 44 ≤ d ∧ d ≤ 59 then
    let low := Nat.blt (s.get Reg.CEL_SPARES.SPARE_NOW) 4
    let s := s.pairsOn (d - 43)
    (s.when low (·.raise bPLC 3)).placeWaiting
  else if d = 69 ∨ d = 70 then
    let s := s.when (!s.domOn (139 - d)) fun s => (s.setWord Reg.DMA_JOB_EN_LO 0).setWord Reg.DMA_JOB_EN_HI 0 -- R311
    s.unitArrives (d - 69)
  else if d = 71 ∨ d = 72 then s.put (Reg.MEM_CH_STAT.STATE (d - 71)) chTraining
  else s

/-- DOMAIN_ON_COMPLETE: power good, and a slack of at least TARGET: the clock starts with the registers at reset (R370, R376). -/
def domOnComplete (s : Dev) (d : Nat) (slack : Int) : Dev :=
  if ¬ s.pwr.switching.testBit d ∨ slack < (s.get Reg.PWR_AVS.TARGET : Int) then s
  else
    let s := { s with pwr := { s.pwr with switching := s.pwr.switching &&& (2 ^ 80 - 1 - 2 ^ d % 2 ^ 80) } }
    let s := ((s.domLose d).setDom d true).domArrives d
    if s.cycling 3 d then s.cycleTests d else s

/-- DOMAIN_FAIL: no power good within 20 µs (R376). -/
def domFail (s : Dev) (d : Nat) : Dev :=
  if ¬ s.pwr.switching.testBit d then s
  else
    let s := { s with pwr := { s.pwr with switching := s.pwr.switching &&& (2 ^ 80 - 1 - 2 ^ d % 2 ^ 80) } }
    let s := if s.cycling 3 d then { s with ist := { s.ist with cyclePhase := 2, offAt := s.up } } else s
    (s.put (domFailFld d) 1).fault bPWR 2

/-- DOMAIN_SWITCH_OFF: the Rigger switches off an empty domain, or the one under a power-cycle (R258, R388). -/
def domSwitchOffCmd (s : Dev) (d : Nat) : Dev := if s.cycling 1 d then s.cycleOff d else s.domSwitchOff d

/-- OVERTEMP: a sensor has stayed at 150 °C or more for 1 ms; the signed octet of PWR_TEMP cannot state that reading, which is a free value (R376; log entry 27). -/
def overtemp (s : Dev) (n : Nat) : Dev :=
  let (w, s) := s.freeWord
  (((s.put Reg.PWR_TEMP.MAX w).put Reg.PWR_TEMP.SENSOR n).put (statusBit bPWR 4) 1).fault bPWR 4

end Dev

/-- RESET (R379). -/
def execReset (s : State) := devStep (·.resetPin) s
/-- POWER_FAIL_RESET (R368). -/
def execPowerFailReset (s : State) := devStep (·.powerFail) s
/-- SUPPLY_LOW (R368). -/
def execSupplyLow (s : State) := devStep (fun d => d.when d.powered (·.fault bPWR 0)) s
/-- CORE_PLL_UNLOCK (R368). -/
def execCorePllUnlock (long : Bool) (s : State) := devStep (·.corePllUnlock long) s
/-- AVS_READING (R370). -/
def execAvsReading (dom : Fin 80) (slack : BitVec 16) (s : State) := devStep (·.avsReading dom slack.toInt) s
/-- RUN_CMD (R374). -/
def execRunCmd (s : State) := devStep (fun d => d.hostGate bPWR Reg.PWR_CMD 0x80000000 (·.pwrCmd 0)) s
/-- DOZE_CMD (R373). -/
def execDozeCmd (s : State) := devStep (fun d => d.hostGate bPWR Reg.PWR_CMD 0x80000001 (·.pwrCmd 1)) s
/-- HOLD_CMD (R373). -/
def execHoldCmd (s : State) := devStep (fun d => d.hostGate bPWR Reg.PWR_CMD 0x80000002 (·.pwrCmd 2)) s
/-- DEEP_HOLD_CMD (R373). -/
def execDeepHoldCmd (s : State) := devStep (fun d => d.hostGate bPWR Reg.PWR_CMD 0x80000003 (·.pwrCmd 3)) s
/-- STATE_CHANGE (R372). -/
def execStateChange (s : State) := devStep (·.stateChange) s
/-- WAKE (R374). -/
def execWake (source : Fin 4) (s : State) := devStep (·.wake source) s
/-- DOMAIN_SWITCH_ON (R376). -/
def execDomainSwitchOn (d : Fin 80) (s : State) := devStep (·.domSwitchOn d) s
/-- DOMAIN_ON_COMPLETE (R376). -/
def execDomainOnComplete (d : Fin 80) (slack : BitVec 16) (s : State) := devStep (·.domOnComplete d slack.toInt) s
/-- DOMAIN_FAIL (R376). -/
def execDomainFail (d : Fin 80) (s : State) := devStep (·.domFail d) s
/-- DOMAIN_SWITCH_OFF (R258). -/
def execDomainSwitchOff (d : Fin 80) (s : State) := devStep (fun x => x.atBlock bPLC (·.domSwitchOffCmd d)) s
/-- OVERTEMP (R376). -/
def execOvertemp (sensor : Fin 21) (s : State) := devStep (fun d => d.when d.powered (·.overtemp sensor)) s

end Sys2Proof.Machine
end

