-- ==== Sys2Proof/Machine/Telltale.lean ====
section
/-! DEFINITION. The Telltale's outputs (R396, R397) and the JTAG port (R399). -/

namespace Sys2Proof.Machine

/-- The 24 octets of a trace record (R395). -/
def TraceRec.octets (r : TraceRec) : List Octet :=
  octetsLE 12 r.stamp ++ (octetsLE 4 (r.source * 2 ^ 28 + r.inst % 512 * 2 ^ 19) ++ (octetsLE 4 r.a ++ octetsLE 4 r.b))

/-- The first `n` records have left the queue; a pending loss record takes a place (R396). -/
def TraceQueue.drain (q : TraceQueue) (n : Nat) : TraceQueue :=
  let rest := q.recs.drop n
  if q.lost ≠ 0 ∧ rest.length < 256 then { recs := rest ++ [⟨q.lostAt, 15, 0, q.lost, 0⟩], lost := 0, lostAt := 0 }
  else { q with recs := rest }

/-- The first `n` records are lost at the output (R396). -/
def TraceQueue.lose (q : TraceQueue) (n : Nat) : TraceQueue :=
  let at' := if q.lost ≠ 0 then q.lostAt else (q.recs.head?.map (·.stamp)).getD 0
  { recs := q.recs.drop n, lost := q.lost + n, lostAt := at' }

/-- The record of number `i` is discarded in the queue for a parity error, and lost at the output (R396). -/
def TraceQueue.spoil (q : TraceQueue) (i : Nat) : TraceQueue :=
  let at' := if q.lost ≠ 0 then q.lostAt else (q.recs[i]?.map (·.stamp)).getD 0
  ({ recs := q.recs.eraseIdx i, lost := q.lost + 1, lostAt := at' } : TraceQueue).drain 0

namespace Dev

/-- `n` records have been lost at one output: counted, LOSS_EVT, TRACE_OVF (R396). -/
def traceLost (s : Dev) (n : Nat) : Dev := ((s.incBy Reg.TRC_LOST.COUNT n).raise bTRC 0).traceOverflow

/-- MAX_REC as it acts. -/
def maxRec (s : Dev) : Nat := max 1 (min 60 (s.get Reg.TRC_OUT.MAX_REC))

/-- A trace frame with the records `l` (R396). -/
def traceFrame (s : Dev) (p : Nat) (l : List TraceRec) : List Octet :=
  let da := s.get Reg.TRC_DA_HI.DA * 2 ^ 32 + s.get Reg.TRC_DA_LO.DA
  padTo 60 (octetsBE 6 da ++ (octetsBE 6 (s.macOf p) ++ (octetsBE 2 (s.get Reg.TRC_ETYPE.ETYPE)
    ++ (octetsBE 2 0x5400 ++ (octetsBE 2 s.trc.frameSeq ++ (octetsBE 1 l.length ++ (octetsBE 3 0 ++ l.flatMap TraceRec.octets)))))))

/-- TRACE_FRAME_SEND: MAX_REC records, or 100 µs after the first (R396). -/
def traceFrameSend (s : Dev) : Dev :=
  let q := s.trc.port
  let due : Bool := Nat.ble s.maxRec q.recs.length || (match s.trc.firstAt with
    | some t => Nat.ble (t + 100000) s.up
    | none => false)
  if ¬ s.domOn 76 ∨ ¬ s.tracePortOn ∨ q.recs = [] ∨ ¬ due then s
  else
    let p := s.get Reg.TRC_OUT.PORT
    let l := q.recs.take s.maxRec
    let data := s.traceFrame p l
    let first (q : TraceQueue) : Option Nat := if q.recs = [] then none else some s.up
    match s.allocDevice .trace data 1 with
    | some (d, t) =>
      let q' := q.drain l.length
      let t := { t with trc := { t.trc with port := q', firstAt := first q', frameSeq := (t.trc.frameSeq + 1) % 65536 } }
      t.queueCopy p (t.classOf p (t.get Reg.TRC_OUT.PRIO)) { desc := d, data := data }
    | none =>
      let q' := (q.lose l.length).drain 0
      ({ s with trc := { s.trc with port := q', firstAt := first q' } }).traceLost l.length

/-- TRACE_PIN_RECORD_SENT: the marker and the record have been sent; 26 idle octets follow a loss record (R396). -/
def tracePinSent (s : Dev) : Dev :=
  match s.trc.pin.recs with
  | [] => s
  | r :: _ =>
    if ¬ s.domOn 76 ∨ ¬ s.bit Reg.TRC_OUT.PIN_EN then s
    else
      let idle : List Octet := if r.source = 15 then List.replicate 26 0 else []
      ({ s with trc := { s.trc with pin := s.trc.pin.drain 1 } }).emit (.trace ((0xA5 : Octet) :: (r.octets ++ idle)))

/-- A write of TRC_OUT: queues of outputs that are off are discarded, numbering restarts at an enable, and the pins idle for 26 octets (R396, R397). -/
def trcOutWrite (s : Dev) (v : Word) : Dev :=
  let pin := s.bit Reg.TRC_OUT.PIN_EN
  let dram := s.bit Reg.TRC_OUT.DRAM_EN
  let s := s.writeFields bTRC Reg.TRC_OUT v
  let pin' := s.bit Reg.TRC_OUT.PIN_EN
  let dram' := s.bit Reg.TRC_OUT.DRAM_EN
  let t := s.trc
  let t := if pin' then t else { t with pin := {} }
  let t := if dram' then (if dram then t else { t with dramCount := 0, dramIssued := 0 }) else { t with dram := {}, dramIssued := 0 }
  ({ s with trc := t }).tracePortTidy.when (pin' && !pin) (·.emit (.trace (List.replicate 26 0)))

/-- A record of the pin output's queue (0), the edge port's (1) or the DRAM's (2) is discarded for a parity error and counted as a lost one; TRACE_OVF records none (R396). -/
def traceSpoil (s : Dev) (out i : Nat) : Dev :=
  let t := s.trc
  let t := match out with
    | 0 => { t with pin := t.pin.spoil i }
    | 1 => { t with port := t.port.spoil i }
    | _ => { t with dram := t.dram.spoil i }
  (({ s with trc := t }).inc Reg.TRC_LOST.COUNT).raise bTRC 0

/-- The records that a parity error can meet, as (output, number): those that wait, and of the DRAM's none that is being written. -/
def traceWaiting (s : Dev) : List (Nat × Nat) :=
  let t := s.trc
  ((List.range t.pin.recs.length).map fun i => (0, i)) ++ ((List.range t.port.recs.length).map fun i => (1, i))
    ++ ((List.range t.dram.recs.length).filter fun i => Nat.ble t.dramIssued i).map fun i => (2, i)

/-- The write of the first record of the DRAM queue has failed: the record is lost (R396). -/
def traceDramFail (s : Dev) : Dev :=
  let t := s.trc
  ({ s with trc := { t with dram := (t.dram.lose 1).drain 0, dramIssued := t.dramIssued - 1 } }).traceLost 1

end Dev

/-- TRACE_DRAM_WRITE_COMPLETE: the first record reaches its place in the ring, or is lost under R362's conditions (R396). -/
def State.traceDramComplete (s : State) (ok : Bool) : State :=
  let d := s.dev
  match d.trc.dram.recs with
  | [] => s
  | r :: _ =>
    if ¬ d.domOn 76 ∨ ¬ d.bit Reg.TRC_OUT.DRAM_EN then s
    else if ¬ d.ringFits (d.get Reg.TRC_DRAM_BASE.BASE) (d.get Reg.TRC_DRAM_CFG.SIZE_LOG) then { s with dev := d.traceDramFail }
    else if ¬ d.chUp d.rt1Chan then { s with dev := (d.inc (Reg.MEM_PORT_OVF.COUNT 1)).traceDramFail }
    else if d.trc.dramIssued = 0 then s
    else if ¬ ok then { s with dev := d.traceDramFail }
    else
      let t := d.trc
      let d' := { d with trc := { t with dram := t.dram.drain 1, dramIssued := t.dramIssued - 1, dramCount := t.dramCount + 1 } }
      { s with
        dram := s.dram.putRun (d.trcAddr t.dramCount) (r.octets ++ List.replicate 8 0)
        dev := (d'.inc Reg.TRC_DRAM_WR.COUNT).panicUpdate }

/-! ### JTAG (R399) -/

/-- BYPASS. -/
abbrev jtagBypass : BitVec 4 := 0xF
/-- IDCODE. -/
abbrev jtagIdcode : BitVec 4 := 2

/-- IDCODE with its fused bits [11:1]. -/
def idcode : Nat := 0x15120001 + 2 * Config.jtagFuses.toNat

namespace Dev

/-- The instruction as it acts: EXTEST, CLAMP and HIGHZ as BYPASS while READY is high, and every code not listed as BYPASS (R399). -/
def jtagActs (s : Dev) : BitVec 4 :=
  let i := s.jtag
  if i = 1 ∨ i = 2 then i
  else if (i = 0 ∨ i = 3 ∨ i = 4) ∧ ¬ s.bit (statusBit bGLB 0) then i
  else jtagBypass

/-- An instruction is loaded; the data register it selects is IDCODE, or the bypass bit, which captures 0. -/
def jtagLoad (s : Dev) (i : BitVec 4) : Dev :=
  let s := { s with jtag := i }
  if s.jtagActs = jtagIdcode then s.emit (.jtag idcode)
  else if s.jtagActs = jtagBypass then s.emit (.jtag 0)
  else s

end Dev

/-- TRACE_FRAME_SEND (R396). -/
def execTraceFrameSend (s : State) := devStep (·.traceFrameSend) s
/-- TRACE_DRAM_WRITE_COMPLETE (R396). -/
def execTraceDramWriteComplete (ok : Bool) (s : State) := memStep (·.traceDramComplete ok) s
/-- TRACE_PIN_RECORD_SENT (R396). -/
def execTracePinRecordSent (s : State) := devStep (·.tracePinSent) s
/-- EXTEST (R399). -/
def execExtest (s : State) := devStep (·.jtagLoad 0) s
/-- SAMPLE/PRELOAD (R399). -/
def execSamplePreload (s : State) := devStep (·.jtagLoad 1) s
/-- IDCODE (R399). -/
def execIdcode (s : State) := devStep (·.jtagLoad 2) s
/-- CLAMP (R399). -/
def execClamp (s : State) := devStep (·.jtagLoad 3) s
/-- HIGHZ (R399). -/
def execHighz (s : State) := devStep (·.jtagLoad 4) s
/-- BYPASS, and every code that is not an instruction (R399). -/
def execBypass (code : BitVec 4) (s : State) :=
  devStep (·.jtagLoad (if code = 0 ∨ code = 1 ∨ code = 2 ∨ code = 3 ∨ code = 4 then jtagBypass else code)) s

end Sys2Proof.Machine
end

