-- ==== Sys2Proof/Machine/DctQueue.lean ====
section
/-! DEFINITION. The request queue of the dictionary engine (R274, R278–R281): arrival from frames and mailboxes, the fields of a request, and its reply. -/

namespace Sys2Proof.Machine

/-! ### The Odeivo header (R274) -/

namespace DctReq

/-- Operation; the RESP bit is not looked at (DEDUCED, log entry 32). -/
def op (q : DctReq) : Nat := fieldBE q.data 1 1 % 128
/-- Transaction ID. -/
def tid (q : DctReq) : Nat := fieldBE q.data 2 2
/-- Bit 0 GEN_EN, bit 1 ACTIVE. -/
def flags (q : DctReq) : Nat := fieldBE q.data 5 1
/-- Object index. -/
def index (q : DctReq) : Nat := fieldBE q.data 6 2
/-- Subindex. -/
def sub (q : DctReq) : Nat := fieldBE q.data 8 1
/-- Generation. -/
def gen (q : DctReq) : Nat := fieldBE q.data 9 1
/-- LENGTH. -/
def length (q : DctReq) : Nat := fieldBE q.data 10 2
/-- OFFSET. -/
def offset (q : DctReq) : Nat := fieldBE q.data 12 4
/-- DATA: the LENGTH octets after the header, or what the frame holds of them. -/
def body (q : DctReq) : List Octet := (q.data.drop 16).take q.length
/-- LENGTH lies beyond the frame, or above its bound of 1,024. -/
def beyond (q : DctReq) : Bool := Nat.blt q.data.length (16 + q.length) || Nat.blt 1024 q.length
/-- WRITE, COMMIT, DISCARD, TABLE_WRITE and CRIT in a frame are remembered (R279). -/
def kept (q : DctReq) : Bool := Nat.blt q.src 8 && (q.op == 2 || q.op == 5 || q.op == 6 || q.op == 8 || q.op == 9)

end DctReq

namespace Dev

/-- Change the dictionary engine's state. -/
def modDct (s : Dev) (f : Dct → Dct) : Dev := { s with dct := f s.dct }

/-! ### Arrival (R278) -/

/-- A request arrives: one of another version, or shorter than a header, is discarded without a reply (a mailbox is given back); a frame that finds 32 waiting is dropped; else it is queued. -/
def reqArrive (s : Dev) (q : DctReq) : Dev :=
  if q.data.length < 16 ∨ fieldBE q.data 0 1 ≠ 1 then
    let s := s.inc Reg.DCT_ERR_CNT.COUNT
    if q.src = 8 ∨ q.src = 9 then s.put (Reg.DCT_MBOX_CTL.GO (q.src - 8)) 0 else s
  else if q.src < 8 ∧ 32 ≤ s.dct.queue.length then (s.inc Reg.DCT_RX_OVF.COUNT).raise bDCT 4
  else (s.modDct fun d => { d with queue := d.queue ++ [{ q with at' := s.up }] }).inc Reg.DCT_RX_CNT.COUNT

/-- The request that a frame carries (R274, R280). -/
def frameReq (s : Dev) (p : Nat) (l : List Octet) : DctReq :=
  let x := parse l
  { src := p, data := l.drop x.body, sa := x.sa, tag := if x.tagged then some (fieldBE l 12 4) else none
    etype := s.get Reg.DCT_CFG.ETYPE }

/-- The frame is an Odeivo request that the engine takes at step 4 (R274). -/
def isOdeivo (s : Dev) (p : Nat) (l : List Octet) : Bool :=
  (parse l).etype == s.get Reg.DCT_CFG.ETYPE && (s.get Reg.DCT_CFG.PORTS).testBit p && s.blockOn bDCT

/-- A mailbox's octets, from the first of the header (R283). -/
def mailboxOctets (s : Dev) (m : Nat) : List Octet := (List.range 260).flatMap fun w => octetsBE 4 (s.word (Reg.DCT_MBOX m w)).toNat

/-- A write of DCT_MBOX_CTL.GO submits the mailbox (R281); it has no effect while GO reads 1. -/
def mailboxGo (s : Dev) (m : Nat) : Dev :=
  if s.bit (Reg.DCT_MBOX_CTL.GO m) then s
  else
    let s := s.put (Reg.DCT_MBOX_CTL.GO m) 1
    s.reqArrive { src := 8 + m, data := s.mailboxOctets m }

/-- A host write to a mailbox word: none while GO reads 1 (R281). -/
def mailboxWrite (s : Dev) (k : Nat) (v : Word) : Dev :=
  if s.bit (Reg.DCT_MBOX_CTL.GO ((k - Reg.DCT_MBOX 0 0) / 0x800)) then s else s.setWord k v

/-! ### Replies (R274, R280, R281) -/

/-- Header and DATA of a reply: INDEX, SUB, GEN, FLAGS, OFFSET and TID as in the request. -/
def replyOctets (q : DctReq) (status : Nat) (data : List Octet) : List Octet :=
  octetsBE 1 1 ++ octetsBE 1 (0x80 + q.op) ++ octetsBE 2 q.tid ++ octetsBE 1 status ++ octetsBE 1 q.flags ++ octetsBE 2 q.index
    ++ octetsBE 1 q.sub ++ octetsBE 1 q.gen ++ octetsBE 2 data.length ++ octetsBE 4 q.offset ++ data

/-- The reply frame of a request that came in a frame (R280); none is sent when it finds no room in the pool (R99). -/
def replyFrame (s : Dev) (q : DctReq) (body : List Octet) : Dev :=
  let prio := s.get Reg.DCT_CFG_B.REPLY_PRIO
  let tag := match q.tag with
    | some t => octetsBE 4 (t / 65536 * 65536 + prio * 8192 + t % 8192)
    | none => []
  let data := padTo 60 (octetsBE 6 q.sa ++ octetsBE 6 (s.macOf q.src) ++ tag ++ octetsBE 2 q.etype ++ body)
  match s.allocDevice .device data 1 with
  | some (d, s) => s.sendOwn q.src prio false { desc := d, data := data }
  | none => s

/-- A reply replaces the request in its mailbox, the rest of the mailbox 0, and MBOX_DONE is set (R281). -/
def replyMailbox (s : Dev) (m : Nat) (body : List Octet) : Dev :=
  let l := padTo 1040 body
  let s := (List.range 260).foldl (fun s w => s.setWord (Reg.DCT_MBOX m w) (BitVec.ofNat 32 (fieldBE l (4 * w) 4))) s
  ((s.put (Reg.DCT_MBOX_CTL.GO m) 0).raise bDCT (2 + m)).emit (.reply body)

/-- Send the reply of a request; records of an image get none (R296). -/
def sendReply (s : Dev) (q : DctReq) (status : Nat) (data : List Octet) : Dev :=
  let s := s.when (status != 0 && q.src != 10) (·.inc Reg.DCT_ERR_CNT.COUNT)
  let body := replyOctets q status data
  if q.src < 8 then s.replyFrame q body
  else if q.src < 10 then s.replyMailbox (q.src - 8) body
  else s

/-- The remembered requests that are no older than 100 ms (R279). -/
def liveDups (s : Dev) : List Dup := s.dct.dups.filter fun d => Nat.blt s.up (d.at' + 100000000)

/-- Answer a request that has been carried out, and remember it where R279 says so. -/
def answer (s : Dev) (q : DctReq) (status : Nat) (data : List Octet) : Dev :=
  let s := if q.kept then s.modDct fun d => { d with dups := (⟨q.sa, q.tid, status, data, q.at'⟩ :: s.liveDups).take 64 } else s
  s.sendReply q status data

/-- The first answer to a request that is a repetition (R279). -/
def dupOf (s : Dev) (q : DctReq) : Option Dup :=
  if q.kept then s.liveDups.find? fun d => d.sa == q.sa && d.tid == q.tid else none

end Dev

/-- ODEIVO_REQUEST_ARRIVAL (R278): a frame at step 4. -/
def execOdeivoRequestArrival (p : Fin 8) (data : List Octet) (s : State) :=
  devStep (fun d => d.when (d.isOdeivo p data) fun d => d.reqArrive (d.frameReq p data)) s
/-- MAILBOX_GO (R281). -/
def execMailboxGo (m : Fin 2) (s : State) :=
  devStep (fun d => d.hostGate bDCT (Reg.DCT_MBOX_CTL m) 0x80000000 (·.mailboxGo m)) s

end Sys2Proof.Machine
end

