-- ==== Sys2Proof/Machine/Parity.lean ====
section
/-! DEFINITION. Fault injection (R364) and what a parity or ECC error in a block's own storage does (R59, R111, R130, R155, R189, R216, R243, R244, R283, R290, R324, R396). An injected event of such a source is handled as a real one: the storage entry concerned is a free choice of the model, none among them (log entry 56). -/

namespace Sys2Proof.Machine

namespace Dev

/-! ### The entry concerned -/

/-- A free choice among the entries of a list, or none (log entry 56). -/
def someOf {α : Type} (s : Dev) (l : List α) : Option α × Dev :=
  let (w, s) := s.freeWord
  (l[w % (l.length + 1)]?, s)

/-- Apply `f` for a freely chosen entry. -/
def onSome {α : Type} (s : Dev) (l : List α) (f : Dev → α → Dev) : Dev :=
  match s.someOf l with
  | (some x, s) => f s x
  | (none, s) => s

/-- A freely chosen word of the first `n` after `base` shows a parity error. -/
def spoilOne (s : Dev) (base n : Nat) : Dev := s.onSome (List.range n) fun s i => s.spoilWord (base + 4 * i)

/-! ### Frames (R111) -/

/-- A frame that has started on no port and is not being read by a job. -/
def discardable (s : Dev) (d : Nat) : Bool := !(s.frameOf d).started && !(s.jobs.any fun e => e.2.frame == some d)

/-- The frame of descriptor `d` is discarded wherever it waits; its granules return, but for the bad ones (R106, R111). -/
def discardFrame (s : Dev) (d : Nat) : Dev :=
  let s := s.rxQ.foldl (fun s e => { s with rxQ := Tab.set (fun _ => []) s.rxQ e.1 (e.2.filter fun x => x.desc != d) }) s
  let s := s.classQ.foldl (fun s e => { s with classQ := Tab.set (fun _ => []) s.classQ e.1 (e.2.filter fun x => x.desc != d) }) s
  let s := s.slotWait.foldl (fun s e => s.setSlotWaits e.1 (e.2.filter fun w => w.ent.desc != d)) s
  let s := s.ctxs.foldl (fun s e => s.setCtx e.1 { e.2 with held := e.2.held.filter fun h => h.desc != d }) s
  (s.setFrame d { s.frameOf d with copies := 1 }).releaseCopy d

/-- The frame's copy from its staging slot may still run (R94). -/
def inStaging (s : Dev) (d : Nat) : Bool :=
  let p := (s.frameOf d).ingress
  Nat.blt p 8 && (s.port p).stage.any fun t => Nat.blt s.up t

/-- Descriptors in use whose frame can be discarded and satisfies `f`. -/
def frameNumbers (s : Dev) (f : Nat → Bool) : List Nat := (s.frames.map (·.1)).filter fun d => s.discardable d && f d

/-! ### The other blocks -/

/-- A parity error in the staged set: the value is discarded and its object marked lost (R283). -/
def storeError (s : Dev) (g : Stg) : Dev :=
  s.modDct fun d => { d with staged := d.staged.filter (· != g), lost := (g.index, g.sub) :: d.lost }

/-- A parity error in a mailbox: its request is answered with BAD_OP (R283). -/
def mailboxError (s : Dev) (q : DctReq) : Dev :=
  (s.modDct fun d => { d with queue := d.queue.filter (· != q) }).answer q 0x0B []

/-- A parity error in the placement state: no planned move until the Rigger has read the placement back; how long that takes is stated nowhere, a free value (chapter 11, Registers; log entry 56). -/
def placementError (s : Dev) : Dev :=
  let (w, s) := s.freeWord
  { s with plc := { s.plc with readTill := s.up + w } }

/-- What the block does about the storage error whose event is source `n` of block `b` (R349). -/
def storageError (s : Dev) (b n : Nat) : Dev :=
  if b = bANG ∧ n = 16 then s.onSome (List.range 8) fun s d => s.onSome (List.range 2) fun s k => s.spoilOne (Reg.ANG_MARK k d 0) 256
  else if b = bFRM ∧ n = 1 then s.onSome (s.frameNumbers fun _ => true) discardFrame
  else if b = bFRM ∧ n = 2 then s.onSome (s.frameNumbers s.inStaging) discardFrame
  else if b = bGTE ∧ n = 0 then s.onSome (List.range 8) fun s p => s.onSome (List.range 2) fun s k => s.spoilOne (Reg.GTE_GCL_IVL p k 0) 2048
  else if b = bSTM ∧ n = 1 then s.onSome (List.range 512) recoveryReset
  else if b = bSHD ∧ n = 5 then s.onSome (List.range 2) fun s r => s.onSome (List.range 2) fun s k => s.spoilOne (Reg.SHD_SLOT_OFS r k 0) 8192
  else if b = bCEL ∧ n = 4 then s.onSome ((List.range 64).filter fun c => (s.cell c).run.isSome) celHalt -- HALTED, nothing of the activation released (R216)
  else if b = bSMP ∧ n = 2 then s.onSome (List.range 32) fun s k => s.spoilOne (Reg.SMP_FIR k 0 0 0) 64
  else if b = bSCR ∧ n = 1 then s.onSome (List.range 32) fun s p => s.onSome (List.range (s.pin p).queue.length) fun s i =>
    s.setPin p { s.pin p with queue := (s.pin p).queue.eraseIdx i }
  else if b = bPLC ∧ n = 1 then s.placementError
  else if b = bTRC ∧ n = 1 then s.onSome s.traceWaiting fun s w => s.traceSpoil w.1 w.2
  else if b = bDCT ∧ n = 0 then s.onSome s.dct.staged storeError
  else if b = bDCT ∧ n = 1 then s.onSome (s.dct.queue.filter fun q => q.src == 8 || q.src == 9) mailboxError
  else if b = bAUT ∧ n = 0 then s.onSome (List.range 4096) fun s id => { s with keyBad := if s.keyBad.contains id then s.keyBad else s.keyBad ++ [id] }
  else if (b = bDMA 0 ∨ b = bDMA 1) ∧ n = 1 then s.onSome (s.unitJobs (b - bDMA 0)) fun s j => s.jobStop j false
  else s

/-! ### Injection (R364) -/

/-- FAULT_INJECT: one event of source SRC in block BLOCK while STA_INJECT.AVAIL is 1, handled as a real one (R364); one of LOG_STAGE is the staging parity error of R363. -/
def faultInject (s : Dev) (v : Word) : Dev :=
  let b := wfld v 0 5
  let n := wfld v 8 5
  if s.bit Reg.STA_INJECT.AVAIL && wbit v 31 && Nat.blt b 28 && Nat.blt n (sourceCount b) && s.blockOn b then
    ((s.when (b == bSTA && n == 1) logDead).storageError b n).graveFault b n
  else s

end Dev

/-- FAULT_INJECT (R364). -/
def execFaultInject (value : Word) (s : State) := devStep (fun d => d.hostGate bSTA Reg.STA_INJECT (value ||| 0x80000000#32) (·.faultInject (value ||| 0x80000000#32))) s

end Sys2Proof.Machine
end

