-- ==== Sys2Proof/Machine/WordWrite.lean ====
section
/-! DEFINITION. What a write to a register word does once it is allowed (R6, R265, R271): each word with a rule of its own has its operation here, every other word takes the access codes. Used by host writes, by SPI and by commit points. -/

namespace Sys2Proof.Machine

namespace Dev

/-- The BOOT_ID of a start-up is drawn as its step 10 starts: a free value (R289, log entry 5). -/
def drawBootId (s : Dev) : Dev :=
  let v := (Config.bootId s.freeCount).toNat
  let s := (s.put Reg.GLB_BOOT_ID_LO.BOOT_ID v).put Reg.GLB_BOOT_ID_HI.BOOT_ID (v / 2 ^ 32)
  { s with freeCount := s.freeCount + 1 }

/-- GLB_BOOT_CTL.GO starts step 10 with the image the host has written, while IMG_WAIT is 1 (R378); BOOT_ID stays over a second image of one start-up (R289). -/
def bootGo (s : Dev) : Dev :=
  if ¬ s.bit (statusBit bGLB 3) then s
  else
    let s := s.when (s.get Reg.GLB_BOOT.STEP == 9) (·.drawBootId)
    let s := ((s.put (statusBit bGLB 3) 0).put Reg.GLB_BOOT_CTL.GO 1).put Reg.GLB_BOOT.CODE 0
    (s.put Reg.GLB_BOOT.UNIT 0).put Reg.GLB_BOOT.STEP 10

/-- SWAP of FRM_RULE_CTL: the idle rule bank is to become active; no effect before an earlier swap has taken effect (R98). -/
def ruleSwap (s : Dev) : Dev :=
  if s.ruleSwapAt.isSome then s else { s with ruleSwapAt := some s.up }

/-- A SWAP takes effect after its core clock and the next, 2.5 ns: every frame that reaches step 5 from then on meets the new bank, and RULE_SWAPPED is set (R98; DEDUCED, log entry 33). -/
def ruleSwapEffect (s : Dev) : Dev :=
  match s.ruleSwapAt with
  | some t =>
    if s.up < t + 3 then s
    else { (s.put Reg.FRM_RULE_CTL.ACTIVE (1 - s.ruleBank)).raise bFRM 3 with ruleSwapAt := none }
  | none => s

/-- A word of the common header (R20, R346, R347, R362); PHY_INT is not cleared while its pin is low (R86). -/
def writeHeader (s : Dev) (b o : Nat) (v : Word) : Dev :=
  let k := blockBase b + o
  if o = 4 then
    let s := s.when (b == bTIM && wbit v 0 != s.bit (ctlBit bTIM 0)) (·.servoEnWrite (wbit v 0))
    s.writeFields b k v
  else if o = 8 then
    let s := s.when (b == bSTA && wbit v 0) (·.logResume)
    let low := Nat.ble 4 b && Nat.ble b 11 && (s.port (b - 4)).phyLow
    s.writeFields b k (if low then v &&& 0xFFFFFBFF else v)
  else if o = 0x20 then s.acknowledge b v
  else if o = 0x30 then s.when (Nat.blt (s.fltSel b) (sourceCount b)) fun s => s.fltCfgWrite b (s.fltSel b) v
  else s.writeFields b k v

/-- A word of port `p`. -/
def writePrt (s : Dev) (p k : Nat) (v : Word) : Dev :=
  if k = Reg.PRT_MODE p then s.prtModeWrite p v
  else if k = Reg.PRT_CMD p then
    let s := s.when (wbit v 2) (·.clearStats p)
    let s := s.when (wbit v 1) (·.reneg p)
    s.when (wbit v 0) (·.recalCmd p)
  else if k = Reg.PRT_PHY p then (s.writeFields (bPRT p) k v).phyIntCheck p
  else if k = Reg.PRT_EQ p then s.prtEqWrite p v
  else if k = Reg.PRT_MDIO p then s.mdioCommand p v
  else s.writeFields (bPRT p) k v

/-- A word of the frame engine (R98, R108). -/
def writeFrm (s : Dev) (k : Nat) (v : Word) : Dev :=
  if k = Reg.FRM_RULE_CTL then (s.writeFields bFRM k v).when (wbit v 0) (·.ruleSwap)
  else if k = Reg.FRM_NOTICE_CTL then (s.writeFields bFRM k v).when (wbit v 31) (·.noticeAck)
  else if 0xC1000 ≤ k ∧ k < 0xC3000 ∧ (k - 0xC1000) / 0x1000 = s.ruleBank then s.put Reg.FRM_RULE_CTL.ACTIVE_WR 1
  else s.writeFields bFRM k v

/-- A word of port `p`'s set of the Reef. -/
def writeGtePort (s : Dev) (p k : Nat) (v : Word) : Dev :=
  let o := (k - 0xD1000) % 0x200
  if k = Reg.GTE_PORT_CTL p then
    let s := s.when (wbit v 0 != s.bit (Reg.GTE_PORT_CTL.GATE_EN p)) (·.gateEnWrite p (wbit v 0))
    s.writeFields bGTE k v
  else if k = Reg.GTE_GCL_CTL p then (s.writeFields bGTE k v).when (wbit v 0) (·.gclSwap p)
  else if k = Reg.GTE_PREEMPT p then s.preemptCfgWrite p v
  else if 0x40 ≤ o ∧ o < 0x80 then s.gclBankWrite p ((o - 0x40) / 0x20) k v
  else if 0x100 ≤ o ∧ o % 0x20 < 0x10 then s.shaperWrite p ((o - 0x100) / 0x20) (o % 0x20 / 4) v
  else s.writeFields bGTE k v

/-- A word of the Reef. -/
def writeGte (s : Dev) (k : Nat) (v : Word) : Dev :=
  if 0x1000000 ≤ k then s.gclBankWrite ((k - 0x1000000) / 0x4000) ((k - 0x1000000) / 0x2000 % 2) k v
  else if 0xD1000 ≤ k ∧ k < 0xD2000 then s.writeGtePort ((k - 0xD1000) / 0x200) k v
  else if 0xD4000 ≤ k ∧ k < 0xD8000 ∧ k % 0x20 < 0x14 then s.meterWrite ((k - 0xD4000) / 0x20) (k % 0x20 / 4) v
  else s.writeFields bGTE k v

/-- A word of the stream unit. -/
def writeStm (s : Dev) (k : Nat) (v : Word) (commit : Bool) : Dev :=
  if 0xE4000 ≤ k ∧ k < 0xE8000 then
    let x := (k - 0xE4000) / 0x20
    if k = Reg.STM_TB x then s.tokenWrite x false v
    else if k = Reg.STM_TB_BURST x then s.tokenWrite x true v
    else s.stmCfgWrite x k v commit
  else s.writeFields bSTM k v

/-- A word of the slot table of ring `r`, bank `b`: the active bank, and the idle one while a swap is pending, are not written (R172). -/
def slotBankWrite (s : Dev) (r b k : Nat) (v : Word) : Dev :=
  if b = s.slotBank r ∨ s.bit (Reg.SHD_SLOT_CTL.SWAP_PEND r) then s.put (Reg.SHD_SLOT_CTL.ACTIVE_WR r) 1
  else s.writeFields bSHD k v

/-- A word of the Shroud. -/
def writeShd (s : Dev) (k : Nat) (v : Word) : Dev :=
  let r := (k - 0xF0200) / 0x200
  if 0x1000000 ≤ k then s.slotBankWrite ((k - 0x1040000) / 0x10000) ((k - 0x1040000) / 0x8000 % 2) k v
  else if k < 0xF0200 ∨ 0xF0600 ≤ k then s.writeFields bSHD k v
  else if k = Reg.SHD_SLOT_CTL r then (s.writeFields bSHD k v).when (wbit v 0) (·.slotSwap r)
  else if k = Reg.SHD_CLAIM r then s.claimWrite r v
  else if k = Reg.SHD_NOTICE_TX r then s.when (wbit v 31) (·.noticeTx r (wfld v 16 8) (wfld v 0 16))
  else s.writeFields bSHD k v

/-- A word of the Lathe. -/
def writeCel (s : Dev) (k : Nat) (v : Word) (commit : Bool) : Dev :=
  let c := (k - 0x101000) / 0x80
  if 0x1080000 ≤ k then s.celTblWrite ((k - 0x1080000) / 0x4000) ((k - 0x1080000) / 0x2000 % 2) k v
  else if k = Reg.CEL_PAIR_CMD then s.pairCmdWrite v
  else if k < 0x101000 ∨ 0x103000 ≤ k then s.writeFields bCEL k v
  else if k = Reg.CEL_CFG c then s.celCfgWrite c v commit
  else if k = Reg.CEL_PERIOD c ∨ k = Reg.CEL_BASE_LO c ∨ k = Reg.CEL_BASE_MID c ∨ k = Reg.CEL_BASE_HI c then s.celTimeWrite c k v
  else if k = Reg.CEL_CMD c then s.celCmdWrite c v
  else if k = Reg.CEL_BANK c then s.celBankWrite c v
  else s.writeFields bCEL k v

/-- A word of the Chuck: those of a port answer while its group is on (R222). -/
def writeSmp (s : Dev) (k : Nat) (v : Word) : Dev :=
  let p := (k - 0x200000) / 0x4000
  let o := (k - 0x200000) % 0x4000
  let n := 16 * p + (o - 0x2400) / 0x80
  if o < 0x2000 then s.writeFields bSMP k v
  else if ¬ s.chkOn p then s
  else if k = Reg.SMP_CMD_CTL p then s.cmdCtlWrite p v
  else if k = Reg.SMP_FIR_CTL p then s.firCtlWrite p v
  else if 0x2100 ≤ o ∧ o < 0x2200 then s.firWrite p ((o - 0x2100) / 0x80) k v
  else if 0x2400 ≤ o ∧ o < 0x2C00 ∧ o % 0x80 = 0 then s.chanCfgWrite n v
  else if 0x2400 ≤ o ∧ o < 0x2C00 ∧ o % 0x80 = 0x14 then s.chanTimeHiWrite n v
  else s.writeFields bSMP k v

/-- A word of the Scribe. -/
def writeScr (s : Dev) (k : Nat) (v : Word) : Dev :=
  let p := (k - 0x27C200) / 0x20
  if k < 0x27C200 ∨ 0x27C600 ≤ k then s.writeFields bSCR k v
  else if k = Reg.SCR_EDGE_CTL p then s.edgeCtlWrite p v
  else if k = Reg.SCR_PIN_CFG p then s.pinCfgWrite p v
  else s.writeFields bSCR k v

/-- A word of the Spindle. -/
def writeAng (s : Dev) (k : Nat) (v : Word) : Dev :=
  let n := (k - 0x30200) / 0x40
  if 0x34000 ≤ k ∧ k < 0x38000 then s.markWrite ((k - 0x34000) % 0x2000 / 0x400) ((k - 0x34000) / 0x2000) k v
  else if k < 0x30200 ∨ 0x30400 ≤ k then s.writeFields bANG k v
  else if k = Reg.ANG_SRC n ∨ k = Reg.ANG_TOOTH n then s.angCfgWrite n k v
  else if k = Reg.ANG_MARK_CTL n then s.markCtlWrite n v
  else if k = Reg.ANG_CMD n then s.angCmdWrite n v
  else s.writeFields bANG k v

/-- A word of the Halyard. -/
def writeTim (s : Dev) (k : Nat) (v : Word) : Dev :=
  if k = Reg.TIM_EPISODE then s.when (wbit v 0) (·.episodeStart (wbit v 1))
  else if k = Reg.TIM_RATE then s.rateWrite v
  else if k = 0x20164 then s.writeFields bTIM (Reg.TIM_PORT_CFG (s.get Reg.TIM_PORT_SEL.PORT)) v
  else if k = 0x20168 then s.writeFields bTIM (Reg.TIM_LAT (s.get Reg.TIM_PORT_SEL.PORT)) v
  else s.writeFields bTIM k v

/-- A word of GLB, but for GLB_IMG_DATA. -/
def writeGlb (s : Dev) (k : Nat) (v : Word) : Dev :=
  if k = Reg.GLB_BOOT_CTL then s.when (wbit v 31) (·.bootGo) else s.writeFields bGLB k v

/-- A word of the dictionary engine. -/
def writeDct (s : Dev) (k : Nat) (v : Word) : Dev :=
  if k = Reg.DCT_MBOX_CTL 0 then s.when (wbit v 31) (·.mailboxGo 0)
  else if k = Reg.DCT_MBOX_CTL 1 then s.when (wbit v 31) (·.mailboxGo 1)
  else if Reg.DCT_MBOX 0 0 ≤ k ∧ (k - Reg.DCT_MBOX 0 0) % 0x800 < 1040 ∧ k < Reg.DCT_MBOX 0 0 + 0x1000 then s.mailboxWrite k v
  else s.writeFields bDCT k v

/-- A word of the authentication unit; client records are written by commits alone (R12, R286). -/
def writeAut (s : Dev) (k : Nat) (v : Word) (commit : Bool) : Dev :=
  let id := (k - 0x1200000) / 0x20
  let o := k % 0x20
  if 0x1200000 ≤ k then
    if ¬ commit then s
    else if o = 0 then s.clientCfgWrite id v
    else if 0xC ≤ o ∧ o < 0x1C then s.clientOwnWrite id ((o - 0xC) / 4) v
    else s
  else if k = Reg.AUT_TEST_CTL then s.testCtlWrite v
  else if Reg.AUT_TEST_KEY 0 ≤ k ∧ k < Reg.AUT_TEST_KEY 4 then s.setWord k v
  else s.writeFields bAUT k v

/-- A word of a Tackle unit, by the key it is stored under. -/
def writeDma (s : Dev) (k : Nat) (v : Word) : Dev :=
  if 0x1270000 ≤ k then s.dmaSetWrite ((k - 0x1270000) / 0x80) k v
  else if k = Reg.DMA_JOB_EN_LO then s.jobEnSet false v
  else if k = Reg.DMA_JOB_EN_HI then s.jobEnSet true v
  else if k = Reg.DMA_UNIT_CTL 0 then s.when (wbit v 31) (·.unitClear 0)
  else if k = Reg.DMA_UNIT_CTL 1 then s.when (wbit v 31) (·.unitClear 1)
  else if Reg.DMA_REQ_SET 0 ≤ k ∧ k < Reg.DMA_REQ_SET 4 then s.requestSet ((k - Reg.DMA_REQ_SET 0) / 4) v
  else s.writeFields (bDMA 0) k v

/-- A word of PWR, PLC, MEM, STA, TRC or IST. -/
def writeRest (s : Dev) (b k : Nat) (v : Word) : Dev :=
  if k = Reg.PWR_CMD then s.when (wbit v 31) (·.pwrCmd (wfld v 0 3))
  else if k = Reg.PLC_EVAC then s.evacWrite v
  else if k = Reg.MEM_CH_CTL 0 then s.when (wbit v 31) (·.chanRetrain 0)
  else if k = Reg.MEM_CH_CTL 1 then s.when (wbit v 31) (·.chanRetrain 1)
  else if k = Reg.STA_LOG_CFG then s.logCfgWrite v
  else if k = Reg.STA_INJECT then s.faultInject v
  else if k = Reg.TRC_OUT then s.trcOutWrite v
  else if k = Reg.IST_CMD then s.istCmdWrite v
  else if k = Reg.IST_CYCLE ∧ wbit v 31 then s.powerCycle (wfld v 0 7)
  else s.writeFields b k v

/-- A write of `v` to key `k` of block `b`, from a commit or from the host. -/
def writeWord (s : Dev) (b k : Nat) (v : Word) (commit : Bool) : Dev :=
  if blockBase b ≤ k ∧ k < blockBase b + 0x100 then s.writeHeader b (k - blockBase b) v
  else if b = bGLB then s.writeGlb k v
  else if b = bTIM then s.writeTim k v
  else if b = bANG then s.writeAng k v
  else if 4 ≤ b ∧ b ≤ 11 then s.writePrt (b - 4) k v
  else if b = bFRM then s.writeFrm k v
  else if b = bGTE then s.writeGte k v
  else if b = bSTM then s.writeStm k v commit
  else if b = bSHD then s.writeShd k v
  else if b = bCEL then s.writeCel k v commit
  else if b = bSMP then s.writeSmp k v
  else if b = bSCR then s.writeScr k v
  else if b = bDCT then s.writeDct k v
  else if b = bAUT then s.writeAut k v commit
  else if b = 22 ∨ b = 23 then s.writeDma k v
  else s.writeRest b k v

end Dev

/-- RULE_SWAP (R98): the write of SWAP from the host. -/
def execRuleSwap (s : State) := devStep (fun d => d.hostGate bFRM Reg.FRM_RULE_CTL 1 (·.ruleSwap)) s
/-- BOOT_GO (R378). -/
def execBootGo (s : State) := devStep (fun d => d.hostGate bGLB Reg.GLB_BOOT_CTL 0x80000000 (·.bootGo)) s

end Sys2Proof.Machine
end

