-- ==== Sys2Proof/Machine/Admission.lean ====
section
/-! DEFINITION. The admission check (R270): the configuration a commit would produce, and the checks of R103, R128, R153, R187, R219, R241, R261, R294, R342 and R270 in ascending order of code. -/

namespace Sys2Proof.Machine

/-- A refusal: code, block of the failing check, the key of that block's _ADMIT register if it has one, and its word. -/
structure Refused where
  code : Nat
  block : Nat
  reg : Option Nat
  word : Nat
  deriving DecidableEq, Repr

/-- A staged table swap: kind and instance of R272. -/
abbrev Swap := Nat × Nat

/-- The sum of two fractions, as numerator and denominator. -/
def fadd (a b : Nat × Nat) : Nat × Nat := if a.2 = b.2 then (a.1 + b.1, a.2) else (a.1 * b.2 + b.1 * a.2, a.2 * b.2)
/-- `a` < `b` as fractions. -/
def fracLt (a b : Nat × Nat) : Bool := Nat.blt (a.1 * b.2) (b.1 * a.2)
/-- The larger of two fractions. -/
def fmax (a b : Nat × Nat) : Nat × Nat := if fracLt a b then b else a
/-- A sum of fractions. -/
def fsum (l : List (Nat × Nat)) : Nat × Nat := l.foldl fadd (0, 1)

namespace Dev

/-! ### The configuration to be checked -/

/-- The idle bank of a table becomes active. -/
def swapBank (s : Dev) (kind inst : Nat) : Dev :=
  let flip (f : Fld) : Dev := s.put f (1 - s.get f)
  match kind with
  | 1 => flip Reg.FRM_RULE_CTL.ACTIVE
  | 2 => flip (Reg.GTE_GCL_CTL.ACTIVE inst)
  | 3 => flip (Reg.SHD_STATE.ACTIVE_BANK inst)
  | 4 => flip (Reg.CEL_BANK.ACTIVE inst)
  | 5 => flip (Reg.SMP_FIR_CTL.ACTIVE inst)
  | _ => flip (Reg.ANG_MARK_CTL.ACTIVE inst)

/-- The key a word object writes, the shared selectors of TIM resolved. -/
def wordKey (s : Dev) (k : Nat) : Nat :=
  if k = 0x20164 then Reg.TIM_PORT_CFG (s.get Reg.TIM_PORT_SEL.PORT)
  else if k = 0x20168 then Reg.TIM_LAT (s.get Reg.TIM_PORT_SEL.PORT)
  else k

/-- One value applied to the configuration `c`. -/
def applyValue (c : Dev) (g : Stg) : Dev :=
  match c.objOf g.index g.sub with
  | none => c
  | some o =>
    match o.kind with
    | .field f => c.put f (numBE g.value)
    | .word b k =>
      let v := BitVec.ofNat 32 (numBE g.value)
      if 0x1200000 ≤ k ∧ k < 0x1220000 then c.writeAut k v true
      else
        let k := c.wordKey k
        let m := (masksOf b k).rw
        c.setWord k (BitVec.ofNat 32 (((c.word k).toNat &&& (0xFFFFFFFF - m)) ||| (v.toNat &&& m)))
    | .table _ kind inst => if numBE g.value = 1 then c.swapBank kind inst else c
    | .wrapped id => c.keyLoad id g.value
    | _ => c

/-- The contexts with a configuration word other than at reset. -/
def ctxsSet (s : Dev) : List Nat :=
  (s.regs.filter fun e => Nat.ble 0xE4000 e.1 && Nat.blt e.1 0xE8000 && (e.1 - 0xE4000) % 32 == 0).map fun e => (e.1 - 0xE4000) / 32

/-- An enabled context counts as ACTIVE in the configuration, a disabled one as FREE; QUARANTINE stays. -/
def ctxsSettle (s c : Dev) : Dev :=
  (s.ctxsSet ++ c.ctxsSet).eraseDups.foldl (fun c x =>
    if s.ctxState x = 2 then c
    else
      let c := c.put (Reg.STM_CTX_STAT.STATE x) (c.get (Reg.STM_CTX_CFG.EN x))
      c.when (c.bit (Reg.STM_CTX_CFG.EN x)) fun c => c.setCtx x { c.ctx x with released := false }) c

/-- The committed values with every waiting and every staged value applied (R270). -/
def candidateConfig (s : Dev) : Dev := s.ctxsSettle ((s.dct.waiting ++ s.dct.staged).foldl applyValue s)

/-- The staged swaps. -/
def stagedSwaps (s : Dev) : List Swap :=
  s.dct.staged.filterMap fun g => match s.objOf g.index g.sub with
    | some o => match o.kind with
      | .table _ kind inst => if numBE g.value = 1 then some (kind, inst) else none
      | _ => none
    | none => none

/-! ### R270: 0x0301, 0x0401–0x0403 -/

/-- 0x0301. -/
def check0301 (c : Dev) : Option Refused :=
  ((List.range 8).find? fun n => c.get (Reg.ANG_SRC.DIR_MODE n) == 2 && c.bit (Reg.ANG_SRC.CAM_EN n)).map fun _ => ⟨0x0301, bANG, none, 0⟩

/-- 0x0401. -/
def check0401 (c : Dev) : Option Refused :=
  ((List.range 8).find? fun p => c.mode p != 0 && !c.rateListed p (c.get (Reg.PRT_MODE.SPEED_MAX p))).map fun p => ⟨0x0401, bPRT p, none, 0⟩

/-- 0x0402. -/
def check0402 (c : Dev) : Option Refused :=
  ((List.range 2).find? fun r => c.bit (Reg.SHD_RING_CFG.EN r) &&
    (c.get (Reg.PRT_MODE.MODE (2 * r)) != c.get (Reg.PRT_MODE.MODE (2 * r + 1)) || c.get (Reg.PRT_MODE.SPEED_MAX (2 * r)) != c.get (Reg.PRT_MODE.SPEED_MAX (2 * r + 1)))).map
    fun r => ⟨0x0402, bPRT (2 * r), none, 0⟩

/-- 0x0403. -/
def check0403 (c : Dev) : Option Refused :=
  ([4, 5, 6, 7].find? fun p => c.bit (Reg.PRT_DS.DS_EN p) && c.dsForbidden p).map fun p => ⟨0x0403, bPRT p, none, 0⟩

/-! ### R103 -/

/-- A refusal of the Locker checks. -/
def frmRefused (code : Nat) : Refused := ⟨code, bFRM, some Reg.FRM_ADMIT, code⟩

/-- The sums of G and DEPTH, each owner with the larger of its values before and after (R270). -/
def resvMax (s c : Dev) : Nat × Nat :=
  (s.liveOwners ++ c.liveOwners).eraseDups.foldl (fun a o =>
    let x := s.resv o
    let y := c.resv o
    (a.1 + max x.1 y.1, a.2 + max x.2 y.2)) (0, 0)

/-- A reservation word is within its bounds. -/
def resvWordOk (w : Nat) : Bool :=
  !w.testBit 31 || (Nat.ble 64 (lmaxOfWord w) && Nat.ble (lmaxOfWord w) 9216 && Nat.ble 1 (w % 32768) && Nat.ble (w % 32768) 16384)

/-- Rule `r` of bank `b` names enabled queues or an enabled context. -/
def ruleOk (c : Dev) (b r : Nat) : Bool :=
  match c.get (Reg.FRM_RULE_A.ACTION b r) with
  | 1 => (portsOf (c.get (Reg.FRM_RULE_A.PORT_MASK b r))).all fun p => c.bit (Reg.FRM_Q_A.EN (16 * p + c.get (Reg.FRM_RULE_A.QIDX b r)))
  | 2 => c.get (Reg.FRM_RULE_D.IDENT b r) == 2 || c.bit (Reg.STM_CTX_CFG.EN (c.get (Reg.FRM_RULE_D.STREAM b r)))
  | _ => true

/-- The rules of bank `b`, enabled or not, that have an action other than DISCARD, in index order. -/
def rulesActing (c : Dev) (b : Nat) : List Nat :=
  let lo := Reg.FRM_RULE_A b 0
  (c.regs.filter fun e => Nat.ble lo e.1 && Nat.blt e.1 (lo + 0x1000) && (e.1 - lo) % 16 == 0 && e.2.toNat / 2 ^ 29 % 4 != 0).map fun e => (e.1 - lo) / 16

/-- The codes of R103: every rule of the bank that is active after the commit, and every queue bound to a cell, whether enabled or not (DEDUCED, log entry 73). -/
def checkFrm (s c : Dev) : Option Refused :=
  let sum := s.resvMax c
  if 45056 < sum.1 then some (frmRefused 0x0501)
  else if 15872 < sum.2 then some (frmRefused 0x0502)
  else if ¬ (c.liveOwners.all fun o => resvWordOk (c.resvWord o)) then some (frmRefused 0x0503)
  else if ¬ ((c.rulesActing c.ruleBank).all fun r => c.ruleOk c.ruleBank r) then some (frmRefused 0x0504)
  else if (List.range 128).any fun q => c.get (Reg.FRM_Q_A.BIND q) == 1 && Nat.blt 63 (c.get (Reg.FRM_Q_B.TARGET q)) then
    some (frmRefused 0x0505)
  else none

/-! ### R128 -/

/-- A refusal of the Reef. -/
def gteRefused (code p cls : Nat) : Refused := ⟨code, bGTE, some Reg.GTE_ADMIT, cls * 2 ^ 20 + p * 2 ^ 16 + code⟩

/-- The load in kbit/s of each reserved stream and shaper of a port, as (item, fraction): item x for context x, 512 + k for class k. -/
def gteLoads (s : Dev) (p : Nat) : List (Nat × Nat × Nat) :=
  let cyc := max 1 (s.word (Reg.GTE_CYCLE_TIME p (s.gclActive p))).toNat
  let xs := s.ctxsSet.filter fun x => (s.word (Reg.STM_CTX_CFG x)).toNat / 2 ^ 30 == 3 && (s.get (Reg.STM_CTX_CFG.EGRESS x)).testBit p
  (xs.map fun x => (x, s.get (Reg.STM_RESV.N_S x) * (s.get (Reg.STM_RESV.L_S x) + 20) * 8000000, cyc))
    ++ (s.shapersOn p).map fun k => (512 + k, s.cbsSlope p k, 1)

/-- Code 0x0603 at a commit: each item with the larger of its loads (R270). -/
def gteLoadFails (s c : Dev) (p : Nat) : Bool :=
  let a := s.gteLoads p
  let b := c.gteLoads p
  let items := (a.map (·.1) ++ b.map (·.1)).eraseDups
  let of (l : List (Nat × Nat × Nat)) (i : Nat) : Nat × Nat := ((l.find? fun e => e.1 == i).map (·.2)).getD (0, 1)
  fracLt (rateKbps (c.admissionRate p), 1) (fsum (items.map fun i => fmax (of a i) (of b i)))

/-- The codes of R128 on every port: the lowest code, then the lowest port. -/
def checkGte (s c : Dev) (swaps : List Swap) : Option Refused :=
  let bank (code : Nat) : Option Refused :=
    ((List.range 8).find? fun p => swaps.contains (2, p) && c.gteBankCheck p (c.gclActive p) == some code).map fun p => gteRefused code p 0
  let rest := (List.range 8).map fun p => (p, c.gteRestCheck p (c.gclActive p))
  let late (code : Nat) : Option Refused := rest.findSome? fun e => match e.2 with
    | some (k, cls) => if k = code then some (gteRefused code e.1 cls) else none
    | none => none
  (bank 0x0601).or <| (bank 0x0602).or <|
    (((List.range 8).find? fun p => s.gteLoadFails c p).map fun p => gteRefused 0x0603 p 0).or <|
    (late 0x0604).or <| (late 0x0605).or (late 0x0606)

/-! ### R153 -/

/-- A refusal of the stream unit. -/
def stmRefused (code x : Nat) : Refused := ⟨code, bSTM, some Reg.STM_ADMIT, x * 2 ^ 16 + code⟩

/-- Enabled contexts of a configuration. -/
def ctxsEn (c : Dev) : List Nat := c.ctxsSet.filter fun x => c.bit (Reg.STM_CTX_CFG.EN x)

/-- What identifies the frames of a receive context; none for ID_METHOD 0, or 3 which acts as 0 (R132). -/
def identKey (c : Dev) (x : Nat) : Option (Nat × Nat × Nat × Nat) :=
  let m := c.get (Reg.STM_CTX_CFG.ID_METHOD x)
  let t := min 2 (c.get (Reg.STM_ID_HI.TAG_MODE x))
  if m = 0 ∨ m = 3 then none
  else some (m, c.get (Reg.STM_ID_HI.ID_ADDR x) * 2 ^ 32 + c.get (Reg.STM_ID_LO.ID_ADDR x), t, if t = 0 then c.get (Reg.STM_ID_HI.VID x) else 0)

/-- The first context whose key an earlier one of the list has. -/
def firstClash : List (Nat × Option (Nat × Nat × Nat × Nat)) → List (Option (Nat × Nat × Nat × Nat)) → Option Nat
  | [], _ => none
  | (x, k) :: l, seen => if k.isSome && seen.contains k then some x else firstClash l (k :: seen)

/-- A fixed field of ACTIVE context `x` changes (R152). -/
def fixedChange (s c : Dev) (x : Nat) : Bool :=
  s.ctxState x == 1 && [Reg.STM_CTX_CFG x, Reg.STM_ID_LO x, Reg.STM_ID_HI x, Reg.STM_DEST x].any fun k =>
    ((s.word k).toNat ^^^ (c.word k).toNat) &&& fixedMask x k != 0

/-- The DEST of an enabled receive context is within range for its KIND (0x0706). -/
def destOk (c : Dev) (x : Nat) : Bool :=
  c.isTx x || match c.get (Reg.STM_DEST.KIND x) with
    | 1 => Nat.ble (c.get (Reg.STM_DEST.TARGET x)) 63
    | 3 => (List.range 8).any fun n => c.get (Reg.ANG_SRC.KIND n) == 3 && c.get (Reg.ANG_REMOTE.STREAM n) == x
    | _ => true

/-- Context `x` is an enabled transmit context. -/
def txEn (c : Dev) (x : Nat) : Bool := c.bit (Reg.STM_CTX_CFG.EN x) && c.isTx x

/-- The context that fails 0x0706. -/
def check0706 (c : Dev) : Option Nat :=
  (c.ctxsEn.find? fun x => !c.destOk x).or <|
  (((List.range 8).find? fun n => c.bit (Reg.ANG_PUB.EN n) && !c.txEn (c.get (Reg.ANG_PUB.STREAM n))).map fun n => c.get (Reg.ANG_PUB.STREAM n)).or <|
  ((c.rulesActing c.ruleBank).find? fun r => c.get (Reg.FRM_RULE_A.ACTION c.ruleBank r) == 2 && c.get (Reg.FRM_RULE_D.IDENT c.ruleBank r) != 2
    && c.isTx (c.get (Reg.FRM_RULE_D.STREAM c.ruleBank r))).map fun r => c.get (Reg.FRM_RULE_D.STREAM c.ruleBank r)

/-- The filters with a configuration word other than at reset, rising. -/
def filtersSet (s : Dev) : List Nat :=
  (s.regs.filter fun e => Nat.ble 0xD2000 e.1 && Nat.blt e.1 0xD4000 && e.1 % 16 == 0).map fun e => (e.1 - 0xD2000) / 16

/-- The contexts with TB_EN = 1, rising. -/
def ctxsTb (s : Dev) : List Nat :=
  (s.regs.filter fun e => Nat.ble 0xE4000 e.1 && Nat.blt e.1 0xE8000 && (e.1 - 0xE4000) % 32 == 0x10 && e.2.toNat.testBit 30).map fun e => (e.1 - 0xE4000) / 32

/-- A stream filter, if enabled, and the meter it uses are within their bounds (0x0708). -/
def filterOk (c : Dev) (f : Nat) : Bool :=
  let m := c.get (Reg.GTE_SF_CFG.MAX_SDU f)
  (!c.bit (Reg.GTE_SF_CFG.EN f) || m == 0 || (Nat.ble 64 m && Nat.ble m 9216)) &&
    (!c.bit (Reg.GTE_SF_CFG.METER_EN f) || Nat.ble 64 (c.get (Reg.GTE_FM_CBS.BURST f)) || Nat.ble 64 (c.get (Reg.GTE_FM_EBS.BURST f)))

/-- The codes of R153. -/
def checkStm (s c : Dev) : Option Refused :=
  let en := c.ctxsEn
  let quar := s.quarCtxs
  let rx := ((en ++ quar).eraseDups.mergeSort (· ≤ ·)).filter fun x => !c.isTx x
  let tb (x : Nat) : Bool :=
    (c.get (Reg.STM_TB.RATE x) == 0 || Nat.blt (c.get (Reg.STM_TB_BURST.BURST x)) (max 64 (c.get (Reg.STM_RESV.L_S x))))
  let resvBad (x : Nat) : Bool := c.isTx x && c.get (Reg.STM_RESV.N_S x) != 0 &&
    (Nat.blt (c.get (Reg.STM_RESV.L_S x)) 64 || Nat.blt (lmaxOfWord (c.word (Reg.FRM_STM_RESV x)).toNat) (c.get (Reg.STM_RESV.L_S x)))
  let egress (x : Nat) : Bool := c.isTx x && (c.get (Reg.STM_CTX_CFG.EGRESS x) == 0 || (portsOf (c.get (Reg.STM_CTX_CFG.EGRESS x))).any fun p => c.mode p == 0)
  ((en.find? fun x => quar.contains x).map (stmRefused 0x0701)).or <|
  ((en.find? egress).map (stmRefused 0x0702)).or <|
  ((firstClash (rx.map fun x => (x, c.identKey x)) []).map (stmRefused 0x0703)).or <|
  ((s.activeCtxs.find? fun x => s.fixedChange c x).map (stmRefused 0x0704)).or <|
  ((c.ctxsTb.find? tb).map (stmRefused 0x0705)).or <|
  (c.check0706.map (stmRefused 0x0706)).or <|
  ((en.find? resvBad).map (stmRefused 0x0707)).or <|
  ((c.filtersSet.find? fun f => !c.filterOk f).map (stmRefused 0x0708))

/-! ### R187 -/

/-- A refusal of the Shroud. -/
def shdRefused (code r slot : Nat) : Refused := ⟨code, bSHD, some Reg.SHD_ADMIT, slot * 2 ^ 20 + r * 2 ^ 16 + code⟩

/-- The slots of a ring in the bank to be active, by number. -/
def slotsOf (c : Dev) (r : Nat) : List Slot := c.slots r (c.slotBank r)

/-- 0x0801. -/
def ringPortsBad (c : Dev) (r : Nat) : Bool :=
  let w := 2 * r
  let e := 2 * r + 1
  let bw := c.gclActive w
  let be := c.gclActive e
  let pool := (c.word (if r = 0 then Reg.FRM_PASS_A else Reg.FRM_PASS_B)).toNat
  [w, e].any (fun p => c.mode p == 0 || !c.bit (Reg.GTE_PORT_CTL.GATE_EN p))
    || c.word (Reg.GTE_CYCLE_TIME w bw) != c.word (Reg.GTE_CYCLE_TIME e be)
    || c.stamp3 (Reg.GTE_BASE_LO w bw) != c.stamp3 (Reg.GTE_BASE_LO e be)
    || !pool.testBit 31 || Nat.blt (lmaxOfWord pool) 190

/-- The first slot that 0x0802 refuses: DUR, the end of the cycle, the order. -/
def slotClash (cyc : Nat) : Nat → List Slot → Option Nat
  | _, [] => none
  | t, x :: l => if x.dur = 0 ∨ cyc < x.ofs + x.dur ∨ x.ofs < t then some x.index else slotClash cyc (x.ofs + x.dur) l

/-- The slot lies wholly within a class-7 window of the schedule (0x0804). -/
def slotInWindow (g : Schedule) (x : Slot) : Bool :=
  match g.openFor 7 (g.base + (g.cycle + x.ofs) * 65536) with
  | some d => Nat.ble (x.dur * 65536) d && (g.at (g.base + (g.cycle + x.ofs) * 65536)).2.testBit 7
  | none => true

/-- The codes of R187 on one ring. -/
def checkRing (c : Dev) (r : Nat) (code : Nat) : Option Refused :=
  let l := c.slotsOf r
  let e := 2 * r + 1
  let g := c.schedule e (c.gclActive e)
  let node := c.get Reg.SHD_CFG.NODE_ID
  let master := c.get (Reg.SHD_RING_CFG.MASTER_NODE r)
  let role := c.get (Reg.SHD_RING_CFG.ROLE r)
  let rate := c.admissionRate e
  let bad (b : Bool) : Option Refused := if b then some (shdRefused code r 0) else none
  match code with
  | 0x0801 => bad (c.ringPortsBad r)
  | 0x0802 => (slotClash g.cycle 0 l).map (shdRefused code r)
  | 0x0803 => bad (!(l.any fun x => x.index == 0 && x.kind == 1 && x.owner == master) || (role == 1 && node != master) || (role == 2 && node == master))
  | 0x0804 => (l.find? fun x => !slotInWindow g x).map fun x => shdRefused code r x.index
  | 0x0805 => bad (c.ctxsEn.any (fun x => c.isTx x && (c.get (Reg.STM_CTX_CFG.EGRESS x)).testBit (2 * r))
      || Nat.blt (((l.filter fun x => x.kind == 1 && x.owner == node).map fun x => 10 * x.dur).foldl (· + ·) 0)
        ((c.resvStreams e).foldl (fun a x => a + x.1 * ((x.2.1 + 20) * octetTenths rate)) 0))
  | _ => bad (Nat.blt (c.get (Reg.SHD_RING_CFG.HOP_LIMIT r)) 2 || Nat.blt 1022 (c.get (Reg.SHD_RING_CFG.HOP_LIMIT r))
      || c.get (Reg.SHD_TIMING.BACKUP_MISS r) == 0 || c.get (Reg.SHD_TIMING.CLAIM_WAIT r) == 0 || c.get (Reg.SHD_TIMING.CLAIM_TRIES r) == 0
      || Nat.blt (c.get (Reg.SHD_TIMING.HOLDOFF_MS r)) 2)

/-- The codes of R187 on each enabled ring. -/
def checkShd (c : Dev) : Option Refused :=
  [0x0801, 0x0802, 0x0803, 0x0804, 0x0805, 0x0806].findSome? fun code =>
    ((List.range 2).filter fun r => c.bit (Reg.SHD_RING_CFG.EN r)).findSome? fun r => c.checkRing r code

/-! ### R219 -/

/-- A refusal of the Lathe. -/
def celRefused (code c k : Nat) : Refused := ⟨code, bCEL, some Reg.CEL_ADMIT, k % 64 * 2 ^ 24 + c * 65536 + code⟩

/-- Enabled cells. -/
def celsEn (c : Dev) : List Nat := (List.range 64).filter fun i => c.bit (Reg.CEL_CFG.EN i)

/-- 0x0902 fails for a cell. -/
def deadlineBad (c : Dev) (i : Nat) : Bool :=
  let d := c.get (Reg.CEL_DEADLINE.DEADLINE i)
  Nat.blt (40 * d) (max 8000 (15 * (4 * c.bankSteps i (c.celBank i) + 2))) ||
    match c.get (Reg.CEL_CFG.TRIG i) with
    | 1 => Nat.blt (c.word (Reg.CEL_PERIOD i)).toNat (max 5000 (10 * d))
    | 2 => c.get (Reg.ANG_SRC.KIND (c.get (Reg.CEL_CFG.DOM i))) == 0 || Nat.blt (c.get (Reg.CEL_CFG.MARK_LAST i)) (c.get (Reg.CEL_CFG.MARK_FIRST i))
    | _ => false

/-- The enabled inputs of a cell fail 0x0905. -/
def inputsBad (c : Dev) (i : Nat) : Bool :=
  let l := ((List.range 8).filter fun j => c.bit (Reg.CEL_IN.EN i j)).map fun j => c.get (Reg.CEL_IN.SRC i j)
  (l.any fun x => (Nat.blt 703 x && Nat.blt x 1024) || Nat.blt 1535 x) || decide (¬ l.Nodup)

/-- Cells placed on pairs, pinned ones first, each on the lowest free pair of a group that meets R192; none where one finds none. The pairs left (R248). -/
def placeAll (c : Dev) : List Nat → List Nat → Option (List Nat)
  | [], free => some free
  | i :: l, free =>
    let want := match c.pinTarget 0 i with
      | some p => if free.contains p && Nat.ble (c.freqNeed i) (c.freqMax (p / 4)) then some p else none
      | none => free.find? fun p => Nat.ble (c.freqNeed i) (c.freqMax (p / 4))
    match want with
    | some p => placeAll c l (free.filter (· != p))
    | none => none

/-- 0x0906: a cell finds no pair, or fewer than four spare pairs of groups with FREQ_MAX 8 are left. -/
def sparesBad (s c : Dev) : Bool :=
  let en := c.celsEn
  let used := (en.filter fun i => s.celState i != 0).map fun i => s.celPair i
  let free := (List.range 68).filter fun p => s.pairState p != 2 && !s.plc.removed.contains p && !used.contains p
  let new := en.filter fun i => s.celState i == 0
  match placeAll c ((new.filter fun i => (c.pinTarget 0 i).isSome) ++ new.filter fun i => (c.pinTarget 0 i).isNone) free with
  | some left => Nat.blt ((left.filter fun p => c.freqMax (p / 4) == 8).length) 4
  | none => true

/-- The codes of R219. -/
def checkCel (s c : Dev) : Option Refused :=
  let en := c.celsEn
  let banks := en.map fun i => (i, c.bankCheck i (c.celBank i))
  let of (code : Nat) : Option Refused := banks.findSome? fun e => match e.2 with
    | some (k, step) => if k = code then some (celRefused code e.1 step) else none
    | none => none
  let fmt := (List.range 64).find? fun f => c.bit (Reg.CEL_FMT_A.EN f) && (c.get (Reg.CEL_FMT_A.LEN f) == 0 || Nat.blt 256 (c.get (Reg.CEL_FMT_A.LEN f)))
  (of 0x0901).or <| ((en.find? c.deadlineBad).map fun i => celRefused 0x0902 i 0).or <| (of 0x0903).or <| (of 0x0904).or <|
    (((en.find? c.inputsBad).or fmt).map fun i => celRefused 0x0905 i 0).or <|
    (if s.sparesBad c then some (celRefused 0x0906 0 0) else none)

/-! ### R241 -/

/-- A refusal of Chuck and Scribe. -/
def smpRefused (code k i : Nat) : Refused := ⟨code, bSMP, some Reg.SMP_ADMIT, k * 2 ^ 21 + i * 2 ^ 17 + code⟩

/-- Enabled channels, by number. -/
def chansEn (c : Dev) : List Nat :=
  (c.regs.filter fun e => Nat.ble 0x202400 e.1 && Nat.blt e.1 0x280000 && Nat.ble 0x2400 (e.1 % 0x4000) && Nat.blt (e.1 % 0x4000) 0x2C00
    && e.1 % 0x80 == 0 && e.2.toNat.testBit 31).map fun e => (e.1 - 0x200000) / 0x4000 * 16 + (e.1 % 0x4000 - 0x2400) / 0x80

/-- SMP_SPEED_LIM of a domain in cycles per second, as a fraction. -/
def speedLim (c : Dev) (d : Nat) : Nat × Nat := (c.get (Reg.SMP_SPEED_LIM.SPEED d), 4096)

/-- ARG of a channel's trigger. -/
def trigArg (c : Dev) (n : Nat) : Nat := (c.word (Reg.SMP_CH_TRIG_A (n / 16) (n % 16))).toNat

/-- f_i of a channel in reads per second (R241). -/
def chanRate (c : Dev) (n : Nat) : Nat × Nat :=
  let a := c.trigArg n
  let v := c.speedLim (c.chanDom n)
  match c.chanTrig n with
  | 1 => (1000000000, max 1 a)
  | 3 => (2 ^ 24 * v.1, max 1 (a % 2 ^ 24) * v.2)
  | 4 => ((a % 256 + 1 - a / 256 % 256) * v.1, v.2)
  | 5 => (200000, 1)
  | _ => (0, 1)

/-- WIDTH code of a channel. -/
def chanWidth (c : Dev) (n : Nat) : Nat := c.get (Reg.SMP_CH_CFG.WIDTH (n / 16) (n % 16))
/-- SLOT of a channel. -/
def chanSlot (c : Dev) (n : Nat) : Nat := c.get (Reg.SMP_CH_CFG.SLOT (n / 16) (n % 16))

/-- 0x0A01 fails for channel `n` among the enabled ones. -/
def chan0A01 (c : Dev) (en : List Nat) (n : Nat) : Bool :=
  let k := n / 16
  !c.bit (Reg.SMP_PORT_CFG.EN k) || c.get (Reg.SMP_PORT_CFG.MODE k) == 3 || c.chanWidth n == 3 ||
    en.any fun m => Nat.blt m n && m / 16 == k && c.chanCs m == c.chanCs n && (c.chanWidth m != c.chanWidth n || c.chanSlot m == c.chanSlot n)

/-- 0x0A02 fails. -/
def chan0A02 (c : Dev) (n : Nat) : Bool :=
  let a := c.trigArg n
  let noSrc : Bool := c.get (Reg.ANG_SRC.KIND (c.chanDom n)) == 0 || (c.speedLim (c.chanDom n)).1 == 0
  match c.chanTrig n with
  | 1 => Nat.blt a 625
  | 3 => noSrc || a % 2 ^ 24 == 0
  | 4 => noSrc || Nat.blt (a % 256) (a / 256 % 256)
  | t => Nat.blt 5 t

/-- 0x0A03 fails for port `k`. -/
def port0A03 (c : Dev) (en : List Nat) (k : Nat) : Bool :=
  let l := en.filter fun n => n / 16 == k
  let fs := fsum (l.map c.chanRate)
  let bits := fsum (l.map fun n => let f := c.chanRate n; (f.1 * (widthBits (c.chanWidth n) * (c.chanSlot n + 1) + 4), f.2))
  fracLt (1600000, 1) fs || fracLt (4 * 800000000, 5 * (2 * (max 7 (c.get (Reg.SMP_PORT_CFG.CLK_DIV k)) + 1))) bits

/-- 0x0A04 fails. -/
def chan0A04 (c : Dev) (n : Nat) : Bool :=
  let k := n / 16
  let i := n % 16
  Nat.blt 4 (c.get (Reg.SMP_CH_FILT.CIC_N k i)) || Nat.blt 5 (c.get (Reg.SMP_CH_FILT.RLOG k i)) ||
    [Reg.SMP_CMP_A_RATIO k i, Reg.SMP_CMP_A_MARGIN k i, Reg.SMP_CMP_A_HYST k i, Reg.SMP_CMP_B_RATIO k i, Reg.SMP_CMP_B_MARGIN k i, Reg.SMP_CMP_B_HYST k i].any
      fun r => (c.word r).toNat.testBit 31

/-- 0x0A05 fails: of the destinations in use. -/
def chan0A05 (c : Dev) (n : Nat) : Bool :=
  let k := n / 16
  let i := n % 16
  (c.bit (Reg.SMP_CH_DEST.STREAM_EN k i) && (!c.txEn (c.get (Reg.SMP_CH_DEST.STREAM k i)) || c.get (Reg.SMP_CH_DEST.MAX_REC k i) == 0 || Nat.blt 32 (c.get (Reg.SMP_CH_DEST.MAX_REC k i))))
    || (c.bit (Reg.SMP_CH_DEST.CAP_EN k i) && (Nat.blt (c.get (Reg.SMP_CH_DEST.CAP_LOG k i)) 8 || Nat.blt 20 (c.get (Reg.SMP_CH_DEST.CAP_LOG k i))))

/-- The lowest pin that an enabled cell's output names and that is not enabled (0x0A06). -/
def check0A06 (c : Dev) : Option Nat :=
  let named := c.celsEn.flatMap fun i => (List.range 8).filterMap fun o =>
    let w := c.outWord i (c.celBank i) o 0
    if w.testBit 31 && w / 2 ^ 28 % 8 == 2 then some (w % 32) else none
  (List.range 32).find? fun p => named.contains p && !c.bit (Reg.SCR_PIN_CFG.EN p)

/-- The codes of R241. -/
def checkSmp (c : Dev) : Option Refused :=
  let en := c.chansEn
  let of (code : Nat) (f : Nat → Bool) : Option Refused := (en.find? f).map fun n => smpRefused code (n / 16) (n % 16)
  (of 0x0A01 (c.chan0A01 en)).or <| (of 0x0A02 c.chan0A02).or <|
    (((List.range 32).find? (c.port0A03 en)).map fun k => smpRefused 0x0A03 k 0).or <|
    (of 0x0A04 c.chan0A04).or <| (of 0x0A05 c.chan0A05).or (c.check0A06.map fun p => smpRefused 0x0A06 p 0)

/-! ### Capture buffers (R256) -/

/-- RT0 reservation of a capturing channel in bytes per second (R241). -/
def capRate (c : Dev) (n : Nat) : Nat × Nat :=
  let f := c.chanRate n
  (16 * f.1, f.2 * 2 ^ c.get (Reg.SMP_CH_FILT.RLOG (n / 16) (n % 16)))

/-- CAP_LOG of a channel. -/
def capLog (c : Dev) (n : Nat) : Nat := c.get (Reg.SMP_CH_DEST.CAP_LOG (n / 16) (n % 16))

/-- The enabled channels with CAP_EN. -/
def capsEn (c : Dev) : List Nat := c.chansEn.filter fun n => c.bit (Reg.SMP_CH_DEST.CAP_EN (n / 16) (n % 16))

/-- Sum of RT0 reservations of the buffers on memory channel `ch`. -/
def capSum (c : Dev) (caps : List (Nat × Nat × Nat)) (ch : Nat) : Nat × Nat := fsum ((caps.filter fun e => memChan e.2.2 == ch).map fun e => c.capRate e.1)

/-- The lowest free address, aligned to the buffer's size, in the capture area of a channel. -/
def capFind (c : Dev) (caps : List (Nat × Nat × Nat)) (ch size : Nat) : Option Nat :=
  let base := c.get (Reg.PLC_CAP_BASE.BASE ch) * 65536
  let stop := base + c.get (Reg.PLC_CAP_SIZE.SIZE ch) * 65536
  let up (a : Nat) : Nat := (a + size - 1) / size * size
  let starts := (base :: caps.map fun e => e.2.2 + 16 * 2 ^ e.2.1).map up
  let free (a : Nat) : Bool := Nat.ble base a && Nat.ble (a + size) stop && caps.all fun e => Nat.ble (a + size) e.2.2 || Nat.ble (e.2.2 + 16 * 2 ^ e.2.1) a
  (starts.filter free).foldl (fun m a => match m with
    | some b => some (min a b)
    | none => some a) none

/-- Place the buffers that have no place yet, by channel number: the pinned memory channel, else that with the lower sum of reservations; or the first that does not fit. -/
def capPlace (c : Dev) : List Nat → List (Nat × Nat × Nat) → List (Nat × Nat × Nat) × Option Nat
  | [], caps => (caps, none)
  | n :: l, caps =>
    let ch := match c.pinTarget 2 n with
      | some t => min 1 t
      | none => if fracLt (c.capSum caps 1) (c.capSum caps 0) then 1 else 0
    match c.capFind caps ch (16 * 2 ^ c.capLog n) with
    | some a => capPlace c l (caps ++ [(n, c.capLog n, a)])
    | none => (caps, some n)

/-- The buffers of configuration `c`: those that keep their places, then the new ones; and the first that does not fit. -/
def capPlaces (s c : Dev) : List (Nat × Nat × Nat) × Option Nat :=
  let want := c.capsEn
  let keep := s.plc.caps.filter fun e => want.contains e.1 && c.capLog e.1 == e.2.1 && s.bit (Reg.SMP_CH_CFG.EN (e.1 / 16) (e.1 % 16))
  c.capPlace (want.filter fun n => !keep.any fun e => e.1 == n) keep

/-- A placed buffer lies in the capture area that `c` gives its memory channel (R261). -/
def capInArea (c : Dev) (e : Nat × Nat × Nat) : Bool :=
  let base := c.get (Reg.PLC_CAP_BASE.BASE (memChan e.2.2)) * 65536
  Nat.ble base e.2.2 && Nat.ble (e.2.2 + 16 * 2 ^ e.2.1) (base + c.get (Reg.PLC_CAP_SIZE.SIZE (memChan e.2.2)) * 65536)

/-- The item of 0x0B04: the first buffer that finds no place, or that keeps one outside its area; or the first channel whose area is not within its usable memory. -/
def check0B04 (s c : Dev) (areaOk : Nat → Bool) : Option Nat :=
  let l := s.capPlaces c
  (l.2.or ((l.1.find? fun e => !c.capInArea e).map (·.1))).or (([0, 1] : List Nat).find? fun ch => !areaOk ch)

/-- The capture area of a channel lies within its usable memory. -/
def capAreaOk (c : Dev) (ch : Nat) : Bool :=
  let n := c.get (Reg.PLC_CAP_SIZE.SIZE ch) * 65536
  n == 0 || (memChan (c.get (Reg.PLC_CAP_BASE.BASE ch) * 65536) == ch && c.inUsable (c.get (Reg.PLC_CAP_BASE.BASE ch) * 65536) n)

/-! ### R261 -/

/-- A refusal of the Rigger. -/
def plcRefused (code item : Nat) : Refused := ⟨code, bPLC, some Reg.PLC_ADMIT, item * 2 ^ 16 + code⟩

/-- Enabled entries of the pin table. -/
def pinsEn (c : Dev) : List Nat := (List.range 32).filter fun e => c.bit (Reg.PLC_PIN_A.EN e)
/-- KIND of an entry. -/
def pinKind (c : Dev) (e : Nat) : Nat := c.get (Reg.PLC_PIN_A.KIND e)
/-- ITEM of an entry. -/
def pinItem (c : Dev) (e : Nat) : Nat := c.get (Reg.PLC_PIN_A.ITEM e)
/-- TARGET of an entry. -/
def pinTo (c : Dev) (e : Nat) : Nat := c.get (Reg.PLC_PIN_B.TARGET e)

/-- 0x0B01 fails for entry `e`. -/
def pin0B01 (c : Dev) (e : Nat) : Bool :=
  let i := c.pinItem e
  let t := c.pinTo e
  let ok : Bool := match c.pinKind e with
    | 0 => Nat.blt i 64 && Nat.blt t 68
    | 1 => Nat.ble i 642
    | 2 => Nat.blt i 512 && Nat.ble t 1
    | 3 => Nat.blt i 64 && Nat.ble t 1
    | 4 => riggerDom i
    | _ => false
  !ok || c.pinsEn.any fun d => Nat.blt d e && c.pinKind d == c.pinKind e && c.pinItem d == i

/-- The first half of 0x0B02 fails for entry `e`: the pinned cell's group cannot carry it. -/
def pin0B02 (c : Dev) (e : Nat) : Bool :=
  c.pinKind e == 0 && Nat.blt (c.freqMax (c.pinTo e / 4)) (c.freqNeed (c.pinItem e))

/-- After the pins R248 can hold: no two enabled cells are pinned to one pair, and with each pinned cell on its pair the others find pairs that meet R192, each the slowest that does, and four pairs of groups with FREQ_MAX 8 are left (0x0B02). -/
def pinsHold (s c : Dev) : Bool :=
  let pins := c.celsEn.filterMap fun i => c.pinTarget 0 i
  let free := (List.range 68).filter fun p => s.pairState p != 2 && !s.plc.removed.contains p && !pins.contains p
  let slowFirst := [2, 3, 4, 5, 6, 7, 8].flatMap fun n => free.filter fun p => c.freqMax (p / 4) == n
  decide pins.Nodup && match placeAll c (c.celsEn.filter fun i => (c.pinTarget 0 i).isNone) slowFirst with
    | some left => Nat.ble 4 ((left.filter fun p => c.freqMax (p / 4) == 8).length)
    | none => false

/-- The entry that fails 0x0B02; where R248 cannot hold after the pins, the first that pins a cell is shown (log entry 73). -/
def check0B02 (s c : Dev) : Option Nat :=
  (c.pinsEn.find? c.pin0B02).or (if s.pinsHold c then none else c.pinsEn.find? fun e => c.pinKind e == 0)

/-- 0x0B03 fails for entry `e`: the owners pinned to its bank set need more than the set holds. -/
def pin0B03 (c : Dev) (e : Nat) : Bool :=
  c.pinKind e == 1 &&
    Nat.blt (2048 * (banksIn (c.pinTo e)).length)
      (((c.pinsEn.filter fun d => c.pinKind d == 1 && c.pinTo d == c.pinTo e).map fun d => (c.resv (ownerOf (c.pinItem d))).1).foldl (· + ·) 0)

/-- 0x0B05 fails for entry `e`. -/
def pin0B05 (c : Dev) (e : Nat) : Bool :=
  c.pinKind e == 3 && Nat.blt 32 ((c.pinsEn.filter fun d => c.pinKind d == 3 && c.pinTo d == c.pinTo e).length)

/-- The owned slots of a ring fail a deadline of `dl` ns: some slot and the next one in cyclic order lie too far apart (0x0B06). -/
def slotsTooFar (c : Dev) (r dl : Nat) : Bool :=
  let e := 2 * r + 1
  let cyc := max 1 (c.word (Reg.GTE_CYCLE_TIME e (c.gclActive e))).toNat
  let own := (c.slotsOf r).filter fun x => x.kind == 1 && x.owner == c.get Reg.SHD_CFG.NODE_ID
  (own.zip (own.drop 1 ++ own.take 1)).any fun x =>
    let d := (x.2.ofs + cyc - x.1.ofs % cyc) % cyc
    Nat.blt dl ((if d = 0 then cyc else d) + x.2.dur + 500)

/-- The context that fails 0x0B06. -/
def check0B06 (c : Dev) : Option Nat :=
  c.ctxsEn.find? fun x =>
    let dl := c.get (Reg.PLC_STM_DL.DL x) * 100
    c.isTx x && dl != 0 && (List.range 2).any fun r =>
      c.bit (Reg.SHD_RING_CFG.EN r) && ((c.get (Reg.STM_CTX_CFG.EGRESS x)).testBit (2 * r) || (c.get (Reg.STM_CTX_CFG.EGRESS x)).testBit (2 * r + 1)) && c.slotsTooFar r dl

/-- The codes of R261. -/
def checkPlc (s c : Dev) : Option Refused :=
  let of (code : Nat) (f : Nat → Bool) : Option Refused := (c.pinsEn.find? f).map (plcRefused code)
  (of 0x0B01 c.pin0B01).or <| ((s.check0B02 c).map (plcRefused 0x0B02)).or <| (of 0x0B03 c.pin0B03).or <|
    ((s.check0B04 c c.capAreaOk).map (plcRefused 0x0B04)).or <|
    (of 0x0B05 c.pin0B05).or (c.check0B06.map (plcRefused 0x0B06))

/-! ### R270: 0x0C01, 0x0C02; R294; R342 -/

/-- A swap of the table is pending (0x0C01). -/
def swapPending (s : Dev) (x : Swap) : Bool :=
  match x.1 with
  | 2 => s.bit (Reg.GTE_GCL_CTL.SWAP_PEND x.2)
  | 1 => s.ruleSwapAt.isSome
  | 3 => s.bit (Reg.SHD_SLOT_CTL.SWAP_PEND x.2)
  | 4 => s.bit (Reg.CEL_BANK.SWAP_PEND x.2)
  | 6 => s.bit (Reg.ANG_MARK_CTL.SWAP_PEND x.2)
  | _ => false

/-- The codes of the dictionary's own checks: DCT_ADMIT is their _ADMIT register. -/
def checkDct (s : Dev) (swaps : List Swap) : Option Refused :=
  let bad (code : Nat) : Refused := ⟨code, bDCT, none, bDCT * 2 ^ 24 + code⟩
  if swaps.any s.swapPending then some (bad 0x0C01)
  else if s.dct.lost ≠ [] then some (bad 0x0C02)
  else none

/-- A refusal of the authentication unit. -/
def autRefused (code id : Nat) : Refused := ⟨code, bAUT, some Reg.AUT_ADMIT, id * 2 ^ 16 + code⟩

/-- The client of the first staged wrapped key that 0x0D01 refuses. -/
def check0D01 (s : Dev) : Option Nat :=
  s.dct.staged.findSome? fun g => match s.objOf g.index g.sub with
    | some o => match o.kind with
      | .wrapped id => match s.unwrapped g.value with
        | some (_, id', gen) => if id' = id ∧ gen ≠ s.get (Reg.AUT_CL_CFG.KEY_GEN id) then none else some id
        | none => some id
      | _ => none
    | none => none

/-- RIGHTS of the active clients. -/
def activeRights (c : Dev) : List Nat :=
  (c.regs.filter fun e => Nat.ble 0x1200000 e.1 && Nat.blt e.1 0x1220000 && e.1 % 0x20 == 0 && e.2.toNat / 2 ^ 30 == 1).map fun e => e.2.toNat % 1024

/-- The codes of R294; FIRST and LAST are 9-bit fields, so 0x0D02 never fails. -/
def checkAut (s c : Dev) : Option Refused :=
  (s.check0D01.map (autRefused 0x0D01)).or <|
    if c.activeRights ≠ [] ∧ ¬ (c.activeRights.any fun r => r.testBit 9) then some (autRefused 0x0D03 0) else none

/-- RT0 and RT1 reservations of a memory channel in bytes per second, each item with the larger of its values (R270, R341). -/
def memResv (s c : Dev) (ch : Nat) : (Nat × Nat) × (Nat × Nat) :=
  let new := (s.capPlaces c).1
  let ns := (s.plc.caps.map (·.1) ++ new.map (·.1)).eraseDups
  let on (l : List (Nat × Nat × Nat)) (n : Nat) : Bool := l.any fun e => e.1 == n && memChan e.2.2 == ch
  let item (n : Nat) : Nat × Nat := fmax (if on s.plc.caps n then s.capRate n else (0, 1)) (if on new n then c.capRate n else (0, 1))
  let rt1 (d : Dev) : Nat := if d.get Reg.MEM_RT1_CFG.CH = ch then d.get Reg.MEM_RT1_CFG.RESV * 1000000 else 0
  (fsum (ns.map item), (max (rt1 s) (rt1 c), 1))

/-- A refusal of the memory controller. -/
def memRefused (code ch : Nat) : Refused := ⟨code, bMEM, some Reg.MEM_ADMIT, ch * 2 ^ 16 + code⟩

/-- A memory channel carries a capture buffer, a capture area or RT1 (0x0F01). -/
def chanCarries (s c : Dev) (ch : Nat) : Bool :=
  ((s.capPlaces c).1.any fun e => memChan e.2.2 == ch) || c.get (Reg.PLC_CAP_SIZE.SIZE ch) != 0
    || (c.get Reg.MEM_RT1_CFG.CH == ch && c.get Reg.MEM_RT1_CFG.RESV != 0)

/-- 0x0F02 fails on a channel: the reservations exceed 0.8 × B_d. -/
def chan0F02 (s c : Dev) (ch : Nat) : Bool :=
  let r := s.memResv c ch
  let limit : Nat × Nat := if c.chUp ch then
      (12 * dramRate (c.get (Reg.MEM_CH_STAT.RATE_NOW ch)) * (3904 - c.admitMult * c.trfc ch (c.bit Reg.MEM_CFG.REFRESH_MODE)) * 1000000, 39040)
    else (0, 1)
  fracLt limit (fadd r.1 r.2)

/-- 0x0F03 fails on a channel: R × T_STALL with T_STALL = 1.9 µs. -/
def chan0F03 (s c : Dev) (ch : Nat) : Bool :=
  let r := s.memResv c ch
  let port (q : Nat) (x : Nat × Nat) : Bool :=
    Nat.ble (c.get (Reg.MEM_PORT_CFG.PANIC_LEVEL q)) (c.get (Reg.MEM_PORT_CFG.PANIC_CLEAR q))
      || fracLt (32768, 1) (fadd (c.get (Reg.MEM_PORT_CFG.PANIC_LEVEL q) * 256 + 64, 1) (x.1 * 19, x.2 * 10000000))
  port 0 r.1 || port 1 r.2

/-- The codes of R342. -/
def checkMem (s c : Dev) : Option Refused :=
  let of (code : Nat) (f : Nat → Bool) : Option Refused := (([0, 1] : List Nat).find? f).map (memRefused code)
  (of 0x0F01 fun ch => s.chanCarries c ch && !c.chUp ch).or <| (of 0x0F02 (s.chan0F02 c)).or <| (of 0x0F03 (s.chan0F03 c)).or <|
    if c.get Reg.MEM_CFG.ADMIT_MULT = 3 then some (memRefused 0x0F04 0) else none

/-- The admission check: the first failing code (R270). -/
def admissionCheck (s : Dev) : Option Refused :=
  let c := s.candidateConfig
  let swaps := s.stagedSwaps
  c.check0301.or <| c.check0401.or <| c.check0402.or <| c.check0403.or <| (s.checkFrm c).or <| (s.checkGte c swaps).or <| (s.checkStm c).or <|
    c.checkShd.or <| (s.checkCel c).or <| c.checkSmp.or <| (s.checkPlc c).or <| (s.checkDct swaps).or <| (s.checkAut c).or (s.checkMem c)

end Dev

end Sys2Proof.Machine
end

