-- ==== Sys2Proof/Machine/Dict.lean ====
section
/-! DEFINITION. The operations of the dictionary engine (spec/12_object_dictionary.md): status checks, READ to CRIT, the end of the admission check, and commit points. -/

namespace Sys2Proof.Machine

namespace Dev

/-! ### Rights and tables (R268, R272) -/

/-- What a request may write: 0 nothing, 1 RW and WO objects, 2 CRIT objects as well (R268, R281, R296). -/
def reqRights (s : Dev) (q : DctReq) : Nat :=
  if q.src = 10 then 2 else if q.src < 8 then ((s.get Reg.DCT_CFG.OPEN).testBit q.src).toNat else 1

/-- Size of a bank of table kind `k` in octets (R272). -/
def bankSize (k : Nat) : Nat := [0, 4096, 8192, 32768, 8192, 128, 1024].getD k 0

/-- The active bank of a table. -/
def tableActive (s : Dev) (k inst : Nat) : Nat :=
  match k with
  | 1 => s.ruleBank
  | 2 => s.gclActive inst
  | 3 => s.slotBank inst
  | 4 => s.celBank inst
  | 5 => s.get (Reg.SMP_FIR_CTL.ACTIVE inst)
  | _ => s.get (Reg.ANG_MARK_CTL.ACTIVE inst)

/-- Key of the first word of bank `b` of a table. -/
def tableBase (k inst b : Nat) : Nat :=
  match k with
  | 1 => 0xC1000 + 0x1000 * b
  | 2 => 0x1000000 + 0x4000 * inst + 0x2000 * b
  | 3 => 0x1040000 + 0x10000 * inst + 0x8000 * b
  | 4 => 0x1080000 + 0x4000 * inst + 0x2000 * b
  | 5 => 0x202100 + 0x4000 * inst + 0x80 * b
  | _ => 0x34000 + 0x2000 * b + 0x400 * inst

/-- The control word whose bit 0 swaps the banks of a table. -/
def tableCtl (k inst : Nat) : Nat :=
  match k with
  | 1 => Reg.FRM_RULE_CTL
  | 2 => Reg.GTE_GCL_CTL inst
  | 3 => Reg.SHD_SLOT_CTL inst
  | 4 => Reg.CEL_BANK inst
  | 5 => Reg.SMP_FIR_CTL inst
  | _ => Reg.ANG_MARK_CTL inst

/-- The engine sets its own selector for a request (R408). -/
def dictSelect (s : Dev) (k inst b : Nat) : Dev :=
  match k with
  | 2 => s.setSel .dict Reg.GTE_LIST_SEL (BitVec.ofNat 32 inst)
  | 3 => s.setSel .dict Reg.SHD_SLOT_SEL (BitVec.ofNat 32 (2 * inst + b))
  | 4 => s.setSel .dict Reg.CEL_TBL_SEL (BitVec.ofNat 32 (256 * b + inst))
  | _ => s

/-! ### Status of a request (R276) -/

/-- The block that backs the object is off. -/
def objOff (s : Dev) (o : Obj) : Bool :=
  match objBlock o.kind with
  | some b => !s.blockOn b
  | none => false

/-- ACCESS: R268. -/
def badAccess (q : DctReq) (o : Obj) : Bool :=
  match q.op with
  | 1 => o.right == .wo || (match o.kind with | .wrapped _ => true | _ => false)
  | 2 => o.right == .ro || o.right == .const
  | 8 => o.right == .ro || o.right == .const
  | _ => false

/-- AUTH_REQUIRED: R268. -/
def badAuth (rights : Nat) (q : DctReq) (o : Obj) : Bool :=
  (q.op == 2 || q.op == 8) && (if o.right = .crit then Nat.blt rights 2 else rights == 0)

/-- TYPE: R267, R272, R275. -/
def badType (q : DctReq) (o : Obj) : Bool :=
  let n := objSize o
  match q.op with
  | 1 => if o.type = 13 then Nat.blt n (q.offset + q.length) else q.offset != 0 && Nat.ble n q.offset
  | 2 => if o.type = 13 then Nat.blt n (q.offset + q.length) else q.length != n || (q.offset != 0 && Nat.ble n q.offset)
  | 7 | 8 =>
    match o.kind with
    | .table _ k _ => q.offset % 4 != 0 || q.length % 4 != 0 || Nat.blt (bankSize k) (q.offset + q.length)
    | _ => true
  | _ => false

/-- PENDING: an admitted value of the object waits, or a swap of the table is pending (R269, R272). -/
def isPending (s : Dev) (q : DctReq) (o : Obj) : Bool :=
  match q.op with
  | 2 => (stagedOf s.dct.waiting q.index q.sub).isSome
  | 8 =>
    match o.kind with
    | .table _ k inst => s.swapPending (k, inst)
    | _ => false
  | _ => false

/-- STALE: the request is a reference that R149 refuses (R277). -/
def isStale (s : Dev) (q : DctReq) : Bool :=
  q.flags.testBit 0 && Nat.ble 0x2000 q.index && Nat.ble q.index 0x21FF && !s.refOk (q.index - 0x2000) q.gen

/-- BAD_OP: an operation outside R275, or a LENGTH beyond the frame or its bound. -/
def badOp (q : DctReq) : Bool :=
  !(Nat.ble 1 q.op && Nat.ble q.op 8) || Nat.blt 1024 q.length || ((q.op == 2 || q.op == 8) && q.beyond)

/-- The status of a request on an object: the first failing check in the order of the codes, 0 where none fails (R276). -/
def objStatus (s : Dev) (rights : Nat) (q : DctReq) : Nat :=
  if 0xF000 ≤ q.index then (if s.bit Reg.GLB_STRAP.FACTORY_FUSE then 0x0A else 1)
  else if ¬ entryDefined q.index then 1
  else match s.objOf q.index q.sub with
  | none => 2
  | some o =>
    if badAccess q o then 3
    else if badAuth rights q o then 4
    else if badType q o then 5
    else if (q.op == 1 || q.op == 7 || q.op == 8) && s.objOff o then 6
    else if s.isPending q o then 7
    else if s.isStale q then 9
    else if badOp q then 0x0B
    else if q.op == 3 && (stagedOf s.dct.staged q.index q.sub).isNone then 0x0C
    else if q.op == 2 && (stagedOf s.dct.staged q.index q.sub).isNone && Nat.ble 4096 s.dct.staged.length then 0x0D
    else 0

/-- COMMIT and DISCARD name no object: they need the rights of an RW write (DEDUCED, log entry 32). -/
def reqStatus (s : Dev) (rights : Nat) (q : DctReq) : Nat :=
  if q.op = 5 ∨ q.op = 6 then (if rights = 0 then 4 else 0) else s.objStatus rights q

/-- What a refusal does beyond its reply: a stale reference is counted (R149), a TABLE_WRITE against a pending swap sets ACTIVE_WR (R272). -/
def refusedEffect (s : Dev) (q : DctReq) (status : Nat) : Dev :=
  if status = 9 then s.refuseRef (q.index - 0x2000) q.gen
  else if status = 7 ∧ q.op = 8 then
    match s.objOf q.index q.sub with
    | some o => match o.kind with
      | .table _ k inst => s.put ⟨tableCtl k inst, 8, 1⟩ 1
      | _ => s
    | none => s
  else s

/-! ### The operations (R269, R275) -/

/-- READ. -/
def readObject (s : Dev) (q : DctReq) (o : Obj) : List Octet × Dev :=
  let s := match o.kind with
    | .word b k => (s.when (b == bAUT) fun s => s.setSel .dict Reg.AUT_CLIENT_SEL (BitVec.ofNat 32 (q.index - 0x8000))).capture .dict k
    | _ => s
  let l := s.objOctets o
  (if o.type = 13 then (l.drop q.offset).take q.length else l, s)

/-- DESCRIBE. -/
def describe (o : Obj) : List Octet :=
  [BitVec.ofNat 8 o.type, BitVec.ofNat 8 o.right.code, BitVec.ofNat 8 (commitPointOf o.index), 0] ++ octetsBE (objSize o) (objDefault o)

/-- The value a WRITE stages: a BOOL is 0 or 1, a part of an OCTETS value is completed from the staged or committed one (R267, R275). -/
def stageValue (s : Dev) (q : DctReq) (o : Obj) : List Octet :=
  if o.type = 13 then patch ((stagedOf s.dct.staged q.index q.sub).getD (s.objOctets o)) q.offset q.body
  else if o.type = 1 then [if numBE q.body = 0 then 0 else 1]
  else q.body

/-- The admission check starts for a request (R270, R273). -/
def commitBegin (s : Dev) (q : DctReq) (x : Option CritCtx) : Dev :=
  (s.putBit (statusBit bDCT 5) true).modDct fun d => { d with check := some (q, x) }

/-- DISCARD: every staged value not yet admitted goes, and the lost marks (R269, R283). -/
def discard (s : Dev) : Dev := s.modDct fun d => { d with staged := [], lost := [] }

/-- WRITE: the value is staged; COMMAND acts at once and stages nothing (log entry 32). -/
def writeObject (s : Dev) (q : DctReq) (o : Obj) : Dev :=
  match o.kind with
  | .command =>
    if numBE q.body = 1 then s.commitBegin { q with src := 10 } none
    else if numBE q.body = 2 then s.discard
    else s
  | _ => s.modDct fun d => { d with
      staged := stgPut d.staged ⟨q.index, q.sub, s.stageValue q o⟩
      lost := d.lost.filter fun e => e != (q.index, q.sub) }

/-- TABLE_READ: octets of the idle bank, or of the active one with ACTIVE (R272). -/
def tableRead (s : Dev) (q : DctReq) (k inst : Nat) : List Octet × Dev :=
  let b := if q.flags.testBit 1 then s.tableActive k inst else 1 - s.tableActive k inst
  let s := s.dictSelect k inst b
  ((List.range (q.length / 4)).flatMap fun i => octetsBE 4 (s.viewWord (tableBase k inst b + q.offset + 4 * i)), s)

/-- TABLE_WRITE: octets written to the idle bank (R272). -/
def tableWrite (s : Dev) (q : DctReq) (blk k inst : Nat) : Dev :=
  let b := 1 - s.tableActive k inst
  let s := s.dictSelect k inst b
  (List.range (q.length / 4)).foldl (fun s i => s.writeWord blk (tableBase k inst b + q.offset + 4 * i) (BitVec.ofNat 32 (fieldBE q.body (4 * i) 4)) false) s

/-- Carry out an operation that passed its checks: reply DATA and the state after. COMMIT is not among them. -/
def perform (s : Dev) (q : DctReq) : List Octet × Dev :=
  if q.op = 6 then ([], s.discard)
  else match s.objOf q.index q.sub with
  | none => ([], s)
  | some o =>
    match q.op with
    | 1 => s.readObject q o
    | 2 => ([], s.writeObject q o)
    | 3 => ((stagedOf s.dct.staged q.index q.sub).getD [], s)
    | 4 => (describe o, s)
    | 7 => match o.kind with
      | .table _ k inst => s.tableRead q k inst
      | _ => ([], s)
    | _ => match o.kind with
      | .table blk k inst => ([], s.tableWrite q blk k inst)
      | _ => ([], s)

/-- The reply to a request whose operation was `q`'s own, or the inner one of critical command `x` (R292). -/
def finish (s : Dev) (q : DctReq) (x : Option CritCtx) (status : Nat) (data : List Octet) : Dev :=
  match x with
  | none => s.answer q status data
  | some c => s.answer q status (s.critPrefix c status ++ data)

/-- Judge and carry out operation `r` for request `q` with the rights given; the reply to a COMMIT comes at the end of the check. -/
def carryOut (s : Dev) (q r : DctReq) (rights : Nat) (x : Option CritCtx) : Dev :=
  match s.reqStatus rights r with
  | 0 =>
    if r.op = 5 then s.commitBegin q x
    else
      let d := s.perform r
      d.2.finish q x 0 d.1
  | n => (s.refusedEffect r n).finish q x n []

/-- The inner request of a critical command: the Odeivo header at octet 10 of its DATA (R287). -/
def innerReq (q : DctReq) : DctReq := { q with data := q.body.drop 10 }

/-- CRIT (R287–R292). -/
def critCommand (s : Dev) (q : DctReq) : Dev :=
  if q.beyond ∨ q.length < 34 then s.answer q 0x0B []
  else
    let j := s.critJudge q.src q.body
    match j.1 with
    | some n => j.2.2.finish q j.2.1 n []
    | none => j.2.2.carryOut q (innerReq q) 2 j.2.1

/-- The request at the head of the queue leaves it and is carried out; a repetition is answered with the first reply (R278, R279). -/
def serve (s : Dev) (q : DctReq) (rest : List DctReq) : Dev :=
  let s := s.modDct fun d => { d with queue := rest }
  match s.dupOf q with
  | some d => (s.inc Reg.DCT_DUP.COUNT).sendReply q d.status d.data
  | none => if q.op = 9 then s.critCommand q else s.carryOut q q (s.reqRights q) none

/-- The engine takes the head of its queue when its operation is `op`; one that R275 does not give is taken with READ. None while a check runs (R273, R278). -/
def serveOp (s : Dev) (op : Nat) : Dev := s.atBlock bDCT fun s =>
  match s.dct.queue with
  | [] => s
  | q :: rest =>
    if s.dct.check.isSome then s
    else if q.op = op ∨ (op = 1 ∧ ¬ (1 ≤ q.op ∧ q.op ≤ 9)) then s.serve q rest
    else s

/-! ### The end of the admission check (R270, R271) -/

/-- DATA of the reply to a refused COMMIT: REASON, block, 0 and the block's _ADMIT word (R275). -/
def refusalData (r : Refused) (word : Nat) : List Octet := octetsBE 2 r.code ++ octetsBE 1 r.block ++ octetsBE 1 0 ++ octetsBE 4 word

/-- The _ADMIT word of a refusal: that of the block, DCT_ADMIT for the dictionary's own checks, a free value for a block that has none (log entry 35). -/
def admitWord (s : Dev) (r : Refused) : Nat × Dev :=
  if r.reg.isSome ∨ r.block = bDCT then (r.word, s) else s.freeWord

/-- The operation that asked for the check was COMMIT, of its own or within CRIT, and not a write of COMMAND. -/
def askedByCommit (q : DctReq) (x : Option CritCtx) : Bool := if x.isSome then (innerReq q).op == 5 else q.op == 5

/-- A refused commit: nothing changes but the registers that show it. -/
def commitRefused (s : Dev) (q : DctReq) (x : Option CritCtx) (r : Refused) : Dev :=
  let s := s.setWord Reg.DCT_ADMIT (BitVec.ofNat 32 (r.block * 2 ^ 24 + r.code))
  let s := match r.reg with
    | some k => s.setWord k (BitVec.ofNat 32 r.word)
    | none => s
  let s := (s.inc Reg.DCT_REFUSE_CNT.COUNT).raise bDCT 1
  let w := s.admitWord r
  w.2.finish q x 8 (if askedByCommit q x then refusalData r w.1 else [])

/-- Show the capture buffers' addresses, and the reservations of both memory channels (R256, R341). -/
def showPlaces (s : Dev) (caps : List (Nat × Nat × Nat)) (resv : Nat → (Nat × Nat) × (Nat × Nat)) : Dev :=
  let s := caps.foldl (fun s e => s.setWord (Reg.SMP_CAP_ADDR (e.1 / 16) (e.1 % 16)) (BitVec.ofNat 32 (e.2.2 / 64))) s
  let mb (x : Nat × Nat) : Nat := (x.1 + x.2 * 1000000 - 1) / (x.2 * 1000000)
  [0, 1].foldl (fun s ch => (s.put (Reg.MEM_CH_RESV.RT_ONE ch) (mb (resv ch).2)).put (Reg.MEM_CH_RESV.RT_ZERO ch) (mb (resv ch).1)) s

/-- The units that the jobs which configuration `c` enables anew are to be placed on (R18, R257). -/
def unitsCalled (s c : Dev) : List Nat :=
  let new := (List.range 64).filter fun j => (c.word (if j < 32 then Reg.DMA_JOB_EN_LO else Reg.DMA_JOB_EN_HI)).toNat.testBit (j % 32) && s.jobPlace j == 0
  (new.foldl (fun (a : Dev × List Nat) j =>
    let u := a.1.chooseUnit j
    match a.1.freeChan u with
    | some k => (a.1.placeJob j u k, u :: a.2)
    | none => a) (c, [])).2.eraseDups

/-- The domains called on begin to switch on, those of Tackle by the Rigger (R18, R258). -/
def domCall (s : Dev) (l : List Nat) : Dev :=
  l.foldl (fun s d => if riggerDom d then s.plcDomOn d causePolicy else s.domStart d) s

/-- An admitted commit: every staged value waits for its commit point, and for the domains that the configuration needs; the domains that it leaves unused are off from here on (R17, R18). -/
def commitAdmitted (s : Dev) (q : DctReq) (x : Option CritCtx) : Dev :=
  let c := s.candidateConfig
  let caps := (s.capPlaces c).1
  let resv (ch : Nat) := s.memResv c ch
  let s := (s.inc Reg.DCT_COMMIT_CNT.COUNT).raise bDCT 0
  let need := s.domsMissing c ++ ((s.unitsCalled c).map unitDom).filter fun d => !s.domOn d
  let mask := need.foldl (fun m d => m ||| 2 ^ d) 0
  let s := s.modDct fun d => { d with
    staged := [], waiting := d.staged.foldl stgPut d.waiting
    calls := d.calls ||| mask, unused := c.domsUnused
    holds := if mask = 0 then d.holds else d.staged.map (fun g => (g.index, g.sub, mask)) ++ d.holds }
  let s := { s with plc := { s.plc with caps := caps } }
  let s := if s.bankSet 642 = 0 then s.assignBanks 642 else s
  ((s.showPlaces caps resv).domTidy.domCall need).pendingBit.finish q x 0 []

/-- The check that runs ends (R270, R271). -/
def checkEnd (s : Dev) : Dev :=
  match s.dct.check with
  | none => s
  | some (q, x) =>
    let r := s.admissionCheck
    let s := (s.putBit (statusBit bDCT 5) false).modDct fun d => { d with check := none }
    match r with
    | some r => s.commitRefused q x r
    | none => s.commitAdmitted q x

/-! ### Commit points (R271) -/

/-- The port whose gate schedule gives the cycle boundary of an entry. -/
def cyclePort (s : Dev) (x : Nat) : Nat := if x = 0x1051 then 1 else if x = 0x1052 then 3 else s.get Reg.DCT_CFG_B.CYCLE_PORT

/-- A cycle start of the active gate schedule of port `p` fell in the present core clock, 1.25 ns (R114, R271). -/
def cycleStartNow (s : Dev) (p : Nat) : Bool := Nat.blt ((s.schedule p (s.gclActive p)).phase s.now) 81920

/-- A waiting value falls due at `pt`: the cycle start or angle-cycle boundary it waits for is there. -/
def dueAtPoint (s : Dev) (pt : CommitPoint) (x : Nat) : Bool :=
  match pt, commitPointOf x with
  | .immediate, 0 => true
  | .immediate, 1 => !s.bit (Reg.GTE_PORT_CTL.GATE_EN (s.cyclePort x))
  | .immediate, 3 => s.angState (x - 0x5000) == angOff
  | .cycle p, 1 => s.cyclePort x == p && s.bit (Reg.GTE_PORT_CTL.GATE_EN p) && s.cycleStartNow p
  | .activation c, 2 => x - 0x3000 == c && (s.cell c).run.isNone
  | .angle n, 3 => x - 0x5000 == n && s.angOk n && (s.ang n).boundAt == some s.up
  | _, _ => false

/-- The value waits for a domain that its commit has called on and that is still off, or for the domain of its block that is to come on (R18, R271). -/
def waitsForDomain (s : Dev) (g : Stg) : Bool :=
  (s.dct.holds.any fun h => h.1 == g.index && h.2.1 == g.sub && (List.range 80).any fun d => h.2.2.testBit d && !s.domOn d) ||
  match (s.objOf g.index g.sub).bind fun o => objBlock o.kind with
  | some b => !s.blockOn b && (s.pwr.switching.testBit (headerDomain b) || s.domWanted (headerDomain b))
  | none => false

/-- A value has no block to take it: its block is off, and for DMA_JOB_EN, which both Tackle windows show, both units are (R18, R311). -/
def writeOff (s : Dev) (o : Obj) : Bool :=
  s.objOff o && match o.kind with
    | .word _ k => (k != Reg.DMA_JOB_EN_LO && k != Reg.DMA_JOB_EN_HI) || (!s.blockOn (bDMA 0) && !s.blockOn (bDMA 1))
    | _ => true

/-- A committed value is written to its backing fields; one of a block that is off has no effect (R18, R271). -/
def writeValue (s : Dev) (g : Stg) : Dev :=
  match s.objOf g.index g.sub with
  | none => s
  | some o =>
    if s.writeOff o then s
    else match o.kind with
    | .field f => s.put f (numBE g.value)
    | .word b k =>
      let v := BitVec.ofNat 32 (numBE g.value)
      if isSelector k then s.setSel .dict k (v &&& BitVec.ofNat 32 (masksOf b k).rw) else s.writeWord b k v true
    | .table b k inst =>
      if numBE g.value = 1 then
        let ctl := tableCtl k inst
        s.writeWord b ctl (BitVec.ofNat 32 ((s.word ctl).toNat &&& (masksOf b ctl).rw) ||| 1) true
      else s
    | .wrapped id => s.keyLoad id g.value
    | _ => s

/-- The trace record of a value written at its commit point (R393). -/
def commitTrace (s : Dev) (g : Stg) : Dev :=
  s.trace 6 0 ((regionOfIndex g.index).getD 0) (g.index * 2 ^ 16 + g.sub * 256) (s.word Reg.DCT_COMMIT_CNT).toNat

/-- The owner whose reservation a value sets: a receive queue, a stream context, or a relay pool (R251). -/
def ownerSet (s : Dev) (g : Stg) : Option Nat :=
  match (s.objOf g.index g.sub).map (·.kind) with
  | some (ObjKind.word _ k) =>
    if 0xC3000 ≤ k ∧ k < 0xC3400 then some ((k - 0xC3000) / 8)
    else if Reg.FRM_STM_RESV 0 ≤ k ∧ k < Reg.FRM_STM_RESV 0 + 2048 then some (128 + (k - Reg.FRM_STM_RESV 0) / 4)
    else if k = Reg.FRM_PASS_A then some 640
    else if k = Reg.FRM_PASS_B then some 641
    else none
  | _ => none

/-- After a commit point: the bank sets of the owners it touched, the cells it enabled, the domains left unused, the reservations once nothing waits (R17, R251, R270). -/
def commitTidy (s : Dev) (l : List Stg) : Dev :=
  let s := ((l.filterMap s.ownerSet).eraseDups.foldl assignBanks s).placeWaiting
  let s := s.when s.dct.waiting.isEmpty fun s => s.modDct fun d => { d with calls := 0, unused := 0, holds := [] }
  let s := s.domTidy.pendingBit
  if s.dct.waiting = [] then s.showPlaces s.plc.caps (s.memResv s) else s

/-- COMMIT_POINT: the values due at `pt` are written in ascending order of index and subindex (R271). -/
def commitPoint (s : Dev) (pt : CommitPoint) : Dev := s.atBlock bDCT fun s =>
  let due := s.dct.waiting.filter fun g => s.dueAtPoint pt g.index && !s.waitsForDomain g
  if due = [] then s
  else
    let s := s.modDct fun d => { d with waiting := d.waiting.filter fun g => !due.contains g }
    (due.foldl (fun s g => (s.writeValue g).commitTrace g) s).commitTidy due

end Dev

/-- READ (R275), and the answer to an operation outside R275. -/
def execRead (s : State) := devStep (·.serveOp 1) s
/-- WRITE (R269). -/
def execWrite (s : State) := devStep (·.serveOp 2) s
/-- READ_STAGED (R275). -/
def execReadStaged (s : State) := devStep (·.serveOp 3) s
/-- DESCRIBE (R275). -/
def execDescribe (s : State) := devStep (·.serveOp 4) s
/-- COMMIT (R270). -/
def execCommit (s : State) := devStep (·.serveOp 5) s
/-- DISCARD (R269). -/
def execDiscard (s : State) := devStep (·.serveOp 6) s
/-- TABLE_READ (R272). -/
def execTableRead (s : State) := devStep (·.serveOp 7) s
/-- TABLE_WRITE (R272). -/
def execTableWrite (s : State) := devStep (·.serveOp 8) s
/-- CRIT (R290). -/
def execCrit (s : State) := devStep (·.serveOp 9) s
/-- ADMISSION_CHECK_END (R271). -/
def execAdmissionCheckEnd (s : State) := devStep (fun d => d.atBlock bDCT (·.checkEnd)) s
/-- COMMIT_POINT (R271). -/
def execCommitPoint (point : CommitPoint) (s : State) := devStep (·.commitPoint point) s

end Sys2Proof.Machine
end

