-- ==== Sys2Proof/Machine/Frames.lean ====
section
/-! DEFINITION. The receive path of R94: staging, checks, parse, device functions, receive rules, stream functions, allocation and delivery. -/

namespace Sys2Proof.Machine

namespace Dev

/-! ### Steps 1 and 2: staging and checks (R88, R94, R432) -/

/-- The ingress stamp of R40 for a frame of `len` bytes that has just ended, in 2^-16 ns: its start of frame less ING_LAT. -/
def frameStamp (s : Dev) (p len extra : Nat) : Nat :=
  s.now - lineTenths (s.rate p) len / 10 - extra - s.get (Reg.TIM_LAT.ING_LAT p) * 65536

/-- `n` increments of a receive counter. -/
def incRxBy (s : Dev) (p i n : Nat) : Dev := (List.range n).foldl (fun s _ => s.incRx p i) s

/-- The trace record of a received frame (R393, R395): it names the context that the parser identifies; the class of a received frame is stated nowhere, a free value (log entry 38). -/
def rxTrace (s : Dev) (p : Nat) (data : List Octet) : Dev :=
  if ¬ s.traceOn 0 p then s
  else
    let body := if p < 4 ∧ (ringTag (s.get Reg.SHD_CFG.ETYPE) data).isSome then removeRingTag data else data
    let w := s.freeWord
    let x := w.2.frameTrace p false (w.1 % 8) (w.2.identify (parse body)) data
    w.2.trace 0 p p x.1 x.2

/-! ### Step 7: delivery (R97, R144, R210, R319) -/

/-- The octets after the payload EtherType. -/
def payloadOf (l : List Octet) : List Octet := l.drop (parse l).body

/-- A frame enters receive queue `q`: one bound to a cell hands it over and lets it go, one bound to Tackle raises its request line (R97, R210, R319). -/
def queueFrame (s : Dev) (q d : Nat) (ctx : Option Nat) (data : List Octet) : Dev :=
  let push (s : Dev) : Dev := { s with rxQ := Tab.set (fun _ => []) s.rxQ q (Tab.get (fun _ => []) s.rxQ q ++ [({ desc := d, ctx := ctx } : RxQEnt)]) }
  match s.get (Reg.FRM_Q_A.BIND q) with
  | 1 => (s.celDeliver (s.get (Reg.FRM_Q_B.TARGET q) % 64) (512 + q) (payloadOf data) none).releaseCopy d
  | 2 => (push s).request (s.get (Reg.FRM_Q_B.TARGET q))
  | _ => push s

/-- A frame of context `x` is delivered as DEST.KIND selects (R144). -/
def deliverCtx (s : Dev) (x d : Nat) (data : List Octet) : Dev :=
  let target := s.get (Reg.STM_DEST.TARGET x)
  match s.get (Reg.STM_DEST.KIND x) with
  | 0 => s.queueFrame (target % 128) d (some x) data
  | 1 => (s.celDeliver (target % 64) x (payloadOf data) (some (x, s.ctxGen x))).releaseCopy d
  | 2 =>
    let s := { s with rxQ := Tab.set (fun _ => []) s.rxQ (128 + x) (Tab.get (fun _ => []) s.rxQ (128 + x) ++ [({ desc := d, ctx := some x } : RxQEnt)]) }
    s.request (target % 128)
  | _ => ((s.remoteOf x).foldl (fun s n => s.remotePayload n (payloadOf data)) s).releaseCopy d

/-! ### Step 6: allocation (R99, R134, R144) -/

/-- A frame steered to receive queue `q` (R97, R99). -/
def toQueue (s : Dev) (p q : Nat) (data : List Octet) : Dev :=
  let charged := ((Tab.get (fun _ => []) s.rxQ q).filter fun e => e.ctx.isNone).length
  if ¬ s.bit (Reg.FRM_Q_A.EN q) ∨ s.get (Reg.FRM_Q_A.DEPTH q) ≤ charged then (s.incRx p 19).inc Reg.FRM_DROP_QUEUE.COUNT
  else match s.allocCheck (.queue q) (frameLen data) with
  | .ok sh =>
    let x := s.placeFrame (.queue q) sh data 1 p
    x.2.queueFrame q x.1 none data
  | a => s.dropNoRoom p a

/-- Step 6 drops a frame of context `x`: its effect on the recovery state is withdrawn and RESV_DROP counts it (R134, R144); `old` is the state before the stream functions. -/
def ctxDrop (old s : Dev) (x p : Nat) (a : Option Alloc) : Dev :=
  let s := (withdraw old s x).incCtx x 11
  match a with
  | some a => s.dropNoRoom p a
  | none => (s.incRx p 19).inc Reg.FRM_DROP_QUEUE.COUNT

/-- A frame steered to receive context `x`: stream functions, allocation, delivery (R134, R144); `h` is the identified handle. -/
def toStream (s : Dev) (p x : Nat) (h : Option Nat) (data : List Octet) : Dev :=
  let len := frameLen data
  let r := s.streamFunctions x p h (parse data) len
  if ¬ r.1 then r.2
  else
    let old := s
    let s := r.2.when (Nat.blt (lmaxOfWord (r.2.resvWord (.ctx x))) len) fun s => s.incCtx x 10
    if s.get (Reg.STM_DEST.KIND x) = 0 ∧ ¬ s.bit (Reg.FRM_Q_A.EN (s.get (Reg.STM_DEST.TARGET x) % 128)) then ctxDrop old s x p none
    else match s.allocCheck (.ctx x) len with
    | .ok sh =>
      let f := s.placeFrame (.ctx x) sh data 1 p
      f.2.deliverCtx x f.1 data
    | a => ctxDrop old s x p (some a)

/-! ### Step 5: the receive rules (R96, R97, R133, R430) -/

/-- Destination class: 0 own unicast, 1 other unicast, 2 multicast, 3 broadcast. -/
def destClass (s : Dev) (p da : Nat) : Nat :=
  if da = 0xFFFFFFFFFFFF then 3 else if (da / 2 ^ 40).testBit 0 then 2 else if da = s.macOf p then 0 else 1

/-- Rule `r` of bank `b` holds for a frame parsed as `q` with stream result `h` (R96). -/
def ruleHolds (s : Dev) (b r p : Nat) (q : Parsed) (h : Option Nat) : Bool :=
  (s.get (Reg.FRM_RULE_A.PORT_MASK b r)).testBit p
    && (s.get (Reg.FRM_RULE_A.DA_MASK b r)).testBit (s.destClass p q.da)
    && (match s.get (Reg.FRM_RULE_B.TAG b r) with
      | 1 => !q.tagged
      | 2 => q.tagged
      | _ => true)
    && (s.get (Reg.FRM_RULE_B.PCP_MASK b r)).testBit q.pcp
    && (!s.bit (Reg.FRM_RULE_B.VID_EN b r) || s.get (Reg.FRM_RULE_B.VID b r) == q.vid)
    && (!s.bit (Reg.FRM_RULE_C.ETYPE_EN b r) || s.get (Reg.FRM_RULE_C.ETYPE b r) == q.etype)
    && (match s.get (Reg.FRM_RULE_D.IDENT b r) with
      | 0 => true
      | 1 => h.isNone
      | 2 => h.isSome
      | _ => decide (h = some (s.get (Reg.FRM_RULE_D.HANDLE b r))))

/-- A context that a rule may steer to: a receive context in ACTIVE or QUARANTINE (R430). -/
def takesFrames (s : Dev) (x : Nat) : Bool := s.ctxState x != 0 && !s.isTx x

/-- Step 5 and what follows it. -/
def ruleStep (s : Dev) (p : Nat) (data : List Octet) : Dev :=
  let q := parse data
  let h := s.identify q
  let b := s.ruleBank
  match (s.rulesOn b).find? fun r => s.ruleHolds b r p q h with
  | none => if s.bit Reg.FRM_CFG.NOMATCH then s.toQueue p (16 * p + 15) data else s.inc Reg.FRM_DROP_NOMATCH.COUNT
  | some r =>
    match s.get (Reg.FRM_RULE_A.ACTION b r) with
    | 1 => s.toQueue p (16 * p + s.get (Reg.FRM_RULE_A.QIDX b r)) data
    | 2 =>
      let x := if s.get (Reg.FRM_RULE_D.IDENT b r) = 2 then h.getD 0 else s.get (Reg.FRM_RULE_D.STREAM b r)
      if s.takesFrames x then s.toStream p x h data else s.inc Reg.FRM_DROP_RULE.COUNT
    | _ => s.inc Reg.FRM_DROP_RULE.COUNT

/-! ### Step 4: the device functions (R95, R162, R163) -/

/-- The Halyard takes the frame: on a port with a PTP role in effect, a message that R39 has it handle: of the port's own domain, an event or time message (types 0–3, 8–11), no management or signalling (IEEE 1588 layout, PRESUMED, log entry 18). What it does with it is the row of PTP messages. -/
def isPtp (s : Dev) (p : Nat) (data : List Octet) : Bool :=
  let o := (parse data).body
  let dom := if p < 4 then s.get Reg.TIM_DOMAIN.GPTP_DOMAIN else s.get Reg.TIM_DOMAIN.PTP_DOMAIN
  let type := fieldBE data o 1 % 16
  (parse data).etype == 0x88F7 && s.ptpRole p != 0 && fieldBE data (o + 4) 1 == dom && (Nat.ble type 3 || (Nat.ble 8 type && Nat.ble type 11))

/-- Items 2 and 3 of R95, then the rules. -/
def afterShroud (s : Dev) (p : Nat) (data : List Octet) : Dev :=
  if s.isPtp p data then s
  else if s.isOdeivo p data then s.reqArrive (s.frameReq p data)
  else s.ruleStep p data

/-- Step 4: a wrapped ring port discards every frame but link frames (R181); on a ring port the Shroud takes every tagged frame, and an untagged one goes no further unless it is a PTP message, the Halyard's own or one for the rules (R39, R95, R163). -/
def deviceStep (s : Dev) (p stamp : Nat) (data : List Octet) : Dev :=
  if 4 ≤ p then s.afterShroud p data
  else if s.wrapped p ∧ ¬ s.isLinkFrame data then s.inc (Reg.SHD_WRAP_RX_DROP.COUNT (ringOf p))
  else if (ringTag (s.get Reg.SHD_CFG.ETYPE) data).isSome then
    let x := s.shroudTake p stamp data
    match x.1 with
    | some l => x.2.afterShroud p l
    | none => x.2
  else if (parse data).etype = 0x88F7 then s.afterShroud p data
  else s.inc (Reg.SHD_UNTAGGED.COUNT (ringOf p))

/-! ### The whole path -/

/-- The frame arrives: the port is on, in use, and its link is up. -/
def mayReceive (s : Dev) (p : Nat) : Bool := s.blockOn (bPRT p) && s.blockOn bFRM && s.mode p != 0 && s.linkUp p

/-- The staging slots of port `p` that were still held at the first byte of frame `f`, which has just ended (R94). -/
def stageBusy (s : Dev) (p : Nat) (f : RxFrame) : List Nat :=
  (s.port p).stage.filter fun t => Nat.blt (s.up - (lineTenths (s.rate p) (frameLen f.data) / 10 + f.extra) / 65536) t

/-- A frame that the fall of LINK_UP has cut short counts as an FCS error, once at each fall (R83). -/
def cutFrame (s : Dev) (p : Nat) : Dev :=
  if s.blockOn (bPRT p) && (s.port p).cutDue then (s.modPort p fun x => { x with cutDue := false }).incRx p 16 else s

/-- A frame has ended at port `p` (R94). -/
def frameIn (s : Dev) (p : Nat) (f : RxFrame) : Dev :=
  if f.cut then s.cutFrame p
  else if ¬ s.mayReceive p then s
  else
    let len := frameLen f.data
    let s := s.modPort p fun x => { x with rxMs := x.rxMs + len + 20 + 24 * f.frags }
    if f.preempt ∧ ¬ s.bit (Reg.GTE_PREEMPT.EN p) then s.incRxBy p 16 (1 + f.frags)
    else
      let s := s.incRxBy p 15 f.frags
      let busy := s.stageBusy p f
      if 2 ≤ busy.length then (s.incRx p 19).inc Reg.FRM_DROP_STAGE.COUNT
      else if len < 64 then s.incRx p 17
      else if s.maxLen p < len then s.incRx p 18
      else if ¬ f.fcsOk ∨ f.asmErr then s.incRx p 16
      else
        let t := s.frameStamp p len f.extra
        let s := s.modPort p fun x => { x with stage := busy ++ [s.up + 2] }
        let s := s.countGood (fun s i => s.incRx p i) (Nat.blt p 4) f.data f.preempt
        (s.rxTrace p f.data).deviceStep p t f.data

/-- The frame is a Mizal control frame of type `type` at a ring port (R164). -/
def isControl (s : Dev) (p : Nat) (f : RxFrame) (type : Nat) : Bool :=
  Nat.blt p 4 && (match ringTag (s.get Reg.SHD_CFG.ETYPE) f.data with
    | some t => t.1.testBit 13
    | none => false) && fieldBE f.data 18 1 == type

end Dev

/-- FRAME_RECEIVED (R94). -/
def execFrameReceived (p : Fin 8) (f : RxFrame) (s : State) := devStep (·.frameIn p f) s
/-- FAULT_NOTICE_RECEIVED (R107): the frame that arrives is a fault notice. -/
def execFaultNoticeReceived (p : Fin 8) (f : RxFrame) (s : State) := devStep (fun d => d.when (d.isControl p f 3) (·.frameIn p f)) s
/-- BEACON_RECEIVED (R166): the frame that arrives is a beacon. -/
def execBeaconReceived (p : Fin 8) (f : RxFrame) (s : State) := devStep (fun d => d.when (d.isControl p f 1) (·.frameIn p f)) s
/-- CLAIM_RECEIVED (R176): the frame that arrives is a claim. -/
def execClaimReceived (p : Fin 8) (f : RxFrame) (s : State) := devStep (fun d => d.when (d.isControl p f 2) (·.frameIn p f)) s
/-- LINK_FRAME_RECEIVED (R184): the frame that arrives is a link frame. -/
def execLinkFrameReceived (p : Fin 8) (f : RxFrame) (s : State) := devStep (fun d => d.when (d.isControl p f 4) (·.frameIn p f)) s

end Sys2Proof.Machine
end

