-- ==== Sys2Proof/Machine/Startup.lean ====
section
/-! DEFINITION. The start-up sequence and the configuration image (R296, R368, R377, R378). -/

namespace Sys2Proof.Machine

/-! ### The image (R296) -/

/-- MAGIC and VERSION. -/
def imageMagic (l : List Octet) : Bool := l.take 5 == [0x53, 0x43, 0x49, 0x4D, 0x01]
/-- LENGTH: a multiple of 4, at most 8 MiB, within what holds the image, and with room for header and CMAC. -/
def imageLenOk (l : List Octet) : Bool :=
  let n := fieldBE l 8 4
  n % 4 == 0 && Nat.ble n 8388608 && Nat.ble n l.length && Nat.ble 32 n
/-- The CMAC over octets 0 to LENGTH − 17 under K_IMG. -/
def imageMacOk (km : BitVec 128) (l : List Octet) : Bool :=
  let n := fieldBE l 8 4
  fieldBE l (n - 16) 16 == Aes.cmac (imageKey km) (l.take (n - 16))

/-- How the choice of a copy ends: a step code and its unit, or a copy that passed. -/
inductive ImagePick
  | bad (code unit : Nat)
  | good (copy : Nat) (image : List Octet)
  deriving DecidableEq, Repr

/-- The first copy that passes MAGIC, VERSION and CMAC (R378); `last` is the copy whose CMAC was the last to fail. A bad LENGTH stops the choice (DEDUCED, log entry 36). -/
def imagePick (km : Option (BitVec 128)) (last : Option Nat) : List (Nat × List Octet) → ImagePick
  | [] => match last with
    | some c => .bad 0x0A02 c
    | none => .bad 0x0A01 0
  | (c, l) :: rest =>
    if ¬ imageMagic l then imagePick km last rest
    else match km with
    | none => .bad 0x0A03 0
    | some k =>
      if ¬ imageLenOk l then .bad 0x0A05 0
      else if imageMacOk k l then .good c (l.take (fieldBE l 8 4))
      else imagePick km (some c) rest

/-- The records of an image: requests, each padded to a multiple of 4 octets; at most `fuel` of them. -/
def imageRecords (fuel : Nat) (l : List Octet) : List (List Octet) :=
  match fuel with
  | 0 => []
  | fuel + 1 =>
    if l = [] then []
    else
      let n := (16 + fieldBE l 10 2 + 3) / 4 * 4
      l.take n :: imageRecords fuel (l.drop n)

/-- The records of a whole image: octets 16 to LENGTH − 17. -/
def recordsOf (img : List Octet) : List (List Octet) := imageRecords img.length ((img.take (img.length - 16)).drop 16)

namespace Dev

/-! ### Applying an image -/

/-- BOOTSEL as latched. -/
def bootsel (s : Dev) : Nat := s.get Reg.GLB_STRAP.BOOTSEL

/-- A step fails: its code and unit; an image of BOOTSEL 2 may be written again, any other failure stops the sequence (R377, R378). -/
def startFail (s : Dev) (code unit : Nat) : Dev :=
  let s := (s.put Reg.GLB_BOOT.CODE code).put Reg.GLB_BOOT.UNIT unit
  if s.bootsel = 2 ∧ 10 ≤ s.get Reg.GLB_BOOT.STEP then (s.put (statusBit bGLB 3) 1).put Reg.GLB_BOOT_CTL.GO 0
  else { s.put (statusBit bGLB 1) 1 with pwr := { s.pwr with phase := .stopped } }

/-- The next step is in progress. -/
def startStep (s : Dev) (n : Nat) : Dev := s.put Reg.GLB_BOOT.STEP n

/-- The commit points of values admitted while the blocks do not yet run: those that fall due at once, cells among them (R271). -/
def bootPoints (s : Dev) : Dev :=
  let s := s.commitPoint .immediate
  (s.dct.waiting.filter fun g => commitPointOf g.index == 2).foldl (fun s g => s.commitPoint (.activation (Fin.ofNat 64 (g.index - 0x3000)))) s

/-- A record of an image as a request (R296). -/
def recordReq (s : Dev) (r : List Octet) : DctReq := { src := 10, data := r, at' := s.up }

/-- The admission check of a COMMIT record, made at once: its status, and the state with the values that fall due at once written. -/
def recordCommit (s : Dev) (q : DctReq) : Nat × Dev :=
  match s.admissionCheck with
  | some r => (8, s.commitRefused q none r)
  | none => (0, (s.commitAdmitted q none).bootPoints)

/-- Apply one record: its status and the state after. Only WRITE, TABLE_WRITE and COMMIT of version 1 are records (log entry 36). -/
def recordApply (s : Dev) (r : List Octet) : Nat × Dev :=
  let q := s.recordReq r
  if fieldBE r 0 1 ≠ 1 ∨ ¬ (q.op = 2 ∨ q.op = 5 ∨ q.op = 8) then (0x0B, s)
  else if q.op = 5 then s.recordCommit q
  else match s.reqStatus 2 q with
  | 0 =>
    let s := (s.perform q).2
    (0, if s.dct.check.isSome then s.checkEnd.bootPoints else s)
  | n => (n, s.refusedEffect q n)

/-- Apply the records in order; the last must be a COMMIT, which step 11 carries out (R296, R377). `img` is the image. -/
def recordsApply (s : Dev) (img : List Octet) : List (List Octet) → Dev
  | [] => s.startFail 0x0A07 0
  | [r] =>
    if (s.recordReq r).op ≠ 5 ∨ fieldBE r 0 1 ≠ 1 then s.startFail 0x0A07 0
    else if fieldBE img 5 1 % 2 = 0 ∧ fieldBE img 6 2 ≠ s.get Reg.AUT_CFG.DEV_ADDR then s.startFail 0x0A04 0
    else (s.modDct fun d => { d with image := [r] }).startStep 11
  | r :: rest =>
    let x := s.recordApply r
    if x.1 = 0 then x.2.recordsApply img rest else x.2.startFail 0x0A06 x.1

/-- Step 10 with an image: the copy that is applied, or its failure. While AUT is GRAVE no image is accepted, with a code that the spec does not state (R353, log entry 36). -/
def imageLoad (s : Dev) (copies : List (Nat × List Octet)) : Dev :=
  if s.isGrave bAUT then
    let w := s.freeWord
    w.2.startFail w.1 0
  else match imagePick s.pwr.masterKey none copies with
  | .bad code unit => s.startFail code unit
  | .good copy img =>
    let s := (s.put Reg.GLB_STRAP.IMG_COPY copy).put Reg.AUT_IMAGE_ID.ID (fieldBE img 12 4)
    s.recordsApply img (recordsOf img)

/-- The lowest-numbered ready memory channel's first address (R378). -/
def imageBase (s : Dev) : Option Nat := if s.chUp 0 then some 0 else if s.chUp 1 then some 0x80000000 else none

/-- The image as the host has written it. -/
def hostImage (s : Dev) (m : Memory) : List Octet :=
  match s.imageBase with
  | none => []
  | some b =>
    let hdr := (List.range 16).map fun i => m.at (b + i)
    let n := fieldBE hdr 8 4
    (List.range (if n ≤ 8388608 then max 16 n else 16)).map fun i => m.at (b + i)

/-! ### The steps (R377) -/

/-- Step 4 ends: straps, fuses, and the first level of FAULT_N where the monitor has taken none since the start (R357, R364, R377). -/
def fusesLoaded (s : Dev) (sel : Nat) (testen readOk factory lineLow : Bool) (key : Option (BitVec 128)) : Dev :=
  let key := if readOk then key else none
  let mode := testen && !factory
  let s := ((s.put Reg.GLB_STRAP.BOOTSEL sel).putBit Reg.GLB_STRAP.TESTEN testen).putBit Reg.GLB_STRAP.FACTORY_FUSE factory
  let s := (s.putBit (statusBit bGLB 2) mode).putBit Reg.STA_INJECT.AVAIL mode
  let s : Dev := { s.putBit (statusBit bAUT 4) key.isNone with pwr := { s.pwr with masterKey := key } }
  let s := if s.pwr.startAt < s.fline.since then s
    else { s.putBit Reg.STA_FLINE.SEEN_LOW lineLow with fline := { s.fline with since := s.pwr.startAt + 1000 } }
  if readOk then s.startStep 5 else (s.graveFault bAUT 1).startFail 0x0401 0

/-- Step 5 ends: the Halyards count from 0, or go on after a Hold wake (R24, R374). -/
def pllsLocked (s : Dev) : Dev :=
  let s := if s.pwr.fromHold then s else { s with tim := { s.tim with accA := 0, accB := 0 } }
  { s.startStep 6 with tim := { s.tim with counting := true } }

/-- Step 8 ends: both memory channels begin to train (R330). -/
def avsSettled (s : Dev) : Dev :=
  if s.pwr.targetReads < 100 then s
  else ((s.put (Reg.MEM_CH_STAT.STATE 0) chTraining).put (Reg.MEM_CH_STAT.STATE 1) chTraining).startStep 9

/-- Step 9 ends, once no channel trains (R330). -/
def dramTrained (s : Dev) : Dev :=
  if s.chState 0 = chTraining ∨ s.chState 1 = chTraining then s
  else if s.chState 0 = chDown then s.startFail 0x0901 0
  else if s.chState 1 = chDown then s.startFail 0x0901 1
  else if s.chState 0 = chAbsent ∧ s.chState 1 = chAbsent then s.startFail 0x0902 0
  else if s.bootsel = 2 then s.put (statusBit bGLB 3) 1
  else s.drawBootId.startStep 10

/-- Step 11: the final COMMIT of the image; with BOOTSEL 3 there is none. Domains that the configuration leaves unused are switched off (R17). -/
def finalCommit (s : Dev) : Dev :=
  match s.dct.image with
  | [] => s.domTidy.startStep 12
  | r :: _ =>
    let x := s.recordCommit (s.recordReq r)
    let s := x.2.modDct fun d => { d with image := [] }
    if x.1 = 0 then (s.domTidy.put Reg.GLB_BOOT_CTL.GO 0).startStep 12 else s.startFail 0x0B01 0

/-- Step 12: READY (R377); after a Hold wake the device is in Run again (R374). -/
def startReady (s : Dev) : Dev :=
  let us := min 0xFFFFFFFF ((s.up - s.pwr.startAt) / 1000)
  let s := ((s.put (statusBit bGLB 0) 1).put Reg.GLB_BOOT_TIME.US us).put Reg.PWR_STATE.STATE 0
  let s := s.when s.pwr.fromHold (·.raise bPWR 0)
  { s with
    pwr := { s.pwr with phase := .run, fromHold := false }
    ist := { s.ist with dueAt := some (s.up + hoursNs (s.get Reg.IST_CFG.SWEEP_H)) } }

/-- A step that can fail in one way fails: steps 5 to 8 (R377). -/
def stepFails (s : Dev) (second : Bool) (unit : Nat) : Dev :=
  match s.get Reg.GLB_BOOT.STEP with
  | 5 => s.startFail (if second then 0x0502 else 0x0501) 0
  | 6 => s.startFail 0x0601 unit
  | 7 => s.startFail 0x0701 unit
  | 8 => if s.bit (statusBit bPWR 3) then s.startFail 0x0801 0 else s
  | _ => s

/-- A step passes: what its end brings. -/
def stepPasses (s : Dev) (m : Memory) : Dev :=
  match s.get Reg.GLB_BOOT.STEP with
  | 5 => s.pllsLocked
  | 6 => s.startStep 7
  | 7 => ((List.range 8).foldl (fun s p => s.tuned p) s).startStep 8
  | 8 => s.avsSettled
  | 9 => s.dramTrained
  | 10 => if s.bootsel = 3 then s.startStep 11 else if s.bootsel = 2 then s.imageLoad [(0, s.hostImage m)] else s
  | 11 => s.finalCommit
  | 12 => s.startReady
  | _ => s

/-- STARTUP_STEP_COMPLETE: the step in progress ends; nothing ends while the device waits for a host's image (R377, R378). -/
def stepComplete (s : Dev) (m : Memory) (res : StepEnd) : Dev :=
  if s.pwr.phase ≠ .starting ∨ s.bit (statusBit bGLB 3) then s
  else match res with
  | .pass => s.stepPasses m
  | .fuses sel testen ok factory low key => if s.get Reg.GLB_BOOT.STEP = 4 then s.fusesLoaded sel.toNat testen ok factory low key else s
  | .fail second unit => s.stepFails second unit.toNat
  | .flash a b => if s.get Reg.GLB_BOOT.STEP = 10 ∧ s.bootsel < 2 then s.imageLoad [(0, a), (1, b)] else s

/-- STARTUP_BEGIN: the start of R368, from reset or, with RESET_CAUSE 3, from Deep Hold (R375): every domain is on, step 4 is in progress (log entry 25). -/
def startBegin (s : Dev) : Dev :=
  let deep : Bool := decide (s.pwr.phase = .waking 3)
  if s.pwr.phase ≠ .off ∧ deep = false then s
  else
    let s := s.when deep fun s => s.put Reg.PWR_WAKE_CAUSE.RESET_CAUSE 3
    let s := (s.setDoms fun _ => true).startStep 4
    { s with pwr := { s.pwr with phase := .starting, startAt := s.up } }

end Dev

/-! ### The host's image (R378) -/

/-- A write of GLB_IMG_DATA: the word goes to 4 × GLB_IMG_ADDR of the lowest ready channel, octet 4i of the image first, and GLB_IMG_ADDR advances. -/
def State.imageWord (s : State) (v : Word) : State :=
  let d := s.dev
  match d.imageBase with
  | none => s
  | some b =>
    if d.pwr.phase ≠ .starting ∨ d.bootsel ≠ 2 then s
    else
      let i := d.get Reg.GLB_IMG_ADDR.INDEX
      { s with dev := d.put Reg.GLB_IMG_ADDR.INDEX (i + 1), dram := s.dram.putRun (b + 4 * i) (octetsBE 4 v.toNat) }

/-- STARTUP_BEGIN (R368). -/
def execStartupBegin (s : State) := devStep (·.startBegin) s
/-- STARTUP_STEP_COMPLETE (R377). -/
def execStartupStepComplete (res : StepEnd) (s : State) := devStep (fun d => d.stepComplete s.dram res) s
/-- IMAGE_WORD_WRITE (R378). -/
def execImageWordWrite (value : Word) (s : State) := memStep (·.imageWord value) s

end Sys2Proof.Machine
end

