-- ==== Sys2Proof/Machine/Host.lean ====
section
/-! DEFINITION. The two host paths (R300–R307, R309, R405, R411): PCI Express and the SPI management slave see one register space, through the windows and selectors that this file resolves. -/

namespace Sys2Proof.Machine

namespace Dev

/-! ### Addresses -/

/-- A set of the window lies behind a selector of requester `r`: the key of the word at BAR0 address `a`, with the Tackle sets that both windows share (R117, R172, R217, R297, R312). -/
def hostKey (s : Dev) (r : Requester) (a : Nat) : Nat :=
  let sel (k : Nat) : Nat := (s.selWord r k).toNat
  if 0xD8000 ≤ a ∧ a < 0xDC000 then 0x1000000 + 0x4000 * (sel Reg.GTE_LIST_SEL % 8) + (a - 0xD8000)
  else if 0xF8000 ≤ a ∧ a < 0x100000 then
    0x1040000 + 0x10000 * (sel Reg.SHD_SLOT_SEL / 2 % 2) + 0x8000 * (sel Reg.SHD_SLOT_SEL % 2) + (a - 0xF8000)
  else if 0x110000 ≤ a ∧ a < 0x112000 then
    0x1080000 + 0x4000 * (sel Reg.CEL_TBL_SEL % 64) + 0x2000 * (sel Reg.CEL_TBL_SEL / 256 % 2) + (a - 0x110000)
  else if 0x112000 ≤ a ∧ a < 0x112080 then 0x1180000 + 0x80 * (sel Reg.CEL_TBL_SEL % 64) + (a - 0x112000)
  else if 0x2A0200 ≤ a ∧ a < 0x2A0220 then 0x1200000 + 0x20 * (sel Reg.AUT_CLIENT_SEL % 4096) + (a - 0x2A0200)
  else if a = 0x20164 then Reg.TIM_PORT_CFG (s.get Reg.TIM_PORT_SEL.PORT)
  else if a = 0x20168 then Reg.TIM_LAT (s.get Reg.TIM_PORT_SEL.PORT)
  else dmaKey a

/-- The Chuck port whose registers lie at address `a` of the SMP window; none for the block-wide ones (R222). -/
def chuckPortAt (b a : Nat) : Option Nat := if b = bSMP ∧ 0x2000 ≤ (a - 0x200000) % 0x4000 then some ((a - 0x200000) / 0x4000) else none

/-- The registers of address `a` of block `b` answer: its header domain is on, and for a Chuck port that of its group (R18, R222). -/
def answers (s : Dev) (b a : Nat) : Bool :=
  s.blockOn b && match chuckPortAt b a with
    | some k => s.chkOn k
    | none => true

/-! ### MSI-X (R304) -/

/-- Vector `v` sends its pending message if nothing masks it any more. -/
def msixRetry (s : Dev) (v : Nat) : Dev :=
  if s.bit Reg.GLB_PCIE_STAT.MSIX_EN ∧ s.msixPend.testBit v ∧ ¬ s.vectorMasked v then
    { s with msixPend := s.msixPend ^^^ 2 ^ v }.emit (.msix v)
  else s

/-- The vector control word of vector `v`: bit 0 masks it. -/
def vectorCtl (v : Nat) : Nat := 0x400000 + 16 * v + 12

/-- MSIX_UNMASK: the vector mask is cleared. -/
def msixUnmask (s : Dev) (v : Nat) : Dev := (s.put ⟨vectorCtl v, 0, 1⟩ 0).msixRetry v

/-- A write of the MSI-X table: message address, data, and the vector mask. -/
def msixWrite (s : Dev) (a : Nat) (v : Word) : Dev :=
  match (a - 0x400000) / 4 % 4 with
  | 0 => s.setWord a (v &&& 0xFFFFFFFC#32)
  | 3 => (s.put ⟨a, 0, 1⟩ v.toNat).msixRetry ((a - 0x400000) / 16)
  | _ => s.setWord a v

/-! ### The Locker diagnostic window (R303) -/

/-- A granule that holds octets with an uncorrectable error: a retired one, or one that a frame has shown bad (R106). -/
def granuleBad (s : Dev) (g : Nat) : Bool := s.retired.contains g || s.frames.any fun e => e.2.bad.contains g

/-- The word at offset `w` of the window. Which words of a bad granule show the error is not stated: each is a free choice between its octets and all ones (log entry 6). -/
def lockerWord (s : Dev) (w : Nat) : Nat × Dev :=
  let a := 8388608 * s.get Reg.GLB_DIAG_PAGE.PAGE + w
  let k := a / 524288
  if 24 ≤ k ∨ ¬ s.bankIn k ∨ ¬ s.domOn (19 + k) then (0, s)
  else
    let word := (Memory.at s.locker a).toNat + 2 ^ 8 * (Memory.at s.locker (a + 1)).toNat + 2 ^ 16 * (Memory.at s.locker (a + 2)).toNat
      + 2 ^ 24 * (Memory.at s.locker (a + 3)).toNat
    if s.granuleBad (2048 * k + a % 524288 / 256) then
      let f := s.freeWord
      (if f.1 % 2 = 0 then word else 0xFFFFFFFF, f.2)
    else (word, s)

/-! ### Reads (R6, R302, R400) -/

/-- A read of BAR0 address `a` by requester `r`: the word, and the capture it makes. No register has an RC field, so no read clears one. -/
def hostRead (s : Dev) (r : Requester) (a : Nat) : Nat × Dev :=
  if a % 4 ≠ 0 then (0, s)
  else if 0x1000000 ≤ a then s.freeWord
  else if 0x800000 ≤ a then s.lockerWord (a - 0x800000)
  else if 0x400000 ≤ a ∧ a < 0x400800 then (if r = .pcie then (s.word a).toNat else 0, s)
  else if 0x401000 ≤ a ∧ a < 0x401010 then (if r = .pcie then s.msixPend / 2 ^ (8 * (a - 0x401000)) % 2 ^ 32 else 0, s)
  else match blockAt a with
    | none => (0, s)
    | some b =>
      if ¬ s.answers b a then (0, s)
      else if isSelector a then ((s.selWord r a).toNat, s)
      else
        let k := s.hostKey r a
        (s.readWord r k, s.capture r k)

/-! ### Writes (R6, R12, R302, R303) -/

/-- GLB_HOST_ERR counts a refused access. -/
def hostErr (s : Dev) : Dev := s.inc Reg.GLB_HOST_ERR.COUNT

/-- A write to a word of block `b` by the access codes of R6, or by the rule of that word; a word that backs a CRIT object is refused, a selector being judged by the requester's own value (R12, R408). -/
def hostWriteBlock (s : Dev) (r : Requester) (b a : Nat) (v : Word) : Dev :=
  let k := s.hostKey r a
  if isSelector a then s.hostGateOn b a (s.selWord r a).toNat v fun s => s.setSel r a (v &&& BitVec.ofNat 32 (masksOf b a).rw)
  else if a = fltHeader b then s.fltCfgHost b v
  else s.hostGate b k v fun s => s.writeWord b k v false
where
  /-- FLT_CFG of the block's header. -/
  fltHeader (b : Nat) : Nat := blockBase b + 0x30

/-- A write of `v` to BAR0 address `a` by requester `r`, but for GLB_IMG_DATA. -/
def hostWrite (s : Dev) (r : Requester) (a : Nat) (v : Word) : Dev :=
  if a % 4 ≠ 0 ∨ 0x1000000 ≤ a then s
  else if 0x800000 ≤ a then s.hostErr
  else if 0x400000 ≤ a ∧ a < 0x400800 then s.when (decide (r = .pcie)) (·.msixWrite a v)
  else match blockAt a with
    | none => s
    | some b => s.when (s.answers b a) (·.hostWriteBlock r b a v)

/-- What the arrival of a request does first: in Doze a PCI Express request wakes the device, and so does the fall of CS_N in a standby state (R374). -/
def hostArrive (s : Dev) (r : Requester) : Dev :=
  match r with
  | .pcie => s.wake 3
  | .spi => s.wake 2
  | .dict => s

/-- The requester is a host path that reaches the device: the dictionary engine is none, and PERST_N holds the PCI Express one in reset (R309, R411). -/
def hostReaches (s : Dev) (r : Requester) : Bool :=
  match r with
  | .pcie => !s.pwr.perst
  | .spi => true
  | .dict => false

/-- CAPTURE_READ and RC_READ: the word is returned to the requester. -/
def hostReadCmd (s : Dev) (r : Requester) (a : Nat) : Dev :=
  if ¬ s.hostReaches r then s
  else
    let x := (s.hostArrive r).hostRead r a
    x.2.emit (.word (BitVec.ofNat 32 x.1))

/-! ### The host port (R300, R304, R411) -/

/-- The endpoint can train its link: step 7 has been reached and PERST_N is high (R377, R411). -/
def pcieTrains (s : Dev) : Bool :=
  s.powered && !s.pwr.perst && (match s.pwr.phase with
    | .starting => Nat.ble 7 (s.get Reg.GLB_BOOT.STEP)
    | .stopped => Nat.ble 7 (s.get Reg.GLB_BOOT.STEP)
    | .hold => false
    | _ => true)

/-- PCIE_LINK_CHANGE: the link has trained at `speed` (1 to 3) and `width`, or has gone down. -/
def pcieLink (s : Dev) (up : Bool) (speed width : Nat) : Dev :=
  if up then
    if ¬ s.pcieTrains then s
    else ((s.put Reg.GLB_PCIE_STAT.LINK_UP 1).put Reg.GLB_PCIE_STAT.SPEED speed).put Reg.GLB_PCIE_STAT.WIDTH width
  else ((s.put Reg.GLB_PCIE_STAT.LINK_UP 0).put Reg.GLB_PCIE_STAT.SPEED 0).put Reg.GLB_PCIE_STAT.WIDTH 0

/-- PCIE_CONFIG_WRITE: the bits of configuration space that GLB_PCIE_STAT shows; vectors that nothing masks any more send what is pending. -/
def pcieConfig (s : Dev) (busMaster msixEn msixMask d3 : Bool) : Dev :=
  if s.pwr.perst then s
  else
    let s := ((s.putBit Reg.GLB_PCIE_STAT.BUS_MASTER busMaster).putBit Reg.GLB_PCIE_STAT.MSIX_EN msixEn).putBit Reg.GLB_PCIE_STAT.MSIX_MASK msixMask
    (List.range 128).foldl msixRetry (s.putBit Reg.GLB_PCIE_STAT.D3HOT d3)

/-- PERST: PERST_N low holds the endpoint in reset, with link, configuration bits, MSI-X table and pending bits; its rise lets the link train (R411). -/
def perstPin (s : Dev) (low : Bool) : Dev :=
  let s := { s with pwr := { s.pwr with perst := low } }
  if low then
    { (s.setWord Reg.GLB_PCIE_STAT 0) with
      regs := (s.setWord Reg.GLB_PCIE_STAT 0).regs.filter fun e => !(Nat.ble 0x400000 e.1 && Nat.blt e.1 0x400800)
      msixPend := 0 }
  else s

/-! ### SPI frames (R306, R307) -/

/-- A frame is refused: BAD is set, the count advances, and SPI_FRAME records an event. -/
def spiBad (s : Dev) : Dev := ((s.put Reg.GLB_SPI_STAT.BAD 1).inc Reg.GLB_SPI_ERR_CNT.COUNT).fault bGLB 1

/-- Octets that the device drives on MISO. -/
def miso (s : Dev) (l : List Octet) : Dev := l.foldl (fun s o => s.emit (.octet o)) s

/-- The answer to a READ from address `a` on, for `n` words: wait octets, the marker, and the word as the marker is sent, least significant octet first. -/
def spiAnswer (s : Dev) (waits : Nat) : Nat → Nat → Dev
  | 0, _ => s
  | n + 1, a =>
    let x := s.hostRead .spi a
    (x.2.miso (List.replicate waits 0 ++ 0xA5 :: octetsLE 4 x.1)).spiAnswer waits n (a + 4)

/-- SPI_READ. -/
def spiRead (s : Dev) (a words waits : Nat) : Dev :=
  let s := s.hostArrive .spi
  if a % 4 ≠ 0 then s.spiBad else s.spiAnswer waits words a

/-- The status octet: READY, PARTIAL, BAD. -/
def spiStatusOctet (s : Dev) : Octet :=
  BitVec.ofNat 8 (2 ^ 7 * s.get (statusBit bGLB 0) + 2 * s.get Reg.GLB_SPI_STAT.PARTIAL + s.get Reg.GLB_SPI_STAT.BAD)

/-- SPI_STATUS: `n` status octets. -/
def spiStatus (s : Dev) (n : Nat) : Dev :=
  let s := s.hostArrive .spi
  s.miso (List.replicate n s.spiStatusOctet)

/-- A frame's command is unknown, or its address misaligned; a frame without the whole address carries no address to judge. -/
def spiFrameBad (l : List Octet) : Bool :=
  match l with
  | [] => false
  | c :: rest =>
    if c = 0x05 then false
    else if c = 0x02 ∨ c = 0x0B then Nat.ble 3 rest.length && (rest.getD 2 0).toNat % 4 != 0
    else true

end Dev

namespace State

/-- A host write as R302 and R306 carry it out, GLB_IMG_DATA among them. -/
def hostWrite (s : State) (r : Requester) (a : Nat) (v : Word) : State :=
  if a = Reg.GLB_IMG_DATA then s.imageWord v else s.onDev (·.hostWrite r a v)

/-- HOST_REGISTER_WRITE: a PCI Express doubleword whose byte enables are not all set has no effect but its count. -/
def hostRegisterWrite (s : State) (r : Requester) (a : Nat) (v : Word) (be : BitVec 4) : State :=
  if ¬ s.dev.hostReaches r then s
  else
    let s := s.onDev (·.hostArrive r)
    if r = .pcie ∧ be ≠ 15#4 then s.onDev (·.hostErr) else s.hostWrite r a v

/-- The words of a WRITE frame from address `a` on; octets of an incomplete last word set PARTIAL. -/
def spiWords (s : State) (a : Nat) : List Octet → State
  | o0 :: o1 :: o2 :: o3 :: rest => (s.hostWrite .spi a (o3 ++ o2 ++ o1 ++ o0)).spiWords (a + 4) rest
  | [] => s
  | _ => s.onDev (·.put Reg.GLB_SPI_STAT.PARTIAL 1)

/-- SPI_WRITE: MISO is driven with 0x00. -/
def spiWrite (s : State) (a : Nat) (l : List Octet) : State :=
  let s := s.onDev (·.hostArrive .spi)
  if a % 4 ≠ 0 then s.onDev (·.spiBad) else (s.spiWords a l).onDev (·.miso (List.replicate l.length 0))

end State

/-- HOST_REGISTER_WRITE (R6, R302). -/
def execHostRegisterWrite (req : Requester) (addr : Nat) (value : Word) (be : BitVec 4) (s : State) := memStep (·.hostRegisterWrite req addr value be) s
/-- CAPTURE_READ (R400). -/
def execCaptureRead (req : Requester) (addr : Nat) (s : State) := devStep (·.hostReadCmd req addr) s
/-- RC_READ (R6): the tables give no RC field, so it returns the word and clears nothing. -/
def execRcRead (req : Requester) (addr : Nat) (s : State) := devStep (·.hostReadCmd req addr) s
/-- MSIX_UNMASK (R304). -/
def execMsixUnmask (v : Fin 128) (s : State) := devStep (fun d => d.when (d.hostReaches .pcie) (·.msixUnmask v)) s
/-- SPI_WRITE (R306). -/
def execSpiWrite (addr : BitVec 24) (octets : List Octet) (s : State) := memStep (·.spiWrite addr.toNat octets) s
/-- SPI_READ (R307). -/
def execSpiRead (addr : BitVec 24) (words : Nat) (waits : Fin 33) (s : State) := devStep (·.spiRead addr.toNat words waits) s
/-- SPI_STATUS (R307). -/
def execSpiStatus (n : Nat) (s : State) := devStep (·.spiStatus n) s
/-- SPI_BAD_FRAME (R306). -/
def execSpiBadFrame (octets : List Octet) (s : State) := devStep (fun d => (d.hostArrive .spi).when (Dev.spiFrameBad octets) (·.spiBad)) s
/-- PERST (R411). -/
def execPerst (low : Bool) (s : State) := devStep (·.perstPin low) s
/-- PCIE_AER (R349). -/
def execPcieAer (s : State) := devStep (fun d => d.atBlock bGLB (·.fault bGLB 0)) s
/-- PCIE_LINK_CHANGE (R300). -/
def execPcieLinkChange (up : Bool) (speed : Fin 3) (x2 : Bool) (s : State) := devStep (·.pcieLink up (speed.val + 1) (if x2 then 2 else 1)) s
/-- PCIE_CONFIG_WRITE (R304). -/
def execPcieConfigWrite (busMaster msixEn msixMask d3 : Bool) (s : State) := devStep (·.pcieConfig busMaster msixEn msixMask d3) s

end Sys2Proof.Machine
end

