-- ==== Sys2Proof/Machine/Dispatch.lean ====
section
/-! DEFINITION. The dispatch of a command to its meaning: one arm per constructor of Instr. -/

namespace Sys2Proof.Machine

/-- The effect of command `i` on everything but the queue. -/
def exec (i : Instr) (s : State) : Host.Outcome State Fault Refusal :=
  match i with
  | .hostRegisterWrite req addr value be => Sys2Proof.Machine.execHostRegisterWrite req addr value be s
  | .captureRead req addr => Sys2Proof.Machine.execCaptureRead req addr s
  | .rcRead req addr => Sys2Proof.Machine.execRcRead req addr s
  | .acknowledge b value => Sys2Proof.Machine.execAcknowledge b value s
  | .fltCfgWrite b value => Sys2Proof.Machine.execFltCfgWrite b value s
  | .msixUnmask v => Sys2Proof.Machine.execMsixUnmask v s
  | .syncReceived a gm origin corr logIvl => Sys2Proof.Machine.execSyncReceived a gm origin corr logIvl s
  | .slewingEnd => Sys2Proof.Machine.execSlewingEnd s
  | .holdover => Sys2Proof.Machine.execHoldover s
  | .episodeStart set => Sys2Proof.Machine.execEpisodeStart set s
  | .servoDisable => Sys2Proof.Machine.execServoDisable s
  | .servoEnable => Sys2Proof.Machine.execServoEnable s
  | .halyardComparison lockA lockB => Sys2Proof.Machine.execHalyardComparison lockA lockB s
  | .copyCheck b dev => Sys2Proof.Machine.execCopyCheck b dev s
  | .ptpMessageReceived a type bmca delay => Sys2Proof.Machine.execPtpMessageReceived a type bmca delay s
  | .ptpMessageSend p kind msg => Sys2Proof.Machine.execPtpMessageSend p kind msg s
  | .acceptedEdge n index cam width => Sys2Proof.Machine.execAcceptedEdge n index cam width s
  | .missingTooth n => Sys2Proof.Machine.execMissingTooth n s
  | .angleCycleBoundary n => Sys2Proof.Machine.execAngleCycleBoundary n s
  | .markEvent n => Sys2Proof.Machine.execMarkEvent n s
  | .angSrcWrite n value => Sys2Proof.Machine.execAngSrcWrite n value s
  | .angToothWrite n value => Sys2Proof.Machine.execAngToothWrite n value s
  | .resync n => Sys2Proof.Machine.execResync n s
  | .phaseFlip n => Sys2Proof.Machine.execPhaseFlip n s
  | .markSwap n => Sys2Proof.Machine.execMarkSwap n s
  | .anglePayloadSend n => Sys2Proof.Machine.execAnglePayloadSend n s
  | .remoteCoasting n => Sys2Proof.Machine.execRemoteCoasting n s
  | .remoteTimeout n => Sys2Proof.Machine.execRemoteTimeout n s
  | .linkLoss p signal => Sys2Proof.Machine.execLinkLoss p signal s
  | .linkUp p => Sys2Proof.Machine.execLinkUp p s
  | .phyRateReport p rate => Sys2Proof.Machine.execPhyRateReport p rate s
  | .prtModeWrite p value => Sys2Proof.Machine.execPrtModeWrite p value s
  | .reneg p => Sys2Proof.Machine.execReneg p s
  | .recal p => Sys2Proof.Machine.execRecal p s
  | .clearStats p => Sys2Proof.Machine.execClearStats p s
  | .softRequest p tune => Sys2Proof.Machine.execSoftRequest p tune s
  | .hardRequest p tune => Sys2Proof.Machine.execHardRequest p tune s
  | .recalibrationStart p => Sys2Proof.Machine.execRecalibrationStart p s
  | .edgeRecalibrationStart p => Sys2Proof.Machine.execEdgeRecalibrationStart p s
  | .recalDone p => Sys2Proof.Machine.execRecalDone p s
  | .quietGapEnd p => Sys2Proof.Machine.execQuietGapEnd p s
  | .losMasked p => Sys2Proof.Machine.execLosMasked p s
  | .maskedLossReport p => Sys2Proof.Machine.execMaskedLossReport p s
  | .downshift p => Sys2Proof.Machine.execDownshift p s
  | .upshift p => Sys2Proof.Machine.execUpshift p s
  | .mdioCommand p value => Sys2Proof.Machine.execMdioCommand p value s
  | .mdioDone p data => Sys2Proof.Machine.execMdioDone p data s
  | .phyInt p low => Sys2Proof.Machine.execPhyInt p low s
  | .frameReceived p f => Sys2Proof.Machine.execFrameReceived p f s
  | .ruleSwap => Sys2Proof.Machine.execRuleSwap s
  | .frameTransmitStart p => Sys2Proof.Machine.execFrameTransmitStart p s
  | .frameTransmitEnd p corr bad => Sys2Proof.Machine.execFrameTransmitEnd p corr bad s
  | .faultNoticeReceived p f => Sys2Proof.Machine.execFaultNoticeReceived p f s
  | .noticeAck => Sys2Proof.Machine.execNoticeAck s
  | .gateStateChange p => Sys2Proof.Machine.execGateStateChange p s
  | .gclSwap p => Sys2Proof.Machine.execGclSwap p s
  | .changePoint p => Sys2Proof.Machine.execChangePoint p s
  | .gateEnWrite p en => Sys2Proof.Machine.execGateEnWrite p en s
  | .preemptFragmentEnd p sent => Sys2Proof.Machine.execPreemptFragmentEnd p sent s
  | .holdAbandon p => Sys2Proof.Machine.execHoldAbandon p s
  | .verifyMpacketSend p => Sys2Proof.Machine.execVerifyMpacketSend p s
  | .respondMpacketSend p => Sys2Proof.Machine.execRespondMpacketSend p s
  | .verifyMpacketReceived p => Sys2Proof.Machine.execVerifyMpacketReceived p s
  | .respondMpacketReceived p => Sys2Proof.Machine.execRespondMpacketReceived p s
  | .verifyTimeout p => Sys2Proof.Machine.execVerifyTimeout p s
  | .preemptCfgWrite p value => Sys2Proof.Machine.execPreemptCfgWrite p value s
  | .shaperWrite p c reg value => Sys2Proof.Machine.execShaperWrite p c reg value s
  | .contextEnable x => Sys2Proof.Machine.execContextEnable x s
  | .contextTeardown x => Sys2Proof.Machine.execContextTeardown x s
  | .quarantineEnd x => Sys2Proof.Machine.execQuarantineEnd x s
  | .recoveryReset x => Sys2Proof.Machine.execRecoveryReset x s
  | .latentPeriodEnd x => Sys2Proof.Machine.execLatentPeriodEnd x s
  | .transmitHandover x gen data => Sys2Proof.Machine.execTransmitHandover x gen data s
  | .tokenRelease x => Sys2Proof.Machine.execTokenRelease x s
  | .meterWrite m reg value => Sys2Proof.Machine.execMeterWrite m reg value s
  | .tokenBucketWrite x burst value => Sys2Proof.Machine.execTokenBucketWrite x burst value s
  | .ringCycleStart r => Sys2Proof.Machine.execRingCycleStart r s
  | .beaconReceived p f => Sys2Proof.Machine.execBeaconReceived p f s
  | .holdoffEnd r => Sys2Proof.Machine.execHoldoffEnd r s
  | .slotSwap r => Sys2Proof.Machine.execSlotSwap r s
  | .claimStart r => Sys2Proof.Machine.execClaimStart r s
  | .claimSend r => Sys2Proof.Machine.execClaimSend r s
  | .claimReceived p f => Sys2Proof.Machine.execClaimReceived p f s
  | .wrap p => Sys2Proof.Machine.execWrap p s
  | .noticeTxSend r code subject => Sys2Proof.Machine.execNoticeTxSend r code subject s
  | .linkFaultIndication p => Sys2Proof.Machine.execLinkFaultIndication p s
  | .clean p => Sys2Proof.Machine.execClean p s
  | .linkFrameReceived p f => Sys2Proof.Machine.execLinkFrameReceived p f s
  | .timeTrigger c => Sys2Proof.Machine.execTimeTrigger c s
  | .activationStart c => Sys2Proof.Machine.execActivationStart c s
  | .activationComparison c agree ckptBad => Sys2Proof.Machine.execActivationComparison c agree ckptBad s
  | .reexecutionComplete c agree => Sys2Proof.Machine.execReexecutionComplete c agree s
  | .freqStep g => Sys2Proof.Machine.execFreqStep g s
  | .pairReturn value => Sys2Proof.Machine.execPairReturn value s
  | .cellBankSwap c value => Sys2Proof.Machine.execCellBankSwap c value s
  | .restart c value => Sys2Proof.Machine.execRestart c value s
  | .sampleTimeTrigger n => Sys2Proof.Machine.execSampleTimeTrigger n s
  | .angleStepTrigger n => Sys2Proof.Machine.execAngleStepTrigger n s
  | .triggerArm n value => Sys2Proof.Machine.execTriggerArm n value s
  | .transactionStart k => Sys2Proof.Machine.execTransactionStart k s
  | .transactionEnd k words => Sys2Proof.Machine.execTransactionEnd k words s
  | .captureWriteComplete n ok => Sys2Proof.Machine.execCaptureWriteComplete n ok s
  | .commandSend k value => Sys2Proof.Machine.execCommandSend k value s
  | .commandDue k => Sys2Proof.Machine.execCommandDue k s
  | .firSwap k value => Sys2Proof.Machine.execFirSwap k value s
  | .edgePush p value => Sys2Proof.Machine.execEdgePush p value s
  | .edgeExecute p => Sys2Proof.Machine.execEdgeExecute p s
  | .pinMismatch p pad => Sys2Proof.Machine.execPinMismatch p pad s
  | .plannedMove kind item ecc => Sys2Proof.Machine.execPlannedMove kind item ecc s
  | .temperatureMove c temps ecc => Sys2Proof.Machine.execTemperatureMove c temps ecc s
  | .evacStart bank => Sys2Proof.Machine.execEvacStart bank s
  | .evacFrameCopy d => Sys2Proof.Machine.execEvacFrameCopy d s
  | .evacReturn bank => Sys2Proof.Machine.execEvacReturn bank s
  | .slotStart r => Sys2Proof.Machine.execSlotStart r s
  | .domainSwitchOff d => Sys2Proof.Machine.execDomainSwitchOff d s
  | .odeivoRequestArrival p data => Sys2Proof.Machine.execOdeivoRequestArrival p data s
  | .read => Sys2Proof.Machine.execRead s
  | .write => Sys2Proof.Machine.execWrite s
  | .readStaged => Sys2Proof.Machine.execReadStaged s
  | .describe => Sys2Proof.Machine.execDescribe s
  | .commit => Sys2Proof.Machine.execCommit s
  | .discard => Sys2Proof.Machine.execDiscard s
  | .tableRead => Sys2Proof.Machine.execTableRead s
  | .tableWrite => Sys2Proof.Machine.execTableWrite s
  | .crit => Sys2Proof.Machine.execCrit s
  | .admissionCheckEnd => Sys2Proof.Machine.execAdmissionCheckEnd s
  | .commitPoint point => Sys2Proof.Machine.execCommitPoint point s
  | .mailboxGo m => Sys2Proof.Machine.execMailboxGo m s
  | .testCmacStart value => Sys2Proof.Machine.execTestCmacStart value s
  | .testCmacDone => Sys2Proof.Machine.execTestCmacDone s
  | .spiWrite addr octets => Sys2Proof.Machine.execSpiWrite addr octets s
  | .spiRead addr words waits => Sys2Proof.Machine.execSpiRead addr words waits s
  | .spiStatus n => Sys2Proof.Machine.execSpiStatus n s
  | .spiBadFrame octets => Sys2Proof.Machine.execSpiBadFrame octets s
  | .jobEnWrite u hi value => Sys2Proof.Machine.execJobEnWrite u hi value s
  | .dmaStart u j value => Sys2Proof.Machine.execDmaStart u j value s
  | .dmaStop u j value => Sys2Proof.Machine.execDmaStop u j value s
  | .shadowArm u j value => Sys2Proof.Machine.execShadowArm u j value s
  | .requestSet u w value => Sys2Proof.Machine.execRequestSet u w value s
  | .burstGrant u => Sys2Proof.Machine.execBurstGrant u s
  | .transferEnd j => Sys2Proof.Machine.execTransferEnd j s
  | .busError u j kind addr => Sys2Proof.Machine.execBusError u j kind addr s
  | .unitClear u => Sys2Proof.Machine.execUnitClear u s
  | .perst low => Sys2Proof.Machine.execPerst low s
  | .retrainDue drift beyond => Sys2Proof.Machine.execRetrainDue drift beyond s
  | .mr4Read ch code => Sys2Proof.Machine.execMr4Read ch code s
  | .refreshDue ch => Sys2Proof.Machine.execRefreshDue ch s
  | .dramAccessGrant ch rmwBad => Sys2Proof.Machine.execDramAccessGrant ch rmwBad s
  | .dramReadComplete ch result => Sys2Proof.Machine.execDramReadComplete ch result s
  | .channelDown ch => Sys2Proof.Machine.execChannelDown ch s
  | .channelRetrain ch value => Sys2Proof.Machine.execChannelRetrain ch value s
  | .trainingDone ch answer rate => Sys2Proof.Machine.execTrainingDone ch answer rate s
  | .externalAssertion => Sys2Proof.Machine.execExternalAssertion s
  | .lineHigh => Sys2Proof.Machine.execLineHigh s
  | .lineStuck => Sys2Proof.Machine.execLineStuck s
  | .lineStuckClear => Sys2Proof.Machine.execLineStuckClear s
  | .logWriteComplete ok => Sys2Proof.Machine.execLogWriteComplete ok s
  | .logResume => Sys2Proof.Machine.execLogResume s
  | .logStageFail => Sys2Proof.Machine.execLogStageFail s
  | .faultInject value => Sys2Proof.Machine.execFaultInject value s
  | .startupBegin => Sys2Proof.Machine.execStartupBegin s
  | .startupStepComplete res => Sys2Proof.Machine.execStartupStepComplete res s
  | .powerFailReset => Sys2Proof.Machine.execPowerFailReset s
  | .reset => Sys2Proof.Machine.execReset s
  | .supplyLow => Sys2Proof.Machine.execSupplyLow s
  | .corePllUnlock long => Sys2Proof.Machine.execCorePllUnlock long s
  | .avsReading dom slack => Sys2Proof.Machine.execAvsReading dom slack s
  | .runCmd => Sys2Proof.Machine.execRunCmd s
  | .dozeCmd => Sys2Proof.Machine.execDozeCmd s
  | .holdCmd => Sys2Proof.Machine.execHoldCmd s
  | .deepHoldCmd => Sys2Proof.Machine.execDeepHoldCmd s
  | .stateChange => Sys2Proof.Machine.execStateChange s
  | .wake source => Sys2Proof.Machine.execWake source s
  | .domainSwitchOn d => Sys2Proof.Machine.execDomainSwitchOn d s
  | .domainOnComplete d slack => Sys2Proof.Machine.execDomainOnComplete d slack s
  | .domainFail d => Sys2Proof.Machine.execDomainFail d s
  | .overtemp sensor => Sys2Proof.Machine.execOvertemp sensor s
  | .bootGo => Sys2Proof.Machine.execBootGo s
  | .imageWordWrite value => Sys2Proof.Machine.execImageWordWrite value s
  | .sweepDue => Sys2Proof.Machine.execSweepDue s
  | .runNow => Sys2Proof.Machine.execRunNow s
  | .testOne test => Sys2Proof.Machine.execTestOne test s
  | .testUnitStart test unit => Sys2Proof.Machine.execTestUnitStart test unit s
  | .testUnitEnd pass a b => Sys2Proof.Machine.execTestUnitEnd pass a b s
  | .powerCycle d => Sys2Proof.Machine.execPowerCycle d s
  | .traceFrameSend => Sys2Proof.Machine.execTraceFrameSend s
  | .traceDramWriteComplete ok => Sys2Proof.Machine.execTraceDramWriteComplete ok s
  | .extest => Sys2Proof.Machine.execExtest s
  | .samplePreload => Sys2Proof.Machine.execSamplePreload s
  | .idcode => Sys2Proof.Machine.execIdcode s
  | .clamp => Sys2Proof.Machine.execClamp s
  | .highz => Sys2Proof.Machine.execHighz s
  | .bypass code => Sys2Proof.Machine.execBypass code s
  | .timebasePllUnlock => Sys2Proof.Machine.execTimebasePllUnlock s
  | .eqLimit p high => Sys2Proof.Machine.execEqLimit p high s
  | .pcsErr p => Sys2Proof.Machine.execPcsErr p s
  | .pcieAer => Sys2Proof.Machine.execPcieAer s
  | .pcieLinkChange up speed x2 => Sys2Proof.Machine.execPcieLinkChange up speed x2 s
  | .pcieConfigWrite busMaster msixEn msixMask d3 => Sys2Proof.Machine.execPcieConfigWrite busMaster msixEn msixMask d3 s
  | .faultNRise => Sys2Proof.Machine.execFaultNRise s
  | .vcoreRemoval => Sys2Proof.Machine.execVcoreRemoval s
  | .tracePinRecordSent => Sys2Proof.Machine.execTracePinRecordSent s

end Sys2Proof.Machine
end

