-- ==== Sys2Proof/Machine/Tick.lean ====
section
/-! DEFINITION. What passes while no command waits: one tick of the timebase, 1 ns (R27, log entry 21). -/

namespace Sys2Proof.Machine

namespace Dev

/-- Real-time requests that wait for channel `ch` begin to stall it (R335). -/
def stallBegin (s : Dev) (ch : Nat) : Dev :=
  let c := s.chn ch
  if c.stallFrom.isNone ∧ (s.rtFill 0 ch ≠ 0 ∨ s.rtFill 1 ch ≠ 0) then s.setChn ch { c with stallFrom := some s.up } else s

/-- One tick: distributed time counts, a swap of the receive rules takes effect, a master's beacon leaves as slot 0 starts, an evacuation ends that had to wait, the edge ports see to their rates, the equalisers adapt each microsecond, a millisecond of the downshift counts may end, and the panic of the real-time ports follows their fills. -/
def tick (s : Dev) : Dev :=
  let s := s.timTick
  let s := ({ s with up := s.up + 1 }).ruleSwapEffect
  let s := [0, 1].foldl (fun s r => s.atBlock bSHD (·.beaconSlot r)) s
  let s := if s.plc.evac.isSome then s.evacCheck.evacNext else s
  let s := [4, 5, 6, 7].foldl rateGuard s
  let s := if s.up % 1000 = 0 then (List.range 8).foldl (fun s p => s.atBlock (bPRT p) (·.eqAdapt p)) s else s
  let s := if s.up % 1000000 = 0 then s.dsMillisecond else s
  ((s.panicUpdate).stallBegin 0).stallBegin 1

end Dev

/-- The step of an empty queue. -/
def idleTick (s : State) : Host.Outcome State Fault Refusal := devStep (·.tick) s

end Sys2Proof.Machine
end

