-- ==== Sys2Proof/Machine/Step.lean ====
section
/-! DEFINITION. One step: the command at the front of the queue, or one tick of the timebase while none waits. -/

namespace Sys2Proof.Machine

/-- Take the front command and run it over the queue's rest; an empty queue lets one tick pass (log entry 21). -/
def step (s : State) : Host.Outcome State Fault Refusal :=
  match s.pending with
  | [] => idleTick s
  | c :: rest => exec c { s with pending := rest }

/-- The command that a table word spells goes to the front of the queue; a word that spells none leaves the state. -/
def State.withFetchWord (s : State) (nbits w : Nat) : State :=
  match Sys2Proof.decodeTableWord nbits w with
  | some c => { s with pending := c :: s.pending }
  | none => s

end Sys2Proof.Machine
end

