-- ==== Sys2Proof/Safety.lean ====
section
/-! DEFINITION. The terms in which claims about the block are made: how a command answers, what a run keeps, and what a step leaves alone. -/

namespace Sys2Proof.Machine

/-- Command `c` answers a next state in which `P` holds. -/
def Answers (c : Instr) (s : State) (P : State → Prop) : Prop := ∃ t, exec c s = .next t ∧ P t

/-- `DRAM` and host memory are in their canonical form (R314, R326). -/
def State.memWf (s : State) : Prop := s.dram.wf = true ∧ s.host.wf = true

/-- The register store is in its canonical form: one word a key, none at its reset value. -/
def State.regsWf (s : State) : Prop := Tab.wf resetWord s.dev.regs = true

namespace Dev

/-- From `s` to `t` only register words in `K` change, and what the end of a command settles: LAST_TS, interrupt levels, pending bits, outputs (R21, R23). A word in `K` that is written may lose its parity error, no other word does (R59, R130, R189). -/
def onlyWords (K : Nat → Prop) (s t : Dev) : Prop :=
  (∀ k, ¬ K k → t.word k = s.word k) ∧ (∀ k, ¬ K k → t.badWord k = s.badWord k)
    ∧ t = { s with regs := t.regs, badWords := t.badWords, lastTs := t.lastTs, irq := t.irq, msixPend := t.msixPend, out := t.out }

/-- As `onlyWords`, with what a fault event changes beside registers: fault units, event log and trace (R345, R359, R393). -/
def onlyWordsAndFaults (K : Nat → Prop) (s t : Dev) : Prop :=
  (∀ k, ¬ K k → t.word k = s.word k) ∧ (∀ k, ¬ K k → t.badWord k = s.badWord k)
    ∧ t = { s with regs := t.regs, badWords := t.badWords, lastTs := t.lastTs, irq := t.irq, msixPend := t.msixPend, out := t.out, flt := t.flt, log := t.log, trc := t.trc }

/-- The words that an event of a source of block `b` may change: FLT_STICKY of `b`, the count of lost log entries, and of the Telltale FLT_STICKY, status and the count of lost records (R345, R363, R396). -/
def faultWords (b : Nat) (k : Nat) : Prop :=
  k = stickyAddr b ∨ k = Reg.STA_LOG_LOST ∨ k = stickyAddr bTRC ∨ k = statusAddr bTRC ∨ k = Reg.TRC_LOST

/-- The fault sources whose event is an error in their block's own storage: an injected one acts on that storage as R59, R111, R130, R155, R189, R216, R243, R244, R283, R290, R324, R363 and R396 say (R364). -/
def storageSource (b n : Nat) : Bool :=
  [(bANG, 16), (bFRM, 1), (bFRM, 2), (bGTE, 0), (bSTM, 1), (bSHD, 5), (bCEL, 4), (bSMP, 2), (bSCR, 1), (bPLC, 1), (bTRC, 1), (bDCT, 0), (bDCT, 1), (bAUT, 0),
    (bDMA 0, 1), (bDMA 1, 1), (bSTA, 1)].contains (b, n)

/-- The value of word `k` of block `b` after the host writes `v`, field by field (R6). -/
def written (s : Dev) (b k : Nat) (v : Word) : Word := BitVec.ofNat 32 (accessWrite (masksOf b k) (s.word k).toNat v.toNat)

/-- A frame that the staging and the checks of port `p` let through (R94, steps 1 and 2). -/
def goodArrival (s : Dev) (p : Nat) (f : RxFrame) : Bool :=
  s.mayReceive p && !f.cut && !f.preempt && Nat.blt (s.stageBusy p f).length 2 && f.fcsOk && !f.asmErr && Nat.ble 64 (frameLen f.data) && Nat.ble (frameLen f.data) (s.maxLen p)

end Dev

/-- Neither memory changes. -/
def State.sameMem (s t : State) : Prop := t.dram = s.dram ∧ t.host = s.host

/-- `t` is what a reset with RESET_CAUSE `cause` makes of `s`: WAKE, the GRAVE words, FAULT_N's drive bit and FLT_STICKY words aside, every register word is at its reset value, and the device is off (R354, R368, R379). -/
def State.resetTo (s t : State) (cause : Nat) : Prop :=
  t.dev.pwr.phase = .off ∧ t.dev.get Reg.PWR_WAKE_CAUSE.RESET_CAUSE = cause ∧ t.dev.get Reg.PWR_WAKE_CAUSE.WAKE = s.dev.get Reg.PWR_WAKE_CAUSE.WAKE
    ∧ t.dev.word Reg.STA_GRAVE = s.dev.word Reg.STA_GRAVE ∧ t.dev.word Reg.STA_GRAVE_OWN = s.dev.word Reg.STA_GRAVE_OWN
    ∧ t.dev.bit Reg.STA_FLINE.DRIVING = s.dev.bit Reg.STA_FLINE.DRIVING
    ∧ (∀ k, k ∉ [Reg.PWR_WAKE_CAUSE, Reg.STA_GRAVE, Reg.STA_GRAVE_OWN, Reg.STA_FLINE] → (∀ b, k ≠ stickyAddr b) → t.dev.word k = resetWord k)
    ∧ t.dev.frames = [] ∧ t.dev.rxQ = [] ∧ t.dev.dct = {} ∧ t.dev.jobs = [] ∧ t.dev.chns = [] ∧ t.dev.cells = [] ∧ t.dev.log = {} ∧ t.dev.trc = {}
    ∧ t.dev.tim = {} ∧ t.dev.up = s.dev.up ∧ s.sameMem t

/-- The entry to standby state `n` has begun (R373, R374). -/
def State.entryBegun (s t : State) (n : Nat) : Prop :=
  t.dev.pwr.phase = .entering n ∧ t.dev.get Reg.PWR_STATE.STATE = 4
    ∧ t.dev.bit Reg.PWR_WAKE_CFG.PHY_LATCH = ((List.range 8).any fun p => s.dev.bit (Reg.PRT_PHY.WAKE_EN p)) ∧ t.dev.pwr.wakeDue = false ∧ s.sameMem t

/-- A power command is refused with cause `n`, and nothing else happens (R373). -/
def State.cmdRefusedWith (s t : State) (n : Nat) : Prop :=
  t.dev.get Reg.PWR_STATE.REFUSE = n ∧ t.dev.bit (statusBit bPWR 2) = true ∧ t.dev.pwr = s.dev.pwr
    ∧ s.dev.onlyWords (fun k => k = Reg.PWR_STATE ∨ k = statusAddr bPWR) t.dev ∧ s.sameMem t

/-- From `s` to `t` the JTAG instruction alone changes. -/
def State.onlyJtag (s t : State) : Prop := s.dev.onlyWords (fun _ => False) { t.dev with jtag := s.dev.jtag } ∧ s.sameMem t

/-- A JTAG instruction `i` that selects a boundary register while READY is low acts as BYPASS while READY is high (R399). -/
def State.boundaryLoaded (s t : State) (i : BitVec 4) : Prop :=
  t.dev.jtag = i ∧ (s.dev.bit (statusBit bGLB 0) = true → Output.jtag 0 ∈ t.dev.out ∧ t.dev.jtagActs = jtagBypass)
    ∧ (s.dev.bit (statusBit bGLB 0) = false → t.dev.jtagActs = i) ∧ s.onlyJtag t

/-- A run is safe when no command in it stops the machine. -/
def NeverStops : Prop := ∀ c s, ∃ t, exec c s = .next t

end Sys2Proof.Machine
end

