-- ==== Sys2Proof/WellFormed.lean ====
section
/-! DEFINITION. Which commands the outside world can issue: the checks on operands that their types do not make. The meanings are total all the same. -/

namespace Sys2Proof

/-- A BAR0 offset of a whole word (R301, R302). -/
def wordOffset (a : Nat) : Bool := a % 4 == 0 && Nat.blt a 0x1000000

/-- PCI Express and the SPI slave are the requesters of the host window (R309). -/
def Requester.isHost : Requester → Bool
  | .pcie => true
  | .spi => true
  | .dict => false

/-- A received frame carries addresses and an EtherType, and only the pre-emptable MAC reassembles (R94, R122). -/
def RxFrame.wf (f : RxFrame) : Bool := (f.cut || Nat.ble 14 f.data.length) && (f.preempt || (!f.asmErr && f.frags == 0))

/-- The last fields of a step of the start-up sequence: the flash holds an image at most 8 MiB long at either address (R296, R378). -/
def StepEnd.wf : StepEnd → Bool
  | .flash a b => Nat.ble a.length 8388608 && Nat.ble b.length 8388608
  | _ => true

/-- The operands of command `i` lie in the ranges that the spec gives them. -/
def WellFormed : Instr → Bool
  | .hostRegisterWrite r a _ _ => r.isHost && wordOffset a
  | .captureRead r a => r.isHost && wordOffset a
  | .rcRead r a => r.isHost && wordOffset a
  | .syncReceived _ _ _ _ l => decide (-128 ≤ l ∧ l ≤ 127)
  | .ptpMessageSend _ _ m => Nat.ble 34 m.length
  | .frameReceived _ f => f.wf
  | .faultNoticeReceived _ f => f.wf
  | .beaconReceived _ f => f.wf
  | .claimReceived _ f => f.wf
  | .linkFrameReceived _ f => f.wf
  | .transmitHandover _ _ d => Nat.ble 14 d.length
  | .odeivoRequestArrival _ d => Nat.ble 14 d.length
  | .spiWrite a _ => a.toNat % 4 == 0
  | .spiRead a _ _ => a.toNat % 4 == 0
  | .startupStepComplete e => e.wf
  | _ => true

end Sys2Proof
end

