-- ==== Sys2Proof/Certificates/Slice0/Obligations.lean ====
section
/-! DEFINITION. The statements about this block for the provers: what each command does to State, what it leaves alone, and what every step keeps. `Answers c s P` says that command c completes in state s with a next state in which P holds; each clause holds for every state and operands that meet its hypotheses. -/

open Sys2Proof Sys2Proof.Machine

/-- Step of a state with command c at the front of its queue is exec of c on that state with the queue's rest, for every command, rest and state. -/
def Obligations.StepRunsFrontCommand : Prop :=
  ∀ (c : Instr) (rest : List Instr) (s : State), step { s with pending := c :: rest } = exec c { s with pending := rest }

/-- That an empty queue lets a tick pass is the model's choice (log entry 21). In it the time since power-on advances by 1 ns, the queue stays empty and no memory changes. While time counts and no step by SET is due, each Halyard adds 2^40 + RATE to its accumulator, Halyard A alone in Hold; before step 5 of the start-up neither counts. -/
def Obligations.EmptyQueueTicks : Prop :=
  ∀ s : State, s.pending = [] → ∃ t, step s = .next t ∧ t.dev.up = s.dev.up + 1 ∧ t.pending = [] ∧ s.sameMem t
    ∧ (s.dev.tim.counting = false → t.dev.tim.accA = s.dev.tim.accA ∧ t.dev.tim.accB = s.dev.tim.accB)
    ∧ (s.dev.tim.counting = true → s.dev.tim.setDue = false → t.dev.tim.accA = s.dev.tim.accA + ((2 ^ 40 : Int) + s.dev.getS Reg.TIM_RATE.RATE).toNat
      ∧ t.dev.tim.accB = (if s.dev.pwr.phase = .hold then s.dev.tim.accB else s.dev.tim.accB + ((2 ^ 40 : Int) + s.dev.getS Reg.TIM_RATE.RATE).toNat))

/-- No command stops the machine, in any state: exec answers a next state whose queue is the queue it was given. -/
def Obligations.EveryCommandAnswers : Prop :=
  ∀ (c : Instr) (s : State), ∃ t, exec c s = .next t ∧ t.pending = s.pending

/-- A command other than the end of a log write, a host or SPI register write, a granted or completed DRAM access, the end of a training, an image word, a burst of Tackle and the end of a trace write leaves every octet of both memories as it was, in every state. -/
def Obligations.MemoryTouchedByNineCommands : Prop :=
  ∀ (c : Instr) (s t : State), exec c s = .next t →
    (match c with
      | .logWriteComplete .. => False
      | .hostRegisterWrite .. => False
      | .spiWrite .. => False
      | .dramAccessGrant .. => False
      | .dramReadComplete .. => False
      | .trainingDone .. => False
      | .imageWordWrite .. => False
      | .burstGrant .. => False
      | .traceDramWriteComplete .. => False
      | _ => True) → (∀ a, t.dram.at a = s.dram.at a) ∧ ∀ a, t.host.at a = s.host.at a

/-- From every state whose DRAM and host memory are in canonical form (octets at rising addresses, none listed that reads as nothing written), every step that answers a next state, of a command or of a tick, leaves them in that form. -/
def Obligations.StepKeepsMemoryCanonical : Prop :=
  ∀ s t : State, s.memWf → step s = .next t → t.memWf

/-- The state after reset has both memories and the register store in canonical form. -/
def Obligations.ResetIsCanonical : Prop := State.reset.memWf ∧ State.reset.regsWf

/-- After reset the device has not started, of the 80 power domains the always-on one alone is on, the queue is empty, no fault source is open, and registers of each kind hold the reset values of their tables: identity, time, angle, port, Locker, gate, ring, cell, sample, placement, dictionary, memory, power, test and trace. -/
def Obligations.ResetValues : Prop :=
  State.reset.dev.pwr.phase = .off ∧ State.reset.pending = [] ∧ (∀ d < 80, State.reset.dev.domOn d = (d == 0))
    ∧ (∀ b < 28, State.reset.dev.word (stickyAddr b) = 0)
    ∧ ∀ e ∈ [(0, 0x51204110), (Reg.TIM_CFG, 0x022003E8), (Reg.ANG_TOOTH 5, 0x003CA444), (Reg.PRT_PHY 6, 6), (Reg.FRM_BANK_STATE, 0x00FFFFFF), (Reg.FRM_FREE_GRAN, 0xBE00),
        (Reg.GTE_PRIO_MAP 3, 0x76543201), (Reg.STM_SEQ 511, 0x80000000), (Reg.SHD_CFG, 0x88B60000), (Reg.CEL_SPARES, 0x44), (Reg.CEL_PERIOD 63, 0xF4240), (Reg.SMP_CH_GAIN 31 15, 0x10000),
        (Reg.SCR_PIN_CFG 31, 0x50000000), (Reg.PLC_POLICY, 0x6E7D0A05), (Reg.DCT_CFG, 0x88B5FF00), (Reg.DMA_CTL 63, 0x400), (Reg.MEM_CFG, 0x40040A20), (Reg.STA_LOG_CFG, 0xC),
        (Reg.PWR_AVS_STAT, 0x1E000000), (Reg.IST_CFG, 0x18003F01), (Reg.TRC_OUT, 0x0401073C)], State.reset.dev.word e.1 = BitVec.ofNat 32 e.2

/-- The decoder answers none on every word of every length, and a fetch word leaves every state as it is. -/
def Obligations.NoWordDecodes : Prop :=
  ∀ (nbits w : Nat) (s : State), decodeTableWord nbits w = none ∧ s.withFetchWord nbits w = s

/-- For every block, key, stored word and written word, bit n of the word a write leaves is the written bit where the table says RW, the stored bit cleared by a written 1 where it says W1C, the stored bit set by a written 1 where it says W1S, and the stored bit everywhere else; no bit has two of these codes. -/
def Obligations.AccessCodesBitByBit : Prop :=
  ∀ (s : Dev) (b k : Nat) (v : Word) (n : Nat), n < 32 →
    (s.written b k v).getLsbD n
        = (if (masksOf b k).rw.testBit n then v.getLsbD n else if (masksOf b k).w1c.testBit n then (s.word k).getLsbD n && !v.getLsbD n
          else if (masksOf b k).w1s.testBit n then (s.word k).getLsbD n || v.getLsbD n else (s.word k).getLsbD n)
      ∧ ([(masksOf b k).rw, (masksOf b k).w1c, (masksOf b k).w1s].filter fun m => m.testBit n).length ≤ 1

/-- HOST_REGISTER_WRITE over either host path, in Run with PERST_N high, at any word of the Rigger's window 0x28_0100 to 0x28_10FF but PLC_EVAC: it completes, the word is left as the access codes of R6 say and nothing else changes, memories included. Where the word backs a CRIT or CONST object it keeps its value, and HOST_WR_REFUSED is set exactly where the word would have changed (R12). A PCI Express doubleword at any address whose byte enables are not all set completes with no effect but that GLB_HOST_ERR counts it (R302). -/
def Obligations.HostRegisterWrite : Prop :=
  (∀ (s : State) (r : Requester) (a : Nat) (v : Word), r.isHost = true → s.dev.pwr.phase = .run → s.dev.pwr.perst = false →
    a % 4 = 0 → 0x280100 ≤ a → a < 0x281100 → a ≠ Reg.PLC_EVAC → s.dev.blockOn bPLC = true → s.dev.hostRefused a = false →
    Answers (.hostRegisterWrite r a v 15#4) s fun t =>
      (t.dev.word a).toNat = accessWrite (masksOf bPLC a) (s.dev.word a).toNat v.toNat ∧ s.dev.onlyWords (· = a) t.dev ∧ s.sameMem t)
  ∧ (∀ (s : State) (r : Requester) (a : Nat) (v : Word), r.isHost = true → s.dev.pwr.phase = .run → s.dev.pwr.perst = false →
    a % 4 = 0 → 0x280100 ≤ a → a < 0x281100 → s.dev.blockOn bPLC = true → s.dev.critWord a = true →
    Answers (.hostRegisterWrite r a v 15#4) s fun t =>
      t.dev.word a = s.dev.word a ∧ s.dev.onlyWords (· = statusAddr bPLC) t.dev
        ∧ t.dev.bit (statusBit bPLC 16) = (s.dev.bit (statusBit bPLC 16) || s.dev.wouldChange (masksOf bPLC a) a v.toNat))
  ∧ (∀ (s : State) (a : Nat) (v : Word) (be : BitVec 4), be ≠ 15#4 → s.dev.pwr.phase = .run → s.dev.pwr.perst = false →
    Answers (.hostRegisterWrite .pcie a v be) s fun t =>
      t.dev.get Reg.GLB_HOST_ERR.COUNT = (s.dev.get Reg.GLB_HOST_ERR.COUNT + 1) % 2 ^ 32
        ∧ s.dev.onlyWords (· = Reg.GLB_HOST_ERR) t.dev ∧ s.sameMem t)

/-- CAPTURE_READ of TIM_NOW_LO over either host path, in Run with the Halyard on: the word is returned, the three higher words then read for that requester as they were at this read whatever becomes of the time, and no other requester's captured word and no register changes. RC_READ of GLB_SPI_ERR_CNT or GLB_HOST_ERR returns the word; no register of the tables has an RC field, so no register changes. -/
def Obligations.HostReads : Prop :=
  (∀ (s : State) (r : Requester), r.isHost = true → s.dev.pwr.phase = .run → s.dev.pwr.perst = false → s.dev.blockOn bTIM = true →
    Answers (.captureRead r Reg.TIM_NOW_LO) s fun t =>
      Output.word (BitVec.ofNat 32 (stampOf s.dev.now)) ∈ t.dev.out
        ∧ (∀ u : Dev, u.captured = t.dev.captured → u.readWord r Reg.TIM_NOW_MID = stampOf s.dev.now / 2 ^ 32 % 2 ^ 32
            ∧ u.readWord r Reg.TIM_NOW_HI = stampOf s.dev.now / 2 ^ 64 % 2 ^ 32 ∧ u.readWord r Reg.TIM_COMPAT = forerunner s.dev.now)
        ∧ (∀ (q : Requester) (k : Nat), q ≠ r → k < 2 ^ 26 →
            Tab.get (fun _ => 0) t.dev.captured (Dev.captureKey q k) = Tab.get (fun _ => 0) s.dev.captured (Dev.captureKey q k))
        ∧ (∀ k, t.dev.word k = s.dev.word k) ∧ s.sameMem t)
  ∧ (∀ (s : State) (r : Requester) (a : Nat), r.isHost = true → s.dev.pwr.phase = .run → s.dev.pwr.perst = false → s.dev.blockOn bGLB = true →
    (a = Reg.GLB_SPI_ERR_CNT ∨ a = Reg.GLB_HOST_ERR) →
    Answers (.rcRead r a) s fun t => Output.word (s.dev.word a) ∈ t.dev.out ∧ s.dev.onlyWords (fun _ => False) t.dev ∧ s.sameMem t)

/-- With PERST_N high and MSI-X enabled and not function-masked, MSIX_UNMASK of a vector whose pending bit is set clears its vector mask, sends its message and clears the bit. PCIE_CONFIG_WRITE leaves Bus Master Enable, MSI-X Enable, function mask and D-state as written and the link bits as they were. PCIE_LINK_CHANGE in Run shows the trained speed and width, or a link that is down, and changes no other word. PERST low leaves link and configuration bits 0, every vector masked and no pending bit, and no other word changes. PCIE_AER records an event of GLB source 0. -/
def Obligations.HostPort : Prop :=
  (∀ (s : State) (v : Fin 128), s.dev.pwr.perst = false → s.dev.bit Reg.GLB_PCIE_STAT.MSIX_EN = true → s.dev.bit Reg.GLB_PCIE_STAT.MSIX_MASK = false →
    s.dev.msixPend.testBit v = true →
    Answers (.msixUnmask v) s fun t => Output.msix v ∈ t.dev.out ∧ t.dev.msixPend.testBit v = false ∧ t.dev.vectorMasked v = false
      ∧ s.dev.onlyWords (· = 0x400000 + 16 * v.val + 12) t.dev ∧ s.sameMem t)
  ∧ (∀ (s : State) (bm en mask d3 : Bool), s.dev.pwr.perst = false →
    Answers (.pcieConfigWrite bm en mask d3) s fun t => t.dev.bit Reg.GLB_PCIE_STAT.BUS_MASTER = bm ∧ t.dev.bit Reg.GLB_PCIE_STAT.MSIX_EN = en
      ∧ t.dev.bit Reg.GLB_PCIE_STAT.MSIX_MASK = mask ∧ t.dev.bit Reg.GLB_PCIE_STAT.D3HOT = d3
      ∧ t.dev.bit Reg.GLB_PCIE_STAT.LINK_UP = s.dev.bit Reg.GLB_PCIE_STAT.LINK_UP ∧ s.dev.onlyWords (· = Reg.GLB_PCIE_STAT) t.dev ∧ s.sameMem t)
  ∧ (∀ (s : State) (speed : Fin 3) (x2 : Bool), s.dev.pwr.phase = .run → s.dev.pwr.perst = false →
    Answers (.pcieLinkChange true speed x2) s fun t => t.dev.bit Reg.GLB_PCIE_STAT.LINK_UP = true ∧ t.dev.get Reg.GLB_PCIE_STAT.SPEED = speed.val + 1
      ∧ t.dev.get Reg.GLB_PCIE_STAT.WIDTH = (if x2 then 2 else 1) ∧ s.dev.onlyWords (· = Reg.GLB_PCIE_STAT) t.dev ∧ s.sameMem t)
  ∧ (∀ (s : State) (speed : Fin 3) (x2 : Bool),
    Answers (.pcieLinkChange false speed x2) s fun t => t.dev.bit Reg.GLB_PCIE_STAT.LINK_UP = false ∧ t.dev.get Reg.GLB_PCIE_STAT.SPEED = 0
      ∧ t.dev.get Reg.GLB_PCIE_STAT.WIDTH = 0 ∧ s.dev.onlyWords (· = Reg.GLB_PCIE_STAT) t.dev ∧ s.sameMem t)
  ∧ (∀ s : State, Answers (.perst true) s fun t => t.dev.word Reg.GLB_PCIE_STAT = 0 ∧ (∀ v < 128, t.dev.vectorMasked v = true) ∧ t.dev.msixPend = 0
      ∧ (∀ k, k ≠ Reg.GLB_PCIE_STAT → (k < 0x400000 ∨ 0x400800 ≤ k) → t.dev.word k = s.dev.word k) ∧ s.sameMem t)
  ∧ (∀ s : State, s.dev.blockOn bGLB = true →
    Answers .pcieAer s fun t => t.dev.bit (stickyBit bGLB 0) = true ∧ s.dev.onlyWordsAndFaults (Dev.faultWords bGLB) t.dev ∧ s.sameMem t)

/-- In Run with GLB on: an SPI_WRITE frame of four octets to GLB_DIAG_PAGE sets PAGE to bit 0 of its first octet, and one of three octets changes nothing and sets PARTIAL; an SPI_READ frame at a word of GLB that no read captures answers the wait octets, 0xA5, and the word least significant octet first; SPI_STATUS answers octets of READY, PARTIAL and BAD; a frame with an unknown CMD sets BAD, counts, and records SPI_FRAME. -/
def Obligations.SpiFrames : Prop :=
  (∀ (s : State) (a b c d : Octet), s.dev.pwr.phase = .run → s.dev.blockOn bGLB = true →
    Answers (.spiWrite 0x40C [a, b, c, d]) s fun t => t.dev.get Reg.GLB_DIAG_PAGE.PAGE = a.toNat % 2
      ∧ s.dev.onlyWords (· = Reg.GLB_DIAG_PAGE) t.dev ∧ s.sameMem t)
  ∧ (∀ (s : State) (a b c : Octet), s.dev.pwr.phase = .run →
    Answers (.spiWrite 0x40C [a, b, c]) s fun t => t.dev.bit Reg.GLB_SPI_STAT.PARTIAL = true ∧ s.dev.onlyWords (· = Reg.GLB_SPI_STAT) t.dev ∧ s.sameMem t)
  ∧ (∀ (s : State) (a : BitVec 24) (w : Fin 33), s.dev.pwr.phase = .run → s.dev.blockOn bGLB = true → a.toNat % 4 = 0 → 0x400 ≤ a.toNat → a.toNat < 0x41C →
    Answers (.spiRead a 1 w) s fun t => s.dev.onlyWords (fun _ => False) t.dev ∧ s.sameMem t
      ∧ (List.replicate w (Output.octet 0) ++ (Output.octet 0xA5 :: (octetsLE 4 (s.dev.viewWord a.toNat)).map Output.octet)) <+: t.dev.out)
  ∧ (∀ (s : State) (n : Nat), s.dev.pwr.phase = .run →
    Answers (.spiStatus n) s fun t => s.dev.onlyWords (fun _ => False) t.dev ∧ s.sameMem t
      ∧ List.replicate n (Output.octet (BitVec.ofNat 8 (128 * s.dev.get (statusBit bGLB 0) + 2 * s.dev.get Reg.GLB_SPI_STAT.PARTIAL
          + s.dev.get Reg.GLB_SPI_STAT.BAD))) <+: t.dev.out)
  ∧ (∀ (s : State) (cmd : Octet) (l : List Octet), s.dev.pwr.phase = .run → cmd ≠ 0x02#8 → cmd ≠ 0x05#8 → cmd ≠ 0x0B#8 →
    Answers (.spiBadFrame (cmd :: l)) s fun t => t.dev.bit Reg.GLB_SPI_STAT.BAD = true
      ∧ t.dev.get Reg.GLB_SPI_ERR_CNT.COUNT = (s.dev.get Reg.GLB_SPI_ERR_CNT.COUNT + 1) % 2 ^ 32 ∧ t.dev.bit (stickyBit bGLB 1) = true
      ∧ s.dev.onlyWordsAndFaults (fun k => k = Reg.GLB_SPI_STAT ∨ k = Reg.GLB_SPI_ERR_CNT ∨ Dev.faultWords bGLB k) t.dev ∧ s.sameMem t)

/-- ACKNOWLEDGE of a block that is on closes every open source whose bit is written 1, but for one classed GRAVE, and leaves every other source of the block as it is. FLT_CFG_WRITE sets the 24 configuration bits of the source that FLT_CFG_SEL names and clears its opening history. FAULT_INJECT while AVAIL is 1, of a source that is no error of the block's own storage: an open source merges the event, its count saturating at 15; a closed source whose class cannot be GRAVE opens with the class of R346. Of every source, storage errors among them, the bit of FLT_STICKY is 1 afterwards and no memory changes. A closed source of AUT that opens GRAVE makes AUT GRAVE and drives FAULT_N (stated with no ring enabled, so that no notice is sent). -/
def Obligations.FaultUnits : Prop :=
  (∀ (s : State) (b : Fin 28) (v : Word), s.dev.blockOn b = true → s.dev.hostRefused (stickyAddr b) = false →
    Answers (.acknowledge b v) s fun t =>
      (∀ n < 32, t.dev.bit (stickyBit b n)
          = (s.dev.bit (stickyBit b n) && !(decide (n < sourceCount b) && wbit v n && decide ((s.dev.fltSrc b n).cls ≠ .grave))))
        ∧ s.dev.onlyWordsAndFaults (· = stickyAddr b) t.dev ∧ t.dev.log = s.dev.log ∧ s.sameMem t)
  ∧ (∀ (s : State) (b : Fin 28) (v : Word), s.dev.blockOn b = true → s.dev.fltSel b < sourceCount b →
    s.dev.hostRefused (fltCfgAddr b (s.dev.fltSel b)) = false →
    Answers (.fltCfgWrite b v) s fun t => t.dev.get ⟨fltCfgAddr b (s.dev.fltSel b), 0, 24⟩ = v.toNat % 2 ^ 24
      ∧ (t.dev.fltSrc b (s.dev.fltSel b)).hist = [] ∧ s.dev.onlyWordsAndFaults (· = fltCfgAddr b (s.dev.fltSel b)) t.dev ∧ s.sameMem t)
  ∧ (∀ (s : State) (v : Word), s.dev.blockOn bSTA = true → s.dev.hostRefused Reg.STA_INJECT = false → s.dev.bit Reg.STA_INJECT.AVAIL = true →
    wfld v 0 5 < 28 → wfld v 8 5 < sourceCount (wfld v 0 5) → s.dev.blockOn (wfld v 0 5) = true →
    Answers (.faultInject v) s (fun t => t.dev.bit (stickyBit (wfld v 0 5) (wfld v 8 5)) = true ∧ s.sameMem t)
    ∧ (s.dev.bit (stickyBit (wfld v 0 5) (wfld v 8 5)) = true → Dev.storageSource (wfld v 0 5) (wfld v 8 5) = false →
      Answers (.faultInject v) s fun t => (t.dev.fltSrc (wfld v 0 5) (wfld v 8 5)).merged = min 15 ((s.dev.fltSrc (wfld v 0 5) (wfld v 8 5)).merged + 1)
        ∧ s.dev.onlyWordsAndFaults (fun _ => False) t.dev ∧ s.sameMem t)
    ∧ (s.dev.bit (stickyBit (wfld v 0 5) (wfld v 8 5)) = false → graveN (wfld v 0 5) (wfld v 8 5) = 0 → Dev.storageSource (wfld v 0 5) (wfld v 8 5) = false →
      Answers (.faultInject v) s fun t => t.dev.bit (stickyBit (wfld v 0 5) (wfld v 8 5)) = true
        ∧ (t.dev.fltSrc (wfld v 0 5) (wfld v 8 5)).cls = s.dev.classify (wfld v 0 5) (wfld v 8 5) s.dev.stepless
        ∧ s.dev.onlyWordsAndFaults (Dev.faultWords (wfld v 0 5)) t.dev ∧ s.sameMem t)
    ∧ (s.dev.bit (stickyBit (wfld v 0 5) (wfld v 8 5)) = false → wfld v 0 5 = bAUT → wfld v 8 5 < 2 → s.dev.isGrave bAUT = false →
      (∀ r < 2, s.dev.bit (Reg.SHD_RING_CFG.EN r) = false) →
      Answers (.faultInject v) s fun t => t.dev.isGrave bAUT = true ∧ t.dev.bit Reg.STA_FLINE.DRIVING = true
        ∧ (t.dev.fltSrc bAUT (wfld v 8 5)).cls = .grave ∧ s.sameMem t))

/-- With STA on: EXTERNAL_ASSERTION, while the line was seen high and the device neither drives nor ignores it, sets SEEN_LOW and the event bit, counts in STA_EXT_CNT and records an event of source 3. LINE_HIGH while the device drives the line sets HIGH_FAULT and records source 4; a line that has stayed high since is one event, and a second LINE_HIGH changes nothing. LINE_STUCK after LINE_WINDOW of a low line sets the stuck bit and IGNORING and records source 2; LINE_STUCK_CLEAR after 1 ms high clears both. FAULT_N_RISE while the device does not drive the line clears SEEN_LOW. VCORE_REMOVAL in reset or Deep Hold clears every GRAVE latch and the drive of the line. -/
def Obligations.FaultLine : Prop :=
  (∀ s : State, s.dev.blockOn bSTA = true → s.dev.bit Reg.STA_FLINE.SEEN_LOW = false → s.dev.bit Reg.STA_FLINE.DRIVING = false →
    s.dev.bit Reg.STA_FLINE.IGNORING = false →
    Answers .externalAssertion s fun t => t.dev.bit Reg.STA_FLINE.SEEN_LOW = true ∧ t.dev.bit (statusBit bSTA 2) = true
      ∧ t.dev.get Reg.STA_EXT_CNT.COUNT = (s.dev.get Reg.STA_EXT_CNT.COUNT + 1) % 2 ^ 32 ∧ t.dev.bit (stickyBit bSTA 3) = true ∧ s.sameMem t)
  ∧ (∀ s : State, s.dev.blockOn bSTA = true → s.dev.bit Reg.STA_FLINE.DRIVING = true →
    s.dev.bit Reg.STA_FLINE.HIGH_FAULT = false →
    Answers .lineHigh s fun t => t.dev.bit Reg.STA_FLINE.HIGH_FAULT = true ∧ t.dev.bit (stickyBit bSTA 4) = true ∧ s.sameMem t)
  ∧ (∀ s : State, s.dev.bit Reg.STA_FLINE.HIGH_FAULT = true → Answers .lineHigh s fun t => s.dev.onlyWords (fun _ => False) t.dev ∧ s.sameMem t)
  ∧ (∀ s : State, s.dev.blockOn bSTA = true → s.dev.bit Reg.STA_FLINE.DRIVING = false → s.dev.bit Reg.STA_FLINE.SEEN_LOW = true →
    s.dev.bit Reg.STA_FLINE.IGNORING = false → s.dev.fline.since + max 1 (s.dev.get Reg.STA_FLINE.LINE_WINDOW) * 1000000 ≤ s.dev.up →
    Answers .lineStuck s fun t => t.dev.bit (statusBit bSTA 3) = true ∧ t.dev.bit Reg.STA_FLINE.IGNORING = true
      ∧ t.dev.bit (stickyBit bSTA 2) = true ∧ s.sameMem t)
  ∧ (∀ s : State, s.dev.blockOn bSTA = true → s.dev.bit Reg.STA_FLINE.IGNORING = true → s.dev.bit Reg.STA_FLINE.SEEN_LOW = false →
    s.dev.fline.since + 1000000 ≤ s.dev.up →
    Answers .lineStuckClear s fun t => t.dev.bit (statusBit bSTA 3) = false ∧ t.dev.bit Reg.STA_FLINE.IGNORING = false
      ∧ s.dev.onlyWords (fun k => k = statusAddr bSTA ∨ k = Reg.STA_FLINE) t.dev ∧ s.sameMem t)
  ∧ (∀ s : State, s.dev.blockOn bSTA = true → s.dev.bit Reg.STA_FLINE.DRIVING = false → s.dev.bit Reg.STA_FLINE.SEEN_LOW = true →
    Answers .faultNRise s fun t => t.dev.bit Reg.STA_FLINE.SEEN_LOW = false ∧ (∀ k, k ≠ Reg.STA_FLINE → t.dev.word k = s.dev.word k) ∧ s.sameMem t)
  ∧ (∀ s : State, (s.dev.pwr.phase = .off ∨ s.dev.pwr.phase = .deepHold) →
    Answers .vcoreRemoval s fun t => t.dev.word Reg.STA_GRAVE = 0 ∧ t.dev.word Reg.STA_GRAVE_OWN = 0 ∧ t.dev.bit Reg.STA_FLINE.DRIVING = false ∧ s.sameMem t)

/-- LOG_WRITE_COMPLETE of an issued entry whose ring lies in usable memory of a ready channel puts the entry's 32 octets at its place in the ring, leaves every other octet of both memories, counts in STA_LOG_WR and takes the entry from staging. LOG_RESUME after a failure clears LOG_MEM_FAIL and keeps what is staged. LOG_STAGE_FAIL stops logging, sets its status bit and records source 1. -/
def Obligations.EventLog : Prop :=
  (∀ (s : State) (e : LogEntry), s.dev.logWrites = true → s.dev.ringFits (s.dev.get Reg.STA_LOG_BASE.BASE) (s.dev.get Reg.STA_LOG_CFG.SIZE_LOG) = true →
    s.dev.chUp s.dev.rt1Chan = true → s.dev.log.issued = true → s.dev.logNext = some e →
    Answers (.logWriteComplete true) s fun t =>
      (∀ i < 32, Memory.at t.dram (s.dev.logAddr s.dev.log.written + i) = e.octets.getD i 0)
        ∧ (∀ a, (a < s.dev.logAddr s.dev.log.written ∨ s.dev.logAddr s.dev.log.written + 32 ≤ a) → Memory.at t.dram a = Memory.at s.dram a)
        ∧ t.host = s.host ∧ t.dev.get Reg.STA_LOG_WR.COUNT = (s.dev.get Reg.STA_LOG_WR.COUNT + 1) % 2 ^ 32 ∧ t.dev.log.issued = false
        ∧ t.dev.log.written = s.dev.log.written + 1)
  ∧ (∀ s : State, s.dev.blockOn bSTA = true → s.dev.hostRefused (statusAddr bSTA) = false → s.dev.log.memFail = true →
    Answers .logResume s fun t => t.dev.log.memFail = false ∧ t.dev.log.staged = s.dev.log.staged ∧ t.dev.bit (statusBit bSTA 0) = false
      ∧ (∀ k, k ≠ statusAddr bSTA → t.dev.word k = s.dev.word k) ∧ s.sameMem t)
  ∧ (∀ s : State, s.dev.blockOn bSTA = true →
    Answers .logStageFail s fun t => t.dev.log.dead = true ∧ t.dev.bit (statusBit bSTA 1) = true ∧ t.dev.bit (stickyBit bSTA 1) = true ∧ s.sameMem t)

/-- SYNC_RECEIVED, its frame started `since` ago, at the port the servo follows, not wrapped, TIM on and not GRAVE, servo enabled. From FREE the offset is the master's time less the receive stamp, which is of the start of the frame, the time of the Sync is kept, and the servo enters ACQUIRING. In LOCKED, loop not frozen, offset below the step threshold and an earlier Sync at stepless time t0, the servo stays LOCKED and RATE is the integral part plus the proportional part of R428, rounded and clamped at 500 ppm. -/
def Obligations.SyncReceived : Prop :=
  ∀ (s : State) (p : Fin 8) (gm : BitVec 64) (origin : Nat) (corr logIvl : Int) (since : Nat) (theta : Int), s.dev.blockOn bTIM = true → s.dev.isGrave bTIM = false →
    s.dev.tim.counting = true → Dev.sourceOf p = s.dev.wantedSource → s.dev.mayFollow p = true → s.dev.rxWrapped p = false → s.dev.servoEn = true →
    theta = ((origin : Int) + corr + s.dev.linkDelay p - s.dev.ingressStamp p since) * 2 ^ 24 →
    (s.dev.servo = Dev.servoFree →
      Answers (.syncReceived ⟨p, since⟩ gm origin corr logIvl) s fun t => t.dev.tim.theta = theta ∧ t.dev.servo = Dev.servoAcquiring
        ∧ t.dev.tim.syncAt = some (s.dev.stepless - s.dev.get (Reg.TIM_LAT.ING_LAT p) * 2 ^ 40 - since * 2 ^ 24) ∧ t.dev.tim.gm = gm.toNat ∧ s.sameMem t)
    ∧ (∀ (t0 y : Int), s.dev.servo = Dev.servoLocked → s.dev.loopFreeze = false → s.dev.tim.syncAt = some t0 → |theta| < s.dev.stepThr →
      y = s.dev.tim.integ + s.dev.servoInteg theta (s.dev.stepless - s.dev.get (Reg.TIM_LAT.ING_LAT p) * 2 ^ 40 - since * 2 ^ 24 - t0) + s.dev.servoProp theta →
      Answers (.syncReceived ⟨p, since⟩ gm origin corr logIvl) s fun t => t.dev.tim.theta = theta ∧ t.dev.servo = Dev.servoLocked
        ∧ t.dev.getS Reg.TIM_RATE.RATE = max (-Dev.rateLimit) (min Dev.rateLimit ((2 * y + 2 ^ 24 * 1000000000) / (2 ^ 25 * 1000000000))) ∧ s.sameMem t)

/-- With TIM on: SLEWING_END with an offset below half the threshold enters LOCKED with the integral part at the RATE held, or, loop frozen, as it was. HOLDOVER, in LOCKED or SLEWING after three sync intervals without a Sync, enters HOLDOVER and, loop not frozen, holds the last RATE of LOCKED. EPISODE_START counts the episode, clears STEP_USED, keeps SET for the next tick, and enters ACQUIRING while the servo is enabled. SERVO_DISABLE clears SERVO_EN and leaves any tracking state for FREE with RATE as it was; SERVO_ENABLE sets SERVO_EN and leaves the state. -/
def Obligations.ServoStates : Prop :=
  (∀ s : State, s.dev.blockOn bTIM = true → s.dev.servo = Dev.servoSlewing → 2 * |s.dev.offsetNow| < s.dev.stepThr →
    Answers .slewingEnd s fun t => t.dev.servo = Dev.servoLocked ∧ t.dev.tim.integ = (if s.dev.loopFreeze then s.dev.tim.integ else s.dev.getS Reg.TIM_RATE.RATE * (1000000000 * 2 ^ 24))
      ∧ (∀ k, k ≠ Reg.TIM_SERVO → t.dev.word k = s.dev.word k) ∧ s.sameMem t)
  ∧ (∀ (s : State) (t0 : Int), s.dev.blockOn bTIM = true → (s.dev.servo = Dev.servoLocked ∨ s.dev.servo = Dev.servoSlewing) → s.dev.tim.syncAt = some t0 →
    Dev.atLeastIntervals (s.dev.stepless - t0) 3 s.dev.syncExp = true →
    Answers .holdover s fun t => t.dev.servo = Dev.servoHoldover
      ∧ (s.dev.loopFreeze = false → t.dev.getS Reg.TIM_RATE.RATE = max (-Dev.rateLimit) (min Dev.rateLimit s.dev.tim.lockedRate))
      ∧ (∀ k, k ≠ Reg.TIM_SERVO → k ≠ Reg.TIM_RATE → t.dev.word k = s.dev.word k) ∧ s.sameMem t)
  ∧ (∀ (s : State) (set : Bool), s.dev.blockOn bTIM = true → s.dev.hostRefused Reg.TIM_EPISODE = false → s.dev.isGrave bTIM = false →
    Answers (.episodeStart set) s fun t => t.dev.get Reg.TIM_SERVO.EPISODE = (s.dev.get Reg.TIM_SERVO.EPISODE + 1) % 2 ^ 8
      ∧ t.dev.bit (statusBit bTIM 4) = false ∧ t.dev.tim.setDue = set ∧ t.dev.tim.syncs = 0
      ∧ t.dev.servo = (if s.dev.servoEn then Dev.servoAcquiring else s.dev.servo)
      ∧ (∀ k, k ≠ Reg.TIM_SERVO → k ≠ statusAddr bTIM → t.dev.word k = s.dev.word k) ∧ s.sameMem t)
  ∧ (∀ s : State, s.dev.blockOn bTIM = true → s.dev.hostRefused (blockBase bTIM + 4) = false →
    Answers .servoDisable s fun t => t.dev.servoEn = false
      ∧ t.dev.servo = (if Dev.servoAcquiring ≤ s.dev.servo ∧ s.dev.servo ≤ Dev.servoHoldover then Dev.servoFree else s.dev.servo)
      ∧ s.dev.onlyWords (fun k => k = blockBase bTIM + 4 ∨ k = Reg.TIM_SERVO) t.dev ∧ s.sameMem t)
  ∧ (∀ s : State, s.dev.blockOn bTIM = true → s.dev.hostRefused (blockBase bTIM + 4) = false →
    Answers .servoEnable s fun t => t.dev.servoEn = true ∧ s.dev.onlyWords (· = blockBase bTIM + 4) t.dev ∧ s.sameMem t)

/-- With TIM on and counting, outside Hold and with no reload due: HALYARD_COMPARISON of two Halyards at most 8 ns apart shows their difference and records nothing. Further apart, with none rejected before, no estimate of network time, Halyard A active and only B's timebase locked, A is rejected: an event of source 0, Halyard B active, one failover counted, and distributed time the same as before, the difference left to be removed. COPY_CHECK of a copy more than 4 ns off counts it and records source 4; within 4 ns nothing changes. TIMEBASE_PLL_UNLOCK records source 5. -/
def Obligations.Halyards : Prop :=
  (∀ (s : State) (la lb : Bool), s.dev.blockOn bTIM = true → s.dev.tim.counting = true → s.dev.pwr.phase ≠ .hold → s.dev.tim.loadDue = false →
    |(s.dev.tim.accA : Int) - s.dev.tim.accB| ≤ 8 * 2 ^ 40 →
    Answers (.halyardComparison la lb) s fun t => t.dev.getS Reg.TIM_HAL_DIFF.DIFF = ((s.dev.tim.accA : Int) - s.dev.tim.accB).tdiv (2 ^ 40)
      ∧ t.dev.now = s.dev.now ∧ (∀ k, k ≠ Reg.TIM_HAL_DIFF → t.dev.word k = s.dev.word k) ∧ s.sameMem t)
  ∧ (∀ s : State, s.dev.blockOn bTIM = true → s.dev.tim.counting = true → s.dev.pwr.phase ≠ .hold → s.dev.tim.loadDue = false →
    8 * 2 ^ 40 < |(s.dev.tim.accA : Int) - s.dev.tim.accB| → s.dev.tim.rejected = false → s.dev.tim.syncAt = none → s.dev.activeB = false →
    Answers (.halyardComparison false true) s fun t => t.dev.bit (stickyBit bTIM 0) = true ∧ t.dev.activeB = true
      ∧ t.dev.get Reg.TIM_FAILOVER_CNT.COUNT = (s.dev.get Reg.TIM_FAILOVER_CNT.COUNT + 1) % 2 ^ 32 ∧ t.dev.dist40 = s.dev.dist40
      ∧ t.dev.tim.rejected = true ∧ t.dev.tim.loadDue = true ∧ s.sameMem t)
  ∧ (∀ (s : State) (b : Fin 28) (d : Int), s.dev.blockOn bTIM = true → s.dev.blockOn b = true → 4 * 65536 < |d| →
    Answers (.copyCheck b d) s fun t => t.dev.get Reg.TIM_COPY_ERR.COUNT = (s.dev.get Reg.TIM_COPY_ERR.COUNT + 1) % 2 ^ 32
      ∧ t.dev.bit (stickyBit bTIM 4) = true ∧ t.dev.bit (statusBit bTIM 14) = true
      ∧ s.dev.onlyWordsAndFaults (fun k => k = Reg.TIM_COPY_ERR ∨ k = statusAddr bTIM ∨ Dev.faultWords bTIM k) t.dev ∧ s.sameMem t)
  ∧ (∀ (s : State) (b : Fin 28) (d : Int), |d| ≤ 4 * 65536 → Answers (.copyCheck b d) s fun t => s.dev.onlyWords (fun _ => False) t.dev ∧ s.sameMem t)
  ∧ (∀ s : State, s.dev.blockOn bTIM = true →
    Answers .timebasePllUnlock s fun t => t.dev.bit (stickyBit bTIM 5) = true ∧ s.dev.onlyWordsAndFaults (Dev.faultWords bTIM) t.dev ∧ s.sameMem t)

/-- With TIM on and not GRAVE, at a port with a PTP role that is not wrapped: PTP_MESSAGE_RECEIVED with a measured delay keeps it for the port; with an outcome of the best master clock algorithm that names no slave port for the source the servo follows, the servo enters MASTER and the grandmaster is the one named. PTP_MESSAGE_SEND of a path delay request whose interval has passed, on a port that is on and measures peer to peer, with room in the device pool and a window that can carry it, puts the message with its domain number at the end of the port's class queue, or, where a ring port is wrapped and its other is not, of the other port's (R180). -/
def Obligations.PtpMessages : Prop :=
  (∀ (s : State) (p : Fin 8) (type : BitVec 4) (d since : Nat), s.dev.blockOn bTIM = true → s.dev.isGrave bTIM = false → s.dev.ptpRole p ≠ 0 → s.dev.rxWrapped p = false →
    Answers (.ptpMessageReceived ⟨p, since⟩ type none (some d)) s fun t => t.dev.linkDelay p = d ∧ (∀ k, t.dev.word k = s.dev.word k) ∧ s.sameMem t)
  ∧ (∀ (s : State) (p : Fin 8) (type : BitVec 4) (gm : BitVec 64) (m : BitVec 8) (since : Nat), s.dev.blockOn bTIM = true → s.dev.isGrave bTIM = false →
    s.dev.ptpRole p ≠ 0 → s.dev.rxWrapped p = false → s.dev.bmcaOn p = true → Dev.sourceOf p = s.dev.tim.ring.getD s.dev.wantedSource →
    Answers (.ptpMessageReceived ⟨p, since⟩ type (some (gm, none, m)) none) s fun t => t.dev.servo = Dev.servoMaster ∧ t.dev.tim.gm = gm.toNat
      ∧ t.dev.slaveOf (Dev.sourceOf p) = none ∧ t.dev.get Reg.TIM_SERVO.SLAVE_PORT = 0xFF ∧ s.sameMem t)
  ∧ (∀ (s : State) (p : Fin 8) (msg : List Octet) (sh : Bool) (q : Nat), s.dev.blockOn bTIM = true → s.dev.blockOn (bPRT p) = true → s.dev.ptpRole p ≠ 0 →
    (s.dev.bit (Reg.TIM_PORT_CFG.DELAY_E2E p) = false ∨ p.val < 4) → s.dev.ptpDue p 3 = true →
    s.dev.allocCheck .device (frameLen (s.dev.ptpData p msg)) = .ok sh →
    q = (if p.val < 4 ∧ s.dev.wrapped p = true then Dev.otherPort p else p) → (p.val < 4 → s.dev.wrapped q = false) →
    s.dev.neverCarried q (s.dev.ptpClass p) (frameLen (s.dev.ptpData p msg)) = false →
    Answers (.ptpMessageSend p 3 msg) s fun t =>
      (∃ e : QEnt, e.data = (if p.val < 4 then s.dev.leavingBy (s.dev.ptpData p msg) (q % 2 == 0) else s.dev.ptpData p msg)
        ∧ t.dev.classQueue q (s.dev.ptpClass p) = s.dev.classQueue q (s.dev.ptpClass p) ++ [e])
      ∧ Tab.get (fun _ => 0) t.dev.tim.sentAt (24 + p) = s.dev.up + 1 ∧ s.sameMem t)

/-- With ANG on and not GRAVE. ACCEPTED_EDGE of a VALID tooth domain with an expected gap pattern and no sense of direction: the domain stays VALID at the next position, its internal angle restarts at the tooth angle of that position, and the published angle does not fall. MISSING_TOOTH when the first missing tooth of a VALID domain is due and COAST_TEETH is above 1: COASTING, and ANG_COAST_CNT counts; when it is the last one allowed: reason 1, INVALID_EVT and the event of DOM_INVALID. REMOTE_COASTING after 1.5 of the last payload interval, one being known: COASTING, counted. REMOTE_TIMEOUT after TIMEOUT µs without a payload, counted from the start of SEARCH where none has come: reason 4 and the event. The two INVALID clauses are of a core clock with no RESYNC or PHASE_FLIP of the domain (R65). -/
def Obligations.AngleTracking : Prop :=
  (∀ (s : State) (n : Fin 8) (cam : Bool) (width : Nat) (last : Nat), s.dev.blockOn bANG = true → s.dev.isGrave bANG = false →
    s.dev.angState n = angValid → s.dev.get (Reg.ANG_SRC.KIND n) = 1 → s.dev.get (Reg.ANG_SRC.DIR_MODE n) = 0 → s.dev.get (Reg.ANG_SRC.FILT n) * 10 ≤ width →
    s.dev.angMissing n ≠ 0 → (s.dev.ang n).lastIv = some last →
    s.dev.isGap n ((s.dev.sinceEdge n s.dev.edgeTime).getD 0)
      = decide (s.dev.get (Reg.ANG_STATE.POSITION n) / s.dev.angRev n < (s.dev.get (Reg.ANG_STATE.POSITION n) + (s.dev.posNext n (s.dev.get (Reg.ANG_STATE.POSITION n))).2.1) / s.dev.angRev n) →
    Answers (.acceptedEdge n false cam width) s fun t =>
      t.dev.angState n = angValid ∧ t.dev.get (Reg.ANG_STATE.POSITION n) = (s.dev.posNext n (s.dev.get (Reg.ANG_STATE.POSITION n))).1 % 2 ^ 11
        ∧ (t.dev.ang n).cyc = (s.dev.ang n).cyc + (s.dev.posNext n (s.dev.get (Reg.ANG_STATE.POSITION n))).2.2
        ∧ (t.dev.ang n).base = s.dev.toothAngle n (t.dev.ang n).cyc (s.dev.posNext n (s.dev.get (Reg.ANG_STATE.POSITION n))).1
        ∧ (t.dev.ang n).edgeAt = some s.dev.edgeTime ∧ s.dev.pubAngle n ≤ (t.dev.ang n).pub
        ∧ (∀ k, k ≠ Reg.ANG_STATE n → k ≠ Reg.ANG_TRACK n → t.dev.word k = s.dev.word k) ∧ s.sameMem t)
  ∧ (∀ (s : State) (n : Fin 8), s.dev.blockOn bANG = true → s.dev.get (Reg.ANG_SRC.KIND n) = 1 → (s.dev.ang n).th.1 ≠ 0 →
    (8 * ((s.dev.ang n).declared + (s.dev.posNext n (s.dev.get (Reg.ANG_STATE.POSITION n))).2.1) + s.dev.get (Reg.ANG_TOOTH.MISS n)) * (s.dev.ang n).th.1
      ≤ (s.dev.stepless - (s.dev.ang n).edgeAt.getD s.dev.stepless).toNat * 8 * (s.dev.ang n).th.2 →
    (s.dev.angState n = angValid → (s.dev.ang n).declared + 1 < s.dev.get (Reg.ANG_SRC.COAST_TEETH n) →
      Answers (.missingTooth n) s fun t => t.dev.angState n = angCoasting
        ∧ t.dev.get (Reg.ANG_COAST_CNT.COUNT n) = (s.dev.get (Reg.ANG_COAST_CNT.COUNT n) + 1) % 2 ^ 32 ∧ (t.dev.ang n).declared = (s.dev.ang n).declared + 1
        ∧ (∀ k, k ≠ Reg.ANG_STATE n → k ≠ Reg.ANG_COAST_CNT n → k ≠ statusAddr bANG → t.dev.word k = s.dev.word k) ∧ s.sameMem t)
    ∧ (s.dev.angOk n = true → (s.dev.ang n).cmdAt ≠ some s.dev.up → s.dev.get (Reg.ANG_SRC.COAST_TEETH n) ≤ (s.dev.ang n).declared + 1 →
      Answers (.missingTooth n) s fun t => t.dev.get (Reg.ANG_STATE.REASON n) = 1 ∧ t.dev.bit (statusBit bANG (8 + n)) = true
        ∧ t.dev.bit (stickyBit bANG n) = true ∧ s.sameMem t))
  ∧ (∀ (s : State) (n : Fin 8), s.dev.blockOn bANG = true → s.dev.get (Reg.ANG_SRC.KIND n) = 3 → s.dev.angState n = angValid →
    (s.dev.ang n).payIvl ≠ 0 → 3 * (s.dev.ang n).payIvl ≤ 2 * (s.dev.up - (s.dev.ang n).payAt.getD s.dev.up) →
    Answers (.remoteCoasting n) s fun t => t.dev.angState n = angCoasting
      ∧ t.dev.get (Reg.ANG_COAST_CNT.COUNT n) = (s.dev.get (Reg.ANG_COAST_CNT.COUNT n) + 1) % 2 ^ 32
      ∧ (∀ k, k ≠ Reg.ANG_STATE n → k ≠ Reg.ANG_COAST_CNT n → k ≠ statusAddr bANG → t.dev.word k = s.dev.word k) ∧ s.sameMem t)
  ∧ (∀ (s : State) (n : Fin 8), s.dev.blockOn bANG = true → s.dev.get (Reg.ANG_SRC.KIND n) = 3 → s.dev.angState n ≠ angOff →
    s.dev.angState n ≠ angInvalid → (s.dev.ang n).cmdAt ≠ some s.dev.up →
    max 1 (s.dev.get (Reg.ANG_REMOTE.TIMEOUT n)) * 1000 ≤ s.dev.up - (s.dev.ang n).payAt.getD (s.dev.ang n).searchAt →
    Answers (.remoteTimeout n) s fun t => t.dev.get (Reg.ANG_STATE.REASON n) = 4 ∧ t.dev.bit (statusBit bANG (8 + n)) = true
      ∧ t.dev.bit (stickyBit bANG n) = true ∧ s.sameMem t)

/-- With ANG on and not GRAVE and no restricted access. ANG_SRC_WRITE and ANG_TOOTH_WRITE of a domain that is not OFF store the value by its access codes and, for a kind other than 0, make the domain INVALID with reason 8, with INVALID_EVT and the event, and send it to SEARCH; a kind of 0 leaves it OFF. A write of ANG_TOOTH of a domain that is OFF only stores the value. RESYNC of a domain that is not OFF: reason 7, then SEARCH; of one that is OFF: nothing. PHASE_FLIP of a domain that is not OFF: INVALID with reason 3; without a cam input the next synchronisation takes the other occurrence, told from the position counted on. Each of the two sets INVALID_EVT and records the event, unless a condition has done so in the same core clock (R65); a write of a core clock with neither command does. -/
def Obligations.AngleCommands : Prop :=
  (∀ (s : State) (n : Fin 8) (v : Word), s.dev.blockOn bANG = true → s.dev.isGrave bANG = false → s.dev.hostRefused (Reg.ANG_SRC n) = false →
    s.dev.angState n ≠ angOff → (s.dev.ang n).cmdAt ≠ some s.dev.up →
    Answers (.angSrcWrite n v) s fun t => t.dev.word (Reg.ANG_SRC n) = BitVec.ofNat 32 (accessWrite (masksOf bANG (Reg.ANG_SRC n)) (s.dev.word (Reg.ANG_SRC n)).toNat v.toNat)
      ∧ t.dev.angState n = (if t.dev.get (Reg.ANG_SRC.KIND n) = 0 then angOff else angSearch)
      ∧ t.dev.get (Reg.ANG_STATE.REASON n) = 8 ∧ t.dev.bit (statusBit bANG (8 + n)) = true ∧ t.dev.bit (stickyBit bANG n) = true ∧ s.sameMem t)
  ∧ (∀ (s : State) (n : Fin 8) (v : Word), s.dev.blockOn bANG = true → s.dev.isGrave bANG = false → s.dev.hostRefused (Reg.ANG_TOOTH n) = false →
    (s.dev.angState n = angOff →
      Answers (.angToothWrite n v) s fun t => t.dev.word (Reg.ANG_TOOTH n) = BitVec.ofNat 32 (accessWrite (masksOf bANG (Reg.ANG_TOOTH n)) (s.dev.word (Reg.ANG_TOOTH n)).toNat v.toNat)
        ∧ s.dev.onlyWords (· = Reg.ANG_TOOTH n) t.dev ∧ s.sameMem t)
    ∧ (s.dev.angState n ≠ angOff → (s.dev.ang n).cmdAt ≠ some s.dev.up → s.dev.get (Reg.ANG_SRC.KIND n) ≠ 0 →
      Answers (.angToothWrite n v) s fun t => t.dev.word (Reg.ANG_TOOTH n) = BitVec.ofNat 32 (accessWrite (masksOf bANG (Reg.ANG_TOOTH n)) (s.dev.word (Reg.ANG_TOOTH n)).toNat v.toNat)
        ∧ t.dev.angState n = angSearch ∧ t.dev.get (Reg.ANG_STATE.REASON n) = 8 ∧ s.sameMem t))
  ∧ (∀ (s : State) (n : Fin 8), s.dev.blockOn bANG = true → s.dev.isGrave bANG = false → s.dev.hostRefused (Reg.ANG_CMD n) = false →
    (s.dev.angState n ≠ angOff →
      Answers (.resync n) s fun t => t.dev.angState n = angSearch ∧ t.dev.get (Reg.ANG_STATE.REASON n) = 7
        ∧ (s.dev.angState n ≠ angInvalid ∨ (s.dev.ang n).invAt ≠ some s.dev.up → t.dev.bit (statusBit bANG (8 + n)) = true ∧ t.dev.bit (stickyBit bANG n) = true)
        ∧ s.sameMem t)
    ∧ (s.dev.angState n = angOff → Answers (.resync n) s fun t => s.dev.onlyWords (fun _ => False) t.dev ∧ s.sameMem t))
  ∧ (∀ (s : State) (n : Fin 8), s.dev.blockOn bANG = true → s.dev.hostRefused (Reg.ANG_CMD n) = false →
    (s.dev.angState n ≠ angOff →
      Answers (.phaseFlip n) s fun t => t.dev.angState n = angInvalid ∧ t.dev.get (Reg.ANG_STATE.REASON n) = 3
        ∧ (s.dev.bit (Reg.ANG_SRC.CAM_EN n) = false → (t.dev.ang n).flip = true)
        ∧ (s.dev.angState n ≠ angInvalid ∨ (s.dev.ang n).invAt ≠ some s.dev.up →
            (t.dev.ang n).shadow = (if s.dev.angTracked n then some (s.dev.get (Reg.ANG_STATE.POSITION n)) else (s.dev.ang n).shadow)
              ∧ t.dev.bit (statusBit bANG (8 + n)) = true ∧ t.dev.bit (stickyBit bANG n) = true) ∧ s.sameMem t)
    ∧ (s.dev.angState n = angOff → Answers (.phaseFlip n) s fun t => s.dev.onlyWords (fun _ => False) t.dev ∧ s.sameMem t))

/-- MARK_SWAP sets SWAP_PEND and leaves every other word. MARK_EVENT, when the published angle of a VALID or COASTING domain has reached the next enabled mark of the running cycle, fires that mark: later searches start after it. ANGLE_CYCLE_BOUNDARY, when the published cycle count has advanced and the domain runs, moves the domain to the next cycle, and with SWAP_PEND the idle mark bank becomes active. ANGLE_PAYLOAD_SEND of a publishing domain hands over its waiting records: none is left, the sequence number advances, and the records beyond MAX_REC are counted in ANG_PUB_OVF. Of a domain that does not publish: nothing. -/
def Obligations.AngleMarks : Prop :=
  (∀ (s : State) (n : Fin 8), s.dev.blockOn bANG = true → s.dev.hostRefused (Reg.ANG_MARK_CTL n) = false →
    Answers (.markSwap n) s fun t => t.dev.bit (Reg.ANG_MARK_CTL.SWAP_PEND n) = true ∧ s.dev.onlyWords (· = Reg.ANG_MARK_CTL n) t.dev ∧ s.sameMem t)
  ∧ (∀ (s : State) (n : Fin 8) (a : Int) (i : Nat), s.dev.blockOn bANG = true → s.dev.angOk n = true → s.dev.nextMark n = some (a, i) → a ≤ s.dev.pubAngle n →
    Answers (.markEvent n) s fun t => (t.dev.ang n).markAt = a ∧ (t.dev.ang n).markIx = i + 1 ∧ (t.dev.ang n).pub = s.dev.pubAngle n ∧ s.sameMem t)
  ∧ (∀ (s : State) (n : Fin 8), s.dev.blockOn bANG = true → s.dev.angOk n = true → (s.dev.ang n).bcyc < s.dev.pubAngle n / cycleUnits →
    Answers (.angleCycleBoundary n) s fun t => (t.dev.ang n).bcyc = (s.dev.ang n).bcyc + 1
      ∧ t.dev.get (Reg.ANG_MARK_CTL.ACTIVE n) = (if s.dev.bit (Reg.ANG_MARK_CTL.SWAP_PEND n) then 1 - s.dev.get (Reg.ANG_MARK_CTL.ACTIVE n) else s.dev.get (Reg.ANG_MARK_CTL.ACTIVE n))
      ∧ t.dev.bit (Reg.ANG_MARK_CTL.SWAP_PEND n) = false ∧ s.sameMem t)
  ∧ (∀ (s : State) (n : Fin 8), s.dev.blockOn bANG = true →
    (s.dev.bit (Reg.ANG_PUB.EN n) = true →
      Answers (.anglePayloadSend n) s fun t => (t.dev.ang n).recs = [] ∧ (t.dev.ang n).pubSeq = ((s.dev.ang n).pubSeq + 1) % 65536
        ∧ t.dev.get (Reg.ANG_PUB_OVF.COUNT n) = (s.dev.get (Reg.ANG_PUB_OVF.COUNT n)
            + ((s.dev.ang n).recs.length - max 1 (min (s.dev.get (Reg.ANG_PUB.MAX_REC n)) 32))) % 2 ^ 32 ∧ s.sameMem t)
    ∧ (s.dev.bit (Reg.ANG_PUB.EN n) = false → Answers (.anglePayloadSend n) s fun t => s.dev.onlyWords (fun _ => False) t.dev ∧ s.sameMem t))

/-- With the port on. LINK_LOSS of a link that is up: inside a quiet gap of a ring port, or at its end, LINK_UP stays and the loss is held; otherwise LINK_UP falls, LINK_CHANGE is set, PRT_LINK_LOSS_CNT counts and the LINK_LOSS source opens. LINK_UP of a configured port whose auto-negotiation is complete, whose rate in use fits with no mismatch reported since, and 10 µs after the last condition of loss: LINK_UP and LINK_CHANGE are set. PHY_RATE_REPORT of a rate that fits sets SPEED_NOW and completes auto-negotiation; on a ring port a rate that does not fit leaves the link down until one that fits is reported, and is counted and recorded. PRT_MODE_WRITE stores the value; with MODE 0 LINK_UP is 0. -/
def Obligations.PortLinks : Prop :=
  (∀ (s : State) (p : Fin 8) (signal : Bool), s.dev.blockOn (bPRT p) = true → s.dev.linkUp p = true →
    (p.val < 4 → s.dev.inGapOrEnd p = true →
      Answers (.linkLoss p signal) s fun t => t.dev.linkUp p = true ∧ (t.dev.port p).lossAt = some ((s.dev.port p).lossAt.getD s.dev.up)
        ∧ (∀ k, k ≠ statusAddr (bPRT p) → k ≠ statusAddr bIST → t.dev.word k = s.dev.word k) ∧ s.sameMem t)
    ∧ ((4 ≤ p.val ∨ s.dev.inGapOrEnd p = false) →
      Answers (.linkLoss p signal) s fun t => t.dev.linkUp p = false ∧ t.dev.bit (Dev.prtBit p 4) = true ∧ t.dev.bit (stickyBit (bPRT p) 1) = true
        ∧ t.dev.get (Reg.PRT_LINK_LOSS_CNT.COUNT p) = (s.dev.get (Reg.PRT_LINK_LOSS_CNT.COUNT p) + 1) % 2 ^ 32 ∧ s.sameMem t))
  ∧ (∀ (s : State) (p : Fin 8), s.dev.blockOn (bPRT p) = true → s.dev.mode p ≠ 0 → s.dev.linkUp p = false → s.dev.bit (Dev.prtBit p 3) = false →
    (s.dev.port p).rateBad = false → s.dev.lockLong p = true → s.dev.rateFits p (if s.dev.mode p = 2 then 3 else s.dev.rate p) = true →
    Answers (.linkUp p) s fun t => t.dev.linkUp p = true ∧ t.dev.bit (Dev.prtBit p 4) = true ∧ (t.dev.port p).lockAt = some s.dev.up ∧ s.sameMem t)
  ∧ (∀ (s : State) (p : Fin 8) (rate : Fin 5), s.dev.blockOn (bPRT p) = true → s.dev.mode p ≠ 0 →
    (s.dev.rateFits p rate = true →
      Answers (.phyRateReport p rate) s fun t => t.dev.rate p = rate ∧ t.dev.bit (Dev.prtBit p 3) = false
        ∧ (t.dev.port p).rateBad = false ∧ (∀ k, k ≠ statusAddr (bPRT p) → k ≠ Reg.PRT_LINK p → t.dev.word k = s.dev.word k) ∧ s.sameMem t)
    ∧ (p.val < 4 → s.dev.rateFits p rate = false →
      Answers (.phyRateReport p rate) s fun t => t.dev.linkUp p = false ∧ (t.dev.port p).rateBad = true ∧ t.dev.rate p = s.dev.rate p ∧ t.dev.bit (stickyBit (bPRT p) 1) = true
        ∧ t.dev.get (Reg.PRT_LINK_LOSS_CNT.COUNT p) = (s.dev.get (Reg.PRT_LINK_LOSS_CNT.COUNT p) + 1) % 2 ^ 32 ∧ s.sameMem t))
  ∧ (∀ (s : State) (p : Fin 8) (v : Word), s.dev.blockOn (bPRT p) = true → s.dev.hostRefused (Reg.PRT_MODE p) = false →
    Answers (.prtModeWrite p v) s fun t => t.dev.word (Reg.PRT_MODE p)
        = BitVec.ofNat 32 (accessWrite (masksOf (bPRT p) (Reg.PRT_MODE p)) (s.dev.word (Reg.PRT_MODE p)).toNat v.toNat)
      ∧ (t.dev.mode p = 0 → t.dev.linkUp p = false) ∧ (t.dev.mode p ≠ 0 → t.dev.linkUp p = s.dev.linkUp p) ∧ s.sameMem t)

/-- With the port on and no restricted access. RENEG of an edge port drops LINK_UP and starts auto-negotiation at SPEED_MAX; of a ring port it does nothing. RECAL leaves a soft request pending and nothing else in registers. CLEAR_STATS makes every PRT_RX_ and PRT_TX_ counter and half bit of the port 0 and leaves every other word, PRT_WINDOW_LOST among them. MDIO_COMMAND with START on an idle bus sends the management frame and reads START 1; while START is 1 it has no effect. MDIO_DONE of the host's command on the bus clears START, sets MDIO_DONE and, for a read, shows the result in DATA. -/
def Obligations.PortCommands : Prop :=
  (∀ (s : State) (p : Fin 8), s.dev.blockOn (bPRT p) = true → s.dev.hostRefused (Reg.PRT_CMD p) = false →
    (4 ≤ p.val → Answers (.reneg p) s fun t => t.dev.linkUp p = false ∧ t.dev.bit (Dev.prtBit p 3) = true
      ∧ (t.dev.port p).renegRate = s.dev.get (Reg.PRT_MODE.SPEED_MAX p) ∧ s.sameMem t)
    ∧ (p.val < 4 → Answers (.reneg p) s fun t => s.dev.onlyWords (fun _ => False) t.dev ∧ s.sameMem t)
    ∧ (Answers (.recal p) s fun t => t.dev.bit (Reg.PRT_SYNTH.SOFT_REQ p) = true ∧ (∀ k, k ≠ Reg.PRT_SYNTH p → t.dev.word k = s.dev.word k) ∧ s.sameMem t)
    ∧ (Answers (.clearStats p) s fun t => (∀ i < 22, t.dev.word (Reg.PRT_RX_CNT p i) = 0) ∧ (∀ i < 18, t.dev.word (Reg.PRT_TX_CNT p i) = 0)
      ∧ t.dev.word (Reg.PRT_HALF_RX p) = 0 ∧ t.dev.word (Reg.PRT_HALF_TX p) = 0
      ∧ s.dev.onlyWords (fun k => (∃ i < 22, k = Reg.PRT_RX_CNT p i) ∨ (∃ i < 18, k = Reg.PRT_TX_CNT p i) ∨ k = Reg.PRT_HALF_RX p ∨ k = Reg.PRT_HALF_TX p) t.dev
      ∧ s.sameMem t))
  ∧ (∀ (s : State) (p : Fin 8) (v : Word), s.dev.blockOn (bPRT p) = true → s.dev.hostRefused (Reg.PRT_MDIO p) = false →
    (s.dev.bit (Reg.PRT_MDIO.START p) = true → Answers (.mdioCommand p v) s fun t => s.dev.onlyWords (fun _ => False) t.dev ∧ s.sameMem t)
    ∧ (s.dev.bit (Reg.PRT_MDIO.START p) = false → wbit v 31 = true → s.dev.mdio = [] →
      Answers (.mdioCommand p v) s fun t => t.dev.bit (Reg.PRT_MDIO.START p) = true ∧ t.dev.mdio = [(p.val, v.toNat, false)]
        ∧ Output.mdio p (s.dev.mdioFrame p v.toNat) ∈ t.dev.out ∧ (∀ k, k ≠ Reg.PRT_MDIO p → t.dev.word k = s.dev.word k) ∧ s.sameMem t))
  ∧ (∀ (s : State) (p : Fin 8) (data : BitVec 16) (w : Nat) (rest : List (Nat × Nat × Bool)), s.dev.blockOn (bPRT p) = true →
    s.dev.mdio = (p.val, w, false) :: rest →
    Answers (.mdioDone p data) s fun t => t.dev.bit (Reg.PRT_MDIO.START p) = false ∧ t.dev.bit (Dev.prtBit p 9) = true ∧ t.dev.mdio = rest
      ∧ t.dev.get (Reg.PRT_MDIO.DATA p) = (if w / 2 ^ 29 % 4 = 2 ∨ (w / 2 ^ 29 % 4 = 3 ∧ s.dev.bit (Reg.PRT_PHY.CL45 p) = true) then data.toNat else s.dev.get (Reg.PRT_MDIO.DATA p))
      ∧ (∀ k, k ≠ Reg.PRT_MDIO p → k ≠ statusAddr (bPRT p) → t.dev.word k = s.dev.word k) ∧ s.sameMem t)

/-- With the port on. SOFT_REQUEST and HARD_REQUEST alike: TUNE_NOW shows the position; between 1 and 254 a position outside the soft margin leaves a request pending; 0 or 255 records TX_PLL_UNLOCK, takes the frame off the line and recalibrates at once. RECALIBRATION_START at the first idle instant of a quiet gap, with 30 µs left and the other ring healthy, starts a pending request, as does EDGE_RECALIBRATION_START of an idle edge port on which no scheduled gate opens for 40 µs. RECAL_DONE settles: TUNE_NOW 128, no request, counted. QUIET_GAP_END counts a request pending since the start of the gap as deferred, once. LOS_MASKED within 30 µs only counts a held loss; MASKED_LOSS_REPORT after 30 µs declares it. -/
def Obligations.PortRecalibration : Prop :=
  (∀ (s : State) (p : Fin 8) (tune : BitVec 8), s.dev.blockOn (bPRT p) = true → tune ≠ 0 → tune ≠ 255 →
    (Answers (.softRequest p tune) s fun t => t.dev.get (Reg.PRT_SYNTH.TUNE_NOW p) = tune.toNat
      ∧ t.dev.bit (Reg.PRT_SYNTH.SOFT_REQ p) = (s.dev.bit (Reg.PRT_SYNTH.SOFT_REQ p) || decide (tune.toNat < s.dev.softMargin p) || decide (255 - s.dev.softMargin p < tune.toNat))
      ∧ (∀ k, k ≠ Reg.PRT_SYNTH p → t.dev.word k = s.dev.word k) ∧ s.sameMem t)
    ∧ (Answers (.hardRequest p tune) s fun t => t.dev.get (Reg.PRT_SYNTH.TUNE_NOW p) = tune.toNat
      ∧ t.dev.bit (Reg.PRT_SYNTH.SOFT_REQ p) = (s.dev.bit (Reg.PRT_SYNTH.SOFT_REQ p) || decide (tune.toNat < s.dev.softMargin p) || decide (255 - s.dev.softMargin p < tune.toNat))
      ∧ (∀ k, k ≠ Reg.PRT_SYNTH p → t.dev.word k = s.dev.word k) ∧ s.sameMem t))
  ∧ (∀ (s : State) (p : Fin 8) (tune : BitVec 8), s.dev.blockOn (bPRT p) = true → (tune = 0 ∨ tune = 255) →
    (Answers (.softRequest p tune) s fun t => t.dev.get (Reg.PRT_SYNTH.TUNE_NOW p) = tune.toNat ∧ t.dev.bit (stickyBit (bPRT p) 0) = true ∧ t.dev.txSettled p = false
      ∧ t.dev.bit (Reg.PRT_SYNTH.RECAL_ACTIVE p) = true ∧ (t.dev.port p).line = none ∧ (t.dev.port p).recalAt = some s.dev.up ∧ s.sameMem t)
    ∧ (Answers (.hardRequest p tune) s fun t => t.dev.get (Reg.PRT_SYNTH.TUNE_NOW p) = tune.toNat ∧ t.dev.bit (stickyBit (bPRT p) 0) = true ∧ t.dev.txSettled p = false
      ∧ t.dev.bit (Reg.PRT_SYNTH.RECAL_ACTIVE p) = true ∧ (t.dev.port p).line = none ∧ (t.dev.port p).recalAt = some s.dev.up ∧ s.sameMem t))
  ∧ (∀ (s : State) (p : Fin 8) (g : Nat × Nat) (t0 t1 : Nat), s.dev.blockOn (bPRT p) = true → p.val < 4 → s.dev.bit (Reg.PRT_SYNTH.SOFT_REQ p) = true →
    s.dev.bit (Reg.PRT_SYNTH.RECAL_ACTIVE p) = false → s.dev.inGap p = some g →
    t0 = s.dev.up - ((s.dev.ringSchedule (Dev.ringOf p)).phase s.dev.now - g.1 * 65536) / 65536 → s.dev.firstIdle p t0 = some t1 →
    s.dev.up < t1 + 2 → t1 - t0 + 30000 ≤ g.2 - g.1 → s.dev.ringHealthy (1 - Dev.ringOf p) = true →
    Answers (.recalibrationStart p) s fun t => t.dev.bit (Reg.PRT_SYNTH.RECAL_ACTIVE p) = true ∧ t.dev.txSettled p = false ∧ (t.dev.port p).recalAt = some s.dev.up
      ∧ (∀ k, k ≠ Reg.PRT_SYNTH p → k ≠ statusAddr (bPRT p) → t.dev.word k = s.dev.word k) ∧ s.sameMem t)
  ∧ (∀ (s : State) (p : Fin 8), s.dev.blockOn (bPRT p) = true → 4 ≤ p.val → s.dev.bit (Reg.PRT_SYNTH.SOFT_REQ p) = true →
    s.dev.bit (Reg.PRT_SYNTH.RECAL_ACTIVE p) = false → s.dev.txIdle p = true →
    (∀ c < 8, s.dev.carriesScheduled p c = true → s.dev.closedThrough p c s.dev.now (s.dev.now + 40000 * 65536) = true) →
    Answers (.edgeRecalibrationStart p) s fun t => t.dev.bit (Reg.PRT_SYNTH.RECAL_ACTIVE p) = true ∧ t.dev.txSettled p = false
      ∧ (t.dev.port p).recalAt = some s.dev.up ∧ (∀ k, k ≠ Reg.PRT_SYNTH p → k ≠ statusAddr (bPRT p) → t.dev.word k = s.dev.word k) ∧ s.sameMem t)
  ∧ (∀ (s : State) (p : Fin 8), s.dev.blockOn (bPRT p) = true → s.dev.bit (Reg.PRT_SYNTH.RECAL_ACTIVE p) = true →
    Answers (.recalDone p) s fun t => t.dev.txSettled p = true ∧ t.dev.bit (Dev.prtBit p 5) = true ∧ t.dev.bit (Reg.PRT_SYNTH.RECAL_ACTIVE p) = false
      ∧ t.dev.bit (Reg.PRT_SYNTH.SOFT_REQ p) = false ∧ t.dev.get (Reg.PRT_SYNTH.TUNE_NOW p) = 128
      ∧ t.dev.get (Reg.PRT_RECAL_CNT.COUNT p) = (s.dev.get (Reg.PRT_RECAL_CNT.COUNT p) + 1) % 2 ^ 32
      ∧ (∀ k, k ≠ Reg.PRT_SYNTH p → k ≠ statusAddr (bPRT p) → k ≠ Reg.PRT_RECAL_CNT p → t.dev.word k = s.dev.word k) ∧ s.sameMem t)
  ∧ (∀ (s : State) (p : Fin 8) (t0 : Nat), s.dev.blockOn (bPRT p) = true → p.val < 4 → s.dev.gapEnded p = some t0 → s.dev.bit (Reg.PRT_SYNTH.SOFT_REQ p) = true →
    s.dev.bit (Reg.PRT_SYNTH.RECAL_ACTIVE p) = false → (s.dev.port p).softAt ≤ t0 → (∀ t1, (s.dev.port p).gapCounted = some t1 → t1 + 1000 < t0) →
    Answers (.quietGapEnd p) s fun t => (t.dev.port p).gapCounted = some t0 ∧ t.dev.get (Reg.PRT_RECAL_DEFER.COUNT p) = (s.dev.get (Reg.PRT_RECAL_DEFER.COUNT p) + 1) % 2 ^ 32
      ∧ t.dev.bit (Dev.prtBit p 6) = true ∧ (∀ k, k ≠ Reg.PRT_RECAL_DEFER p → k ≠ statusAddr (bPRT p) → t.dev.word k = s.dev.word k) ∧ s.sameMem t)
  ∧ (∀ (s : State) (p : Fin 8) (t0 t1 : Nat), p.val < 4 → s.dev.gapEnded p = some t0 → (s.dev.port p).gapCounted = some t1 → t0 ≤ t1 + 1000 →
    Answers (.quietGapEnd p) s fun t => (∀ k, t.dev.word k = s.dev.word k) ∧ s.sameMem t)
  ∧ (∀ (s : State) (p : Fin 8) (t0 : Nat), s.dev.blockOn (bPRT p) = true → (s.dev.port p).lossAt = some t0 →
    (s.dev.up < t0 + 30000 → Answers (.losMasked p) s fun t => (t.dev.port p).lossAt = none ∧ t.dev.linkUp p = s.dev.linkUp p
      ∧ t.dev.get (Reg.PRT_LOS_MASKED.COUNT p) = (s.dev.get (Reg.PRT_LOS_MASKED.COUNT p) + 1) % 2 ^ 32
      ∧ (∀ k, k ≠ Reg.PRT_LOS_MASKED p → k ≠ statusAddr (bPRT p) → t.dev.word k = s.dev.word k) ∧ s.sameMem t)
    ∧ (t0 + 30000 ≤ s.dev.up → Answers (.maskedLossReport p) s fun t => (t.dev.port p).lossAt = none ∧ t.dev.linkUp p = false
      ∧ t.dev.bit (stickyBit (bPRT p) 1) = true
      ∧ t.dev.get (Reg.PRT_LINK_LOSS_CNT.COUNT p) = (s.dev.get (Reg.PRT_LINK_LOSS_CNT.COUNT p) + 1) % 2 ^ 32 ∧ s.sameMem t))

/-- With the port on. DOWNSHIFT of an edge port with DS_EN, LINK_UP and nothing that forbids a shift (R82), idle for DWELL and with no shift in that time, drops the link, restarts auto-negotiation at the next lower rate, sets its event bit and counts; UPSHIFT does the same to the next higher rate when the last millisecond exceeded UP_PCT. PHY_INT low with INT_EN sets the PHY_INT event. EQ_LIMIT, not frozen, leaves the setting at the limit and records source 2; frozen it does nothing. PCS_ERR records source 3 and changes nothing else. -/
def Obligations.PortRates : Prop :=
  (∀ (s : State) (p : Fin 8) (r t0 : Nat), s.dev.blockOn (bPRT p) = true → s.dev.shifts p = true → s.dev.linkUp p = true →
    s.dev.dwellOver p = true → s.dev.lowerRate p = some r → (s.dev.port p).belowAt = some t0 → t0 + s.dev.dwellNs p ≤ s.dev.up →
    Answers (.downshift p) s fun t => t.dev.linkUp p = false ∧ t.dev.bit (Dev.prtBit p 3) = true ∧ (t.dev.port p).renegRate = r ∧ t.dev.bit (Dev.prtBit p 7) = true
      ∧ t.dev.get (Reg.PRT_DS_CNT.COUNT p) = (s.dev.get (Reg.PRT_DS_CNT.COUNT p) + 1) % 2 ^ 32 ∧ (t.dev.port p).shiftAt = some s.dev.up ∧ s.sameMem t)
  ∧ (∀ (s : State) (p : Fin 8) (r : Nat), s.dev.blockOn (bPRT p) = true → s.dev.shifts p = true → s.dev.linkUp p = true →
    s.dev.dwellOver p = true → s.dev.higherRate p = some r →
    (Dev.pct (s.dev.get (Reg.PRT_DS.UP_PCT p)) * rateKbps (s.dev.rate p) < 800 * max (s.dev.port p).txLast (s.dev.port p).rxLast) →
    Answers (.upshift p) s fun t => t.dev.linkUp p = false ∧ t.dev.bit (Dev.prtBit p 3) = true ∧ (t.dev.port p).renegRate = r ∧ t.dev.bit (Dev.prtBit p 7) = true
      ∧ t.dev.get (Reg.PRT_DS_CNT.COUNT p) = (s.dev.get (Reg.PRT_DS_CNT.COUNT p) + 1) % 2 ^ 32 ∧ (t.dev.port p).shiftAt = some s.dev.up ∧ s.sameMem t)
  ∧ (∀ (s : State) (p : Fin 8) (low : Bool), s.dev.blockOn (bPRT p) = true →
    Answers (.phyInt p low) s fun t => (t.dev.port p).phyLow = low
      ∧ t.dev.bit (Dev.prtBit p 10) = (s.dev.bit (Dev.prtBit p 10) || (low && s.dev.bit (Reg.PRT_PHY.INT_EN p)))
      ∧ (∀ k, k ≠ statusAddr (bPRT p) → t.dev.word k = s.dev.word k) ∧ s.sameMem t)
  ∧ (∀ (s : State) (p : Fin 8) (high : Bool), s.dev.blockOn (bPRT p) = true →
    ((s.dev.bit (Reg.PRT_EQ.EQ_FREEZE p) = true ∨ s.dev.bit (ctlBit (bPRT p) 16) = true) → Answers (.eqLimit p high) s fun t => s.dev.onlyWords (fun _ => False) t.dev ∧ s.sameMem t)
    ∧ (s.dev.bit (Reg.PRT_EQ.EQ_FREEZE p) = false → s.dev.bit (ctlBit (bPRT p) 16) = false →
      Answers (.eqLimit p high) s fun t => t.dev.bit (stickyBit (bPRT p) 2) = true
        ∧ t.dev.get (Reg.PRT_EQ.CTLE_NOW p) = (if high then s.dev.get (Reg.PRT_EQ.CTLE_MAX p) else min (s.dev.get (Reg.PRT_EQ.CTLE_MAX p)) (s.dev.get (Reg.PRT_EQ.CTLE_MIN p)))
        ∧ s.dev.onlyWordsAndFaults (fun k => k = Reg.PRT_EQ p ∨ Dev.faultWords (bPRT p) k) t.dev ∧ s.sameMem t))
  ∧ (∀ (s : State) (p : Fin 8), s.dev.blockOn (bPRT p) = true →
    Answers (.pcsErr p) s fun t => t.dev.bit (stickyBit (bPRT p) 3) = true ∧ s.dev.onlyWordsAndFaults (Dev.faultWords (bPRT p)) t.dev ∧ s.sameMem t)

/-- FRAME_RECEIVED at an edge port of a good frame that no device function takes and whose first matching rule steers it to an enabled, unbound queue with room: the frame is at the end of that queue and its octets are in the Locker. With a bad FCS: counted as an error, and no queue and no frame in the Locker changes. A frame cut short by the fall of LINK_UP counts as one FCS error. RULE_SWAP is noted, no word changing, and has no effect while an earlier one has yet to take effect; 2.5 ns later, at the third tick, the idle bank is active and the event bit set. FAULT_NOTICE_RECEIVED on an enabled, unwrapped ring below the limit sets the sender's bit of the notice map and counts. NOTICE_ACK closes the incident and changes nothing else. -/
def Obligations.FrameReceived : Prop :=
  (∀ (s : State) (p : Fin 8) (f : RxFrame) (r : Nat), 4 ≤ p.val → s.dev.goodArrival p f = true → s.dev.isPtp p f.data = false → s.dev.isOdeivo p f.data = false →
    (s.dev.rulesOn s.dev.ruleBank).find? (fun r => s.dev.ruleHolds s.dev.ruleBank r p (parse f.data) (s.dev.identify (parse f.data))) = some r →
    s.dev.get (Reg.FRM_RULE_A.ACTION s.dev.ruleBank r) = 1 →
    s.dev.bit (Reg.FRM_Q_A.EN (16 * p + s.dev.get (Reg.FRM_RULE_A.QIDX s.dev.ruleBank r))) = true →
    s.dev.get (Reg.FRM_Q_A.BIND (16 * p + s.dev.get (Reg.FRM_RULE_A.QIDX s.dev.ruleBank r))) = 0 →
    ((Tab.get (fun _ => []) s.dev.rxQ (16 * p + s.dev.get (Reg.FRM_RULE_A.QIDX s.dev.ruleBank r))).filter fun (e : RxQEnt) => e.ctx.isNone).length
      < s.dev.get (Reg.FRM_Q_A.DEPTH (16 * p + s.dev.get (Reg.FRM_RULE_A.QIDX s.dev.ruleBank r))) →
    (∃ sh, s.dev.allocCheck (.queue (16 * p + s.dev.get (Reg.FRM_RULE_A.QIDX s.dev.ruleBank r))) (frameLen f.data) = .ok sh) →
    Answers (.frameReceived p f) s fun t =>
      (∃ d, Tab.get (fun _ => []) t.dev.rxQ (16 * p + s.dev.get (Reg.FRM_RULE_A.QIDX s.dev.ruleBank r))
          = Tab.get (fun _ => []) s.dev.rxQ (16 * p + s.dev.get (Reg.FRM_RULE_A.QIDX s.dev.ruleBank r)) ++ [({ desc := d, ctx := none } : RxQEnt)]
        ∧ (t.dev.frameOf d).data = f.data) ∧ s.sameMem t)
  ∧ (∀ (s : State) (p : Fin 8) (f : RxFrame), s.dev.goodArrival p { f with fcsOk := true } = true → f.fcsOk = false →
    Answers (.frameReceived p f) s fun t =>
      t.dev.get (Reg.PRT_RX_CNT.COUNT p 16) = (s.dev.get (Reg.PRT_RX_CNT.COUNT p 16) + 1) % 2 ^ 32 ∧ t.dev.rxQ = s.dev.rxQ ∧ t.dev.frames = s.dev.frames
        ∧ (∀ k, k ≠ Reg.PRT_RX_CNT p 15 → k ≠ Reg.PRT_RX_CNT p 16 → k ≠ Reg.PRT_HALF_RX p → t.dev.word k = s.dev.word k) ∧ s.sameMem t)
  ∧ (∀ (s : State) (p : Fin 8) (f : RxFrame), f.cut = true → s.dev.blockOn (bPRT p) = true → (s.dev.port p).cutDue = true →
    Answers (.frameReceived p f) s fun t => t.dev.get (Reg.PRT_RX_CNT.COUNT p 16) = (s.dev.get (Reg.PRT_RX_CNT.COUNT p 16) + 1) % 2 ^ 32
      ∧ (t.dev.port p).cutDue = false ∧ (∀ k, k ≠ Reg.PRT_RX_CNT p 16 → k ≠ Reg.PRT_HALF_RX p → t.dev.word k = s.dev.word k) ∧ s.sameMem t)
  ∧ (∀ s : State, s.dev.blockOn bFRM = true → s.dev.hostRefused Reg.FRM_RULE_CTL = false →
    (s.dev.ruleSwapAt = none →
      Answers .ruleSwap s fun t => t.dev.ruleSwapAt = some s.dev.up ∧ (∀ k, t.dev.word k = s.dev.word k) ∧ s.sameMem t)
    ∧ (s.dev.ruleSwapAt ≠ none → Answers .ruleSwap s fun t => s.dev.onlyWords (fun _ => False) t.dev ∧ s.sameMem t))
  ∧ (∀ (s : State) (t0 : Nat), s.pending = [] → s.dev.ruleSwapAt = some t0 →
    (s.dev.up + 1 < t0 + 3 → ∃ t, step s = .next t ∧ t.dev.ruleBank = s.dev.ruleBank ∧ t.dev.ruleSwapAt = some t0)
    ∧ (t0 + 3 ≤ s.dev.up + 1 → ∃ t, step s = .next t ∧ t.dev.ruleBank = 1 - s.dev.ruleBank ∧ t.dev.bit (statusBit bFRM 3) = true ∧ t.dev.ruleSwapAt = none))
  ∧ (∀ (s : State) (p : Fin 8) (f : RxFrame), s.dev.isControl p f 3 = true → s.dev.goodArrival p f = true → s.dev.ringEn (Dev.ringOf p) = true →
    s.dev.wrapped p = false → (s.dev.ring (Dev.ringOf p)).notices < s.dev.noticeLimit →
    Answers (.faultNoticeReceived p f) s fun t =>
      t.dev.bit ⟨Reg.FRM_NOTICE_MAP (fieldBE f.data 16 2 / 32), fieldBE f.data 16 2 % 32, 1⟩ = true
        ∧ t.dev.get Reg.FRM_NOTICE_CNT.COUNT = (s.dev.get Reg.FRM_NOTICE_CNT.COUNT + 1) % 2 ^ 32
        ∧ t.dev.bit Reg.FRM_NOTICE_CTL.OPEN = true
        ∧ (t.dev.ring (Dev.ringOf p)).notices = (s.dev.ring (Dev.ringOf p)).notices + 1 ∧ s.sameMem t)
  ∧ (∀ s : State, s.dev.blockOn bFRM = true → s.dev.hostRefused Reg.FRM_NOTICE_CTL = false →
    Answers .noticeAck s fun t => t.dev.bit Reg.FRM_NOTICE_CTL.OPEN = false ∧ s.dev.onlyWords (· = Reg.FRM_NOTICE_CTL) t.dev ∧ s.sameMem t)

/-- FRAME_TRANSMIT_START at a free transmitter, where selection names a class: with no pre-empted frame the frame that class sends next, its head but for own frames of a ring whose table does not match (R173), leaves the queue and is on the line, with its egress stamp; a pre-empted frame of that class continues. FRAME_TRANSMIT_END with no bad granule: what was left of the frame goes out with a good FCS, the line is free and the size counter counts; with a bad one it goes out with an inverted FCS and records an event. PREEMPT_FRAGMENT_END at the last boundary before a close, or the first for an express frame, once it has been sent: the octets so far go out and the frame awaits its continuation. HOLD_ABANDON after one CYCLE_TIME (1 ms without gating) abandons it and records an event of source 2 of the Reef. -/
def Obligations.FrameTransmit : Prop :=
  (∀ (s : State) (p : Fin 8) (c : Nat) (e : QEnt), s.dev.blockOn (bPRT p) = true → (s.dev.port p).line = none → (s.dev.port p).mpTill ≤ s.dev.up →
    (s.dev.port p).hold = none → s.dev.selectClass p = some c → s.dev.headOf p c = some e → e.sent = 0 →
    Answers (.frameTransmitStart p) s fun t =>
      (∃ l, (t.dev.port p).line = some l ∧ l.cls = c ∧ l.ent.desc = e.desc ∧ l.start = s.dev.egressStamp p ∧ (e.fix = .none → l.ent = e))
        ∧ t.dev.classQueue p c = (s.dev.classQueue p c).erase e ∧ (∀ k, t.dev.word k = s.dev.word k) ∧ s.sameMem t)
  ∧ (∀ (s : State) (p : Fin 8) (h : TxHold), s.dev.blockOn (bPRT p) = true → (s.dev.port p).line = none → (s.dev.port p).mpTill ≤ s.dev.up →
    (s.dev.port p).hold = some h → s.dev.selectClass p = some h.cls → 0 < h.ent.sent →
    Answers (.frameTransmitStart p) s fun t =>
      (t.dev.port p).line = some { ent := h.ent, cls := h.cls, start := s.dev.egressStamp p, pre := s.dev.preemptActive p && !s.dev.isExpress p h.cls, fcnt := h.fcnt }
        ∧ (t.dev.port p).hold = none ∧ t.dev.classQ = s.dev.classQ ∧ (∀ k, t.dev.word k = s.dev.word k) ∧ s.sameMem t)
  ∧ (∀ (s : State) (p : Fin 8) (corr : Nat) (l : TxLine), s.dev.blockOn (bPRT p) = true → (s.dev.port p).line = some l →
    Answers (.frameTransmitEnd p corr none) s fun t => (t.dev.port p).line = none ∧ Output.frame p (l.ent.data.drop l.ent.sent) false ∈ t.dev.out
      ∧ t.dev.get (Reg.PRT_TX_CNT.COUNT p (sizeBin (frameLen l.ent.data))) = (s.dev.get (Reg.PRT_TX_CNT.COUNT p (sizeBin (frameLen l.ent.data))) + 1) % 2 ^ 32
      ∧ t.dev.get Reg.FRM_ECC_CORR.COUNT = (s.dev.get Reg.FRM_ECC_CORR.COUNT + corr) % 2 ^ 32 ∧ s.sameMem t)
  ∧ (∀ (s : State) (p : Fin 8) (corr i g : Nat) (l : TxLine), s.dev.blockOn (bPRT p) = true → (s.dev.port p).line = some l →
    (s.dev.frameOf l.ent.desc).granules[i]? = some g →
    Answers (.frameTransmitEnd p corr (some i)) s fun t => (t.dev.port p).line = none ∧ Output.frame p (l.ent.data.drop l.ent.sent) true ∈ t.dev.out
      ∧ t.dev.bit (stickyBit bFRM 0) = true ∧ s.sameMem t)
  ∧ (∀ (s : State) (p : Fin 8) (sent k : Nat) (l : TxLine), s.dev.blockOn (bPRT p) = true → (s.dev.port p).line = some l → l.pre = true →
    s.dev.firstBoundary p l.ent.sent (frameLen l.ent.data) = some k → k ≤ sent → sent + 64 ≤ frameLen l.ent.data →
    (s.dev.closeBoundary p l = some sent ∨ s.dev.expressBoundary p l k sent = true) →
    s.dev.lineStart p l + s.dev.octetsTime p (sent - l.ent.sent + 24) ≤ s.dev.now + 65536 →
    Answers (.preemptFragmentEnd p sent) s fun t => (t.dev.port p).line = none
      ∧ (t.dev.port p).hold = some { ent := { l.ent with sent := sent }, cls := l.cls, endedAt := s.dev.smooth, fcnt := l.fcnt }
      ∧ Output.fragment p l.fcnt ((l.ent.data.take sent).drop l.ent.sent) ∈ t.dev.out
      ∧ (∀ k, k ≠ Reg.PRT_TX_CNT p 15 → k ≠ Reg.PRT_HALF_TX p → t.dev.word k = s.dev.word k) ∧ s.sameMem t)
  ∧ (∀ (s : State) (p : Fin 8) (h : TxHold), s.dev.blockOn (bPRT p) = true → (s.dev.port p).hold = some h →
    h.endedAt + (if s.dev.bit (Reg.GTE_PORT_CTL.GATE_EN p) then (s.dev.schedule p (s.dev.gclActive p)).cycle else 1000000 : Nat) * 65536 < s.dev.smooth →
    Answers (.holdAbandon p) s fun t => (t.dev.port p).hold = none ∧ t.dev.bit (stickyBit bGTE 2) = true
      ∧ t.dev.get (Reg.PRT_TX_CNT.COUNT p 17) = (s.dev.get (Reg.PRT_TX_CNT.COUNT p 17) + 1) % 2 ^ 32 ∧ s.sameMem t)

/-- GATE_STATE_CHANGE while a list runs and no backward step holds the gates: GTE_CUR_ENTRY shows the entry that the active schedule gives at the present instant. GCL_SWAP while none is pending: an admissible idle bank arms the swap; one that fails a check, of this port or of another, is refused with GTE_ADMIT naming the port, and nothing else changes. CHANGE_POINT once the pending point is reached: the idle bank is active, the swap is no longer pending, its event bit is set. GATE_EN_WRITE of 0: GATE_EN is 0 and every gate is open. SHAPER_WRITE stores the value and resets the credit to CBS_HI with RESET_FULL, else to 0. -/
def Obligations.GateLists : Prop :=
  (∀ (s : State) (p : Fin 8), s.dev.gating p = true → (s.dev.port p).freezeTill = none →
    Answers (.gateStateChange p) s fun t =>
      t.dev.get (Reg.GTE_CUR_ENTRY.GATE_STATE p) = ((s.dev.schedule p (s.dev.gclActive p)).at s.dev.now).2 % 2 ^ 8
        ∧ t.dev.get (Reg.GTE_CUR_ENTRY.ENTRY p) = ((s.dev.schedule p (s.dev.gclActive p)).at s.dev.now).1 % 2 ^ 10
        ∧ t.dev.get (Reg.GTE_CUR_ENTRY.BANK p) = s.dev.gclActive p ∧ s.sameMem t)
  ∧ (∀ (s : State) (p : Fin 8), s.dev.blockOn bGTE = true → s.dev.hostRefused (Reg.GTE_GCL_CTL p) = false → s.dev.bit (Reg.GTE_GCL_CTL.SWAP_PEND p) = false →
    (s.dev.gteCheck p (1 - s.dev.gclActive p) = none →
      Answers (.gclSwap p) s fun t => t.dev.bit (Reg.GTE_GCL_CTL.SWAP_PEND p) = true ∧ (t.dev.port p).swapAt = s.dev.now
        ∧ (∀ k, k ≠ Reg.GTE_GCL_CTL p → t.dev.word k = s.dev.word k) ∧ s.sameMem t)
    ∧ (∀ code q c, s.dev.gteCheck p (1 - s.dev.gclActive p) = some (code, q, c) →
      Answers (.gclSwap p) s fun t => t.dev.word Reg.GTE_ADMIT = BitVec.ofNat 32 (c * 2 ^ 20 + q * 2 ^ 16 + code)
        ∧ s.dev.onlyWords (· = Reg.GTE_ADMIT) t.dev ∧ s.sameMem t))
  ∧ (∀ (s : State) (p : Fin 8), s.dev.bit (Reg.GTE_GCL_CTL.SWAP_PEND p) = true → s.dev.pendingPoint p ≤ s.dev.now →
    Answers (.changePoint p) s fun t => t.dev.gclActive p = 1 - s.dev.gclActive p ∧ t.dev.bit (Reg.GTE_GCL_CTL.SWAP_PEND p) = false
      ∧ t.dev.bit (statusBit bGTE p) = true ∧ t.dev.gating p = s.dev.bit (Reg.GTE_PORT_CTL.GATE_EN p) ∧ s.sameMem t)
  ∧ (∀ (s : State) (p : Fin 8), s.dev.blockOn bGTE = true → s.dev.hostRefused (Reg.GTE_PORT_CTL p) = false →
    (Answers (.gateEnWrite p false) s fun t => t.dev.bit (Reg.GTE_PORT_CTL.GATE_EN p) = false ∧ t.dev.gatesAt p t.dev.now = 0xFF
      ∧ t.dev.get (Reg.GTE_CUR_ENTRY.GATE_STATE p) = 0xFF ∧ s.sameMem t)
    ∧ (Answers (.gateEnWrite p true) s fun t => t.dev.bit (Reg.GTE_PORT_CTL.GATE_EN p) = true ∧ t.dev.gating p = s.dev.gating p
      ∧ (∀ k, k ≠ Reg.GTE_PORT_CTL p → t.dev.word k = s.dev.word k) ∧ s.sameMem t))
  ∧ (∀ (s : State) (p c : Fin 8) (reg : Fin 4) (v : Word), s.dev.blockOn bGTE = true → s.dev.hostRefused (Dev.shaperKey p c reg) = false →
    Answers (.shaperWrite p c reg v) s fun t => t.dev.word (Dev.shaperKey p c reg) = s.dev.written bGTE (Dev.shaperKey p c reg) v
      ∧ (t.dev.credit p c).credit = (if t.dev.bit (Reg.GTE_CBS_CTL.RESET_FULL p c) then t.dev.getS (Reg.GTE_CBS_HI.HI p c) * (65536 * 1000000) else 0)
      ∧ (t.dev.credit p c).at' = s.dev.smooth ∧ (∀ k, k ≠ Dev.shaperKey p c reg → t.dev.word k = s.dev.word k) ∧ s.sameMem t)

/-- With the port on: a due verify mPacket that may be sent goes out, counts an attempt and starts VERIFY_TIME; a due respond mPacket goes out; each occupies the line for its length. A verify mPacket received with EN 1 makes a respond mPacket due. A respond mPacket received while verifying: SUCCEEDED, with the event bit. VERIFY_TIMEOUT: another verify mPacket is due, or after three attempts FAILED, with the event bit and the source. PREEMPT_CFG_WRITE stores the value: with EN 0 or VERIFY_DIS 1 verification is idle; where they change to demand it, it starts if the link is up and waits for the link otherwise. -/
def Obligations.PreemptVerify : Prop :=
  (∀ (s : State) (p : Fin 8), s.dev.blockOn (bPRT p) = true → s.dev.mpacketOk p = true →
    ((s.dev.port p).verifyDue = true → Answers (.verifyMpacketSend p) s fun t => Output.mpacket p false ∈ t.dev.out ∧ (t.dev.port p).verifyDue = false
      ∧ (t.dev.port p).attempts = (s.dev.port p).attempts + 1 ∧ (t.dev.port p).verifyAt = some s.dev.up ∧ (t.dev.port p).mpTill = s.dev.mpacketEnd p ∧ (∀ k, t.dev.word k = s.dev.word k) ∧ s.sameMem t)
    ∧ ((s.dev.port p).respondDue = true → Answers (.respondMpacketSend p) s fun t => Output.mpacket p true ∈ t.dev.out ∧ (t.dev.port p).respondDue = false
      ∧ (t.dev.port p).mpTill = s.dev.mpacketEnd p ∧ (∀ k, t.dev.word k = s.dev.word k) ∧ s.sameMem t))
  ∧ (∀ (s : State) (p : Fin 8), s.dev.blockOn (bPRT p) = true → s.dev.bit (Reg.GTE_PREEMPT.EN p) = true →
    Answers (.verifyMpacketReceived p) s fun t => (t.dev.port p).respondDue = true ∧ (∀ k, t.dev.word k = s.dev.word k) ∧ s.sameMem t)
  ∧ (∀ (s : State) (p : Fin 8), s.dev.blockOn (bPRT p) = true → s.dev.bit (Reg.GTE_PREEMPT.EN p) = true → s.dev.bit (Reg.GTE_PREEMPT.VERIFY_DIS p) = false →
    s.dev.get (Reg.GTE_PREEMPT_STAT.VERIFY_STATE p) = 2 →
    Answers (.respondMpacketReceived p) s fun t => t.dev.get (Reg.GTE_PREEMPT_STAT.VERIFY_STATE p) = 3 ∧ t.dev.bit (statusBit bGTE (8 + p)) = true
      ∧ (∀ k, k ≠ Reg.GTE_PREEMPT_STAT p → k ≠ statusAddr bGTE → t.dev.word k = s.dev.word k) ∧ s.sameMem t)
  ∧ (∀ (s : State) (p : Fin 8) (t0 : Nat), s.dev.blockOn (bPRT p) = true → (s.dev.port p).verifyAt = some t0 →
    s.dev.get (Reg.GTE_PREEMPT_STAT.VERIFY_STATE p) = 2 → t0 + s.dev.verifyMs p * 1000000 ≤ s.dev.up →
    ((s.dev.port p).attempts < 3 → Answers (.verifyTimeout p) s fun t => (t.dev.port p).verifyDue = true ∧ (∀ k, t.dev.word k = s.dev.word k) ∧ s.sameMem t)
    ∧ (3 ≤ (s.dev.port p).attempts → Answers (.verifyTimeout p) s fun t => t.dev.get (Reg.GTE_PREEMPT_STAT.VERIFY_STATE p) = 4
      ∧ t.dev.bit (statusBit bGTE (8 + p)) = true ∧ t.dev.bit (stickyBit bGTE 1) = true ∧ s.sameMem t))
  ∧ (∀ (s : State) (p : Fin 8) (v : Word), s.dev.blockOn bGTE = true → s.dev.hostRefused (Reg.GTE_PREEMPT p) = false →
    Answers (.preemptCfgWrite p v) s fun t => t.dev.word (Reg.GTE_PREEMPT p) = s.dev.written bGTE (Reg.GTE_PREEMPT p) v
      ∧ t.dev.get (Reg.GTE_PREEMPT_STAT.VERIFY_STATE p) =
        (if t.dev.bit (Reg.GTE_PREEMPT.EN p) = false ∨ t.dev.bit (Reg.GTE_PREEMPT.VERIFY_DIS p) = true then 0
         else if s.dev.bit (Reg.GTE_PREEMPT.EN p) = true ∧ s.dev.bit (Reg.GTE_PREEMPT.VERIFY_DIS p) = false then s.dev.get (Reg.GTE_PREEMPT_STAT.VERIFY_STATE p)
         else if s.dev.linkUp p then 2 else 1)
      ∧ (∀ k, k ≠ Reg.GTE_PREEMPT p → k ≠ Reg.GTE_PREEMPT_STAT p → t.dev.word k = s.dev.word k) ∧ s.sameMem t)

/-- CONTEXT_ENABLE of a FREE context: ACTIVE, EN 1, the next generation, twelve counters at 0, TAKE_ANY 1. CONTEXT_TEARDOWN of an ACTIVE context: QUARANTINE from now, EN 0, nothing held. QUARANTINE_END after HOLD: FREE, no reservation, the event bit. RECOVERY_RESET after RESET_MS, some TAKE_ANY being 0: TAKE_ANY 1, no valid history, counted, named in STM_LAST_EVT. LATENT_PERIOD_END of an ACTIVE receive context with SEQ_EN: the next period starts where this one ended, and the source opens exactly when no reset fell in it and the difference exceeds LAT_DIFF (stated from a closed source). -/
def Obligations.StreamStates : Prop :=
  (∀ (s : State) (x : Fin 512), s.dev.blockOn bSTM = true → s.dev.hostRefused (Reg.STM_CTX_CFG x) = false → s.dev.ctxState x = 0 →
    Answers (.contextEnable x) s fun t => t.dev.ctxState x = 1 ∧ t.dev.bit (Reg.STM_CTX_CFG.EN x) = true ∧ t.dev.ctxGen x = (s.dev.ctxGen x + 1) % 256
      ∧ (∀ i < 12, t.dev.word (Reg.STM_CNT x i) = 0) ∧ t.dev.bit (Reg.STM_SEQ.TAKE_ANY x) = true ∧ t.dev.hist x = 0
      ∧ (s.dev.isTx x = true → t.dev.get (Reg.STM_SEQ.SEQ x) = 0) ∧ s.sameMem t)
  ∧ (∀ (s : State) (x : Fin 512), s.dev.blockOn bSTM = true → s.dev.hostRefused (Reg.STM_CTX_CFG x) = false → s.dev.ctxState x = 1 →
    Answers (.contextTeardown x) s fun t => t.dev.ctxState x = 2 ∧ t.dev.bit (Reg.STM_CTX_CFG.EN x) = false ∧ (t.dev.ctx x).quarAt = s.dev.up
      ∧ (t.dev.ctx x).held = [] ∧ (t.dev.ctx x).quarResv = (s.dev.word (Reg.FRM_STM_RESV x)).toNat ∧ t.dev.ctxGen x = s.dev.ctxGen x ∧ s.sameMem t)
  ∧ (∀ (s : State) (x : Fin 512), s.dev.blockOn bSTM = true → s.dev.ctxState x = 2 → (s.dev.ctx x).quarAt + s.dev.holdUs * 1000 ≤ s.dev.up →
    Answers (.quarantineEnd x) s fun t => t.dev.ctxState x = 0 ∧ (t.dev.ctx x).quarResv = 0 ∧ t.dev.bit (statusBit bSTM 4) = true
      ∧ (∀ k, k ≠ Reg.STM_CTX_STAT x → k ≠ statusAddr bSTM → t.dev.word k = s.dev.word k) ∧ s.sameMem t)
  ∧ (∀ (s : State) (x : Fin 512) (t0 : Nat), s.dev.blockOn bSTM = true → (s.dev.ctx x).timer = some t0 →
    (s.dev.bit (Reg.STM_SEQ.TAKE_ANY x) && ((s.dev.ctx x).takeA && ((s.dev.ctx x).takeB && (s.dev.ctx x).takeE))) = false →
    t0 + max 1 (s.dev.get (Reg.STM_RCV_TIMER.RESET_MS x)) * 1000000 ≤ s.dev.up →
    Answers (.recoveryReset x) s fun t => t.dev.bit (Reg.STM_SEQ.TAKE_ANY x) = true ∧ t.dev.get (Reg.STM_SEQ.VALID x) = 0 ∧ t.dev.hist x = 0
      ∧ (t.dev.ctx x).timer = none ∧ t.dev.get (Reg.STM_CNT.COUNT x 5) = (s.dev.get (Reg.STM_CNT.COUNT x 5) + 1) % 2 ^ 32
      ∧ t.dev.bit (statusBit bSTM 1) = true ∧ t.dev.get Reg.STM_LAST_EVT.KIND = 2 ∧ t.dev.get Reg.STM_LAST_EVT.CTX = x ∧ s.sameMem t)
  ∧ (∀ (s : State) (x : Fin 512) (t0 : Nat) (dp dd : Int), s.dev.blockOn bSTM = true → (s.dev.ctx x).latAt = some t0 → s.dev.get (Reg.STM_RCV_TIMER.LAT_PERIOD x) ≠ 0 →
    s.dev.seqEn x = true → s.dev.isTx x = false → s.dev.ctxState x = 1 → t0 + s.dev.get (Reg.STM_RCV_TIMER.LAT_PERIOD x) * 1000000 ≤ s.dev.up →
    dp = ((s.dev.get (Reg.STM_CNT.COUNT x 0) + 2 ^ 32 - (s.dev.ctx x).latP) % 2 ^ 32 : Nat) →
    dd = ((s.dev.get (Reg.STM_CNT.COUNT x 1) + 2 ^ 32 - (s.dev.ctx x).latD) % 2 ^ 32 : Nat) → s.dev.bit (stickyBit bSTM 0) = false →
    Answers (.latentPeriodEnd x) s fun t => (t.dev.ctx x).latAt = some (t0 + s.dev.get (Reg.STM_RCV_TIMER.LAT_PERIOD x) * 1000000)
      ∧ (t.dev.bit (stickyBit bSTM 0) = true ↔ (s.dev.ctx x).latReset = false
          ∧ (s.dev.get (Reg.STM_DEST.LAT_DIFF x) : Int) < |dp * ((max 2 (s.dev.get (Reg.STM_DEST.LAT_PATHS x)) : Nat) - 1) - dd|) ∧ s.sameMem t)

/-- TRANSMIT_HANDOVER with the present generation to an ACTIVE transmit context with egress ports and room: without a token bucket the frame is released (SENT counts, with SEQ_EN the sequence number advances); with one, and nothing held, a frame no longer than BURST is held. TOKEN_RELEASE when the tokens reach the head frame's length: it leaves, its tokens are spent, it is counted. SLOT_START without a table mismatch: the copies whose slot has started no longer wait. METER_WRITE and TOKEN_BUCKET_WRITE store the value and reset the counts, full with RESET_FULL and empty without. -/
def Obligations.StreamTransmit : Prop :=
  (∀ (s : State) (x : Fin 512) (gen : BitVec 8) (data : List Octet) (sh : Bool), s.dev.blockOn bSTM = true → s.dev.refOk x gen.toNat = true → s.dev.isTx x = true →
    s.dev.get (Reg.STM_CTX_CFG.EGRESS x) ≠ 0 → s.dev.allocCheck (.ctx x) (s.dev.sentLen x data) = .ok sh →
    (s.dev.bit (Reg.STM_TB.TB_EN x) = false →
      Answers (.transmitHandover x gen data) s fun t => t.dev.get (Reg.STM_CNT.COUNT x 0) = (s.dev.get (Reg.STM_CNT.COUNT x 0) + 1) % 2 ^ 32
        ∧ t.dev.get (Reg.STM_SEQ.SEQ x) = (if s.dev.seqEn x then (s.dev.get (Reg.STM_SEQ.SEQ x) + 1) % 2 ^ 16 else s.dev.get (Reg.STM_SEQ.SEQ x))
        ∧ (t.dev.ctx x).held = (s.dev.ctx x).held ∧ s.sameMem t)
    ∧ (s.dev.bit (Reg.STM_TB.TB_EN x) = true → (s.dev.ctx x).held = [] → s.dev.sentLen x data ≤ s.dev.get (Reg.STM_TB_BURST.BURST x) →
      Answers (.transmitHandover x gen data) s fun t => (∃ d, (t.dev.ctx x).held = [({ data := data, desc := d, gen := gen.toNat, ready := none } : Held)])
        ∧ t.dev.get (Reg.STM_CNT.COUNT x 0) = s.dev.get (Reg.STM_CNT.COUNT x 0) ∧ s.sameMem t))
  ∧ (∀ (s : State) (x : Fin 512) (h : Held) (rest : List Held), s.dev.blockOn bSTM = true → (s.dev.ctx x).held = h :: rest → s.dev.bit (Reg.STM_TB.TB_EN x) = true →
    s.dev.sentLen x h.data * Dev.octetUnits ≤ s.dev.tokensNow x → (∀ g ∈ rest, s.dev.sentLen x g.data ≤ s.dev.get (Reg.STM_TB_BURST.BURST x)) →
    Answers (.tokenRelease x) s fun t => (t.dev.ctx x).held = rest ∧ (t.dev.ctx x).tokens = s.dev.tokensNow x - s.dev.sentLen x h.data * Dev.octetUnits
      ∧ (t.dev.ctx x).tokAt = s.dev.up ∧ t.dev.get (Reg.STM_CNT.COUNT x 0) = (s.dev.get (Reg.STM_CNT.COUNT x 0) + 1) % 2 ^ 32 ∧ s.sameMem t)
  ∧ (∀ (s : State) (r : Fin 2), s.dev.blockOn bPLC = true → s.dev.bit (Reg.SHD_STATE.TABLE_MISMATCH r) = false →
    Answers (.slotStart r) s fun t =>
      t.dev.slotWaits r = (s.dev.slotWaits r).filter (fun w => match w.slot with | some (st, _, _) => decide (s.dev.now < st) | none => true) ∧ s.sameMem t)
  ∧ (∀ (s : State) (m : Fin 512) (reg : Fin 5) (v : Word), s.dev.blockOn bGTE = true → s.dev.hostRefused (Dev.meterKey m reg) = false →
    Answers (.meterWrite m reg v) s fun t => t.dev.word (Dev.meterKey m reg) = s.dev.written bGTE (Dev.meterKey m reg) v
      ∧ (t.dev.meter m).c = (if t.dev.bit (Reg.GTE_FM_CTL.RESET_FULL m) then t.dev.get (Reg.GTE_FM_CBS.BURST m) * Dev.octetUnits else 0)
      ∧ (t.dev.meter m).e = (if t.dev.bit (Reg.GTE_FM_CTL.RESET_FULL m) then t.dev.get (Reg.GTE_FM_EBS.BURST m) * Dev.octetUnits else 0)
      ∧ (∀ k, k ≠ Dev.meterKey m reg → t.dev.word k = s.dev.word k) ∧ s.sameMem t)
  ∧ (∀ (s : State) (x : Fin 512) (burst : Bool) (v : Word), s.dev.blockOn bSTM = true →
    s.dev.hostRefused (if burst then Reg.STM_TB_BURST x else Reg.STM_TB x) = false →
    Answers (.tokenBucketWrite x burst v) s fun t => t.dev.word (if burst then Reg.STM_TB_BURST x else Reg.STM_TB x) = s.dev.written bSTM (if burst then Reg.STM_TB_BURST x else Reg.STM_TB x) v
      ∧ (t.dev.ctx x).tokens = (if t.dev.bit (Reg.STM_TB.RESET_FULL x) then t.dev.get (Reg.STM_TB_BURST.BURST x) * Dev.octetUnits else 0)
      ∧ (t.dev.ctx x).tokAt = s.dev.up ∧ s.sameMem t)

/-- RING_CYCLE_START of an enabled, gating ring at an index not yet counted: the ring is in that cycle, its notice count starts anew, no grant waits, no claim is accepted yet, and a configured master holds the role. HOLDOFF_END after 8 cycles and HOLDOFF_MS clears HOLDOFF. SLOT_SWAP arms the change of bank. CLAIM_START with no claim pending: pending, no tries, GEN_FIRST the next generation. CLAIM_SEND of a claim due in this cycle in its first claim window: the generation and the tries count. CLAIM_RECEIVED by the master, out of holdoff, of a newer claim for a spare slot that no other node's accepted or listed claim holds: accepted, recorded and counted. -/
def Obligations.RingClaims : Prop :=
  (∀ (s : State) (r : Fin 2), s.dev.blockOn bSHD = true → s.dev.ringEn r = true → s.dev.gating (Dev.eastPort r) = true → (s.dev.ring r).cycle ≠ some (s.dev.cycleIdx r) →
    Answers (.ringCycleStart r) s fun t => (t.dev.ring r).cycle = some (s.dev.cycleIdx r) ∧ (t.dev.ring r).grants = [] ∧ (t.dev.ring r).accepted = [] ∧ (t.dev.ring r).notices = 0
      ∧ (s.dev.get (Reg.SHD_RING_CFG.ROLE r) = 1 → t.dev.isMaster r = true) ∧ s.sameMem t)
  ∧ (∀ (s : State) (r : Fin 2), s.dev.blockOn bSHD = true → 8 ≤ (s.dev.ring r).roleCycles →
    (s.dev.ring r).roleAt + s.dev.get (Reg.SHD_TIMING.HOLDOFF_MS r) * 1000000 ≤ s.dev.up → s.dev.bit (Reg.SHD_STATE.HOLDOFF r) = true →
    Answers (.holdoffEnd r) s fun t => t.dev.bit (Reg.SHD_STATE.HOLDOFF r) = false ∧ s.dev.onlyWords (· = Reg.SHD_STATE r) t.dev ∧ s.sameMem t)
  ∧ (∀ (s : State) (r : Fin 2), s.dev.blockOn bSHD = true → s.dev.hostRefused (Reg.SHD_SLOT_CTL r) = false →
    Answers (.slotSwap r) s fun t => t.dev.bit (Reg.SHD_SLOT_CTL.SWAP_PEND r) = true ∧ s.dev.onlyWords (· = Reg.SHD_SLOT_CTL r) t.dev ∧ s.sameMem t)
  ∧ (∀ (s : State) (r : Fin 2), s.dev.blockOn bSHD = true → s.dev.hostRefused (Reg.SHD_CLAIM r) = false → s.dev.get (Reg.SHD_CLAIM_STAT.RESULT r) ≠ 1 →
    Answers (.claimStart r) s fun t => t.dev.get (Reg.SHD_CLAIM_STAT.RESULT r) = 1 ∧ t.dev.get (Reg.SHD_CLAIM_STAT.TRIES_USED r) = 0
      ∧ t.dev.get (Reg.SHD_CLAIM_STAT.GEN_FIRST r) = (s.dev.get (Reg.SHD_CLAIM_STAT.GEN r) + 1) % 256 ∧ (t.dev.ring r).sendIn = none
      ∧ (∀ k, k ≠ Reg.SHD_CLAIM r → k ≠ Reg.SHD_CLAIM_STAT r → t.dev.word k = s.dev.word k) ∧ s.sameMem t)
  ∧ (∀ (s : State) (r : Fin 2), s.dev.blockOn bSHD = true → (s.dev.ring r).sendIn = some (s.dev.cycleIdx r) → s.dev.inClaimWindow r = true →
    s.dev.bit (Reg.SHD_STATE.TABLE_MISMATCH r) = false →
    Answers (.claimSend r) s fun t => t.dev.get (Reg.SHD_CLAIM_STAT.GEN r) = (s.dev.get (Reg.SHD_CLAIM_STAT.GEN r) + 1) % 256
      ∧ t.dev.get (Reg.SHD_CLAIM_STAT.TRIES_USED r) = (s.dev.get (Reg.SHD_CLAIM_STAT.TRIES_USED r) + 1) % 16
      ∧ (t.dev.ring r).sendIn = none ∧ (t.dev.ring r).sentCycle = s.dev.cycleIdx r ∧ s.sameMem t)
  ∧ (∀ (s : State) (p : Fin 8) (f : RxFrame) (r node gen slot : Nat), r = Dev.ringOf p → node = fieldBE f.data 16 2 % 256 → gen = fieldBE f.data 27 1 →
    fieldBE f.data 28 2 = slot → slot < 4096 → s.dev.isControl p f 2 = true → s.dev.goodArrival p f = true → s.dev.ringEn r = true → s.dev.wrapped p = false →
    s.dev.isMaster r = true → s.dev.bit (Reg.SHD_STATE.HOLDOFF r) = false → 0 < sdiff gen (s.dev.get (Dev.recFld r node)) 8 →
    s.dev.slotKind r (s.dev.slotBank r) slot = 2 → ((s.dev.ring r).accepted ++ (s.dev.ring r).listed).all (fun g => g.slot != slot || g.node == node) = true → (s.dev.ring r).accepted.length < 16 →
    Answers (.claimReceived p f) s fun t =>
      (t.dev.ring r).accepted = (s.dev.ring r).accepted ++ [⟨false, slot, node, fieldBE f.data 26 1, gen⟩] ∧ t.dev.get (Dev.recFld r node) = gen
        ∧ t.dev.get (Reg.SHD_CLAIM_ACCEPT.COUNT r) = (s.dev.get (Reg.SHD_CLAIM_ACCEPT.COUNT r) + 1) % 2 ^ 32 ∧ s.sameMem t)

/-- BEACON_RECEIVED at a ring port, on an enabled ring and not wrapped, of a cycle number acted on for the first time: SHD_CYCLE_NOW is that number, the copy is noted as acted on, the sender's side knows its neighbour and, where the number is that of the running cycle, MASTER_LOST is 0; a later copy of the number leaves SHD_CYCLE_NOW. LINK_FRAME_RECEIVED, at a wrapped port as at another, keeps what the partner says, and leaves SHD_STATE and the Locker as they are. NOTICE_TX_SEND on an enabled ring of a software code, 0x10 or above, with room in the device pool sends one notice, counted; of a code below 0x10 it does nothing. -/
def Obligations.RingFrames : Prop :=
  (∀ (s : State) (p : Fin 8) (f : RxFrame), s.dev.isControl p f 1 = true → s.dev.goodArrival p f = true → s.dev.ringEn (Dev.ringOf p) = true →
    s.dev.wrapped p = false → (s.dev.ring (Dev.ringOf p)).acted.contains (fieldBE f.data 26 4) = false →
    Answers (.beaconReceived p f) s fun t => t.dev.get (Reg.SHD_CYCLE_NOW.CYCLE (Dev.ringOf p)) = fieldBE f.data 26 4
      ∧ (t.dev.ring (Dev.ringOf p)).acted = (fieldBE f.data 26 4 :: (s.dev.ring (Dev.ringOf p)).acted).take 1024
      ∧ (fieldBE f.data 26 4 = Dev.cycleNo (s.dev.cycleIdx (Dev.ringOf p)) → t.dev.bit (Reg.SHD_STATE.MASTER_LOST (Dev.ringOf p)) = false)
      ∧ (t.dev.side p).neighbour = fieldBE f.data 52 2 ∧ s.sameMem t)
  ∧ (∀ (s : State) (p : Fin 8) (f : RxFrame), s.dev.isControl p f 1 = true → s.dev.goodArrival p f = true → s.dev.ringEn (Dev.ringOf p) = true →
    s.dev.wrapped p = false → (s.dev.ring (Dev.ringOf p)).acted.contains (fieldBE f.data 26 4) = true →
    Answers (.beaconReceived p f) s fun t => t.dev.word (Reg.SHD_CYCLE_NOW (Dev.ringOf p)) = s.dev.word (Reg.SHD_CYCLE_NOW (Dev.ringOf p))
      ∧ (t.dev.ring (Dev.ringOf p)).acted = (s.dev.ring (Dev.ringOf p)).acted ∧ (t.dev.ring (Dev.ringOf p)).grants = (s.dev.ring (Dev.ringOf p)).grants
      ∧ (t.dev.side p).neighbour = fieldBE f.data 52 2 ∧ s.sameMem t)
  ∧ (∀ (s : State) (p : Fin 8) (f : RxFrame), s.dev.isControl p f 4 = true → s.dev.goodArrival p f = true → s.dev.ringEn (Dev.ringOf p) = true →
    Answers (.linkFrameReceived p f) s fun t => (t.dev.side p).partnerReady = (fieldBE f.data 26 1).testBit 7 ∧ (t.dev.side p).partnerProp = fieldBE f.data 30 4
      ∧ (t.dev.side p).partnerEcho = fieldBE f.data 34 4 ∧ t.dev.word (Reg.SHD_STATE (Dev.ringOf p)) = s.dev.word (Reg.SHD_STATE (Dev.ringOf p))
      ∧ t.dev.frames = s.dev.frames ∧ s.sameMem t)
  ∧ (∀ (s : State) (r : Fin 2) (code : BitVec 8) (subject : BitVec 16) (sh : Bool), s.dev.blockOn bSHD = true → s.dev.hostRefused (Reg.SHD_NOTICE_TX r) = false →
    s.dev.ringEn r = true → 0x10 ≤ code.toNat → s.dev.allocCheck .device 64 = .ok sh →
    Answers (.noticeTxSend r code subject) s fun t => t.dev.get (Reg.SHD_NOTICE_SENT.COUNT r) = (s.dev.get (Reg.SHD_NOTICE_SENT.COUNT r) + 1) % 2 ^ 32 ∧ s.sameMem t)
  ∧ (∀ (s : State) (r : Fin 2) (code : BitVec 8) (subject : BitVec 16), s.dev.hostRefused (Reg.SHD_NOTICE_TX r) = false → code.toNat < 0x10 →
    Answers (.noticeTxSend r code subject) s fun t => s.dev.onlyWords (fun _ => False) t.dev ∧ s.sameMem t)

/-- WRAP of a port of an enabled ring that detected a break: wrapped, the break taken up, with the event bit, the count and the event of the source. LINK_FAULT_INDICATION after a break, wrapped by then or not: the port indicates from now, and no word changes. CLEAN of a wrapped port whose link has been up for CLEAN_MS, not READY yet: READY, with a proposal UNWRAP_LEAD cycles, at least 2, ahead, and no other word changes. -/
def Obligations.RingBreaks : Prop :=
  (∀ (s : State) (p : Fin 4), s.dev.blockOn bSHD = true → (s.dev.side p).broken ≠ 0 → s.dev.wrapped p = false → s.dev.ringEn (Dev.ringOf p) = true →
    Answers (.wrap p) s fun t => t.dev.wrapped p = true ∧ t.dev.bit (statusBit bSHD (Dev.ringOf p)) = true ∧ t.dev.bit (stickyBit bSHD (Dev.ringOf p)) = true
      ∧ t.dev.get (Reg.SHD_WRAP_CNT.COUNT (Dev.ringOf p)) = (s.dev.get (Reg.SHD_WRAP_CNT.COUNT (Dev.ringOf p)) + 1) % 2 ^ 32
      ∧ (t.dev.side p).broken = 0 ∧ s.sameMem t)
  ∧ (∀ (s : State) (p : Fin 4), s.dev.blockOn bSHD = true → ((s.dev.side p).indDue = true ∨ (s.dev.wrapped p = true ∧ s.dev.linkUp p = false)) →
    Answers (.linkFaultIndication p) s fun t => (t.dev.side p).indicating = true ∧ (t.dev.side p).indAt = s.dev.up ∧ (t.dev.side p).indDue = false
      ∧ (∀ k, t.dev.word k = s.dev.word k) ∧ s.sameMem t)
  ∧ (∀ (s : State) (p : Fin 4) (t0 : Nat), s.dev.blockOn bSHD = true → (s.dev.side p).cleanAt = some t0 → s.dev.wrapped p = true → s.dev.linkUp p = true →
    s.dev.bit (Dev.readyFld p) = false → t0 + s.dev.cleanNs (Dev.ringOf p) ≤ s.dev.up →
    Answers (.clean p) s fun t => t.dev.bit (Dev.readyFld p) = true
      ∧ (t.dev.side p).proposal = some (Dev.cycleNo (s.dev.cycleIdx (Dev.ringOf p) + max 2 (s.dev.get (Reg.SHD_CLEAN.UNWRAP_LEAD (Dev.ringOf p)))))
      ∧ (∀ k, k ≠ Reg.SHD_STATE (Dev.ringOf p) → t.dev.word k = s.dev.word k) ∧ s.sameMem t)

/-- TIME_TRIGGER of a cell with a time trigger and no waiting request, past m > 0 trigger instants: one request waits and m − 1 are counted as merged. ACTIVATION_START of a cell that may start, no swap pending, the context of its oldest event not torn down: it runs what its program gives on its checkpoint and that event (evaluated without the last command's outputs). ACTIVATION_COMPARISON that agrees, for outputs other than object writes: the run ends, the state words and the state machine are those of the program, and the activation counts. One that does not agree, with a spare pair free: that pair re-executes the run on the same checkpoint, no pair changes state yet, and no state word changes. One with no pair free and no output to release: the cell is HALTED without a pair, the failed pair is out of service, source 2 opens. REEXECUTION_COMPLETE that agrees: the spare is the cell's pair, the failed one is out of service, the mismatch and the re-execution are counted, source 0 opens. One that does not agree: the cell keeps its pair and its state words, the spare stays spare, source 1 opens. -/
def Obligations.CellActivations : Prop :=
  (∀ (s : State) (c : Fin 64) (m : Nat), s.dev.celState c ≠ celOff → s.dev.celState c ≠ celHalted → s.dev.get (Reg.CEL_CFG.TRIG c) = 1 → s.dev.isGrave bCEL = false →
    (s.dev.cell c).req = none →
    m + 1 = Dev.gridIn (ofStamp (s.dev.stamp3 (Reg.CEL_BASE_LO c))) (max 1 (s.dev.get (Reg.CEL_PERIOD.PERIOD c)) * 65536) (s.dev.cell c).trigAt s.dev.now →
    Answers (.timeTrigger c) s fun t => (t.dev.cell c).req = some false ∧ (t.dev.cell c).trigAt = s.dev.now
      ∧ t.dev.get (Reg.CEL_TRIG_OVF.COUNT c) = (s.dev.get (Reg.CEL_TRIG_OVF.COUNT c) + m) % 2 ^ 32
      ∧ (∀ k, k ≠ Reg.CEL_TRIG_OVF c → t.dev.word k = s.dev.word k) ∧ s.sameMem t)
  ∧ (∀ (s : State) (c : Fin 64) (g : Prog), s.dev.mayStart c = true → s.dev.bit (Reg.CEL_BANK.SWAP_PEND c) = false →
    ((s.dev.cell c).queue.head?.all fun e => e.ref.all fun x => s.dev.refOk x.1 x.2) = true →
    g = s.dev.fresh.runProgram c (s.dev.celBank c) (s.dev.cell c).queue.head? →
    Answers (.activationStart c) s fun t => t.dev.celState c = celRun ∧ (t.dev.cell c).req = none ∧ (t.dev.cell c).queue = (s.dev.cell c).queue.drop 1
      ∧ (∃ r, (t.dev.cell c).run = some r ∧ r.startAt = s.dev.now ∧ r.words = g.st ∧ r.sm = g.sm ∧ r.outs = s.dev.outsOf c (s.dev.celBank c) g ∧ r.steps = g.r.length)
      ∧ (∀ k, k ≠ Reg.CEL_STAT c → t.dev.word k = s.dev.word k) ∧ s.sameMem t)
  ∧ (∀ (s : State) (c : Fin 64) (r : CelRun), (s.dev.cell c).run = some r → s.dev.celState c = celRun → r.doneUp ≤ s.dev.up → s.dev.isGrave bCEL = false →
    (r.outs.all fun o => s.dev.outWord c r.bank o.out 0 / 2 ^ 28 % 8 != 3) = true → (s.dev.cell c).offDue = false → (s.dev.cell c).restartDue = false →
    Answers (.activationComparison c true false) s fun t => (t.dev.cell c).run = none ∧ t.dev.celState c = (if (s.dev.cell c).safe then celSafe else celIdle)
      ∧ (∀ j < 32, t.dev.word (Reg.CEL_STATE_WORD c j) = BitVec.ofInt 32 (r.words.getD j 0)) ∧ t.dev.get (Reg.CEL_STAT.SM_STATE c) = r.sm % 64
      ∧ t.dev.get (Reg.CEL_ACT_CNT.COUNT c) = (s.dev.get (Reg.CEL_ACT_CNT.COUNT c) + 1) % 2 ^ 32
      ∧ t.dev.get (Reg.CEL_EXEC.LAST_NS c) = min 65535 (s.dev.up - r.startUp) ∧ s.sameMem t)
  ∧ (∀ (s : State) (c : Fin 64) (r : CelRun) (p : Nat), (s.dev.cell c).run = some r → s.dev.celState c = celRun → r.doneUp ≤ s.dev.up → s.dev.isGrave bCEL = false →
    (List.range 68).find? s.dev.pairFree = some p →
    Answers (.activationComparison c false false) s fun t => t.dev.celState c = celReexec
      ∧ (t.dev.cell c).run = some { r with spare := some p, doneUp := s.dev.up + Dev.clocksNs (s.dev.get (Reg.CEL_GRP_DVFS.FREQ_NOW (p / 4))) (4 * r.steps + 2) }
      ∧ (∀ k, k ≠ Reg.CEL_STAT c → k ≠ statusAddr bIST → t.dev.word k = s.dev.word k) ∧ s.sameMem t)
  ∧ (∀ (s : State) (c : Fin 64) (r : CelRun), (s.dev.cell c).run = some r → s.dev.celState c = celRun → r.doneUp ≤ s.dev.up → s.dev.isGrave bCEL = false →
    (List.range 68).find? s.dev.pairFree = none → s.dev.celPair c < 68 → (s.dev.cell c).offDue = false → (s.dev.cell c).restartDue = false →
    (∀ o < 8, (s.dev.outWord c (s.dev.celBank c) o 0).testBit 31 = false) →
    Answers (.activationComparison c false false) s fun t => t.dev.celState c = celHalted ∧ t.dev.celPair c = 0x7F ∧ t.dev.pairState (s.dev.celPair c) = 2
      ∧ (t.dev.cell c).run = none ∧ (t.dev.cell c).req = none ∧ t.dev.bit (stickyBit bCEL 2) = true
      ∧ t.dev.get Reg.CEL_MISMATCH_CNT.COUNT = (s.dev.get Reg.CEL_MISMATCH_CNT.COUNT + 1) % 2 ^ 32
      ∧ (∀ j < 32, t.dev.word (Reg.CEL_STATE_WORD c j) = s.dev.word (Reg.CEL_STATE_WORD c j)) ∧ s.sameMem t)
  ∧ (∀ (s : State) (c : Fin 64) (r : CelRun) (p : Nat), s.dev.blockOn bCEL = true → (s.dev.cell c).run = some r → r.spare = some p → p < 68 → s.dev.celPair c < 68 → s.dev.celPair c ≠ p → r.doneUp ≤ s.dev.up →
    s.dev.isGrave bCEL = false → (r.outs.all fun o => s.dev.outWord c r.bank o.out 0 / 2 ^ 28 % 8 != 3) = true →
    (s.dev.cell c).offDue = false → (s.dev.cell c).restartDue = false →
    Answers (.reexecutionComplete c true) s fun t => (t.dev.cell c).run = none ∧ t.dev.celPair c = p ∧ t.dev.pairState p = 1 ∧ t.dev.get (Reg.CEL_PAIR_STAT.CELL p) = c
      ∧ t.dev.pairState (s.dev.celPair c) = 2 ∧ t.dev.bit (stickyBit bCEL 0) = true
      ∧ t.dev.get (Reg.CEL_REEXEC.COUNT c) = (s.dev.get (Reg.CEL_REEXEC.COUNT c) + 1) % 2 ^ 32
      ∧ t.dev.get Reg.CEL_MISMATCH_CNT.COUNT = (s.dev.get Reg.CEL_MISMATCH_CNT.COUNT + 1) % 2 ^ 32
      ∧ t.dev.get (Reg.CEL_ACT_CNT.COUNT c) = (s.dev.get (Reg.CEL_ACT_CNT.COUNT c) + 1) % 2 ^ 32 ∧ s.sameMem t)
  ∧ (∀ (s : State) (c : Fin 64) (r : CelRun) (p : Nat), s.dev.blockOn bCEL = true → (s.dev.cell c).run = some r → r.spare = some p → r.doneUp ≤ s.dev.up →
    s.dev.isGrave bCEL = false → (s.dev.cell c).offDue = false → (s.dev.cell c).restartDue = false →
    Answers (.reexecutionComplete c false) s fun t => (t.dev.cell c).run = none ∧ t.dev.celPair c = s.dev.celPair c ∧ (∀ q < 68, t.dev.pairState q = s.dev.pairState q)
      ∧ t.dev.bit (stickyBit bCEL 1) = true ∧ (∀ j < 32, t.dev.word (Reg.CEL_STATE_WORD c j) = s.dev.word (Reg.CEL_STATE_WORD c j)) ∧ s.sameMem t)

/-- FREQ_STEP of a powered group that no pair of executes and that is not frozen: FREQ_NOW moves one step towards its target, nothing else in registers. PAIR_RETURN of a failed pair that has passed its test, no cell waiting for a pair: it is spare again. CELL_BANK_SWAP while none waits: the swap waits if the idle bank passes the checks, and otherwise CEL_ADMIT holds the code, the cell and the step. RESTART of a placed cell that runs nothing, a spare pair existing where it is HALTED: IDLE, with its state words loaded from the active bank, the state machine at 0, and no event or request waiting; SAFE where its angle domain is not valid and its policy is 2, no output being enabled then. RESTART of a HALTED cell that lost its pair: the pair the placement rules give it is its pair. -/
def Obligations.CellTables : Prop :=
  (∀ (s : State) (g : Fin 17), s.dev.grpFrozen g = false → s.dev.grpBusy g = false → s.dev.get (Reg.CEL_GRP_DVFS.FREQ_NOW g) ≠ s.dev.freqTarget g →
    s.dev.domOn (Dev.groupDom g) = true → s.dev.isGrave bCEL = false →
    Answers (.freqStep g) s fun t => t.dev.get (Reg.CEL_GRP_DVFS.FREQ_NOW g)
        = (if s.dev.get (Reg.CEL_GRP_DVFS.FREQ_NOW g) < s.dev.freqTarget g then s.dev.get (Reg.CEL_GRP_DVFS.FREQ_NOW g) + 1 else s.dev.get (Reg.CEL_GRP_DVFS.FREQ_NOW g) - 1)
      ∧ (∀ k, k ≠ Reg.CEL_GRP_DVFS g → t.dev.word k = s.dev.word k) ∧ s.sameMem t)
  ∧ (∀ (s : State) (v : Word), s.dev.blockOn bCEL = true → s.dev.hostRefused Reg.CEL_PAIR_CMD = false → wbit v 31 = true → wfld v 0 7 < 68 →
    s.dev.pairState (wfld v 0 7) = 2 → s.dev.bit (Reg.CEL_PAIR_STAT.TESTED (wfld v 0 7)) = true →
    (∀ c < 64, s.dev.celWaits c = false) →
    Answers (.pairReturn v) s fun t => t.dev.pairState (wfld v 0 7) = 0 ∧ t.dev.bit (Reg.CEL_PAIR_STAT.TESTED (wfld v 0 7)) = false ∧ s.sameMem t)
  ∧ (∀ (s : State) (c : Fin 64) (v : Word), s.dev.blockOn bCEL = true → s.dev.hostRefused (Reg.CEL_BANK c) = false → wbit v 0 = true →
    s.dev.bit (Reg.CEL_BANK.SWAP_PEND c) = false →
    (s.dev.bankCheck c (1 - s.dev.celBank c) = none →
      Answers (.cellBankSwap c v) s fun t => t.dev.bit (Reg.CEL_BANK.SWAP_PEND c) = true ∧ t.dev.celBank c = s.dev.celBank c
        ∧ (∀ k, k ≠ Reg.CEL_BANK c → t.dev.word k = s.dev.word k) ∧ s.sameMem t)
    ∧ (∀ code k, s.dev.bankCheck c (1 - s.dev.celBank c) = some (code, k) →
      Answers (.cellBankSwap c v) s fun t => t.dev.word Reg.CEL_ADMIT = BitVec.ofNat 32 (k % 64 * 2 ^ 24 + c * 65536 + code)
        ∧ t.dev.bit (Reg.CEL_BANK.SWAP_PEND c) = false ∧ s.dev.onlyWords (fun k => k = Reg.CEL_BANK c ∨ k = Reg.CEL_ADMIT) t.dev ∧ s.sameMem t))
  ∧ (∀ (s : State) (c : Fin 64) (v : Word), s.dev.blockOn bCEL = true → s.dev.hostRefused (Reg.CEL_CMD c) = false → wbit v 0 = true →
    (s.dev.cell c).run = none → s.dev.celState c ≠ celOff → s.dev.celPair c ≠ 0x7F → (s.dev.celState c = celHalted → s.dev.get Reg.CEL_SPARES.SPARE_NOW ≠ 0) →
    (s.dev.get (Reg.CEL_CFG.TRIG c) = 2 → s.dev.angOk (s.dev.get (Reg.CEL_CFG.DOM c)) = false → ∀ o < 8, (s.dev.outWord c (s.dev.celBank c) o 0).testBit 31 = false) →
    Answers (.restart c v) s fun t =>
      t.dev.celState c = (if s.dev.get (Reg.CEL_CFG.TRIG c) = 2 ∧ s.dev.celPolicy c = 2 ∧ s.dev.angOk (s.dev.get (Reg.CEL_CFG.DOM c)) = false then celSafe else celIdle) ∧ t.dev.celPair c = s.dev.celPair c ∧ t.dev.get (Reg.CEL_STAT.SM_STATE c) = 0
      ∧ (∀ j < 32, t.dev.word (Reg.CEL_STATE_WORD c j) = s.dev.word (Reg.CEL_TBL c (s.dev.celBank c) (0x1C0 + j)))
      ∧ (t.dev.cell c).queue = [] ∧ (t.dev.cell c).req = none ∧ s.sameMem t)
  ∧ (∀ (s : State) (c : Fin 64) (v : Word) (p : Nat), s.dev.blockOn bCEL = true → s.dev.hostRefused (Reg.CEL_CMD c) = false → wbit v 0 = true →
    (s.dev.cell c).run = none → s.dev.celState c = celHalted → s.dev.celPair c = 0x7F → s.dev.get Reg.CEL_SPARES.SPARE_NOW ≠ 0 → s.dev.restartPair c = some p →
    (s.dev.get (Reg.CEL_CFG.TRIG c) = 2 → s.dev.angOk (s.dev.get (Reg.CEL_CFG.DOM c)) = true) →
    Answers (.restart c v) s fun t => t.dev.celPair c = p ∧ t.dev.pairState p = 1 ∧ t.dev.get (Reg.CEL_PAIR_STAT.CELL p) = c
      ∧ t.dev.celState c = celIdle ∧ s.sameMem t)

/-- Of an enabled channel whose port answers, SMP not GRAVE, with no read waiting: SAMPLE_TIME_TRIGGER past m > 0 periods, and ANGLE_STEP_TRIGGER past m > 0 targets, make one read due now and count m − 1 as merged. TRIGGER_ARM arms the absolute time. TRANSACTION_START of an idle enabled port: the first due command goes onto the wires, with the port's mode and its 16 or 32 bits, and leaves the queue; with no command due, the next read starts and its channels no longer wait. TRANSACTION_END, once the last bit has been clocked: a command's response is stored and counted; a read of one channel without filters gives the value of R230 and its stamp. CAPTURE_WRITE_COMPLETE counts the oldest record whose write has left the buffer. -/
def Obligations.ChuckReads : Prop :=
  (∀ (s : State) (n : Fin 512) (m : Nat), s.dev.chanOn n = true → s.dev.isGrave bSMP = false → s.dev.chanTrig n = 1 → (s.dev.chan n).due = none →
    m + 1 = Dev.instantsIn (s.dev.chanTime n) (max 1 (s.dev.word (Reg.SMP_CH_TRIG_A (n / 16) (n % 16))).toNat * 65536) (s.dev.chan n).trigAt s.dev.now →
    Answers (.sampleTimeTrigger n) s fun t => (t.dev.chan n).due = some s.dev.up ∧ (t.dev.chan n).trigAt = s.dev.now
      ∧ t.dev.get (Reg.SMP_TRIG_OVF.COUNT (n / 16)) = (s.dev.get (Reg.SMP_TRIG_OVF.COUNT (n / 16)) + m) % 2 ^ 32
      ∧ (∀ k, k ≠ Reg.SMP_TRIG_OVF (n / 16) → k ≠ statusAddr bSMP → t.dev.word k = s.dev.word k) ∧ s.sameMem t)
  ∧ (∀ (s : State) (n : Fin 512) (m : Nat), s.dev.chanOn n = true → s.dev.isGrave bSMP = false → s.dev.chanTrig n = 3 → (s.dev.chan n).due = none →
    s.dev.angOk (s.dev.chanDom n) = true → (s.dev.chan n).restart = false →
    m + 1 = (Dev.stepCount (s.dev.get (Reg.SMP_CH_TRIG_B.START (n / 16) (n % 16))) ((s.dev.word (Reg.SMP_CH_TRIG_A (n / 16) (n % 16))).toNat % 16777216) (s.dev.pubAngle (s.dev.chanDom n))
      - Dev.stepCount (s.dev.get (Reg.SMP_CH_TRIG_B.START (n / 16) (n % 16))) ((s.dev.word (Reg.SMP_CH_TRIG_A (n / 16) (n % 16))).toNat % 16777216) (s.dev.chan n).stepAt).toNat →
    Answers (.angleStepTrigger n) s fun t => (t.dev.chan n).due = some s.dev.up ∧ (t.dev.chan n).stepAt = max (s.dev.chan n).stepAt (s.dev.pubAngle (s.dev.chanDom n))
      ∧ t.dev.get (Reg.SMP_TRIG_OVF.COUNT (n / 16)) = (s.dev.get (Reg.SMP_TRIG_OVF.COUNT (n / 16)) + m) % 2 ^ 32
      ∧ (∀ k, k ≠ Reg.SMP_TRIG_OVF (n / 16) → k ≠ statusAddr bSMP → t.dev.word k = s.dev.word k) ∧ s.sameMem t)
  ∧ (∀ (s : State) (n : Fin 512) (v : Word), s.dev.chkOn (n / 16) = true → s.dev.hostRefused (Reg.SMP_CH_TIME_HI (n / 16) (n % 16)) = false →
    Answers (.triggerArm n v) s fun t => (t.dev.chan n).armed = true
      ∧ t.dev.word (Reg.SMP_CH_TIME_HI (n / 16) (n % 16)) = s.dev.written bSMP (Reg.SMP_CH_TIME_HI (n / 16) (n % 16)) v
      ∧ (∀ k, k ≠ Reg.SMP_CH_TIME_HI (n / 16) (n % 16) → t.dev.word k = s.dev.word k) ∧ s.sameMem t)
  ∧ (∀ (s : State) (k : Fin 32), s.dev.chkOn k = true → s.dev.bit (Reg.SMP_PORT_CFG.EN k) = true → s.dev.isGrave bSMP = false → (s.dev.chk k).txn = none →
    (s.dev.chk k).endUp ≤ s.dev.up →
    (∀ e q q', (s.dev.chk k).cmds = q ++ e :: q' → (q.any s.dev.cmdDue) = false → s.dev.cmdDue e = true →
      Answers (.transactionStart k) s fun t => (t.dev.chk k).txn = some (.command e.cs e.w32 e.word) ∧ (t.dev.chk k).cmds = q ++ q'
        ∧ Output.spiTxn k e.cs (s.dev.get (Reg.SMP_PORT_CFG.MODE k)) (if e.w32 then 32 else 16) e.word ∈ t.dev.out
        ∧ (t.dev.chk k).bitsUp = s.dev.txnBits k (if e.w32 then 32 else 16) ∧ (t.dev.chk k).endUp = s.dev.txnEnd k (if e.w32 then 32 else 16)
        ∧ (∀ j, t.dev.word j = s.dev.word j) ∧ s.sameMem t)
    ∧ (∀ cs ns, ((s.dev.chk k).cmds.any s.dev.cmdDue) = false → s.dev.nextRead k = some (cs, ns) →
      Answers (.transactionStart k) s fun t => (∃ st, (t.dev.chk k).txn = some (.read cs (ns.map fun n => (n % 16, s.dev.angStamp (s.dev.chanDom n))) st)
          ∧ st = ((s.dev.now : Int) + s.dev.getS (Reg.SMP_STAMP_OFS.OFS k) * 65536).toNat)
        ∧ (∀ n ∈ ns, (t.dev.chan n).due = none) ∧ (∀ j, t.dev.word j = s.dev.word j) ∧ s.sameMem t))
  ∧ (∀ (s : State) (k : Fin 32) (words : List Nat), s.dev.chkOn k = true → (s.dev.chk k).bitsUp ≤ s.dev.up →
    (∀ (cs : Fin 4) (w32 : Bool) (w : Nat), (s.dev.chk k).txn = some (.command cs w32 w) →
      Answers (.transactionEnd k words) s fun t => (t.dev.chk k).txn = none ∧ t.dev.get (Reg.SMP_CMD_RESP.WORD k cs) = words.headD 0 % 2 ^ (if w32 then 32 else 16)
        ∧ t.dev.get (Reg.SMP_CMD_SENT.COUNT k) = (s.dev.get (Reg.SMP_CMD_SENT.COUNT k) + 1) % 2 ^ 32 ∧ s.sameMem t)
    ∧ (∀ (cs st a w : Nat) (v : Int) (i : Fin 16), (s.dev.chk k).txn = some (.read cs [(i.val, a)] st) → s.dev.chanOn (16 * k + i) = true →
      s.dev.get (Reg.SMP_CH_FILT.CIC_N k i) = 0 → s.dev.bit (Reg.SMP_CH_FILT.FIR_EN k i) = false → w = Dev.widthBits (s.dev.get (Reg.SMP_CH_CFG.WIDTH k i)) →
      v = (if s.dev.bit (Reg.SMP_CH_CFG.SIGNED k i) then toSigned w (words.getD (s.dev.get (Reg.SMP_CH_CFG.SLOT k i)) 0 % 2 ^ w)
        else (words.getD (s.dev.get (Reg.SMP_CH_CFG.SLOT k i)) 0 % 2 ^ w : Nat) - 2 ^ (w - 1)) →
      Answers (.transactionEnd k words) s fun t => (t.dev.chk k).txn = none
        ∧ t.dev.word (Reg.SMP_CH_VALUE k i) = BitVec.ofInt 32 (qSat ((2 * (s.dev.getS (Reg.SMP_CH_GAIN.VALUE k i) * (v * 2 ^ (24 - w) * 2 ^ 20 * 2 ^ 22)
            + s.dev.getS (Reg.SMP_CH_OFFSET.VALUE k i) * 2 ^ 65) + 2 ^ 65) / 2 ^ 66))
        ∧ t.dev.stamp3 (Reg.SMP_CH_STAMP_LO k i) = stampOf st % 2 ^ 96
        ∧ t.dev.get (Reg.SMP_CH_CNT.COUNT k i) = (s.dev.get (Reg.SMP_CH_CNT.COUNT k i) + 1) % 2 ^ 32 ∧ s.sameMem t))
  ∧ (∀ (s : State) (n : Fin 512) (a : Nat) (q : List Nat), (s.dev.chan n).capQ = a :: q →
    ((s.dev.chn 0).waits.filter fun a => a.owner == .capture n).length + ((s.dev.chn 1).waits.filter fun a => a.owner == .capture n).length < q.length + 1 →
    Answers (.captureWriteComplete n true) s fun t => (t.dev.chan n).capQ = q
      ∧ t.dev.get (Reg.SMP_CAP_COUNT.COUNT (n / 16) (n % 16)) = (s.dev.get (Reg.SMP_CAP_COUNT.COUNT (n / 16) (n % 16)) + 1) % 2 ^ 32
      ∧ (∀ k, k ≠ Reg.SMP_CAP_COUNT (n / 16) (n % 16) → t.dev.word k = s.dev.word k) ∧ s.sameMem t)

/-- COMMAND_SEND at once, to a port that answers, SMP not GRAVE, no domain in SAFE and fewer than 16 entries: the entry is at the end of the queue. COMMAND_DUE: entries whose target is reached are due at once, the others stand. FIR_SWAP: the idle bank is active, with its event bit. EDGE_PUSH at once, to a pin with room, enabled or not: the edge is at the end of the queue. EDGE_EXECUTE of a due head edge, at least 1 ns after the last: LEVEL takes its level and the edge is gone; an enabled pin outside SAFE drives it. PIN_MISMATCH of a driven pin: source 0 opens and the pad is shown. -/
def Obligations.CommandsAndPins : Prop :=
  (∀ (s : State) (k : Fin 32) (v : Word), s.dev.chkOn k = true → s.dev.hostRefused (Reg.SMP_CMD_CTL k) = false → s.dev.isGrave bSMP = false → wbit v 31 = true →
    (wfld v 29 2 = 0 ∨ wfld v 29 2 = 3) → (s.dev.chk k).safeDoms = [] → (s.dev.chk k).cmds.length < 16 →
    Answers (.commandSend k v) s fun t => (t.dev.chk k).cmds = (s.dev.chk k).cmds ++ [({
        cs := wfld v 24 2, w32 := wbit v 23
        word := if wbit v 23 then (s.dev.word (Reg.SMP_CMD_WORD k)).toNat else (s.dev.word (Reg.SMP_CMD_WORD k)).toNat % 65536, target := .atOnce } : CmdEnt)]
      ∧ (∀ j, t.dev.word j = s.dev.word j) ∧ s.sameMem t)
  ∧ (∀ (s : State) (k : Fin 32), s.dev.chkOn k = true →
    Answers (.commandDue k) s fun t => (t.dev.chk k).cmds = (s.dev.chk k).cmds.map (fun e => if s.dev.cmdDue e then { e with target := .atOnce } else e)
      ∧ (∀ j, t.dev.word j = s.dev.word j) ∧ s.sameMem t)
  ∧ (∀ (s : State) (k : Fin 32) (v : Word), s.dev.chkOn k = true → s.dev.hostRefused (Reg.SMP_FIR_CTL k) = false → wbit v 0 = true →
    Answers (.firSwap k v) s fun t => t.dev.get (Reg.SMP_FIR_CTL.ACTIVE k) = 1 - s.dev.get (Reg.SMP_FIR_CTL.ACTIVE k) ∧ t.dev.bit (statusBit bSMP 5) = true
      ∧ s.dev.onlyWords (fun j => j = Reg.SMP_FIR_CTL k ∨ j = statusAddr bSMP) t.dev ∧ s.sameMem t)
  ∧ (∀ (s : State) (p : Fin 32) (v : Word), s.dev.blockOn bSCR = true → s.dev.hostRefused (Reg.SCR_EDGE_CTL p) = false → s.dev.scrGrave = false → wbit v 31 = true →
    (wfld v 28 2 = 0 ∨ wfld v 28 2 = 3) → (s.dev.pin p).queue.length < 2 →
    Answers (.edgePush p v) s fun t => (t.dev.pin p).queue = (s.dev.pin p).queue ++ [⟨wbit v 30, .atOnce⟩] ∧ s.sameMem t)
  ∧ (∀ (s : State) (p : Fin 32) (e : Edge) (rest : List Edge), s.dev.blockOn bSCR = true → s.dev.scrGrave = false → (s.dev.pin p).queue = e :: rest →
    s.dev.edgeGap p = true → s.dev.edgeDue e = true →
    Answers (.edgeExecute p) s fun t => t.dev.bit (Reg.SCR_PIN_STAT.LEVEL p) = e.level ∧ (t.dev.pin p).edgeUp = some s.dev.up
      ∧ (rest = [] → (t.dev.pin p).queue = [] ∧ (s.dev.bit (Reg.SCR_PIN_CFG.EN p) = true → (s.dev.pin p).safeDom = none → t.dev.pinLevel p = some e.level)) ∧ s.sameMem t)
  ∧ (∀ (s : State) (p : Fin 32) (l pad : Bool), s.dev.blockOn bSCR = true → s.dev.pinLevel p = some l → l ≠ pad →
    Answers (.pinMismatch p pad) s fun t => t.dev.bit (stickyBit bSCR 0) = true ∧ (t.dev.pin p).pad = pad
      ∧ (∀ k, ¬ Dev.faultWords bSCR k → t.dev.word k = s.dev.word k) ∧ s.sameMem t)

/-- PLANNED_MOVE of a cell and TEMPERATURE_MOVE without new readings, where the policy gives pair p and the cell is in the core clock of a release: the cell is on pair p, its old pair is spare, and the move is counted and shown in PLC_MOVE_LAST with its cause. PLANNED_MOVE of an idle job to the unit that its pin names, which is on and has a free channel: it is there, with its DONE bit. EVAC_START of a bank that R102 can spare, none running: no bank set names it; while frames hold granules of it START reads 1, else it leaves service at once and the move is counted. EVAC_FRAME_COPY of a frame that has rested 10 ms in the bank, other banks having room: it holds the granules found there, with its octets in them; no other frame changes. EVAC_RETURN of a bank whose domain is on and that no fault keeps out, no evacuation waiting: it is in service, and the move is counted. DOMAIN_SWITCH_OFF of an empty domain that nothing holds on: it is off, shown so, every other domain is as before, the pairs of a Lathe group become off, and the switch is counted. -/
def Obligations.RiggerMoves : Prop :=
  (∀ (s : State) (c : Fin 64) (item : Fin 643) (p : Nat), s.dev.blockOn bPLC = true → item.val = c.val → s.dev.mayPlan = true → s.dev.planTarget c = some p →
    s.dev.moveBoundary c = true → s.dev.celPair c < 68 → s.dev.celPair c ≠ p →
    Answers (.plannedMove 0 item false) s fun t => t.dev.celPair c = p ∧ t.dev.pairState p = 1 ∧ t.dev.get (Reg.CEL_PAIR_STAT.CELL p) = c ∧ t.dev.pairState (s.dev.celPair c) = 0
      ∧ t.dev.get Reg.PLC_MOVE_CNT.COUNT = (s.dev.get Reg.PLC_MOVE_CNT.COUNT + 1) % 2 ^ 32
      ∧ t.dev.word Reg.PLC_MOVE_LAST = BitVec.ofNat 32 (causePolicy * 2 ^ 24 + p * 2 ^ 16 + s.dev.celPair c * 2 ^ 8 + c) ∧ t.dev.plc.moveAt = some s.dev.up
      ∧ (t.dev.cell c).holdTill = max (s.dev.cell c).holdTill (s.dev.up + 250) ∧ s.sameMem t)
  ∧ (∀ (s : State) (c : Fin 64) (p : Nat), s.dev.blockOn bPLC = true → s.dev.mayPlan = true → s.dev.moveBoundary c = true → s.dev.celPair c < 68 → s.dev.celPair c ≠ p →
    s.dev.tempHi ≤ s.dev.grpTemp (s.dev.celPair c / 4) → s.dev.pinTarget 0 c = none →
    s.dev.coolest ((List.range 68).filter fun p => s.dev.moveFits c p) = some p →
    Answers (.temperatureMove c [] false) s fun t => t.dev.celPair c = p ∧ t.dev.pairState p = 1 ∧ t.dev.get (Reg.CEL_PAIR_STAT.CELL p) = c ∧ t.dev.pairState (s.dev.celPair c) = 0
      ∧ t.dev.get Reg.PLC_MOVE_CNT.COUNT = (s.dev.get Reg.PLC_MOVE_CNT.COUNT + 1) % 2 ^ 32
      ∧ t.dev.word Reg.PLC_MOVE_LAST = BitVec.ofNat 32 (causeTemp * 2 ^ 24 + p * 2 ^ 16 + s.dev.celPair c * 2 ^ 8 + c) ∧ s.sameMem t)
  ∧ (∀ (s : State) (j : Fin 64) (item : Fin 643) (u ch : Nat) (ecc : Bool), s.dev.blockOn bPLC = true → item.val = j.val → s.dev.mayPlan = true → s.dev.pinTarget 3 j = some u → u < 2 →
    s.dev.jobUnit j = 1 - u → s.dev.jobPlace j = 1 → s.dev.jobIdle j = true → s.dev.freeChan u = some ch → s.dev.domOn (Dev.unitDom u) = true →
    Answers (.plannedMove 2 item ecc) s fun t => t.dev.jobUnit j = u ∧ t.dev.get (Reg.PLC_JOB_MAP.CHAN j) = ch ∧ t.dev.bit (Dev.doneFld (1 - u) j) = false
      ∧ (s.dev.bit (Dev.doneFld (1 - u) j) = true → t.dev.bit (Dev.doneFld u j) = true)
      ∧ t.dev.get Reg.PLC_MOVE_CNT.COUNT = (s.dev.get Reg.PLC_MOVE_CNT.COUNT + 1) % 2 ^ 32
      ∧ t.dev.word Reg.PLC_MOVE_LAST = BitVec.ofNat 32 (3 * 2 ^ 28 + causePolicy * 2 ^ 24 + u * 2 ^ 16 + (1 - u) * 2 ^ 8 + j) ∧ t.dev.plc.moveAt = some s.dev.up ∧ s.sameMem t)
  ∧ (∀ (s : State) (k : Fin 32), k.val < 24 → s.dev.blockOn bPLC = true → s.dev.hostRefused Reg.PLC_EVAC = false → s.dev.plc.evac = none →
    (s.dev.plc.evacWait.any fun e => e.1 == k.val) = false → s.dev.evacAllowed k = true →
    Answers (.evacStart k) s fun t => (∀ o < 643, (t.dev.bankSet o).testBit k = false)
      ∧ ((s.dev.frames.any fun e => e.2.granules.any fun g => g / 2048 == k.val) = true →
          t.dev.plc.evac = some (k.val, causeSoftware) ∧ t.dev.bit Reg.PLC_EVAC.START = true ∧ t.dev.bankIn k = true)
      ∧ ((s.dev.frames.any fun e => e.2.granules.any fun g => g / 2048 == k.val) = false →
          t.dev.plc.evac = none ∧ t.dev.bit Reg.PLC_EVAC.START = false ∧ t.dev.bankIn k = false ∧ t.dev.bit (statusBit bPLC 2) = true
            ∧ t.dev.get Reg.PLC_MOVE_CNT.COUNT = (s.dev.get Reg.PLC_MOVE_CNT.COUNT + 1) % 2 ^ 32) ∧ s.sameMem t)
  ∧ (∀ (s : State) (d : Fin 16384) (k cause m : Nat) (gs : List Nat) (next : Nat), s.dev.blockOn bPLC = true → s.dev.plc.evac = some (k, cause) →
    ((s.dev.frameOf d).granules.any fun g => g / 2048 == k) = true → (s.dev.frameOf d).started = false → (s.dev.frameOf d).since + 10000000 ≤ s.dev.up →
    m = (if s.dev.bankSet (s.dev.frameOf d).owner.key &&& s.dev.openMask = 0 then s.dev.openMask else s.dev.bankSet (s.dev.frameOf d).owner.key &&& s.dev.openMask) →
    pickGranules s.dev.usedGranules m
      (Tab.get (fun _ => 0) s.dev.bankNext (s.dev.frameOf d).owner.key) (s.dev.frameOf d).granules.length = (gs, next) →
    gs.length = (s.dev.frameOf d).granules.length →
    Answers (.evacFrameCopy d) s fun t => t.dev.frameOf d = { s.dev.frameOf d with granules := gs, since := s.dev.up }
      ∧ (∀ e, e ≠ d.val → t.dev.frameOf e = s.dev.frameOf e) ∧ t.dev.locker = Dev.lockerWrite s.dev.locker (s.dev.frameOf d).data gs ∧ s.sameMem t)
  ∧ (∀ (s : State) (k : Fin 32), k.val < 24 → s.dev.blockOn bPLC = true → s.dev.hostRefused Reg.PLC_EVAC = false → s.dev.bankIn k = false → s.dev.plc.evacWait = [] →
    s.dev.plc.faulty.testBit k = false → s.dev.domOn (19 + k) = true →
    Answers (.evacReturn k) s fun t => t.dev.bankIn k = true ∧ (∀ j < 24, j ≠ k.val → t.dev.bankIn j = s.dev.bankIn j)
      ∧ t.dev.get Reg.PLC_MOVE_CNT.COUNT = (s.dev.get Reg.PLC_MOVE_CNT.COUNT + 1) % 2 ^ 32
      ∧ t.dev.word Reg.PLC_MOVE_LAST = BitVec.ofNat 32 (2 * 2 ^ 28 + causeSoftware * 2 ^ 24 + k * 2 ^ 16 + k) ∧ s.sameMem t)
  ∧ (∀ (s : State) (d : Fin 80), s.dev.blockOn bPLC = true → s.dev.cycling 1 d = false → s.dev.powerEn = true → s.dev.plcFrozen = false → Dev.riggerDom d = true →
    s.dev.domOn d = true → s.dev.pinTarget 4 d = none → s.dev.domEmpty d = true →
    Answers (.domainSwitchOff d) s fun t => t.dev.domOn d = false ∧ t.dev.bit (Dev.domOffFld d) = true ∧ (∀ e < 80, e ≠ d.val → t.dev.domOn e = s.dev.domOn e)
      ∧ (44 ≤ d.val → d.val ≤ 59 → ∀ p ∈ Dev.groupPairs (d - 43), t.dev.pairState p = 3)
      ∧ t.dev.get Reg.PLC_MOVE_CNT.COUNT = (s.dev.get Reg.PLC_MOVE_CNT.COUNT + 1) % 2 ^ 32
      ∧ t.dev.word Reg.PLC_MOVE_LAST = BitVec.ofNat 32 (4 * 2 ^ 28 + causePolicy * 2 ^ 24 + d) ∧ s.sameMem t)

/-- ODEIVO_REQUEST_ARRIVAL of a whole version-1 request with fewer than 32 waiting, and MAILBOX_GO of a mailbox whose first octet is 1: the request joins the end of the queue and is counted; GO reads 1. With 32 waiting a frame's request is dropped, counted and shown. The other clauses: the head of the queue, no check running, is no repetition and its status is 0 (u is the device with the head taken). READ, READ_STAGED, DESCRIBE and TABLE_READ answer the object's octets, its staged value, its description, and the octets of the bank; WRITE stages the value and clears the lost mark; DISCARD drops every staged value and lost mark; TABLE_WRITE writes each word of the idle bank by its access codes (a filter bank: while its port is powered). Whatever the head asks, it leaves the queue; when it came from mailbox m, its reply with status 0 and those octets is in the outputs and GO reads 0. READ whose status is n ≠ 0 and not 9, from a mailbox: the reply carries n and no octets, and DCT_ERR_CNT counts. WRITE that repeats a request: the repetition is counted and nothing is staged. -/
def Obligations.DictionaryOperations : Prop :=
  (∀ (s : State) (p : Fin 8) (data : List Octet), s.dev.isOdeivo p data = true → 16 ≤ (s.dev.frameReq p data).data.length → fieldBE (s.dev.frameReq p data).data 0 1 = 1 →
    (s.dev.dct.queue.length < 32 → Answers (.odeivoRequestArrival p data) s fun t => t.dev.dct.queue = s.dev.dct.queue ++ [{ s.dev.frameReq p data with at' := s.dev.up }]
      ∧ t.dev.get Reg.DCT_RX_CNT.COUNT = (s.dev.get Reg.DCT_RX_CNT.COUNT + 1) % 2 ^ 32 ∧ (∀ k, k ≠ Reg.DCT_RX_CNT → t.dev.word k = s.dev.word k) ∧ s.sameMem t)
    ∧ (32 ≤ s.dev.dct.queue.length → Answers (.odeivoRequestArrival p data) s fun t => t.dev.dct.queue = s.dev.dct.queue ∧ t.dev.bit (statusBit bDCT 4) = true
      ∧ t.dev.get Reg.DCT_RX_OVF.COUNT = (s.dev.get Reg.DCT_RX_OVF.COUNT + 1) % 2 ^ 32
      ∧ s.dev.onlyWords (fun k => k = Reg.DCT_RX_OVF ∨ k = statusAddr bDCT) t.dev ∧ s.sameMem t))
  ∧ (∀ (s : State) (m : Fin 2), s.dev.blockOn bDCT = true → s.dev.hostRefused (Reg.DCT_MBOX_CTL m) = false → s.dev.bit (Reg.DCT_MBOX_CTL.GO m) = false →
    (s.dev.word (Reg.DCT_MBOX m 0)).toNat / 2 ^ 24 = 1 →
    Answers (.mailboxGo m) s fun t => t.dev.dct.queue = s.dev.dct.queue ++ [{ src := 8 + m, data := s.dev.mailboxOctets m, at' := s.dev.up }]
      ∧ t.dev.bit (Reg.DCT_MBOX_CTL.GO m) = true ∧ t.dev.get Reg.DCT_RX_CNT.COUNT = (s.dev.get Reg.DCT_RX_CNT.COUNT + 1) % 2 ^ 32 ∧ s.sameMem t)
  ∧ (∀ (s : State) (u : Dev) (q : DctReq) (rest : List DctReq) (o : Obj), s.dev.blockOn bDCT = true → s.dev.dct.queue = q :: rest → s.dev.dct.check = none →
    u = s.dev.fresh.modDct (fun d => { d with queue := rest }) → u.dupOf q = none → u.reqStatus (u.reqRights q) q = 0 → u.objOf q.index q.sub = some o →
    (q.op = 1 → Answers .read s fun t => t.dev.dct.queue = rest ∧ t.dev.dct.staged = s.dev.dct.staged
      ∧ (∀ m < 2, q.src = 8 + m → Output.reply (Dev.replyOctets q 0 (u.readObject q o).1) ∈ t.dev.out ∧ t.dev.bit (Reg.DCT_MBOX_CTL.GO m) = false) ∧ s.sameMem t)
    ∧ (q.op = 2 → o.kind ≠ .command → Answers .write s fun t => t.dev.dct.queue = rest ∧ t.dev.dct.staged = Dev.stgPut s.dev.dct.staged ⟨q.index, q.sub, u.stageValue q o⟩
      ∧ t.dev.dct.lost = s.dev.dct.lost.filter (fun e => e != (q.index, q.sub)) ∧ t.dev.dct.waiting = s.dev.dct.waiting
      ∧ (∀ m < 2, q.src = 8 + m → Output.reply (Dev.replyOctets q 0 []) ∈ t.dev.out ∧ t.dev.bit (Reg.DCT_MBOX_CTL.GO m) = false) ∧ s.sameMem t)
    ∧ (q.op = 3 → Answers .readStaged s fun t => t.dev.dct.queue = rest ∧ t.dev.dct.staged = s.dev.dct.staged
      ∧ (∀ m < 2, q.src = 8 + m → Output.reply (Dev.replyOctets q 0 ((Dev.stagedOf s.dev.dct.staged q.index q.sub).getD [])) ∈ t.dev.out ∧ t.dev.bit (Reg.DCT_MBOX_CTL.GO m) = false)
      ∧ s.sameMem t)
    ∧ (q.op = 4 → Answers .describe s fun t => t.dev.dct.queue = rest ∧ t.dev.dct.staged = s.dev.dct.staged
      ∧ (∀ m < 2, q.src = 8 + m → Output.reply (Dev.replyOctets q 0 (Dev.describe o)) ∈ t.dev.out ∧ t.dev.bit (Reg.DCT_MBOX_CTL.GO m) = false) ∧ s.sameMem t)
    ∧ (∀ b k inst, q.op = 7 → o.kind = .table b k inst → Answers .tableRead s fun t => t.dev.dct.queue = rest ∧ t.dev.dct.staged = s.dev.dct.staged
      ∧ (∀ m < 2, q.src = 8 + m → Output.reply (Dev.replyOctets q 0 (u.tableRead q k inst).1) ∈ t.dev.out ∧ t.dev.bit (Reg.DCT_MBOX_CTL.GO m) = false) ∧ s.sameMem t)
    ∧ (∀ b k inst, q.op = 8 → o.kind = .table b k inst → (k = 5 → s.dev.chkOn inst = true) → Answers .tableWrite s fun t => t.dev.dct.queue = rest
      ∧ (∀ i < q.length / 4, t.dev.word (Dev.tableBase k inst (1 - s.dev.tableActive k inst) + q.offset + 4 * i)
          = s.dev.written b (Dev.tableBase k inst (1 - s.dev.tableActive k inst) + q.offset + 4 * i) (BitVec.ofNat 32 (fieldBE q.body (4 * i) 4)))
      ∧ t.dev.tableActive k inst = s.dev.tableActive k inst
      ∧ (∀ m < 2, q.src = 8 + m → Output.reply (Dev.replyOctets q 0 []) ∈ t.dev.out ∧ t.dev.bit (Reg.DCT_MBOX_CTL.GO m) = false) ∧ s.sameMem t))
  ∧ (∀ (s : State) (u : Dev) (q : DctReq) (rest : List DctReq), s.dev.blockOn bDCT = true → s.dev.dct.queue = q :: rest → s.dev.dct.check = none →
    u = s.dev.fresh.modDct (fun d => { d with queue := rest }) →
    (q.op = 6 → u.dupOf q = none → u.reqStatus (u.reqRights q) q = 0 → Answers .discard s fun t => t.dev.dct.queue = rest ∧ t.dev.dct.staged = [] ∧ t.dev.dct.lost = []
      ∧ t.dev.dct.waiting = s.dev.dct.waiting
      ∧ (∀ m < 2, q.src = 8 + m → Output.reply (Dev.replyOctets q 0 []) ∈ t.dev.out ∧ t.dev.bit (Reg.DCT_MBOX_CTL.GO m) = false) ∧ s.sameMem t)
    ∧ (∀ n m, m < 2 → q.op = 1 → q.src = 8 + m → u.reqStatus 1 q = n → n ≠ 0 → n ≠ 9 → Answers .read s fun t => t.dev.dct.queue = rest
      ∧ Output.reply (Dev.replyOctets q n []) ∈ t.dev.out ∧ t.dev.get Reg.DCT_ERR_CNT.COUNT = (s.dev.get Reg.DCT_ERR_CNT.COUNT + 1) % 2 ^ 32 ∧ s.sameMem t)
    ∧ (∀ d, q.op = 2 → u.dupOf q = some d → Answers .write s fun t => t.dev.dct.queue = rest ∧ t.dev.dct.staged = s.dev.dct.staged
      ∧ t.dev.get Reg.DCT_DUP.COUNT = (s.dev.get Reg.DCT_DUP.COUNT + 1) % 2 ^ 32 ∧ s.sameMem t))

/-- COMMIT at the head of the queue, no repetition, with rights: the check runs for it and CHECKING reads 1. ADMISSION_CHECK_END of a COMMIT from mailbox m whose candidate is admitted: every staged value waits, none is staged, the commit is counted and shown, and the reply has status 0. Refused with an _ADMIT word: DCT_ADMIT holds the block and the code, that word holds the refusal, the refusal is counted and shown, what is staged and what waits stay, and the reply has status 8 with the refusal's data. (The judgement is that of the device without the last command's outputs.) COMMIT_POINT at which the due values are those of one object 0x1010, subindex 1, 2 or 3 (EtherType, ports, open ports): that field holds the value and the value waits no longer; where nothing is due, no register word changes. -/
def Obligations.DictionaryCommits : Prop :=
  (∀ (s : State) (u : Dev) (q : DctReq) (rest : List DctReq), s.dev.blockOn bDCT = true → s.dev.dct.queue = q :: rest → s.dev.dct.check = none →
    u = s.dev.fresh.modDct (fun d => { d with queue := rest }) → u.dupOf q = none → q.op = 5 → u.reqRights q ≠ 0 →
    Answers .commit s fun t => t.dev.dct.queue = rest ∧ t.dev.dct.check = some (q, none) ∧ t.dev.bit (statusBit bDCT 5) = true ∧ t.dev.dct.staged = s.dev.dct.staged
      ∧ (∀ k, k ≠ statusAddr bDCT → t.dev.word k = s.dev.word k) ∧ s.sameMem t)
  ∧ (∀ (s : State) (q : DctReq) (m : Nat), m < 2 → s.dev.blockOn bDCT = true → s.dev.dct.check = some (q, none) → q.op = 5 → q.src = 8 + m →
    (s.dev.fresh.admissionCheck = none → Answers .admissionCheckEnd s fun t => t.dev.dct.check = none ∧ t.dev.dct.staged = []
      ∧ t.dev.dct.waiting = s.dev.dct.staged.foldl Dev.stgPut s.dev.dct.waiting ∧ t.dev.bit (statusBit bDCT 0) = true ∧ t.dev.bit (statusBit bDCT 5) = false
      ∧ t.dev.get Reg.DCT_COMMIT_CNT.COUNT = (s.dev.get Reg.DCT_COMMIT_CNT.COUNT + 1) % 2 ^ 32
      ∧ Output.reply (Dev.replyOctets q 0 []) ∈ t.dev.out ∧ s.sameMem t)
    ∧ (∀ (r : Refused) (k : Nat), s.dev.fresh.admissionCheck = some r → r.reg = some k →
      k ∈ [Reg.FRM_ADMIT, Reg.GTE_ADMIT, Reg.STM_ADMIT, Reg.SHD_ADMIT, Reg.CEL_ADMIT, Reg.SMP_ADMIT, Reg.PLC_ADMIT, Reg.AUT_ADMIT, Reg.MEM_ADMIT] → Answers .admissionCheckEnd s fun t => t.dev.dct.check = none ∧ t.dev.dct.staged = s.dev.dct.staged
      ∧ t.dev.dct.waiting = s.dev.dct.waiting ∧ t.dev.bit (statusBit bDCT 1) = true ∧ t.dev.bit (statusBit bDCT 5) = false
      ∧ t.dev.get Reg.DCT_REFUSE_CNT.COUNT = (s.dev.get Reg.DCT_REFUSE_CNT.COUNT + 1) % 2 ^ 32
      ∧ t.dev.word k = BitVec.ofNat 32 r.word ∧ t.dev.word Reg.DCT_ADMIT = BitVec.ofNat 32 (r.block * 2 ^ 24 + r.code)
      ∧ Output.reply (Dev.replyOctets q 8 (Dev.refusalData r r.word)) ∈ t.dev.out ∧ s.sameMem t))
  ∧ (∀ (s : State) (pt : CommitPoint), s.dev.blockOn bDCT = true →
    (∀ (sub : Nat) (v : List Octet) (f : Fld), (sub, f) ∈ [(1, Reg.DCT_CFG.ETYPE), (2, Reg.DCT_CFG.PORTS), (3, Reg.DCT_CFG.OPEN)] →
      (s.dev.dct.waiting.filter fun g => s.dev.dueAtPoint pt g.index && !s.dev.waitsForDomain g) = [⟨0x1010, sub, v⟩] →
      Answers (.commitPoint pt) s fun t => t.dev.get f = numBE v % 2 ^ f.w
        ∧ t.dev.dct.waiting = s.dev.dct.waiting.filter (fun g => g != ⟨0x1010, sub, v⟩) ∧ t.dev.dct.staged = s.dev.dct.staged ∧ s.sameMem t)
    ∧ ((s.dev.dct.waiting.filter fun g => s.dev.dueAtPoint pt g.index && !s.dev.waitsForDomain g) = [] →
      Answers (.commitPoint pt) s fun t => t.dev.dct = s.dev.dct ∧ s.dev.onlyWords (fun _ => False) t.dev ∧ s.sameMem t))

/-- CRIT at the head of the queue, no check running, no repetition, whole (u is the device with the head taken). When one of checks 0x10 to 0x16 fails: AUT_LAST_FAIL shows the code, the port or mailbox and the client, the refusal is counted and shown, nothing is staged, and a mailbox gets a reply with that code. When the outer and inner checks pass, the counter is not the last one, and the inner operation is a WRITE of status 0: LAST is the command's counter, AUT_OK_CNT counts, the value is staged, and a mailbox gets a reply with status 0 that begins with client, counter and the reply's MAC under BOOT_ID. A repeated or used counter fails, since check 0x16 is among them. TEST_CMAC_START while none runs: AUT_TEST_CTL takes the value by its access codes with START 1, and nothing else in registers. TEST_CMAC_DONE of a running test: AUT_TEST_MAC holds the AES-CMAC of the message under the test key, most significant word first, START reads 0, and status bit 3 is set. -/
def Obligations.CriticalCommands : Prop :=
  (∀ (s : State) (u : Dev) (q : DctReq) (rest : List DctReq), s.dev.blockOn bDCT = true → s.dev.dct.queue = q :: rest → s.dev.dct.check = none →
    u = s.dev.fresh.modDct (fun d => { d with queue := rest }) → u.dupOf q = none → q.op = 9 → q.beyond = false → 34 ≤ q.length → q.src < 10 →
    (∀ c, u.critOuter q.body = some c → Answers .crit s fun t => t.dev.dct.queue = rest ∧ t.dev.dct.staged = s.dev.dct.staged
      ∧ t.dev.get Reg.AUT_LAST_FAIL.STATUS = c ∧ t.dev.get Reg.AUT_LAST_FAIL.PORT = q.src ∧ t.dev.get Reg.AUT_LAST_FAIL.CLIENT = fieldBE q.body 0 2 % 4096
      ∧ t.dev.get Reg.AUT_FAIL_CNT.COUNT = (s.dev.get Reg.AUT_FAIL_CNT.COUNT + 1) % 2 ^ 32 ∧ t.dev.bit (statusBit bAUT 0) = true
      ∧ (∀ id < 4096, t.dev.clientLast id = s.dev.clientLast id)
      ∧ (8 ≤ q.src → Output.reply (Dev.replyOctets q c []) ∈ t.dev.out) ∧ s.sameMem t)
    ∧ (∀ (v : Dev) (o : Obj), u.critOuter q.body = none → fieldBE q.body 4 6 ≠ 2 ^ 48 - 1 → v = (u.setClientLast (fieldBE q.body 0 2 % 4096) (fieldBE q.body 4 6)).inc Reg.AUT_OK_CNT.COUNT →
      (u.setClientLast (fieldBE q.body 0 2 % 4096) (fieldBE q.body 4 6)).critInner q.body = none → (Dev.innerReq q).op = 2 → v.reqStatus 2 (Dev.innerReq q) = 0 →
      v.objOf (Dev.innerReq q).index (Dev.innerReq q).sub = some o → o.kind ≠ .command →
      Answers .crit s fun t => t.dev.dct.queue = rest ∧ t.dev.clientLast (fieldBE q.body 0 2 % 4096) = fieldBE q.body 4 6
        ∧ t.dev.get Reg.AUT_OK_CNT.COUNT = (s.dev.get Reg.AUT_OK_CNT.COUNT + 1) % 2 ^ 32
        ∧ t.dev.dct.staged = Dev.stgPut s.dev.dct.staged ⟨(Dev.innerReq q).index, (Dev.innerReq q).sub, v.stageValue (Dev.innerReq q) o⟩
        ∧ (8 ≤ q.src → Output.reply (Dev.replyOctets q 0
            (s.dev.critPrefix ⟨fieldBE q.body 0 2, fieldBE q.body 4 6, s.dev.clientKey (fieldBE q.body 0 2 % 4096)⟩ 0)) ∈ t.dev.out) ∧ s.sameMem t))
  ∧ (∀ (s : State) (v : Word), s.dev.blockOn bAUT = true → s.dev.hostRefused Reg.AUT_TEST_CTL = false → s.dev.bit Reg.AUT_TEST_CTL.START = false →
    Answers (.testCmacStart v) s fun t => t.dev.bit Reg.AUT_TEST_CTL.START = true ∧ t.dev.word Reg.AUT_TEST_CTL = s.dev.written bAUT Reg.AUT_TEST_CTL (v ||| 0x80000000#32)
      ∧ s.dev.onlyWords (fun k => k = Reg.AUT_TEST_CTL) t.dev ∧ s.sameMem t)
  ∧ (∀ (s : State), s.dev.blockOn bAUT = true → s.dev.bit Reg.AUT_TEST_CTL.START = true →
    Answers .testCmacDone s fun t => (∀ w < 4, t.dev.word (Reg.AUT_TEST_MAC w) = BitVec.ofNat 32 (Aes.cmac s.dev.testKey s.dev.testMsg / 2 ^ (32 * (3 - w))))
      ∧ t.dev.bit Reg.AUT_TEST_CTL.START = false ∧ t.dev.bit (statusBit bAUT 3) = true
      ∧ s.dev.onlyWords (fun k => (∃ w < 4, k = Reg.AUT_TEST_MAC w) ∨ k = Reg.AUT_TEST_CTL ∨ k = statusAddr bAUT) t.dev ∧ s.sameMem t)

/-- Host writes of a unit that answers, of words no CRIT object backs. JOB_EN_WRITE that sets one bit: its job is placed on the unit chosen for it, on the lowest free channel, and the word holds the value; while that unit is off, its domain begins to come on instead; that clears one bit of a job not running: its map word is 0 and its set is at reset. DMA_START, the job enabled and not running, STOP not written: with the first failing check's number e, ERR is e; e = 0 starts the job for CNT bytes, any other leaves its state. DMA_STOP of a running job that is not being removed: idle and disarmed when no record and none of its accesses is outstanding, else stopping. SHADOW_ARM with ARMED 0: a running job is armed; an idle one takes the shadow set and starts if its checks pass. REQUEST_SET: each line whose bit is 1 counts one request, up to 255. TRANSFER_END of a running job all of whose bytes have landed, not armed: it is idle, counted, and its DONE bit is set where IRQ_EN is 1. BUS_ERROR of a running job, its unit in service: the unit is stopped with kind, job and address shown, and the job's STATE is 2. UNIT_CLEAR: the unit is in service, its stopped jobs are placed. -/
def Obligations.DmaJobs : Prop :=
  (∀ (s : State) (u : Fin 2) (hi : Bool) (i : Fin 32) (key j : Nat), key = (if hi then Reg.DMA_JOB_EN_HI else Reg.DMA_JOB_EN_LO) → j = i + (if hi then 32 else 0) →
    s.dev.blockOn (bDMA u) = true → s.dev.hostRefused key = false →
    (∀ c, wbit (s.dev.word key) i = false → (s.dev.job j).removing = false → s.dev.freeChan (s.dev.chooseUnit j) = some c →
      (s.dev.domOn (Dev.unitDom (s.dev.chooseUnit j)) = true →
        Answers (.jobEnWrite u hi (s.dev.word key ||| BitVec.ofNat 32 (2 ^ i.val))) s fun t => t.dev.jobPlace j = 1 ∧ t.dev.jobUnit j = s.dev.chooseUnit j
          ∧ t.dev.get (Reg.PLC_JOB_MAP.CHAN j) = c ∧ t.dev.word key = s.dev.word key ||| BitVec.ofNat 32 (2 ^ i.val)
          ∧ s.dev.onlyWords (fun k => k = key ∨ k = Reg.PLC_JOB_MAP j) t.dev ∧ s.sameMem t)
      ∧ (s.dev.domOn (Dev.unitDom (s.dev.chooseUnit j)) = false →
        Answers (.jobEnWrite u hi (s.dev.word key ||| BitVec.ofNat 32 (2 ^ i.val))) s fun t => t.dev.word (Reg.PLC_JOB_MAP j) = s.dev.word (Reg.PLC_JOB_MAP j)
          ∧ t.dev.word key = s.dev.word key ||| BitVec.ofNat 32 (2 ^ i.val) ∧ t.dev.pwr.switching.testBit (Dev.unitDom (s.dev.chooseUnit j)) = true ∧ s.sameMem t))
    ∧ (wbit (s.dev.word key) i = true → s.dev.jobState j ≠ 1 →
      Answers (.jobEnWrite u hi (s.dev.word key ^^^ BitVec.ofNat 32 (2 ^ i.val))) s fun t => t.dev.word (Reg.PLC_JOB_MAP j) = 0 ∧ t.dev.jobEn j = false
        ∧ (∀ w < 32, t.dev.word (Reg.DMA_SRC_LO j + 4 * w) = resetWord (Reg.DMA_SRC_LO j + 4 * w)) ∧ s.sameMem t))
  ∧ (∀ (s : State) (u : Fin 2) (j : Fin 64) (v : Word) (w : Dev) (e : Nat), s.dev.blockOn (bDMA u) = true → s.dev.hostRefused (Reg.DMA_CTL j) = false → s.dev.jobEn j = true →
    s.dev.jobState j ≠ 1 → wbit v 30 = false → w = s.dev.setWord (Reg.DMA_CTL j) (v &&& 0x3FFFF700#32) → w.startErr j = e →
    Answers (.dmaStart u j v) s fun t => t.dev.get (Reg.DMA_STAT.ERR j) = e ∧ t.dev.word (Reg.DMA_CTL j) = v &&& 0x3FFFF700#32
      ∧ t.dev.jobState j = (if e = 0 then 1 else s.dev.jobState j) ∧ (e = 0 → t.dev.job j = { total := s.dev.jobCnt j })
      ∧ (∀ x, e = 0 → w.jobCtx j = some x → t.dev.get (Reg.DMA_STAT.GEN j) = s.dev.ctxGen x % 256)
      ∧ (∀ k, k ≠ Reg.DMA_CTL j → k ≠ Reg.DMA_STAT j → t.dev.word k = s.dev.word k) ∧ s.sameMem t)
  ∧ (∀ (s : State) (u : Fin 2) (j : Fin 64) (v : Word), s.dev.blockOn (bDMA u) = true → s.dev.hostRefused (Reg.DMA_CTL j) = false → s.dev.jobEn j = true → s.dev.jobState j = 1 →
    (s.dev.jobAccs j = [] → (s.dev.job j).frame = none → (s.dev.job j).gather = false → (s.dev.job j).removing = false → Answers (.dmaStop u j v) s fun t => t.dev.jobState j = 0 ∧ t.dev.get (Reg.DMA_STAT.ARMED j) = 0 ∧ t.dev.job j = {}
      ∧ (∀ k, k ≠ Reg.DMA_CTL j → k ≠ Reg.DMA_STAT j → t.dev.word k = s.dev.word k) ∧ s.sameMem t)
    ∧ (s.dev.jobAccs j ≠ [] → Answers (.dmaStop u j v) s fun t => t.dev.jobState j = 1 ∧ (t.dev.job j).stopping = true ∧ (t.dev.job j).issued = (s.dev.job j).issued ∧ s.sameMem t))
  ∧ (∀ (s : State) (u : Fin 2) (j : Fin 64) (v : Word) (w : Dev), s.dev.blockOn (bDMA u) = true → s.dev.hostRefused (Reg.SH_SRC_LO j + 0x14) = false → s.dev.jobEn j = true →
    s.dev.get (Reg.DMA_STAT.ARMED j) = 0 → w = s.dev.setWord (Reg.SH_SRC_LO j + 0x14) (v &&& 0x3FFFF700#32) →
    (s.dev.jobState j = 1 → Answers (.shadowArm u j v) s fun t => t.dev.get (Reg.DMA_STAT.ARMED j) = 1 ∧ t.dev.word (Reg.SH_SRC_LO j + 0x14) = v &&& 0x3FFFF700#32
      ∧ s.dev.onlyWords (fun k => k = Reg.SH_SRC_LO j + 0x14 ∨ k = Reg.DMA_STAT j) t.dev ∧ s.sameMem t)
    ∧ (s.dev.jobState j = 0 → (w.shadowCopy j).startErr j = 0 → Answers (.shadowArm u j v) s fun t => t.dev.jobState j = 1 ∧ t.dev.get (Reg.DMA_STAT.ARMED j) = 0
      ∧ (∀ i < 10, t.dev.word (Reg.DMA_SRC_LO j + 4 * i) = w.word (Reg.SH_SRC_LO j + 4 * i)) ∧ t.dev.job j = { total := (w.shadowCopy j).jobCnt j } ∧ s.sameMem t))
  ∧ (∀ (s : State) (u : Fin 2) (w : Fin 4) (v : Word), s.dev.blockOn (bDMA u) = true → s.dev.hostRefused (Reg.DMA_REQ_SET w) = false →
    Answers (.requestSet u w v) s fun t => (∀ i < 32, t.dev.get (Reg.DMA_REQ_CNT.COUNT (32 * w + i))
        = (if wbit v i = true ∧ s.dev.get (Reg.DMA_REQ_CNT.COUNT (32 * w + i)) ≠ 255 then s.dev.get (Reg.DMA_REQ_CNT.COUNT (32 * w + i)) + 1 else s.dev.get (Reg.DMA_REQ_CNT.COUNT (32 * w + i))))
      ∧ s.dev.onlyWords (fun k => (∃ i < 32, k = Reg.DMA_REQ_CNT (32 * w + i)) ∨ k = Reg.DMA_REQ_OVF ∨ k = statusAddr (bDMA 0) ∨ k = statusAddr (bDMA 1)) t.dev ∧ s.sameMem t)
  ∧ (∀ (s : State) (j : Fin 64), s.dev.jobPlace j ≠ 0 → s.dev.jobUnit j < 2 → s.dev.jobState j = 1 → (s.dev.job j).stopping = false → (s.dev.job j).gather = false → (s.dev.job j).frame = none →
    ((s.dev.job j).short = true ∨ (s.dev.job j).total ≤ (s.dev.job j).issued) → s.dev.jobAccs j = [] → s.dev.get (Reg.DMA_STAT.ARMED j) = 0 →
    Answers (.transferEnd j) s fun t => t.dev.jobState j = 0 ∧ t.dev.job j = {} ∧ t.dev.get (Reg.DMA_DONE_CNT.COUNT j) = (s.dev.get (Reg.DMA_DONE_CNT.COUNT j) + 1) % 2 ^ 32
      ∧ t.dev.bit (Dev.doneFld (s.dev.jobUnit j) j) = (s.dev.bit (Dev.doneFld (s.dev.jobUnit j) j) || s.dev.bit (Reg.DMA_CTL.IRQ_EN j)) ∧ s.sameMem t)
  ∧ (∀ (s : State) (u : Fin 2) (j : Fin 64) (kind : Fin 5) (addr : BitVec 64), s.dev.blockOn (bDMA u) = true → kind.val ≠ 0 → s.dev.unitStopped u = false →
    s.dev.jobPlace j ≠ 0 → s.dev.jobUnit j = u → s.dev.jobState j = 1 → (s.dev.job j).removing = false →
    Answers (.busError u j kind addr) s fun t => t.dev.unitStopped u = true ∧ t.dev.jobState j = 2 ∧ t.dev.get (Reg.DMA_BUS_ERR_A.KIND u) = kind ∧ t.dev.get (Reg.DMA_BUS_ERR_A.JOB u) = j
      ∧ t.dev.get (Reg.DMA_BUS_ERR_A.SPACE u) = 1 ∧ t.dev.get (Reg.DMA_BUS_ERR_LO.ADDR u) + t.dev.get (Reg.DMA_BUS_ERR_HI.ADDR u) * 2 ^ 32 = addr.toNat
      ∧ t.dev.bit (stickyBit (bDMA u) 0) = true ∧ s.sameMem t)
  ∧ (∀ (s : State) (u : Fin 2), s.dev.blockOn (bDMA u) = true → s.dev.hostRefused (Reg.DMA_UNIT_CTL u) = false →
    Answers (.unitClear u) s fun t => t.dev.unitStopped u = false ∧ (∀ j < 64, s.dev.jobUnit j = u → s.dev.jobPlace j = 3 → t.dev.jobPlace j = 1)
      ∧ s.dev.onlyWords (fun k => k = Reg.DMA_UNIT_CTL u ∨ ∃ j < 64, s.dev.jobPlace j = 3 ∧ k = Reg.PLC_JOB_MAP j) t.dev ∧ s.sameMem t)

/-- BURST_GRANT of a unit that answers, is in service and has fewer than 16 bursts in flight, where job j is picked and n is the length of its burst (BURST, what is left, and the ends of both lines). From host to host, host space reachable: host memory holds n octets more of the transfer, each taken from its source address with SWAP; CNT falls by n, and DRAM stays. From DRAM to DRAM or host, both channels up: n more bytes are issued; each channel's queue grows by one read for every block of it, and neither memory changes yet. Each grant is counted in DMA_BURST_CNT. From an empty frame queue: the transfer is marked short, and neither memory changes. -/
def Obligations.DmaBursts : Prop :=
  (∀ (s : State) (u : Fin 2) (j n : Nat), s.dev.blockOn (bDMA u) = true → s.dev.unitStopped u = false → s.dev.burstsInFlight u < 16 → s.dev.pickJob u = some j →
    n = min (min (16 * 2 ^ min 4 (s.dev.get (Reg.DMA_CTL.BURST j))) ((s.dev.job j).total - (s.dev.job j).issued))
      (min ((s.dev.srcSide j).len (s.dev.job j).total - (s.dev.job j).issued % (s.dev.srcSide j).len (s.dev.job j).total)
        ((s.dev.dstSide j).len (s.dev.job j).total - (s.dev.job j).issued % (s.dev.dstSide j).len (s.dev.job j).total)) →
    (s.dev.get (Reg.DMA_CTL.SRC_SPACE j) = 1 → s.dev.get (Reg.DMA_CTL.DST_SPACE j) = 1 → s.dev.hostReach = true →
      Answers (.burstGrant u) s fun t => t.host = s.host.putAll ((List.range n).map fun i =>
          ((s.dev.dstSide j).at' (s.dev.job j).total ((s.dev.job j).issued + i),
            s.host.at ((s.dev.srcSide j).at' (s.dev.job j).total (((s.dev.job j).issued + i) ^^^ s.dev.get (Reg.DMA_CTL.SWAP j)))))
        ∧ t.dram = s.dram ∧ (t.dev.job j).issued = (s.dev.job j).issued + n ∧ t.dev.jobCnt j = s.dev.jobCnt j - n
        ∧ t.dev.get (Reg.DMA_BURST_CNT.COUNT u) = (s.dev.get (Reg.DMA_BURST_CNT.COUNT u) + 1) % 2 ^ 32)
    ∧ (s.dev.get (Reg.DMA_CTL.SRC_SPACE j) = 0 → s.dev.get (Reg.DMA_CTL.DST_SPACE j) < 2 → s.dev.chUp 0 = true → s.dev.chUp 1 = true → s.dev.jobUnit j = u →
      Answers (.burstGrant u) s fun t => (t.dev.job j).issued = (s.dev.job j).issued + n ∧ t.dev.jobCnt j = s.dev.jobCnt j
        ∧ t.dev.get (Reg.DMA_BURST_CNT.COUNT u) = (s.dev.get (Reg.DMA_BURST_CNT.COUNT u) + 1) % 2 ^ 32
        ∧ (∀ ch < 2, (t.dev.chn ch).waits = (s.dev.chn ch).waits
          ++ ((byBlock ((List.range n).map fun i => ((s.dev.srcSide j).at' (s.dev.job j).total (((s.dev.job j).issued + i) ^^^ s.dev.get (Reg.DMA_CTL.SWAP j)), (s.dev.job j).issued + i))).filter
              fun b => memChan (64 * b.1) == ch).map fun b =>
            { port := 2 + u, block := b.1, reads := b.2, owner := .job j, burst := (s.dev.get (Reg.DMA_BURST_CNT.COUNT u) + 1) % 2 ^ 32 }) ∧ s.sameMem t)
    ∧ (s.dev.get (Reg.DMA_CTL.SRC_SPACE j) = 2 → Tab.get (fun _ => []) s.dev.rxQ (s.dev.frameQueue j) = [] →
      Answers (.burstGrant u) s fun t => (t.dev.job j).short = true ∧ t.dev.bit (Reg.DMA_STAT.SHORT j) = true
        ∧ t.dev.get (Reg.DMA_BURST_CNT.COUNT u) = (s.dev.get (Reg.DMA_BURST_CNT.COUNT u) + 1) % 2 ^ 32 ∧ s.sameMem t))

/-- RETRAIN_DUE of the channel whose turn it is, ready, awake and due, no retraining, catch-up or panic on: the turn passes to it; a drift above DRIFT_TOL retrains it for 300 ns and counts, a smaller one changes no register word, one beyond the delay lines raises source 4 and a second in a row takes the channel down. MR4_READ of a ready channel that is due: MR4_RATE holds the code and its multiplier waits for the next refresh; code 7 raises source 2. REFRESH_DUE of a ready channel that is due, no new multiplier waiting: in all-bank mode the channel is busy for tRFCab and the next refresh is due 3904/M ns later; in per-bank mode the next bank's turn comes 488/M ns later and a bank not in use is busy for its refreshes. CHANNEL_DOWN: the channel is down with nothing queued, source 1 open. CHANNEL_RETRAIN of a down channel: it is training. TRAINING_DONE of a training channel: with a device and a rate it is ready, showing type, density, rate and size (in Run, where no size was known), and outside a Hold wake its octets read as nothing written, those of the other channel stay; no rate, it is down; no device, it is down in Run, else absent with its domain off. -/
def Obligations.MemoryChannels : Prop :=
  (∀ (s : State) (ch drift : Nat), ch = s.dev.retrainNext → s.dev.chState ch = chReady → s.dev.dramAwake = true → s.dev.retrainAt + s.dev.msField Reg.MEM_CFG.RETRAIN_MS ≤ s.dev.up →
    (s.dev.chn 0).retrainTill ≤ s.dev.up → (s.dev.chn 1).retrainTill ≤ s.dev.up → (s.dev.chn ch).catchTill ≤ s.dev.up →
    (∀ q < 2, ∀ c < 2, s.dev.bit (Dev.panicFld q c) = false) →
    Answers (.retrainDue drift false) s (fun t => t.dev.retrainTurn = ch ∧ t.dev.retrainAt = s.dev.up ∧ (t.dev.chn ch).driftBad = 0
      ∧ (if s.dev.get Reg.MEM_CFG.DRIFT_TOL < drift then (t.dev.chn ch).retrainTill = s.dev.up + 300 ∧ t.dev.bit (statusBit bMEM 3) = true
            ∧ t.dev.get (Reg.MEM_RETRAIN_CNT.COUNT ch) = (s.dev.get (Reg.MEM_RETRAIN_CNT.COUNT ch) + 1) % 2 ^ 32
          else (t.dev.chn ch).retrainTill = (s.dev.chn ch).retrainTill ∧ ∀ k, t.dev.word k = s.dev.word k) ∧ s.sameMem t)
    ∧ Answers (.retrainDue drift true) s (fun t => t.dev.retrainTurn = ch ∧ t.dev.bit (stickyBit bMEM 4) = true
      ∧ t.dev.chState ch = (if (s.dev.chn ch).driftBad = 1 then chDown else chReady) ∧ s.sameMem t))
  ∧ (∀ (s : State) (ch : Fin 2) (code : BitVec 3), s.dev.chState ch = chReady → s.dev.dramAwake = true → (s.dev.chn ch).mr4At + s.dev.msField Reg.MEM_CFG.MR4_MS ≤ s.dev.up →
    Answers (.mr4Read ch code) s fun t => t.dev.get (Reg.MEM_CH_STAT.MR4_RATE ch) = code.toNat
      ∧ t.dev.chn ch = { s.dev.chn ch with mr4At := s.dev.up, multNext := some (Dev.mr4Mult code.toNat) } ∧ t.dev.chState ch = chReady
      ∧ (code.toNat = 7 → t.dev.bit (stickyBit bMEM 2) = true ∧ t.dev.bit (statusBit bMEM 5) = true) ∧ s.sameMem t)
  ∧ (∀ (s : State) (ch : Fin 2), s.dev.chState ch = chReady → s.dev.dramAwake = true → (s.dev.chn ch).refAt ≤ s.dev.up → (s.dev.chn ch).multNext = none →
    (s.dev.bit Reg.MEM_CFG.REFRESH_MODE = true → Answers (.refreshDue ch) s fun t =>
      t.dev.chn ch = { s.dev.chn ch with busyTill := s.dev.up + s.dev.trfc ch true, refAt := (s.dev.chn ch).refAt + 3904 / s.dev.refMult ch }
        ∧ s.dev.onlyWords (fun _ => False) { t.dev with chns := s.dev.chns } ∧ s.sameMem t)
    ∧ (s.dev.bit Reg.MEM_CFG.REFRESH_MODE = false → s.dev.bankInUse ch ((s.dev.chn ch).nextBank % 8) = false → Answers (.refreshDue ch) s fun t =>
      t.dev.chn ch = { s.dev.chn ch with nextBank := ((s.dev.chn ch).nextBank + 1) % 8, refAt := (s.dev.chn ch).refAt + 488 / s.dev.refMult ch, postponed := (s.dev.chn ch).postponed.set ((s.dev.chn ch).nextBank % 8) 0, bankTill := (s.dev.chn ch).bankTill.set ((s.dev.chn ch).nextBank % 8) (max s.dev.up ((s.dev.chn ch).bankTill.getD ((s.dev.chn ch).nextBank % 8) 0) + ((s.dev.chn ch).postponed.getD ((s.dev.chn ch).nextBank % 8) 0 + 1) * s.dev.trfc ch false) }
        ∧ s.dev.onlyWords (fun _ => False) { t.dev with chns := s.dev.chns } ∧ s.sameMem t))
  ∧ (∀ (s : State) (ch : Fin 2), s.dev.chUp ch = true → Answers (.channelDown ch) s fun t => t.dev.chState ch = chDown ∧ (t.dev.chn ch).waits = [] ∧ (t.dev.chn ch).flight = []
    ∧ t.dev.bit (stickyBit bMEM 1) = true ∧ t.dev.bit (statusBit bMEM 4) = true ∧ s.sameMem t)
  ∧ (∀ (s : State) (ch : Fin 2) (v : Word), s.dev.blockOn bMEM = true → s.dev.hostRefused (Reg.MEM_CH_CTL ch) = false → s.dev.chState ch = chDown →
    Answers (.channelRetrain ch v) s fun t => t.dev.chState ch = chTraining ∧ s.dev.onlyWords (fun k => k = Reg.MEM_CH_STAT ch) t.dev ∧ s.sameMem t)
  ∧ (∀ (s : State) (ch : Fin 2), s.dev.chState ch = chTraining →
    (∀ (ty : Fin 2) (den : Fin 3) (r : Fin 5), Answers (.trainingDone ch (some (ty, den)) (some r)) s fun t => t.dev.chState ch = chReady
      ∧ ((s.dev.pwr.phase = .run → s.dev.get (Reg.MEM_CH_USABLE.SIZE ch) = 0) → t.dev.get (Reg.MEM_CH_STAT.TYPE ch) = ty ∧ t.dev.get (Reg.MEM_CH_STAT.DENSITY ch) = den
        ∧ t.dev.get (Reg.MEM_CH_STAT.RATE_NOW ch) = r ∧ t.dev.get (Reg.MEM_CH_USABLE.SIZE ch) = Dev.usableUnits den)
      ∧ (s.dev.pwr.fromHold = false → (∀ a, memChan a = ch → t.dram.at a = 0) ∧ ∀ a, memChan a ≠ ch → t.dram.at a = s.dram.at a)
      ∧ (s.dev.pwr.fromHold = true → t.dram = s.dram) ∧ t.host = s.host)
    ∧ (∀ (ty : Fin 2) (den : Fin 3), Answers (.trainingDone ch (some (ty, den)) none) s fun t => t.dev.chState ch = chDown ∧ t.host = s.host)
    ∧ (∀ r, Answers (.trainingDone ch none r) s fun t => (s.dev.pwr.phase = .run → t.dev.chState ch = chDown)
      ∧ (s.dev.pwr.phase ≠ .run → t.dev.chState ch = chAbsent ∧ t.dev.domOn (71 + ch) = false) ∧ t.host = s.host))

/-- DRAM_ACCESS_GRANT of a ready, awake channel with no refresh due or under way and no retraining, where a port other than RT1 is picked and a is the access at its head. A write with no error in its read-modify-write: DRAM holds its octets and a waits no longer. A read: DRAM stays, and a is under way with the octets DRAM holds. A partial write of a capture record whose read-modify-write fails: DRAM stays, the error is counted with its block. RT1 picked for the log: the log's write is under way and DRAM stays. DRAM_READ_COMPLETE of the oldest read, owned by a running job with host destination, host reachable: with data that is correct or corrected, host memory holds the octets at their destinations and CNT falls; a corrected one is counted; an uncorrectable one is counted with its block, host memory stays, and the job is stopped by a bus error of its unit (in service). -/
def Obligations.DramAccesses : Prop :=
  (∀ (s : State) (ch : Fin 2), s.dev.chState ch = chReady → s.dev.dramAwake = true → s.dev.up < (s.dev.chn ch).refAt → (s.dev.chn ch).busyTill ≤ s.dev.up →
    (s.dev.chn ch).retrainTill ≤ s.dev.up →
    (∀ q a, s.dev.pickPort ch = some q → q ≠ 1 → s.dev.headReady ch q = some a →
      (a.reads = [] → Answers (.dramAccessGrant ch false) s fun t => t.dram = s.dram.putAll a.writes ∧ t.host = s.host ∧ (t.dev.chn ch).waits = (s.dev.chn ch).waits.erase a
        ∧ (t.dev.chn ch).flight = (s.dev.chn ch).flight)
      ∧ (a.reads ≠ [] → ∀ bad, Answers (.dramAccessGrant ch bad) s fun t => s.sameMem t ∧ (t.dev.chn ch).waits = (s.dev.chn ch).waits.erase a
        ∧ (t.dev.chn ch).flight = (s.dev.chn ch).flight ++ [{ a with data := a.reads.map fun r => (r.2, s.dram.at r.1) }])
      ∧ (∀ n, a.reads = [] → a.owner = .capture n → Dev.partialWrite a.writes = true → Answers (.dramAccessGrant ch true) s fun t => s.sameMem t
        ∧ t.dev.get (Reg.MEM_ECC_UNCORR.COUNT ch) = (s.dev.get (Reg.MEM_ECC_UNCORR.COUNT ch) + 1) % 2 ^ 32 ∧ t.dev.get (Reg.MEM_ECC_ADDR.ADDR ch) = a.block % 2 ^ 32
        ∧ t.dev.bit (stickyBit bMEM 0) = true))
    ∧ (∀ k, s.dev.pickPort ch = some 1 → s.dev.rt1Next ch = some (true, k) → ∀ bad, Answers (.dramAccessGrant ch bad) s fun t => t.dev.log.issued = true ∧ (t.dev.chn ch).last = 1 ∧ s.sameMem t))
  ∧ (∀ (s : State) (ch : Fin 2) (a : Acc) (rest : List Acc) (j : Fin 64), (s.dev.chn ch).flight = a :: rest → a.owner = .job j → s.dev.jobState j = 1 →
    s.dev.get (Reg.DMA_CTL.DST_SPACE j) = 1 → s.dev.hostReach = true → (s.dev.job j).frame = none → (s.dev.job j).stopping = false →
    (∀ res : Fin 3, res.val < 2 → Answers (.dramReadComplete ch res) s fun t => (t.dev.chn ch).flight = rest
      ∧ t.host = s.host.putAll (a.data.map fun e => ((s.dev.dstSide j).at' (s.dev.job j).total e.1, e.2)) ∧ t.dram = s.dram ∧ t.dev.jobCnt j = s.dev.jobCnt j - a.data.length
      ∧ t.dev.get (Reg.MEM_ECC_CORR.COUNT ch) = (s.dev.get (Reg.MEM_ECC_CORR.COUNT ch) + res) % 2 ^ 32)
    ∧ (s.dev.unitStopped (s.dev.jobUnit j) = false → s.dev.jobPlace j ≠ 0 → (s.dev.job j).removing = false → Answers (.dramReadComplete ch 2) s fun t => s.sameMem t
      ∧ t.dev.get (Reg.MEM_ECC_UNCORR.COUNT ch) = (s.dev.get (Reg.MEM_ECC_UNCORR.COUNT ch) + 1) % 2 ^ 32 ∧ t.dev.get (Reg.MEM_ECC_ADDR.ADDR ch) = a.block % 2 ^ 32
      ∧ t.dev.jobState j = 2 ∧ t.dev.unitStopped (s.dev.jobUnit j) = true))

/-- RESET of a device out of reset, POWER_FAIL_RESET outside Deep Hold, and CORE_PLL_UNLOCK of a powered device for 1 µs or more: RESET_CAUSE is 1, 2 or 4 and WAKE stays, every other register word is at its reset value but STA_GRAVE, STA_GRAVE_OWN, FAULT_N's drive bit and the FLT_STICKY words, frames, streams, requests and jobs are gone, the device is off, and neither memory changes here. A loss of the core clock shorter than 1 µs opens source 3 of PWR, SUPPLY_LOW source 0, and OVERTEMP source 4 with the sensor's number and the status bit; the device goes on. -/
def Obligations.Resets : Prop :=
  (∀ s : State,
    (s.dev.pwr.phase ≠ .off → Answers .reset s fun t => s.resetTo t 1)
    ∧ (s.dev.pwr.phase ≠ .deepHold → s.dev.pwr.phase ≠ .waking 3 → Answers .powerFailReset s fun t => s.resetTo t 2)
    ∧ (s.dev.powered = true → Answers (.corePllUnlock true) s fun t => s.resetTo t 4))
  ∧ (∀ s : State, s.dev.powered = true →
    Answers (.corePllUnlock false) s (fun t => t.dev.bit (stickyBit bPWR 3) = true ∧ t.dev.pwr = s.dev.pwr ∧ s.sameMem t)
    ∧ Answers .supplyLow s (fun t => t.dev.bit (stickyBit bPWR 0) = true ∧ t.dev.pwr = s.dev.pwr ∧ s.sameMem t)
    ∧ ∀ n : Fin 21, Answers (.overtemp n) s fun t => t.dev.bit (stickyBit bPWR 4) = true ∧ t.dev.bit (statusBit bPWR 4) = true ∧ t.dev.get Reg.PWR_TEMP.SENSOR = n
      ∧ t.dev.freeCount = s.dev.freeCount + 1 ∧ t.dev.pwr = s.dev.pwr ∧ s.sameMem t)

/-- STARTUP_BEGIN in reset, or on the wake from Deep Hold (then RESET_CAUSE is 3): step 4 runs with every domain on (the model's reading, log entry 25). STARTUP_STEP_COMPLETE, not waiting for an image. Step 4 with good fuses: straps and master key are latched, SEEN_LOW takes the first level of FAULT_N unless the monitor has already taken one, step 5 runs; with bad ones the sequence stops with code 0x0401. A pass of step 5 starts time, from 0 but after Hold; of step 6, 10 with BOOTSEL 3, or 11 with no image, the next step runs; step 9 with both channels ready draws BOOT_ID and step 10 runs, or with BOOTSEL 2 IMG_WAIT is 1; step 12 sets READY and the device is in Run. A failing step 6 or 7 stops with its code and unit. Step 10 with a flash: no copy chosen, the sequence stops with the choice's code; a chosen copy of one record, a COMMIT, for this device: step 11 runs with its number and ID shown. BOOT_GO while IMG_WAIT is 1: step 10 runs, GO reads 1, code and unit 0, and BOOT_ID is the free value drawn where the step was 9. IMAGE_WORD_WRITE with BOOTSEL 2 during start-up: the word lies in DRAM at 4 × INDEX from the lowest ready channel, its first octet lowest, and INDEX advances; nothing else. -/
def Obligations.StartUp : Prop :=
  (∀ s : State, s.dev.pwr.phase = .off ∨ s.dev.pwr.phase = .waking 3 → Answers .startupBegin s fun t => t.dev.pwr.phase = .starting ∧ t.dev.get Reg.GLB_BOOT.STEP = 4
    ∧ (∀ d < 80, t.dev.domOn d = true) ∧ t.dev.pwr.startAt = s.dev.up ∧ (s.dev.pwr.phase = .waking 3 → t.dev.get Reg.PWR_WAKE_CAUSE.RESET_CAUSE = 3) ∧ s.sameMem t)
  ∧ (∀ s : State, s.dev.pwr.phase = .starting → s.dev.bit (statusBit bGLB 3) = false →
    (∀ (sel : BitVec 2) (te fac low : Bool) (key : Option (BitVec 128)), s.dev.get Reg.GLB_BOOT.STEP = 4 →
      Answers (.startupStepComplete (.fuses sel te true fac low key)) s (fun t => t.dev.get Reg.GLB_BOOT.STEP = 5 ∧ t.dev.get Reg.GLB_STRAP.BOOTSEL = sel.toNat
        ∧ t.dev.bit Reg.GLB_STRAP.TESTEN = te ∧ t.dev.bit Reg.GLB_STRAP.FACTORY_FUSE = fac ∧ t.dev.pwr.masterKey = key ∧ t.dev.bit (statusBit bAUT 4) = key.isNone
        ∧ t.dev.bit (statusBit bGLB 2) = (te && !fac) ∧ t.dev.bit Reg.STA_FLINE.SEEN_LOW = (if s.dev.pwr.startAt < s.dev.fline.since then s.dev.bit Reg.STA_FLINE.SEEN_LOW else low) ∧ s.sameMem t)
      ∧ Answers (.startupStepComplete (.fuses sel te false fac low key)) s fun t => t.dev.get Reg.GLB_BOOT.CODE = 0x0401 ∧ t.dev.bit (statusBit bGLB 1) = true
        ∧ t.dev.pwr.phase = .stopped ∧ t.dev.pwr.masterKey = none ∧ s.sameMem t)
    ∧ (s.dev.get Reg.GLB_BOOT.STEP = 5 → Answers (.startupStepComplete .pass) s fun t => t.dev.get Reg.GLB_BOOT.STEP = 6 ∧ t.dev.tim.counting = true
      ∧ (s.dev.pwr.fromHold = false → t.dev.tim.accA = 0 ∧ t.dev.tim.accB = 0) ∧ s.sameMem t)
    ∧ (s.dev.get Reg.GLB_BOOT.STEP = 6 → Answers (.startupStepComplete .pass) s fun t => t.dev.get Reg.GLB_BOOT.STEP = 7 ∧ s.dev.onlyWords (fun k => k = Reg.GLB_BOOT) t.dev ∧ s.sameMem t)
    ∧ (∀ (sec : Bool) (u : BitVec 8), s.dev.get Reg.GLB_BOOT.STEP = 6 ∨ s.dev.get Reg.GLB_BOOT.STEP = 7 → Answers (.startupStepComplete (.fail sec u)) s fun t =>
      t.dev.get Reg.GLB_BOOT.CODE = s.dev.get Reg.GLB_BOOT.STEP * 256 + 1 ∧ t.dev.get Reg.GLB_BOOT.UNIT = u.toNat ∧ t.dev.bit (statusBit bGLB 1) = true ∧ t.dev.pwr.phase = .stopped ∧ s.sameMem t)
    ∧ (s.dev.get Reg.GLB_BOOT.STEP = 9 → s.dev.chState 0 = chReady → s.dev.chState 1 = chReady → Answers (.startupStepComplete .pass) s fun t =>
      (if s.dev.bootsel = 2 then t.dev.bit (statusBit bGLB 3) = true ∧ t.dev.get Reg.GLB_BOOT.STEP = 9
        else t.dev.get Reg.GLB_BOOT.STEP = 10 ∧ t.dev.get Reg.GLB_BOOT_ID_LO.BOOT_ID = (Config.bootId s.dev.freeCount).toNat % 2 ^ 32
          ∧ t.dev.get Reg.GLB_BOOT_ID_HI.BOOT_ID = (Config.bootId s.dev.freeCount).toNat / 2 ^ 32) ∧ s.sameMem t)
    ∧ (s.dev.get Reg.GLB_BOOT.STEP = 10 → s.dev.bootsel = 3 → Answers (.startupStepComplete .pass) s fun t => t.dev.get Reg.GLB_BOOT.STEP = 11 ∧ s.sameMem t)
    ∧ (s.dev.get Reg.GLB_BOOT.STEP = 11 → s.dev.dct.image = [] → Answers (.startupStepComplete .pass) s fun t => t.dev.get Reg.GLB_BOOT.STEP = 12 ∧ s.sameMem t)
    ∧ (s.dev.get Reg.GLB_BOOT.STEP = 12 → Answers (.startupStepComplete .pass) s fun t => t.dev.bit (statusBit bGLB 0) = true ∧ t.dev.pwr.phase = .run ∧ t.dev.get Reg.PWR_STATE.STATE = 0
      ∧ t.dev.get Reg.GLB_BOOT_TIME.US = min 0xFFFFFFFF ((s.dev.up - s.dev.pwr.startAt) / 1000) ∧ s.sameMem t)
    ∧ (∀ (a b : List Octet), s.dev.get Reg.GLB_BOOT.STEP = 10 → s.dev.bootsel < 2 → s.dev.isGrave bAUT = false →
      (∀ code unit, imagePick s.dev.pwr.masterKey none [(0, a), (1, b)] = .bad code unit → Answers (.startupStepComplete (.flash a b)) s fun t =>
        t.dev.get Reg.GLB_BOOT.CODE = code % 2 ^ 16 ∧ t.dev.get Reg.GLB_BOOT.UNIT = unit % 256 ∧ t.dev.bit (statusBit bGLB 1) = true ∧ t.dev.pwr.phase = .stopped ∧ s.sameMem t)
      ∧ (∀ n img r, imagePick s.dev.pwr.masterKey none [(0, a), (1, b)] = .good n img → recordsOf img = [r] → fieldBE r 0 1 = 1 → fieldBE r 1 1 % 128 = 5 →
        (fieldBE img 5 1 % 2 = 1 ∨ fieldBE img 6 2 = s.dev.get Reg.AUT_CFG.DEV_ADDR) → Answers (.startupStepComplete (.flash a b)) s fun t =>
        t.dev.get Reg.GLB_BOOT.STEP = 11 ∧ t.dev.get Reg.GLB_STRAP.IMG_COPY = n % 2 ∧ t.dev.get Reg.AUT_IMAGE_ID.ID = fieldBE img 12 4 ∧ t.dev.dct.image = [r] ∧ s.sameMem t)))
  ∧ (∀ s : State, s.dev.blockOn bGLB = true → s.dev.hostRefused Reg.GLB_BOOT_CTL = false → s.dev.bit (statusBit bGLB 3) = true →
    Answers .bootGo s fun t => t.dev.get Reg.GLB_BOOT.STEP = 10 ∧ t.dev.bit Reg.GLB_BOOT_CTL.GO = true ∧ t.dev.bit (statusBit bGLB 3) = false ∧ t.dev.get Reg.GLB_BOOT.CODE = 0
      ∧ t.dev.get Reg.GLB_BOOT.UNIT = 0 ∧ t.dev.get Reg.GLB_BOOT_ID_LO.BOOT_ID
        = (if s.dev.get Reg.GLB_BOOT.STEP = 9 then (Config.bootId s.dev.freeCount).toNat % 2 ^ 32 else s.dev.get Reg.GLB_BOOT_ID_LO.BOOT_ID) ∧ s.sameMem t)
  ∧ (∀ (s : State) (v : Word) (b : Nat), s.dev.pwr.phase = .starting → s.dev.bootsel = 2 → s.dev.imageBase = some b →
    Answers (.imageWordWrite v) s fun t => t.dram = s.dram.putRun (b + 4 * s.dev.get Reg.GLB_IMG_ADDR.INDEX) (octetsBE 4 v.toNat) ∧ t.host = s.host
      ∧ t.dev.get Reg.GLB_IMG_ADDR.INDEX = (s.dev.get Reg.GLB_IMG_ADDR.INDEX + 1) % 2 ^ 21 ∧ s.dev.onlyWords (fun k => k = Reg.GLB_IMG_ADDR) t.dev)

/-- AVS_READING of a domain that is on, the loop running and no reading in the last 10 µs: WORST_DOM and SLACK hold it. A slack below TARGET raises VREQ by one step, and at VMAX or above sets the limit bit, clear on any other reading, and opens source 1; 20 ps or more above it, the hundredth time in a row, lowers VREQ by one step if it is above VMIN; VREQ stays while the loop is frozen, and on any other reading. DOMAIN_SWITCH_ON of a domain of no Rigger choice that is off, not switching and wanted, in Run: it is switching. DOMAIN_ON_COMPLETE of a switching domain (not under a power-cycle) with a slack of at least TARGET: it is on and not switching, and its register words are at reset (aside a port's status, with TX_SETTLED, and its synthesiser, at the middle of its band, and DONE bits of jobs that move to a Tackle unit); with less, nothing changes in registers. DOMAIN_FAIL of a switching domain: it is not switching, stays off, its bit of PWR_DOM_FAIL is set and source 2 is open. -/
def Obligations.VoltageAndDomains : Prop :=
  (∀ (s : State) (dom : Fin 80) (slack : BitVec 16), s.dev.avsRuns = true → (∀ t, s.dev.pwr.avsAt = some t → t + 10000 ≤ s.dev.up) → s.dev.domOn dom = true →
    Answers (.avsReading dom slack) s fun t => t.dev.get Reg.PWR_AVS_STAT.WORST_DOM = dom ∧ t.dev.get Reg.PWR_AVS_STAT.SLACK = slack.toNat ∧ t.dev.pwr.avsAt = some s.dev.up
      ∧ (slack.toInt < (s.dev.get Reg.PWR_AVS.TARGET : Int) → s.dev.avsMax ≤ s.dev.get Reg.PWR_AVS_STAT.VREQ →
          t.dev.get Reg.PWR_AVS_STAT.VREQ = s.dev.get Reg.PWR_AVS_STAT.VREQ ∧ t.dev.bit (statusBit bPWR 3) = true ∧ t.dev.bit (stickyBit bPWR 1) = true)
      ∧ (slack.toInt < (s.dev.get Reg.PWR_AVS.TARGET : Int) → s.dev.get Reg.PWR_AVS_STAT.VREQ < s.dev.avsMax →
          t.dev.get Reg.PWR_AVS_STAT.VREQ = s.dev.get Reg.PWR_AVS_STAT.VREQ + (if s.dev.avsFrozen then 0 else 1) ∧ t.dev.bit (statusBit bPWR 3) = false)
      ∧ ((s.dev.get Reg.PWR_AVS.TARGET : Int) ≤ slack.toInt → t.dev.bit (statusBit bPWR 3) = false
          ∧ t.dev.get Reg.PWR_AVS_STAT.VREQ = s.dev.get Reg.PWR_AVS_STAT.VREQ
            - (if (s.dev.get Reg.PWR_AVS.TARGET : Int) + 20 ≤ slack.toInt ∧ 99 ≤ s.dev.pwr.goodReads ∧ s.dev.avsFrozen = false ∧ s.dev.avsMin < s.dev.get Reg.PWR_AVS_STAT.VREQ then 1 else 0))
      ∧ s.sameMem t)
  ∧ (∀ (s : State) (d : Fin 80), Dev.riggerDom d = false → s.dev.domOn d = false → s.dev.pwr.switching.testBit d = false → s.dev.pwr.phase = .run → s.dev.domWanted d = true →
    s.dev.cycling 2 d = false → Answers (.domainSwitchOn d) s fun t => t.dev.pwr.switching.testBit d = true ∧ t.dev.domOn d = false ∧ (∀ k, t.dev.word k = s.dev.word k) ∧ s.sameMem t)
  ∧ (∀ (s : State) (d : Fin 80) (slack : BitVec 16), s.dev.pwr.switching.testBit d = true → s.dev.cycling 3 d = false →
    ((s.dev.get Reg.PWR_AVS.TARGET : Int) ≤ slack.toInt → Answers (.domainOnComplete d slack) s fun t => t.dev.domOn d = true ∧ t.dev.pwr.switching.testBit d = false
      ∧ (∀ e < 80, e ≠ d.val → t.dev.domOn e = s.dev.domOn e)
      ∧ (∀ k, Dev.domKey d k = true → (∀ b, k ≠ statusAddr b) → (∀ b, k ≠ stickyAddr b) → (∀ p < 8, k ≠ Reg.PRT_SYNTH p) → (∀ u < 2, k ≠ Reg.DMA_DONE_LO u ∧ k ≠ Reg.DMA_DONE_HI u) →
          t.dev.word k = resetWord k)
      ∧ (∀ p < 8, d.val = p + 5 → t.dev.bit (Dev.prtBit p 0) = true ∧ t.dev.get (Reg.PRT_SYNTH.TUNE_NOW p) = 128) ∧ s.sameMem t)
    ∧ (slack.toInt < (s.dev.get Reg.PWR_AVS.TARGET : Int) → Answers (.domainOnComplete d slack) s fun t => s.dev.onlyWords (fun _ => False) t.dev ∧ s.sameMem t))
  ∧ (∀ (s : State) (d : Fin 80), s.dev.pwr.switching.testBit d = true →
    Answers (.domainFail d) s fun t => t.dev.pwr.switching.testBit d = false ∧ t.dev.domOn d = s.dev.domOn d ∧ t.dev.bit (Dev.domFailFld d) = true ∧ t.dev.bit (stickyBit bPWR 2) = true ∧ s.sameMem t)

/-- With PWR's words open to the host. In Run: DOZE_CMD and HOLD_CMD with no work enabled (HOLD_CMD and DEEP_HOLD_CMD with a wake source enabled, DEEP_HOLD_CMD with no block GRAVE) begin the entry: STATE reads 4 and PHY_LATCH is the OR of WAKE_EN over the ports. DOZE_CMD or HOLD_CMD with work enabled, HOLD_CMD with no work and no wake source, DEEP_HOLD_CMD with a GRAVE block or, with none, no wake source: REFUSE shows 2, 2, 3, 1 or 3, status bit 2 is set, and the phase stays. RUN_CMD in Doze begins the exit; in Run it is refused with 4. STATE_CHANGE, no wake waiting: an entry to Doze, Hold or Deep Hold (no block GRAVE meanwhile) is complete: in Doze no domain outside its list is on and those that were are retained; in Hold domains 0, 2 and 3 alone are on; in Deep Hold every register word but PWR_WAKE_CFG, PWR_WAKE_CAUSE, the GRAVE words, FAULT_N's word and FLT_STICKY is at reset. An exit from Doze: retained domains are on, STATE reads 0. WAKE from an enabled source in Doze, Hold or Deep Hold is the only cause shown, and the exit or the start-up begins, from Hold with Halyard B loaded from A; during an entry it waits for its end. -/
def Obligations.StandbyStates : Prop :=
  (∀ s : State, s.dev.blockOn bPWR = true → s.dev.hostRefused Reg.PWR_CMD = false →
    (s.dev.pwr.phase = .run →
      (s.dev.workEnabled = false → Answers .dozeCmd s fun t => s.entryBegun t 1)
      ∧ (s.dev.workEnabled = false → s.dev.wakeEnabled = true → Answers .holdCmd s fun t => s.entryBegun t 2)
      ∧ (s.dev.word Reg.STA_GRAVE = 0 → s.dev.wakeEnabled = true → Answers .deepHoldCmd s fun t => s.entryBegun t 3)
      ∧ Answers .runCmd s fun t => s.cmdRefusedWith t 4)
    ∧ (s.dev.workEnabled = true → Answers .dozeCmd s fun t => s.cmdRefusedWith t 2)
    ∧ (s.dev.workEnabled = true → Answers .holdCmd s fun t => s.cmdRefusedWith t 2)
    ∧ (s.dev.workEnabled = false → s.dev.wakeEnabled = false → Answers .holdCmd s fun t => s.cmdRefusedWith t 3)
    ∧ (s.dev.word Reg.STA_GRAVE ≠ 0 → Answers .deepHoldCmd s fun t => s.cmdRefusedWith t 1)
    ∧ (s.dev.word Reg.STA_GRAVE = 0 → s.dev.wakeEnabled = false → Answers .deepHoldCmd s fun t => s.cmdRefusedWith t 3)
    ∧ (s.dev.pwr.phase = .doze → Answers .runCmd s fun t => t.dev.pwr.phase = .waking 1 ∧ t.dev.get Reg.PWR_STATE.STATE = 5 ∧ (∀ k, k ≠ Reg.PWR_STATE → t.dev.word k = s.dev.word k) ∧ s.sameMem t))
  ∧ (∀ s : State,
    (s.dev.pwr.phase = .entering 1 → s.dev.pwr.wakeDue = false → Answers .stateChange s fun t => t.dev.pwr.phase = .doze ∧ t.dev.get Reg.PWR_STATE.STATE = 1
      ∧ (∀ d < 80, t.dev.domOn d = (s.dev.domOn d && s.dev.dozeOn d) ∧ t.dev.pwr.retained.testBit d = (s.dev.domOn d && !s.dev.dozeOn d)) ∧ s.sameMem t)
    ∧ (s.dev.pwr.phase = .entering 2 → s.dev.pwr.wakeDue = false → Answers .stateChange s fun t => t.dev.pwr.phase = .hold ∧ t.dev.get Reg.PWR_STATE.STATE = 2
      ∧ (∀ d < 80, t.dev.domOn d = (d == 0 || d == 2 || d == 3)) ∧ t.dev.bit (statusBit bGLB 0) = false ∧ s.sameMem t)
    ∧ (s.dev.pwr.phase = .entering 3 → s.dev.pwr.wakeDue = false → s.dev.pwr.graveInEntry = false → Answers .stateChange s fun t => t.dev.pwr.phase = .deepHold
      ∧ t.dev.word Reg.PWR_WAKE_CFG = s.dev.word Reg.PWR_WAKE_CFG ∧ t.dev.word Reg.PWR_WAKE_CAUSE = s.dev.word Reg.PWR_WAKE_CAUSE
      ∧ (∀ k, k ∉ [Reg.PWR_WAKE_CFG, Reg.PWR_WAKE_CAUSE, Reg.STA_GRAVE, Reg.STA_GRAVE_OWN, Reg.STA_FLINE] → (∀ b, k ≠ stickyAddr b) → t.dev.word k = resetWord k) ∧ t.dev.tim = {} ∧ s.sameMem t)
    ∧ (s.dev.pwr.phase = .waking 1 → Answers .stateChange s fun t => t.dev.pwr.phase = .run ∧ t.dev.get Reg.PWR_STATE.STATE = 0 ∧ t.dev.pwr.retained = 0
      ∧ (∀ d < 80, t.dev.domOn d = (s.dev.domOn d || s.dev.pwr.retained.testBit d)) ∧ s.sameMem t))
  ∧ (∀ (s : State) (src : Fin 4), (s.dev.get ⟨Reg.PWR_WAKE_CFG, 0, 4⟩).testBit src = true → (src.val = 1 → s.dev.bit Reg.PWR_WAKE_CFG.PHY_LATCH = true) →
    (s.dev.pwr.phase = .doze → Answers (.wake src) s fun t => t.dev.get Reg.PWR_WAKE_CAUSE.WAKE = 2 ^ src.val ∧ t.dev.pwr.phase = .waking 1 ∧ t.dev.get Reg.PWR_STATE.STATE = 5 ∧ s.sameMem t)
    ∧ (s.dev.pwr.phase = .hold → src.val ≠ 3 → Answers (.wake src) s fun t => t.dev.get Reg.PWR_WAKE_CAUSE.WAKE = 2 ^ src.val ∧ t.dev.pwr.phase = .starting ∧ t.dev.pwr.fromHold = true
      ∧ t.dev.get Reg.GLB_BOOT.STEP = 4 ∧ t.dev.get Reg.PWR_STATE.STATE = 5 ∧ t.dev.tim = { s.dev.tim with accB := s.dev.tim.accA } ∧ s.sameMem t)
    ∧ (s.dev.pwr.phase = .deepHold → src.val ≠ 3 → Answers (.wake src) s fun t => t.dev.get Reg.PWR_WAKE_CAUSE.WAKE = 2 ^ src.val ∧ t.dev.pwr.phase = .waking 3 ∧ s.sameMem t)
    ∧ (∀ n, s.dev.pwr.phase = .entering n → s.dev.pwr.wakeDue = false → (src.val = 3 → n = 1) → Answers (.wake src) s fun t => t.dev.get Reg.PWR_WAKE_CAUSE.WAKE = 2 ^ src.val
      ∧ t.dev.pwr.phase = .entering n ∧ t.dev.pwr.wakeDue = true ∧ s.sameMem t))

/-- With IST on and, for host writes, its words open. SWEEP_DUE when due in Run with EN, at least one test enabled: the sweep has every unit of the enabled tests before it, BUSY reads 1, the next is due SWEEP_H hours on, and the tests whose units were left from an unfinished sweep show result 3. RUN_NOW while no sweep runs and a test is enabled, and TEST_ONE of a test 0 to 5: the same with the enabled tests, or that one. TEST_UNIT_START of a unit that waits and whose turn it is in the sweep's order, in Run, nothing running, the engine's domain on, its condition met (and for a march test the bank out of service and powered): it runs, shown with test and unit, and waits no longer. TEST_UNIT_END of a running unit of test 5, the sweep having more: the result is 1, or 2 with the unit shown, the failure counted and source 0 open; nothing runs. POWER_CYCLE of a domain that is never cycled: REFUSE shows 1; of one that a pin holds, 2; of one that cannot be emptied, 3; while a unit runs or a power-cycle is on, 4; else GO reads 1 and REFUSE 0, and an off domain goes straight to its wait. -/
def Obligations.BurnisherTests : Prop :=
  (∀ (s : State) (t0 : Nat), s.dev.blockOn bIST = true → s.dev.ist.dueAt = some t0 → t0 ≤ s.dev.up → s.dev.pwr.phase = .run → s.dev.bit Reg.IST_CFG.EN = true → s.dev.testsEnabled ≠ [] →
    Answers .sweepDue s fun t => t.dev.ist.left = s.dev.testsEnabled.flatMap testUnits ∧ t.dev.ist.sweeping = true ∧ t.dev.bit Reg.IST_STATE.BUSY = true
      ∧ t.dev.ist.dueAt = some (s.dev.up + hoursNs (s.dev.get Reg.IST_CFG.SWEEP_H))
      ∧ (s.dev.ist.sweeping = true → ∀ x < 6, (∃ u, (x, u) ∈ s.dev.ist.left) → t.dev.get (Reg.IST_RESULT.LAST x) = 3) ∧ s.sameMem t)
  ∧ (∀ s : State, s.dev.blockOn bIST = true → s.dev.hostRefused Reg.IST_CMD = false → s.dev.ist.sweeping = false →
    (s.dev.testsEnabled ≠ [] → Answers .runNow s fun t => t.dev.ist.left = s.dev.testsEnabled.flatMap testUnits ∧ t.dev.ist.total = t.dev.ist.left.length ∧ t.dev.ist.sweeping = true
      ∧ t.dev.bit Reg.IST_STATE.BUSY = true ∧ s.sameMem t)
    ∧ (∀ x : Fin 8, x.val < 6 → Answers (.testOne x) s fun t => t.dev.ist.left = testUnits x ∧ t.dev.ist.sweeping = true ∧ t.dev.bit Reg.IST_STATE.BUSY = true ∧ s.sameMem t))
  ∧ (∀ (s : State) (x : Fin 6) (u : Fin 68), s.dev.blockOn bIST = true → s.dev.ist.running = none → s.dev.pwr.phase = .run → s.dev.unitWaits x u = true → s.dev.unitTurn x u = true → s.dev.domOn 78 = true →
    s.dev.unitReady x u = true → Answers (.testUnitStart x u) s fun t => t.dev.ist.running = some (x.val, u.val) ∧ t.dev.ist.startUp = s.dev.up
      ∧ t.dev.ist.left = s.dev.ist.left.filter (fun e => e != (x.val, u.val)) ∧ t.dev.bit (statusBit bIST 0) = true ∧ t.dev.get Reg.IST_STATE.TEST = x ∧ t.dev.get Reg.IST_STATE.UNIT = u
      ∧ s.dev.onlyWords (fun k => k = statusAddr bIST ∨ k = Reg.IST_STATE) { t.dev with ist := s.dev.ist } ∧ s.sameMem t)
  ∧ (∀ (s : State) (u a b : Nat), s.dev.blockOn bIST = true → s.dev.ist.running = some (5, u) → u < 28 → s.dev.ist.sweeping = true → s.dev.ist.left ≠ [] →
    Answers (.testUnitEnd true a b) s (fun t => t.dev.ist.running = none ∧ t.dev.get (Reg.IST_RESULT.LAST 5) = 1 ∧ t.dev.bit (statusBit bIST 0) = false ∧ t.dev.ist.sweeping = true ∧ s.sameMem t)
    ∧ Answers (.testUnitEnd false a b) s fun t => t.dev.ist.running = none ∧ t.dev.get (Reg.IST_RESULT.LAST 5) = 2 ∧ t.dev.get (Reg.IST_RESULT.UNIT 5) = u
      ∧ t.dev.get (Reg.IST_RESULT.FAIL_CNT 5) = min 65535 (s.dev.get (Reg.IST_RESULT.FAIL_CNT 5) + 1) ∧ t.dev.bit (statusBit bIST 2) = true ∧ t.dev.bit (stickyBit bIST 0) = true ∧ s.sameMem t)
  ∧ (∀ (s : State) (d : BitVec 7), s.dev.blockOn bIST = true → s.dev.hostRefused Reg.IST_CYCLE = false →
    (∀ n, ((Dev.cycleDom d.toNat = false ∧ n = 1) ∨ (Dev.cycleDom d.toNat = true ∧ s.dev.pinTarget 4 d.toNat ≠ none ∧ n = 2)
        ∨ (Dev.cycleDom d.toNat = true ∧ s.dev.pinTarget 4 d.toNat = none ∧ s.dev.canEmpty d.toNat = false ∧ n = 3)
        ∨ (Dev.cycleDom d.toNat = true ∧ s.dev.pinTarget 4 d.toNat = none ∧ s.dev.canEmpty d.toNat = true ∧ (s.dev.ist.running ≠ none ∨ s.dev.ist.cyclePhase ≠ 0) ∧ n = 4)) →
      Answers (.powerCycle d) s fun t => t.dev.get Reg.IST_CYCLE.REFUSE = n ∧ t.dev.get Reg.IST_CYCLE.DOM = d.toNat ∧ t.dev.ist = s.dev.ist
        ∧ s.dev.onlyWords (fun k => k = Reg.IST_CYCLE) t.dev ∧ s.sameMem t)
    ∧ (Dev.cycleDom d.toNat = true → s.dev.pinTarget 4 d.toNat = none → s.dev.canEmpty d.toNat = true → s.dev.ist.running = none → s.dev.ist.cyclePhase = 0 →
      Answers (.powerCycle d) s fun t => t.dev.get Reg.IST_CYCLE.REFUSE = 0 ∧ t.dev.bit Reg.IST_CYCLE.GO = true ∧ t.dev.get Reg.IST_CYCLE.DOM = d.toNat
        ∧ t.dev.ist.cyclePhase = (if s.dev.domOn d.toNat then 1 else 2) ∧ s.sameMem t))

/-- With the Telltale's domain on. TRACE_FRAME_SEND with the port output on and MAX_REC records queued, a buffer free and the class one that carries the frame: the frame of the first MAX_REC records is at the end of its class queue, those records have left the output's queue, and SEQ advances. TRACE_DRAM_WRITE_COMPLETE with DRAM_EN, a ring that fits on a channel that is up, and the first record's write under way: done, DRAM holds its 24 octets and 8 of zero at its place, the next place follows and TRC_DRAM_WR counts; failed, DRAM stays and TRC_LOST counts one. TRACE_PIN_RECORD_SENT with PIN_EN: the marker and the first record go out, 26 idle octets after a loss record, and it has left the queue; no register word changes. -/
def Obligations.TraceOutputs : Prop :=
  (∀ (s : State) (c : Nat) (sh : Bool), s.dev.domOn 76 = true → s.dev.tracePortOn = true → s.dev.maxRec ≤ s.dev.trc.port.recs.length → c = s.dev.classOf (s.dev.get Reg.TRC_OUT.PORT) (s.dev.get Reg.TRC_OUT.PRIO) →
    s.dev.allocCheck .trace (frameLen (s.dev.traceFrame (s.dev.get Reg.TRC_OUT.PORT) (s.dev.trc.port.recs.take s.dev.maxRec))) = .ok sh →
    s.dev.neverCarried (s.dev.get Reg.TRC_OUT.PORT) c (frameLen (s.dev.traceFrame (s.dev.get Reg.TRC_OUT.PORT) (s.dev.trc.port.recs.take s.dev.maxRec))) = false →
    Answers .traceFrameSend s fun t => t.dev.trc.port = s.dev.trc.port.drain s.dev.maxRec ∧ t.dev.trc.frameSeq = (s.dev.trc.frameSeq + 1) % 65536
      ∧ (∃ e, t.dev.classQueue (s.dev.get Reg.TRC_OUT.PORT) c = s.dev.classQueue (s.dev.get Reg.TRC_OUT.PORT) c ++ [e]
        ∧ e.data = s.dev.traceFrame (s.dev.get Reg.TRC_OUT.PORT) (s.dev.trc.port.recs.take s.dev.maxRec)) ∧ s.sameMem t)
  ∧ (∀ (s : State) (r : TraceRec) (rest : List TraceRec), s.dev.trc.dram.recs = r :: rest → s.dev.domOn 76 = true → s.dev.bit Reg.TRC_OUT.DRAM_EN = true →
    s.dev.ringFits (s.dev.get Reg.TRC_DRAM_BASE.BASE) (s.dev.get Reg.TRC_DRAM_CFG.SIZE_LOG) = true → s.dev.chUp s.dev.rt1Chan = true → s.dev.trc.dramIssued ≠ 0 →
    Answers (.traceDramWriteComplete true) s (fun t => t.dram = s.dram.putRun (s.dev.trcAddr s.dev.trc.dramCount) (r.octets ++ List.replicate 8 0) ∧ t.host = s.host
      ∧ t.dev.trc.dramCount = s.dev.trc.dramCount + 1 ∧ t.dev.trc.dramIssued = s.dev.trc.dramIssued - 1 ∧ t.dev.trc.dram = s.dev.trc.dram.drain 1
      ∧ t.dev.get Reg.TRC_DRAM_WR.COUNT = (s.dev.get Reg.TRC_DRAM_WR.COUNT + 1) % 2 ^ 32)
    ∧ Answers (.traceDramWriteComplete false) s fun t => s.sameMem t ∧ t.dev.get Reg.TRC_LOST.COUNT = (s.dev.get Reg.TRC_LOST.COUNT + 1) % 2 ^ 32
      ∧ t.dev.trc.dramIssued = s.dev.trc.dramIssued - 1 ∧ t.dev.bit (statusBit bTRC 0) = true)
  ∧ (∀ (s : State) (r : TraceRec) (rest : List TraceRec), s.dev.trc.pin.recs = r :: rest → s.dev.domOn 76 = true → s.dev.bit Reg.TRC_OUT.PIN_EN = true →
    Answers .tracePinRecordSent s fun t => Output.trace ((0xA5 : Octet) :: (r.octets ++ (if r.source = 15 then List.replicate 26 0 else []))) ∈ t.dev.out
      ∧ t.dev.trc.pin = s.dev.trc.pin.drain 1 ∧ (∀ k, t.dev.word k = s.dev.word k) ∧ s.sameMem t)

/-- Every JTAG instruction is loaded into the instruction register; no register word, memory or other state of the device changes. IDCODE shifts the device's code out of the data register; BYPASS with any code that is no instruction shifts 0; so do EXTEST, CLAMP and HIGHZ while READY is high. While READY is low these three act as themselves, and SAMPLE/PRELOAD always does. -/
def Obligations.Jtag : Prop :=
  ∀ (s : State),
    (Answers .extest s fun t => s.boundaryLoaded t 0)
    ∧ (Answers .clamp s fun t => s.boundaryLoaded t 3)
    ∧ (Answers .highz s fun t => s.boundaryLoaded t 4)
    ∧ (Answers .samplePreload s fun t => t.dev.jtag = 1 ∧ t.dev.jtagActs = 1 ∧ s.onlyJtag t)
    ∧ (Answers .idcode s fun t => t.dev.jtag = 2 ∧ t.dev.jtagActs = jtagIdcode ∧ Output.jtag idcode ∈ t.dev.out ∧ s.onlyJtag t)
    ∧ (∀ code : BitVec 4, Answers (.bypass code) s fun t => (code.toNat < 5 → t.dev.jtag = jtagBypass) ∧ (5 ≤ code.toNat → t.dev.jtag = code) ∧ t.dev.jtagActs = jtagBypass
      ∧ Output.jtag 0 ∈ t.dev.out ∧ s.onlyJtag t)

/-- GRAVE_N is 1 for source 2 of TIM (HAL_BOTH), source 1 of CEL (SPARE_MISMATCH) and sources 0 and 1 of AUT (KEY_PARITY, FUSE_READ), and 0 for every other source of every block. An opening of one of those four is classed GRAVE in every state and at every time, so the first in any window is; an opening of any other source never is. An opening of source 2 of STA (LINE_STUCK) is classed SEVERE in every state, whatever its COUNT_N. -/
def Obligations.GraveCapableList : Prop :=
  (∀ b n, graveN b n = (if (b, n) ∈ [(bTIM, 2), (bCEL, 1), (bAUT, 0), (bAUT, 1)] then 1 else 0))
    ∧ (∀ (s : Dev) (b n : Nat) (t : Int), s.classify b n t = .grave ↔ (b, n) ∈ [(bTIM, 2), (bCEL, 1), (bAUT, 0), (bAUT, 1)])
    ∧ (∀ (s : Dev) (t : Int), s.classify bSTA 2 t = .severe)

/-- RESET of a device out of reset: every register word is at its reset value but PWR_WAKE_CAUSE and the latches (STA_GRAVE and STA_GRAVE_OWN, the drive of FAULT_N in STA_FLINE, and the FLT_STICKY words with the bits of latched sources), the wake sources of PWR_WAKE_CAUSE stay, RESET_CAUSE is 1, and every store beside the registers (frames, receive queues, streams' requests, cells, jobs, channels, the event log, the trace, time) is empty. STARTUP_BEGIN, which is RESET_N's rise with PWR_OK high, then puts step 4 in progress, with RESET_CAUSE still 1. -/
def Obligations.ResetThenStartUp : Prop :=
  ∀ s : State, s.dev.pwr.phase ≠ .off → Answers .reset s fun t =>
    (∀ k, k ∉ [Reg.PWR_WAKE_CAUSE, Reg.STA_GRAVE, Reg.STA_GRAVE_OWN, Reg.STA_FLINE] → (∀ b, k ≠ stickyAddr b) → t.dev.word k = resetWord k)
    ∧ t.dev.word Reg.STA_GRAVE = s.dev.word Reg.STA_GRAVE ∧ t.dev.word Reg.STA_GRAVE_OWN = s.dev.word Reg.STA_GRAVE_OWN
    ∧ (∀ b < 28, ∀ n < 32, t.dev.bit (stickyBit b n) = true → (t.dev.fltSrc b n).cls = .grave ∧ (s.dev.fltSrc b n).cls = .grave)
    ∧ t.dev.get Reg.PWR_WAKE_CAUSE.WAKE = s.dev.get Reg.PWR_WAKE_CAUSE.WAKE ∧ t.dev.get Reg.PWR_WAKE_CAUSE.RESET_CAUSE = 1
    ∧ t.dev.frames = [] ∧ t.dev.rxQ = [] ∧ t.dev.dct = {} ∧ t.dev.cells = [] ∧ t.dev.jobs = [] ∧ t.dev.chns = [] ∧ t.dev.log = {} ∧ t.dev.trc = {} ∧ t.dev.tim = {}
    ∧ Answers .startupBegin t fun u => u.dev.get Reg.GLB_BOOT.STEP = 4 ∧ u.dev.pwr.phase = .starting ∧ u.dev.get Reg.PWR_WAKE_CAUSE.RESET_CAUSE = 1

/-- For every client and index: an inner WRITE or TABLE_WRITE is granted exactly when the bit of the region that holds the index is set (regions 0 to 9 spelled out by their index ranges; none from 0xF000 on), and, for an entry 0x2000 + s, when s also lies between FIRST and LAST of one of the four ranges (none does in a range with FIRST above LAST); an inner COMMIT or DISCARD is granted exactly when some RIGHTS bit is set. -/
def Obligations.RightsGrantInnerWrites : Prop :=
  ∀ (s : Dev) (id op x : Nat), x < 0x10000 →
    ((op = 2 ∨ op = 8) → (s.innerGranted id op x = true ↔
      ((s.get (Reg.AUT_CL_CFG.RIGHTS id)).testBit 0 = true ∧ x ≤ 0x0FFF) ∨ ((s.get (Reg.AUT_CL_CFG.RIGHTS id)).testBit 1 = true ∧ 0x1000 ≤ x ∧ x ≤ 0x1FFF)
      ∨ ((s.get (Reg.AUT_CL_CFG.RIGHTS id)).testBit 2 = true ∧ 0x2000 ≤ x ∧ x ≤ 0x21FF
          ∧ ∃ i < 4, s.get (Reg.AUT_CL_OWN.FIRST id i) ≤ x - 0x2000 ∧ x - 0x2000 ≤ s.get (Reg.AUT_CL_OWN.LAST id i))
      ∨ ((s.get (Reg.AUT_CL_CFG.RIGHTS id)).testBit 3 = true ∧ 0x3000 ≤ x ∧ x ≤ 0x303F) ∨ ((s.get (Reg.AUT_CL_CFG.RIGHTS id)).testBit 4 = true ∧ 0x4000 ≤ x ∧ x ≤ 0x41FF)
      ∨ ((s.get (Reg.AUT_CL_CFG.RIGHTS id)).testBit 5 = true ∧ 0x4800 ≤ x ∧ x ≤ 0x481F) ∨ ((s.get (Reg.AUT_CL_CFG.RIGHTS id)).testBit 6 = true ∧ 0x5000 ≤ x ∧ x ≤ 0x5007)
      ∨ ((s.get (Reg.AUT_CL_CFG.RIGHTS id)).testBit 7 = true ∧ 0x6000 ≤ x ∧ x ≤ 0x60FF) ∨ ((s.get (Reg.AUT_CL_CFG.RIGHTS id)).testBit 8 = true ∧ 0x7000 ≤ x ∧ x ≤ 0x70FF)
      ∨ ((s.get (Reg.AUT_CL_CFG.RIGHTS id)).testBit 9 = true ∧ 0x8000 ≤ x ∧ x ≤ 0x8FFF)))
    ∧ ((op = 5 ∨ op = 6) → (s.innerGranted id op x = true ↔ ∃ r < 10, (s.get (Reg.AUT_CL_CFG.RIGHTS id)).testBit r = true))
end

