-- ==== Sys2Proof/Laws/Tab.lean ====
section
/-! SUPPORT. The laws of the sparse stores: read after write, and the canonical form that every operation keeps. -/

namespace Sys2Proof.Machine

variable {α : Type}

@[simp] theorem Tab.get_nil (d : Nat → α) (k : Nat) : Tab.get d [] k = d k := rfl

theorem Tab.blt_false {a b : Nat} (h : b ≤ a) : Nat.blt a b = false := by
  rw [Bool.eq_false_iff, ne_eq, Nat.blt_eq]; omega

theorem Tab.blt_true {a b : Nat} (h : a < b) : Nat.blt a b = true := by
  rw [Nat.blt_eq]; exact h

/-- A key that a filter drops is not found after it. -/
theorem Tab.lookup_filter_drop (p : Nat × α → Bool) (k : Nat) (t : Tab α) (h : ∀ v, p (k, v) = false) :
    List.lookup k (t.filter p) = none := by
  induction t with
  | nil => rfl
  | cons e t ih =>
    obtain ⟨a, v⟩ := e
    by_cases hk : k = a
    · subst hk; simp [List.filter, h v, ih]
    · cases hp : p (a, v) <;> simp [List.filter, hp, List.lookup, ih, beq_false_of_ne hk]

/-- A key that a filter keeps is found after it as before. -/
theorem Tab.lookup_filter_keep (p : Nat × α → Bool) (k : Nat) (t : Tab α) (h : ∀ v, p (k, v) = true) :
    List.lookup k (t.filter p) = List.lookup k t := by
  induction t with
  | nil => rfl
  | cons e t ih =>
    obtain ⟨a, v⟩ := e
    by_cases hk : k = a
    · subst hk; simp [List.filter, h v, List.lookup]
    · cases hp : p (a, v) <;> simp [List.filter, hp, List.lookup, ih, beq_false_of_ne hk]

/-- A read of the key just written gives the value written. -/
@[simp] theorem Tab.get_set_same [DecidableEq α] (d : Nat → α) (t : Tab α) (k : Nat) (v : α) : Tab.get d (Tab.set d t k v) k = v := by
  have h1 := Tab.lookup_filter_drop (fun e : Nat × α => Nat.blt e.1 k) k t (fun _ => Tab.blt_false (Nat.le_refl k))
  have h2 := Tab.lookup_filter_drop (fun e : Nat × α => Nat.blt k e.1) k t (fun _ => Tab.blt_false (Nat.le_refl k))
  unfold Tab.get Tab.set
  rw [List.lookup_append, h1, List.lookup_append, h2]
  by_cases hv : v = d k <;> simp [hv]

/-- A write leaves every other key alone. -/
theorem Tab.get_set_other [DecidableEq α] (d : Nat → α) (t : Tab α) (k j : Nat) (v : α) (h : j ≠ k) :
    Tab.get d (Tab.set d t k v) j = Tab.get d t j := by
  have hm : List.lookup j (if v = d k then [] else [(k, v)]) = none := by
    split <;> simp [List.lookup, beq_false_of_ne h]
  unfold Tab.get Tab.set
  rw [List.lookup_append, List.lookup_append, hm]
  rcases Nat.lt_or_gt_of_ne h with hlt | hgt
  · rw [Tab.lookup_filter_keep _ j t (fun _ => Tab.blt_true hlt),
      Tab.lookup_filter_drop (fun e : Nat × α => Nat.blt k e.1) j t (fun _ => Tab.blt_false (Nat.le_of_lt hlt))]
    simp
  · rw [Tab.lookup_filter_drop _ j t (fun _ => Tab.blt_false (Nat.le_of_lt hgt)),
      Tab.lookup_filter_keep (fun e : Nat × α => Nat.blt k e.1) j t (fun _ => Tab.blt_true hgt)]
    simp

/-- Read after write in one line. -/
theorem Tab.get_set [DecidableEq α] (d : Nat → α) (t : Tab α) (k j : Nat) (v : α) :
    Tab.get d (Tab.set d t k v) j = if j = k then v else Tab.get d t j := by
  by_cases h : j = k
  · subst h; simp
  · simp [h, Tab.get_set_other d t k j v h]

/-! ### The canonical form -/

/-- The canonical form said with the library's words. -/
theorem Tab.wf_iff [DecidableEq α] (d : Nat → α) (t : Tab α) :
    Tab.wf d t = true ↔ t.Pairwise (fun a b => a.1 < b.1) ∧ ∀ e ∈ t, e.2 ≠ d e.1 := by
  induction t with
  | nil => simp [Tab.wf]
  | cons e t ih =>
    obtain ⟨k, v⟩ := e
    cases t with
    | nil => simp [Tab.wf]
    | cons f t =>
      obtain ⟨k', v'⟩ := f
      simp only [Tab.wf, Bool.and_eq_true, decide_eq_true_eq, ih, List.pairwise_cons, List.mem_cons, Nat.blt_eq]
      constructor
      · rintro ⟨⟨hv, hk⟩, ⟨⟨h1, h2⟩, h3⟩⟩
        refine ⟨⟨?_, h1, h2⟩, ?_⟩
        · rintro a (rfl | ha)
          · exact hk
          · exact Nat.lt_trans hk (h1 a ha)
        · rintro a (rfl | ha)
          · exact hv
          · exact h3 a ha
      · rintro ⟨⟨h0, h1, h2⟩, h3⟩
        exact ⟨⟨h3 _ (.inl rfl), h0 _ (.inl rfl)⟩, ⟨h1, h2⟩, fun a ha => h3 a (.inr ha)⟩

@[simp] theorem Tab.wf_nil [DecidableEq α] (d : Nat → α) : Tab.wf d [] = true := rfl

/-- Dropping entries keeps the form. -/
theorem Tab.wf_filter [DecidableEq α] (d : Nat → α) (t : Tab α) (p : Nat × α → Bool) (h : Tab.wf d t = true) :
    Tab.wf d (t.filter p) = true := by
  rw [Tab.wf_iff] at *
  exact ⟨h.1.filter p, fun e he => h.2 e (List.mem_filter.mp he).1⟩

/-- A write keeps the form. -/
theorem Tab.wf_set [DecidableEq α] (d : Nat → α) (t : Tab α) (k : Nat) (v : α) (h : Tab.wf d t = true) :
    Tab.wf d (Tab.set d t k v) = true := by
  rw [Tab.wf_iff] at *
  have hlo : ∀ e ∈ t.filter (fun e => Nat.blt e.1 k), e.1 < k := by
    intro e he; simpa using (List.mem_filter.mp he).2
  have hhi : ∀ e ∈ t.filter (fun e => Nat.blt k e.1), k < e.1 := by
    intro e he; simpa using (List.mem_filter.mp he).2
  have hmid : ∀ e ∈ (if v = d k then [] else [(k, v)]), e = (k, v) ∧ v ≠ d k := by
    intro e he
    split at he
    · cases he
    · exact ⟨by simpa using he, by assumption⟩
  refine ⟨?_, ?_⟩
  · unfold Tab.set
    refine List.pairwise_append.mpr ⟨h.1.filter _, List.pairwise_append.mpr ⟨?_, h.1.filter _, ?_⟩, ?_⟩
    · split <;> simp
    · intro a ha b hb
      rw [(hmid a ha).1]; exact hhi b hb
    · intro a ha b hb
      rcases List.mem_append.mp hb with hb | hb
      · rw [(hmid b hb).1]; exact hlo a ha
      · exact Nat.lt_trans (hlo a ha) (hhi b hb)
  · intro e he
    unfold Tab.set at he
    rcases List.mem_append.mp he with he | he
    · exact h.2 e (List.mem_filter.mp he).1
    rcases List.mem_append.mp he with he | he
    · obtain ⟨rfl, hv⟩ := hmid e he
      exact hv
    · exact h.2 e (List.mem_filter.mp he).1

/-- A run lists rising keys within it, none at its unlisted value. -/
theorem Tab.run_spec [DecidableEq α] (d : Nat → α) (vs : List α) (k : Nat) :
    (Tab.run d k vs).Pairwise (fun a b => a.1 < b.1) ∧ ∀ e ∈ Tab.run d k vs, e.2 ≠ d e.1 ∧ k ≤ e.1 ∧ e.1 < k + vs.length := by
  induction vs generalizing k with
  | nil => simp [Tab.run]
  | cons v vs ih =>
    obtain ⟨h1, h2⟩ := ih (k + 1)
    unfold Tab.run
    split
    · refine ⟨h1, fun e he => ?_⟩
      have := h2 e he
      simp only [List.length_cons]
      exact ⟨this.1, by omega, by omega⟩
    · refine ⟨List.pairwise_cons.mpr ⟨fun e he => ?_, h1⟩, fun e he => ?_⟩
      · have := h2 e he; simp only; omega
      · rcases List.mem_cons.mp he with rfl | he
        · exact ⟨by assumption, Nat.le_refl _, by simp⟩
        · have := h2 e he
          simp only [List.length_cons]
          exact ⟨this.1, by omega, by omega⟩

/-- A run of writes keeps the form. -/
theorem Tab.wf_setRun [DecidableEq α] (d : Nat → α) (t : Tab α) (k : Nat) (vs : List α) (h : Tab.wf d t = true) :
    Tab.wf d (Tab.setRun d t k vs) = true := by
  rw [Tab.wf_iff] at *
  obtain ⟨r1, r2⟩ := Tab.run_spec d vs k
  have hlo : ∀ e ∈ t.filter (fun e => Nat.blt e.1 k), e.1 < k := by
    intro e he; simpa using (List.mem_filter.mp he).2
  have hhi : ∀ e ∈ t.filter (fun e => Nat.ble (k + vs.length) e.1), k + vs.length ≤ e.1 := by
    intro e he; simpa using (List.mem_filter.mp he).2
  refine ⟨?_, ?_⟩
  · unfold Tab.setRun
    refine List.pairwise_append.mpr ⟨h.1.filter _, List.pairwise_append.mpr ⟨r1, h.1.filter _, ?_⟩, ?_⟩
    · intro a ha b hb
      have := r2 a ha; have := hhi b hb; omega
    · intro a ha b hb
      have := hlo a ha
      rcases List.mem_append.mp hb with hb | hb
      · have := r2 b hb; omega
      · have := hhi b hb; omega
  · intro e he
    unfold Tab.setRun at he
    rcases List.mem_append.mp he with he | he
    · exact h.2 e (List.mem_filter.mp he).1
    rcases List.mem_append.mp he with he | he
    · exact (r2 e he).1
    · exact h.2 e (List.mem_filter.mp he).1

end Sys2Proof.Machine
end

