-- ==== Sys2Proof/Laws/State.lean ====
section
/-! SUPPORT. One lemma per field of the device for each update of the shared operations: a register write leaves every field but the register store, an output every field but the outputs, and the end of a command every field but LAST_TS, the interrupt levels, the pending bits and the outputs (R21, R23). -/

namespace Sys2Proof.Machine

namespace Dev

/-! ### Register words -/

@[simp] theorem setWord_up (s : Dev) (k : Nat) (w : Word) : (s.setWord k w).up = s.up := rfl
@[simp] theorem setWord_freeCount (s : Dev) (k : Nat) (w : Word) : (s.setWord k w).freeCount = s.freeCount := rfl
@[simp] theorem setWord_lastTs (s : Dev) (k : Nat) (w : Word) : (s.setWord k w).lastTs = s.lastTs := rfl
@[simp] theorem setWord_irq (s : Dev) (k : Nat) (w : Word) : (s.setWord k w).irq = s.irq := rfl
@[simp] theorem setWord_msixPend (s : Dev) (k : Nat) (w : Word) : (s.setWord k w).msixPend = s.msixPend := rfl
@[simp] theorem setWord_out (s : Dev) (k : Nat) (w : Word) : (s.setWord k w).out = s.out := rfl
@[simp] theorem setWord_flt (s : Dev) (k : Nat) (w : Word) : (s.setWord k w).flt = s.flt := rfl
@[simp] theorem setWord_log (s : Dev) (k : Nat) (w : Word) : (s.setWord k w).log = s.log := rfl
@[simp] theorem setWord_trc (s : Dev) (k : Nat) (w : Word) : (s.setWord k w).trc = s.trc := rfl
@[simp] theorem setWord_tim (s : Dev) (k : Nat) (w : Word) : (s.setWord k w).tim = s.tim := rfl
@[simp] theorem setWord_pwr (s : Dev) (k : Nat) (w : Word) : (s.setWord k w).pwr = s.pwr := rfl
@[simp] theorem setWord_frames (s : Dev) (k : Nat) (w : Word) : (s.setWord k w).frames = s.frames := rfl
@[simp] theorem setWord_bankNext (s : Dev) (k : Nat) (w : Word) : (s.setWord k w).bankNext = s.bankNext := rfl
@[simp] theorem setWord_retired (s : Dev) (k : Nat) (w : Word) : (s.setWord k w).retired = s.retired := rfl
@[simp] theorem setWord_locker (s : Dev) (k : Nat) (w : Word) : (s.setWord k w).locker = s.locker := rfl
@[simp] theorem setWord_classQ (s : Dev) (k : Nat) (w : Word) : (s.setWord k w).classQ = s.classQ := rfl
@[simp] theorem setWord_ports (s : Dev) (k : Nat) (w : Word) : (s.setWord k w).ports = s.ports := rfl
@[simp] theorem setWord_credits (s : Dev) (k : Nat) (w : Word) : (s.setWord k w).credits = s.credits := rfl
@[simp] theorem setWord_ctxs (s : Dev) (k : Nat) (w : Word) : (s.setWord k w).ctxs = s.ctxs := rfl
@[simp] theorem setWord_meters (s : Dev) (k : Nat) (w : Word) : (s.setWord k w).meters = s.meters := rfl
@[simp] theorem setWord_ruleSwapAt (s : Dev) (k : Nat) (w : Word) : (s.setWord k w).ruleSwapAt = s.ruleSwapAt := rfl
@[simp] theorem setWord_rxQ (s : Dev) (k : Nat) (w : Word) : (s.setWord k w).rxQ = s.rxQ := rfl
@[simp] theorem setWord_slotWait (s : Dev) (k : Nat) (w : Word) : (s.setWord k w).slotWait = s.slotWait := rfl
@[simp] theorem setWord_rings (s : Dev) (k : Nat) (w : Word) : (s.setWord k w).rings = s.rings := rfl
@[simp] theorem setWord_mdio (s : Dev) (k : Nat) (w : Word) : (s.setWord k w).mdio = s.mdio := rfl
@[simp] theorem setWord_plc (s : Dev) (k : Nat) (w : Word) : (s.setWord k w).plc = s.plc := rfl
@[simp] theorem setWord_angs (s : Dev) (k : Nat) (w : Word) : (s.setWord k w).angs = s.angs := rfl
@[simp] theorem setWord_cells (s : Dev) (k : Nat) (w : Word) : (s.setWord k w).cells = s.cells := rfl
@[simp] theorem setWord_fieldBufs (s : Dev) (k : Nat) (w : Word) : (s.setWord k w).fieldBufs = s.fieldBufs := rfl
@[simp] theorem setWord_chans (s : Dev) (k : Nat) (w : Word) : (s.setWord k w).chans = s.chans := rfl
@[simp] theorem setWord_chks (s : Dev) (k : Nat) (w : Word) : (s.setWord k w).chks = s.chks := rfl
@[simp] theorem setWord_pins (s : Dev) (k : Nat) (w : Word) : (s.setWord k w).pins = s.pins := rfl
@[simp] theorem setWord_dct (s : Dev) (k : Nat) (w : Word) : (s.setWord k w).dct = s.dct := rfl
@[simp] theorem setWord_keys (s : Dev) (k : Nat) (w : Word) : (s.setWord k w).keys = s.keys := rfl
@[simp] theorem setWord_keyBad (s : Dev) (k : Nat) (w : Word) : (s.setWord k w).keyBad = s.keyBad := rfl
@[simp] theorem setWord_jobs (s : Dev) (k : Nat) (w : Word) : (s.setWord k w).jobs = s.jobs := rfl
@[simp] theorem setWord_rrA (s : Dev) (k : Nat) (w : Word) : (s.setWord k w).rrA = s.rrA := rfl
@[simp] theorem setWord_rrB (s : Dev) (k : Nat) (w : Word) : (s.setWord k w).rrB = s.rrB := rfl
@[simp] theorem setWord_chns (s : Dev) (k : Nat) (w : Word) : (s.setWord k w).chns = s.chns := rfl
@[simp] theorem setWord_retrainTurn (s : Dev) (k : Nat) (w : Word) : (s.setWord k w).retrainTurn = s.retrainTurn := rfl
@[simp] theorem setWord_retrainAt (s : Dev) (k : Nat) (w : Word) : (s.setWord k w).retrainAt = s.retrainAt := rfl
@[simp] theorem setWord_ist (s : Dev) (k : Nat) (w : Word) : (s.setWord k w).ist = s.ist := rfl
@[simp] theorem setWord_fline (s : Dev) (k : Nat) (w : Word) : (s.setWord k w).fline = s.fline := rfl
@[simp] theorem setWord_jtag (s : Dev) (k : Nat) (w : Word) : (s.setWord k w).jtag = s.jtag := rfl
@[simp] theorem setWord_captured (s : Dev) (k : Nat) (w : Word) : (s.setWord k w).captured = s.captured := rfl
@[simp] theorem setWord_badWords (s : Dev) (k : Nat) (w : Word) : (s.setWord k w).badWords = s.badWords := rfl
@[simp] theorem setWord_sels (s : Dev) (k : Nat) (w : Word) : (s.setWord k w).sels = s.sels := rfl

/-! ### Fields -/

@[simp] theorem put_up (s : Dev) (f : Fld) (v : Nat) : (s.put f v).up = s.up := rfl
@[simp] theorem put_freeCount (s : Dev) (f : Fld) (v : Nat) : (s.put f v).freeCount = s.freeCount := rfl
@[simp] theorem put_lastTs (s : Dev) (f : Fld) (v : Nat) : (s.put f v).lastTs = s.lastTs := rfl
@[simp] theorem put_irq (s : Dev) (f : Fld) (v : Nat) : (s.put f v).irq = s.irq := rfl
@[simp] theorem put_msixPend (s : Dev) (f : Fld) (v : Nat) : (s.put f v).msixPend = s.msixPend := rfl
@[simp] theorem put_out (s : Dev) (f : Fld) (v : Nat) : (s.put f v).out = s.out := rfl
@[simp] theorem put_flt (s : Dev) (f : Fld) (v : Nat) : (s.put f v).flt = s.flt := rfl
@[simp] theorem put_log (s : Dev) (f : Fld) (v : Nat) : (s.put f v).log = s.log := rfl
@[simp] theorem put_trc (s : Dev) (f : Fld) (v : Nat) : (s.put f v).trc = s.trc := rfl
@[simp] theorem put_tim (s : Dev) (f : Fld) (v : Nat) : (s.put f v).tim = s.tim := rfl
@[simp] theorem put_pwr (s : Dev) (f : Fld) (v : Nat) : (s.put f v).pwr = s.pwr := rfl
@[simp] theorem put_frames (s : Dev) (f : Fld) (v : Nat) : (s.put f v).frames = s.frames := rfl
@[simp] theorem put_bankNext (s : Dev) (f : Fld) (v : Nat) : (s.put f v).bankNext = s.bankNext := rfl
@[simp] theorem put_retired (s : Dev) (f : Fld) (v : Nat) : (s.put f v).retired = s.retired := rfl
@[simp] theorem put_locker (s : Dev) (f : Fld) (v : Nat) : (s.put f v).locker = s.locker := rfl
@[simp] theorem put_classQ (s : Dev) (f : Fld) (v : Nat) : (s.put f v).classQ = s.classQ := rfl
@[simp] theorem put_ports (s : Dev) (f : Fld) (v : Nat) : (s.put f v).ports = s.ports := rfl
@[simp] theorem put_credits (s : Dev) (f : Fld) (v : Nat) : (s.put f v).credits = s.credits := rfl
@[simp] theorem put_ctxs (s : Dev) (f : Fld) (v : Nat) : (s.put f v).ctxs = s.ctxs := rfl
@[simp] theorem put_meters (s : Dev) (f : Fld) (v : Nat) : (s.put f v).meters = s.meters := rfl
@[simp] theorem put_ruleSwapAt (s : Dev) (f : Fld) (v : Nat) : (s.put f v).ruleSwapAt = s.ruleSwapAt := rfl
@[simp] theorem put_rxQ (s : Dev) (f : Fld) (v : Nat) : (s.put f v).rxQ = s.rxQ := rfl
@[simp] theorem put_slotWait (s : Dev) (f : Fld) (v : Nat) : (s.put f v).slotWait = s.slotWait := rfl
@[simp] theorem put_rings (s : Dev) (f : Fld) (v : Nat) : (s.put f v).rings = s.rings := rfl
@[simp] theorem put_mdio (s : Dev) (f : Fld) (v : Nat) : (s.put f v).mdio = s.mdio := rfl
@[simp] theorem put_plc (s : Dev) (f : Fld) (v : Nat) : (s.put f v).plc = s.plc := rfl
@[simp] theorem put_angs (s : Dev) (f : Fld) (v : Nat) : (s.put f v).angs = s.angs := rfl
@[simp] theorem put_cells (s : Dev) (f : Fld) (v : Nat) : (s.put f v).cells = s.cells := rfl
@[simp] theorem put_fieldBufs (s : Dev) (f : Fld) (v : Nat) : (s.put f v).fieldBufs = s.fieldBufs := rfl
@[simp] theorem put_chans (s : Dev) (f : Fld) (v : Nat) : (s.put f v).chans = s.chans := rfl
@[simp] theorem put_chks (s : Dev) (f : Fld) (v : Nat) : (s.put f v).chks = s.chks := rfl
@[simp] theorem put_pins (s : Dev) (f : Fld) (v : Nat) : (s.put f v).pins = s.pins := rfl
@[simp] theorem put_dct (s : Dev) (f : Fld) (v : Nat) : (s.put f v).dct = s.dct := rfl
@[simp] theorem put_keys (s : Dev) (f : Fld) (v : Nat) : (s.put f v).keys = s.keys := rfl
@[simp] theorem put_keyBad (s : Dev) (f : Fld) (v : Nat) : (s.put f v).keyBad = s.keyBad := rfl
@[simp] theorem put_jobs (s : Dev) (f : Fld) (v : Nat) : (s.put f v).jobs = s.jobs := rfl
@[simp] theorem put_rrA (s : Dev) (f : Fld) (v : Nat) : (s.put f v).rrA = s.rrA := rfl
@[simp] theorem put_rrB (s : Dev) (f : Fld) (v : Nat) : (s.put f v).rrB = s.rrB := rfl
@[simp] theorem put_chns (s : Dev) (f : Fld) (v : Nat) : (s.put f v).chns = s.chns := rfl
@[simp] theorem put_retrainTurn (s : Dev) (f : Fld) (v : Nat) : (s.put f v).retrainTurn = s.retrainTurn := rfl
@[simp] theorem put_retrainAt (s : Dev) (f : Fld) (v : Nat) : (s.put f v).retrainAt = s.retrainAt := rfl
@[simp] theorem put_ist (s : Dev) (f : Fld) (v : Nat) : (s.put f v).ist = s.ist := rfl
@[simp] theorem put_fline (s : Dev) (f : Fld) (v : Nat) : (s.put f v).fline = s.fline := rfl
@[simp] theorem put_jtag (s : Dev) (f : Fld) (v : Nat) : (s.put f v).jtag = s.jtag := rfl
@[simp] theorem put_captured (s : Dev) (f : Fld) (v : Nat) : (s.put f v).captured = s.captured := rfl
@[simp] theorem put_badWords (s : Dev) (f : Fld) (v : Nat) : (s.put f v).badWords = s.badWords := rfl
@[simp] theorem put_sels (s : Dev) (f : Fld) (v : Nat) : (s.put f v).sels = s.sels := rfl

/-! ### Outputs -/

@[simp] theorem emit_regs (s : Dev) (o : Output) : (s.emit o).regs = s.regs := rfl
@[simp] theorem emit_up (s : Dev) (o : Output) : (s.emit o).up = s.up := rfl
@[simp] theorem emit_freeCount (s : Dev) (o : Output) : (s.emit o).freeCount = s.freeCount := rfl
@[simp] theorem emit_lastTs (s : Dev) (o : Output) : (s.emit o).lastTs = s.lastTs := rfl
@[simp] theorem emit_irq (s : Dev) (o : Output) : (s.emit o).irq = s.irq := rfl
@[simp] theorem emit_msixPend (s : Dev) (o : Output) : (s.emit o).msixPend = s.msixPend := rfl
@[simp] theorem emit_flt (s : Dev) (o : Output) : (s.emit o).flt = s.flt := rfl
@[simp] theorem emit_log (s : Dev) (o : Output) : (s.emit o).log = s.log := rfl
@[simp] theorem emit_trc (s : Dev) (o : Output) : (s.emit o).trc = s.trc := rfl
@[simp] theorem emit_tim (s : Dev) (o : Output) : (s.emit o).tim = s.tim := rfl
@[simp] theorem emit_pwr (s : Dev) (o : Output) : (s.emit o).pwr = s.pwr := rfl
@[simp] theorem emit_frames (s : Dev) (o : Output) : (s.emit o).frames = s.frames := rfl
@[simp] theorem emit_bankNext (s : Dev) (o : Output) : (s.emit o).bankNext = s.bankNext := rfl
@[simp] theorem emit_retired (s : Dev) (o : Output) : (s.emit o).retired = s.retired := rfl
@[simp] theorem emit_locker (s : Dev) (o : Output) : (s.emit o).locker = s.locker := rfl
@[simp] theorem emit_classQ (s : Dev) (o : Output) : (s.emit o).classQ = s.classQ := rfl
@[simp] theorem emit_ports (s : Dev) (o : Output) : (s.emit o).ports = s.ports := rfl
@[simp] theorem emit_credits (s : Dev) (o : Output) : (s.emit o).credits = s.credits := rfl
@[simp] theorem emit_ctxs (s : Dev) (o : Output) : (s.emit o).ctxs = s.ctxs := rfl
@[simp] theorem emit_meters (s : Dev) (o : Output) : (s.emit o).meters = s.meters := rfl
@[simp] theorem emit_ruleSwapAt (s : Dev) (o : Output) : (s.emit o).ruleSwapAt = s.ruleSwapAt := rfl
@[simp] theorem emit_rxQ (s : Dev) (o : Output) : (s.emit o).rxQ = s.rxQ := rfl
@[simp] theorem emit_slotWait (s : Dev) (o : Output) : (s.emit o).slotWait = s.slotWait := rfl
@[simp] theorem emit_rings (s : Dev) (o : Output) : (s.emit o).rings = s.rings := rfl
@[simp] theorem emit_mdio (s : Dev) (o : Output) : (s.emit o).mdio = s.mdio := rfl
@[simp] theorem emit_plc (s : Dev) (o : Output) : (s.emit o).plc = s.plc := rfl
@[simp] theorem emit_angs (s : Dev) (o : Output) : (s.emit o).angs = s.angs := rfl
@[simp] theorem emit_cells (s : Dev) (o : Output) : (s.emit o).cells = s.cells := rfl
@[simp] theorem emit_fieldBufs (s : Dev) (o : Output) : (s.emit o).fieldBufs = s.fieldBufs := rfl
@[simp] theorem emit_chans (s : Dev) (o : Output) : (s.emit o).chans = s.chans := rfl
@[simp] theorem emit_chks (s : Dev) (o : Output) : (s.emit o).chks = s.chks := rfl
@[simp] theorem emit_pins (s : Dev) (o : Output) : (s.emit o).pins = s.pins := rfl
@[simp] theorem emit_dct (s : Dev) (o : Output) : (s.emit o).dct = s.dct := rfl
@[simp] theorem emit_keys (s : Dev) (o : Output) : (s.emit o).keys = s.keys := rfl
@[simp] theorem emit_keyBad (s : Dev) (o : Output) : (s.emit o).keyBad = s.keyBad := rfl
@[simp] theorem emit_jobs (s : Dev) (o : Output) : (s.emit o).jobs = s.jobs := rfl
@[simp] theorem emit_rrA (s : Dev) (o : Output) : (s.emit o).rrA = s.rrA := rfl
@[simp] theorem emit_rrB (s : Dev) (o : Output) : (s.emit o).rrB = s.rrB := rfl
@[simp] theorem emit_chns (s : Dev) (o : Output) : (s.emit o).chns = s.chns := rfl
@[simp] theorem emit_retrainTurn (s : Dev) (o : Output) : (s.emit o).retrainTurn = s.retrainTurn := rfl
@[simp] theorem emit_retrainAt (s : Dev) (o : Output) : (s.emit o).retrainAt = s.retrainAt := rfl
@[simp] theorem emit_ist (s : Dev) (o : Output) : (s.emit o).ist = s.ist := rfl
@[simp] theorem emit_fline (s : Dev) (o : Output) : (s.emit o).fline = s.fline := rfl
@[simp] theorem emit_jtag (s : Dev) (o : Output) : (s.emit o).jtag = s.jtag := rfl
@[simp] theorem emit_captured (s : Dev) (o : Output) : (s.emit o).captured = s.captured := rfl
@[simp] theorem emit_badWords (s : Dev) (o : Output) : (s.emit o).badWords = s.badWords := rfl
@[simp] theorem emit_sels (s : Dev) (o : Output) : (s.emit o).sels = s.sels := rfl
@[simp] theorem emit_out (s : Dev) (o : Output) : (s.emit o).out = s.out ++ [o] := rfl

/-! ### The beginning of a command -/

@[simp] theorem fresh_regs (s : Dev) : s.fresh.regs = s.regs := rfl
@[simp] theorem fresh_up (s : Dev) : s.fresh.up = s.up := rfl
@[simp] theorem fresh_freeCount (s : Dev) : s.fresh.freeCount = s.freeCount := rfl
@[simp] theorem fresh_lastTs (s : Dev) : s.fresh.lastTs = s.lastTs := rfl
@[simp] theorem fresh_irq (s : Dev) : s.fresh.irq = s.irq := rfl
@[simp] theorem fresh_msixPend (s : Dev) : s.fresh.msixPend = s.msixPend := rfl
@[simp] theorem fresh_flt (s : Dev) : s.fresh.flt = s.flt := rfl
@[simp] theorem fresh_log (s : Dev) : s.fresh.log = s.log := rfl
@[simp] theorem fresh_trc (s : Dev) : s.fresh.trc = s.trc := rfl
@[simp] theorem fresh_tim (s : Dev) : s.fresh.tim = s.tim := rfl
@[simp] theorem fresh_pwr (s : Dev) : s.fresh.pwr = s.pwr := rfl
@[simp] theorem fresh_frames (s : Dev) : s.fresh.frames = s.frames := rfl
@[simp] theorem fresh_bankNext (s : Dev) : s.fresh.bankNext = s.bankNext := rfl
@[simp] theorem fresh_retired (s : Dev) : s.fresh.retired = s.retired := rfl
@[simp] theorem fresh_locker (s : Dev) : s.fresh.locker = s.locker := rfl
@[simp] theorem fresh_classQ (s : Dev) : s.fresh.classQ = s.classQ := rfl
@[simp] theorem fresh_ports (s : Dev) : s.fresh.ports = s.ports := rfl
@[simp] theorem fresh_credits (s : Dev) : s.fresh.credits = s.credits := rfl
@[simp] theorem fresh_ctxs (s : Dev) : s.fresh.ctxs = s.ctxs := rfl
@[simp] theorem fresh_meters (s : Dev) : s.fresh.meters = s.meters := rfl
@[simp] theorem fresh_ruleSwapAt (s : Dev) : s.fresh.ruleSwapAt = s.ruleSwapAt := rfl
@[simp] theorem fresh_rxQ (s : Dev) : s.fresh.rxQ = s.rxQ := rfl
@[simp] theorem fresh_slotWait (s : Dev) : s.fresh.slotWait = s.slotWait := rfl
@[simp] theorem fresh_rings (s : Dev) : s.fresh.rings = s.rings := rfl
@[simp] theorem fresh_mdio (s : Dev) : s.fresh.mdio = s.mdio := rfl
@[simp] theorem fresh_plc (s : Dev) : s.fresh.plc = s.plc := rfl
@[simp] theorem fresh_angs (s : Dev) : s.fresh.angs = s.angs := rfl
@[simp] theorem fresh_cells (s : Dev) : s.fresh.cells = s.cells := rfl
@[simp] theorem fresh_fieldBufs (s : Dev) : s.fresh.fieldBufs = s.fieldBufs := rfl
@[simp] theorem fresh_chans (s : Dev) : s.fresh.chans = s.chans := rfl
@[simp] theorem fresh_chks (s : Dev) : s.fresh.chks = s.chks := rfl
@[simp] theorem fresh_pins (s : Dev) : s.fresh.pins = s.pins := rfl
@[simp] theorem fresh_dct (s : Dev) : s.fresh.dct = s.dct := rfl
@[simp] theorem fresh_keys (s : Dev) : s.fresh.keys = s.keys := rfl
@[simp] theorem fresh_keyBad (s : Dev) : s.fresh.keyBad = s.keyBad := rfl
@[simp] theorem fresh_jobs (s : Dev) : s.fresh.jobs = s.jobs := rfl
@[simp] theorem fresh_rrA (s : Dev) : s.fresh.rrA = s.rrA := rfl
@[simp] theorem fresh_rrB (s : Dev) : s.fresh.rrB = s.rrB := rfl
@[simp] theorem fresh_chns (s : Dev) : s.fresh.chns = s.chns := rfl
@[simp] theorem fresh_retrainTurn (s : Dev) : s.fresh.retrainTurn = s.retrainTurn := rfl
@[simp] theorem fresh_retrainAt (s : Dev) : s.fresh.retrainAt = s.retrainAt := rfl
@[simp] theorem fresh_ist (s : Dev) : s.fresh.ist = s.ist := rfl
@[simp] theorem fresh_fline (s : Dev) : s.fresh.fline = s.fline := rfl
@[simp] theorem fresh_jtag (s : Dev) : s.fresh.jtag = s.jtag := rfl
@[simp] theorem fresh_captured (s : Dev) : s.fresh.captured = s.captured := rfl
@[simp] theorem fresh_badWords (s : Dev) : s.fresh.badWords = s.badWords := rfl
@[simp] theorem fresh_sels (s : Dev) : s.fresh.sels = s.sels := rfl
@[simp] theorem fresh_out (s : Dev) : s.fresh.out = [] := rfl

/-! ### The end of a command -/

/-- A device that differs only in what the end of a command may change (R21, R23, R304). -/
def SameBut (s t : Dev) : Prop := t = { s with lastTs := t.lastTs, irq := t.irq, msixPend := t.msixPend, out := t.out }

theorem SameBut.rfl' (s : Dev) : SameBut s s := rfl

theorem SameBut.trans {a b c : Dev} (h : SameBut a b) (k : SameBut b c) : SameBut a c := by
  unfold SameBut at *; rw [k, h]

theorem msixRise_same (s : Dev) (v : Nat) : SameBut s (s.msixRise v) := by
  unfold msixRise
  split
  · rfl
  · split <;> rfl

theorem irqLevel_same (s : Dev) (b i : Nat) (on : Bool) : SameBut s (s.irqLevel b i on) := by
  unfold irqLevel
  split
  · dsimp only
    split
    · exact SameBut.trans (b := { s with irq := Tab.set (fun _ => .off) s.irq (2 * b + i) (s.irqRoute b i) }) rfl (msixRise_same _ _)
    · rfl
  all_goals rfl

theorem settleBlock_same (old s : Dev) (b : Nat) : SameBut s (settleBlock old s b) := by
  have h := (irqLevel_same s b 0 (s.blockIrq b)).trans (irqLevel_same (s.irqLevel b 0 (s.blockIrq b)) b 1 ((s.irqLevel b 0 (s.blockIrq b)).faultIrq b))
  unfold settleBlock
  dsimp only
  split
  · exact h
  · exact h.trans rfl

theorem pendSweep_same (s : Dev) : SameBut s s.pendSweep := by
  unfold pendSweep
  split <;> rfl

theorem settle_same (old s : Dev) : SameBut s (settle old s) := by
  have h : ∀ (l : List Nat) (s : Dev), SameBut s (l.foldl (settleBlock old) s) := by
    intro l
    induction l with
    | nil => exact SameBut.rfl'
    | cons b l ih => exact fun s => SameBut.trans (settleBlock_same old s b) (ih _)
  exact (h (List.range 28) s).trans (pendSweep_same _)

/-- What the end of a command sends beside what the command itself sent: MSI-X messages. -/
def Sends (s t : Dev) : Prop := ∃ l, t.out = s.out ++ l ∧ ∀ o ∈ l, ∃ v, o = .msix v

theorem Sends.refl (s : Dev) : Sends s s := ⟨[], by simp, by simp⟩

theorem Sends.trans {a b c : Dev} (h : Sends a b) (k : Sends b c) : Sends a c := by
  obtain ⟨l, hl, hm⟩ := h
  obtain ⟨r, hr, hn⟩ := k
  refine ⟨l ++ r, by rw [hr, hl, List.append_assoc], fun o ho => ?_⟩
  exact (List.mem_append.mp ho).elim (hm o) (hn o)

theorem Sends.of_out {s t u : Dev} (h : Sends s t) (e : u.out = t.out) : Sends s u := by
  obtain ⟨l, hl, hm⟩ := h
  exact ⟨l, e.trans hl, hm⟩

theorem irqLevel_sends (s : Dev) (b i : Nat) (on : Bool) : Sends s (s.irqLevel b i on) := by
  unfold irqLevel
  split
  · dsimp only
    split
    · unfold msixRise
      split
      · exact Sends.refl s
      · split
        · exact Sends.refl s
        · exact ⟨_, rfl, by simp⟩
    · exact Sends.refl s
  all_goals exact Sends.refl s

theorem settleBlock_sends (old s : Dev) (b : Nat) : Sends s (settleBlock old s b) := by
  have h := (irqLevel_sends s b 0 (s.blockIrq b)).trans (irqLevel_sends (s.irqLevel b 0 (s.blockIrq b)) b 1 ((s.irqLevel b 0 (s.blockIrq b)).faultIrq b))
  unfold settleBlock
  dsimp only
  split
  · exact h
  · exact h.of_out rfl

theorem settle_sends (old s : Dev) : Sends s (settle old s) := by
  have h : ∀ (l : List Nat) (s : Dev), Sends s (l.foldl (settleBlock old) s) := by
    intro l
    induction l with
    | nil => exact Sends.refl
    | cons b l ih => exact fun s => Sends.trans (settleBlock_sends old s b) (ih _)
  refine (h (List.range 28) s).of_out ?_
  unfold settle pendSweep
  split <;> rfl

/-- What a command has sent stands after its end. -/
theorem mem_settle_out (old s : Dev) (o : Output) (h : o ∈ s.out) : o ∈ (settle old s).out := by
  obtain ⟨l, hl, -⟩ := settle_sends old s
  rw [hl]
  exact List.mem_append_left _ h

@[simp] theorem settle_regs (old s : Dev) : (settle old s).regs = s.regs := by rw [settle_same old s]
@[simp] theorem settle_up (old s : Dev) : (settle old s).up = s.up := by rw [settle_same old s]
@[simp] theorem settle_freeCount (old s : Dev) : (settle old s).freeCount = s.freeCount := by rw [settle_same old s]
@[simp] theorem settle_flt (old s : Dev) : (settle old s).flt = s.flt := by rw [settle_same old s]
@[simp] theorem settle_log (old s : Dev) : (settle old s).log = s.log := by rw [settle_same old s]
@[simp] theorem settle_trc (old s : Dev) : (settle old s).trc = s.trc := by rw [settle_same old s]
@[simp] theorem settle_tim (old s : Dev) : (settle old s).tim = s.tim := by rw [settle_same old s]
@[simp] theorem settle_pwr (old s : Dev) : (settle old s).pwr = s.pwr := by rw [settle_same old s]
@[simp] theorem settle_frames (old s : Dev) : (settle old s).frames = s.frames := by rw [settle_same old s]
@[simp] theorem settle_bankNext (old s : Dev) : (settle old s).bankNext = s.bankNext := by rw [settle_same old s]
@[simp] theorem settle_retired (old s : Dev) : (settle old s).retired = s.retired := by rw [settle_same old s]
@[simp] theorem settle_locker (old s : Dev) : (settle old s).locker = s.locker := by rw [settle_same old s]
@[simp] theorem settle_classQ (old s : Dev) : (settle old s).classQ = s.classQ := by rw [settle_same old s]
@[simp] theorem settle_ports (old s : Dev) : (settle old s).ports = s.ports := by rw [settle_same old s]
@[simp] theorem settle_credits (old s : Dev) : (settle old s).credits = s.credits := by rw [settle_same old s]
@[simp] theorem settle_ctxs (old s : Dev) : (settle old s).ctxs = s.ctxs := by rw [settle_same old s]
@[simp] theorem settle_meters (old s : Dev) : (settle old s).meters = s.meters := by rw [settle_same old s]
@[simp] theorem settle_ruleSwapAt (old s : Dev) : (settle old s).ruleSwapAt = s.ruleSwapAt := by rw [settle_same old s]
@[simp] theorem settle_rxQ (old s : Dev) : (settle old s).rxQ = s.rxQ := by rw [settle_same old s]
@[simp] theorem settle_slotWait (old s : Dev) : (settle old s).slotWait = s.slotWait := by rw [settle_same old s]
@[simp] theorem settle_rings (old s : Dev) : (settle old s).rings = s.rings := by rw [settle_same old s]
@[simp] theorem settle_mdio (old s : Dev) : (settle old s).mdio = s.mdio := by rw [settle_same old s]
@[simp] theorem settle_plc (old s : Dev) : (settle old s).plc = s.plc := by rw [settle_same old s]
@[simp] theorem settle_angs (old s : Dev) : (settle old s).angs = s.angs := by rw [settle_same old s]
@[simp] theorem settle_cells (old s : Dev) : (settle old s).cells = s.cells := by rw [settle_same old s]
@[simp] theorem settle_fieldBufs (old s : Dev) : (settle old s).fieldBufs = s.fieldBufs := by rw [settle_same old s]
@[simp] theorem settle_chans (old s : Dev) : (settle old s).chans = s.chans := by rw [settle_same old s]
@[simp] theorem settle_chks (old s : Dev) : (settle old s).chks = s.chks := by rw [settle_same old s]
@[simp] theorem settle_pins (old s : Dev) : (settle old s).pins = s.pins := by rw [settle_same old s]
@[simp] theorem settle_dct (old s : Dev) : (settle old s).dct = s.dct := by rw [settle_same old s]
@[simp] theorem settle_keys (old s : Dev) : (settle old s).keys = s.keys := by rw [settle_same old s]
@[simp] theorem settle_keyBad (old s : Dev) : (settle old s).keyBad = s.keyBad := by rw [settle_same old s]
@[simp] theorem settle_jobs (old s : Dev) : (settle old s).jobs = s.jobs := by rw [settle_same old s]
@[simp] theorem settle_rrA (old s : Dev) : (settle old s).rrA = s.rrA := by rw [settle_same old s]
@[simp] theorem settle_rrB (old s : Dev) : (settle old s).rrB = s.rrB := by rw [settle_same old s]
@[simp] theorem settle_chns (old s : Dev) : (settle old s).chns = s.chns := by rw [settle_same old s]
@[simp] theorem settle_retrainTurn (old s : Dev) : (settle old s).retrainTurn = s.retrainTurn := by rw [settle_same old s]
@[simp] theorem settle_retrainAt (old s : Dev) : (settle old s).retrainAt = s.retrainAt := by rw [settle_same old s]
@[simp] theorem settle_ist (old s : Dev) : (settle old s).ist = s.ist := by rw [settle_same old s]
@[simp] theorem settle_fline (old s : Dev) : (settle old s).fline = s.fline := by rw [settle_same old s]
@[simp] theorem settle_jtag (old s : Dev) : (settle old s).jtag = s.jtag := by rw [settle_same old s]
@[simp] theorem settle_captured (old s : Dev) : (settle old s).captured = s.captured := by rw [settle_same old s]
@[simp] theorem settle_badWords (old s : Dev) : (settle old s).badWords = s.badWords := by rw [settle_same old s]
@[simp] theorem settle_sels (old s : Dev) : (settle old s).sels = s.sels := by rw [settle_same old s]

end Dev

/-! ### What a command answers -/

/-- A command of the device alone answers a next state, with the rest of the state kept. -/
theorem devStep_next (f : Dev → Dev) (s : State) :
    devStep f s = .next { s with dev := Dev.settle s.dev.fresh (f s.dev.fresh) } := rfl

end Sys2Proof.Machine
end

