-- ==== Sys2Proof/Laws/Words.lean ====
section
/-! SUPPORT. The laws of register words and fields: what a read gives after a write (R6). -/

namespace Sys2Proof.Machine

/-- A value put into a field and read back. -/
theorem fieldSet_get (x lo w v : Nat) : fieldSet x lo w v / 2 ^ lo % 2 ^ w = v % 2 ^ w := by
  have h1 : x % 2 ^ lo < 2 ^ lo := Nat.mod_lt _ (Nat.two_pow_pos lo)
  unfold fieldSet
  rw [Nat.pow_add, show x / (2 ^ lo * 2 ^ w) * (2 ^ lo * 2 ^ w) + v % 2 ^ w * 2 ^ lo + x % 2 ^ lo
    = x % 2 ^ lo + 2 ^ lo * (v % 2 ^ w + 2 ^ w * (x / (2 ^ lo * 2 ^ w))) by ring]
  rw [Nat.add_mul_div_left _ _ (Nat.two_pow_pos lo), Nat.div_eq_of_lt h1, Nat.zero_add, Nat.add_mul_mod_self_left, Nat.mod_mod]

/-- A field set within a word stays within it. -/
theorem fieldSet_lt (x lo w v : Nat) (h : lo + w ≤ 32) (hx : x < 2 ^ 32) : fieldSet x lo w v < 2 ^ 32 := by
  obtain ⟨m, hm⟩ := Nat.exists_eq_add_of_le h
  have h1 : x % 2 ^ lo < 2 ^ lo := Nat.mod_lt _ (Nat.two_pow_pos lo)
  have h2 : v % 2 ^ w < 2 ^ w := Nat.mod_lt _ (Nat.two_pow_pos w)
  have hx' : x < 2 ^ (lo + w) * 2 ^ m := by rw [← Nat.pow_add, ← hm]; exact hx
  have h3 : x / 2 ^ (lo + w) < 2 ^ m := Nat.div_lt_of_lt_mul hx'
  have h4 : v % 2 ^ w * 2 ^ lo + x % 2 ^ lo < 2 ^ (lo + w) := by
    have : (v % 2 ^ w + 1) * 2 ^ lo ≤ 2 ^ w * 2 ^ lo := Nat.mul_le_mul_right _ h2
    rw [Nat.pow_add]; nlinarith
  have h5 : (x / 2 ^ (lo + w) + 1) * 2 ^ (lo + w) ≤ 2 ^ m * 2 ^ (lo + w) := Nat.mul_le_mul_right _ h3
  rw [hm, Nat.pow_add (m := lo + w)]
  unfold fieldSet
  nlinarith

/-- A field below the one written keeps its value. -/
theorem fieldSet_below (x lo w v a n : Nat) (h : a + n ≤ lo) : fieldSet x lo w v / 2 ^ a % 2 ^ n = x / 2 ^ a % 2 ^ n := by
  obtain ⟨m, hm⟩ := Nat.exists_eq_add_of_le h
  have key : fieldSet x lo w v = x % 2 ^ lo + 2 ^ lo * (v % 2 ^ w + 2 ^ w * (x / 2 ^ (lo + w))) := by
    unfold fieldSet; rw [Nat.pow_add]; ring
  have hx : x = x % 2 ^ lo + 2 ^ lo * (x / 2 ^ lo) := (Nat.mod_add_div x (2 ^ lo)).symm
  have aux : ∀ y z : Nat, (y + 2 ^ lo * z) / 2 ^ a % 2 ^ n = y / 2 ^ a % 2 ^ n := by
    intro y z
    rw [hm, Nat.pow_add, Nat.pow_add, Nat.mul_assoc, Nat.mul_assoc, Nat.add_mul_div_left _ _ (Nat.two_pow_pos a), Nat.add_mul_mod_self_left]
  rw [key, aux]
  conv => rhs; rw [hx]
  rw [aux]

/-- A field above the one written keeps its value. -/
theorem fieldSet_above (x lo w v a n : Nat) (h : lo + w ≤ a) : fieldSet x lo w v / 2 ^ a % 2 ^ n = x / 2 ^ a % 2 ^ n := by
  obtain ⟨m, hm⟩ := Nat.exists_eq_add_of_le h
  have h1 : x % 2 ^ lo < 2 ^ lo := Nat.mod_lt _ (Nat.two_pow_pos lo)
  have h2 : v % 2 ^ w < 2 ^ w := Nat.mod_lt _ (Nat.two_pow_pos w)
  have h4 : v % 2 ^ w * 2 ^ lo + x % 2 ^ lo < 2 ^ (lo + w) := by
    have : (v % 2 ^ w + 1) * 2 ^ lo ≤ 2 ^ w * 2 ^ lo := Nat.mul_le_mul_right _ h2
    rw [Nat.pow_add]; nlinarith
  have key : fieldSet x lo w v / 2 ^ (lo + w) = x / 2 ^ (lo + w) := by
    unfold fieldSet
    rw [Nat.add_assoc, Nat.add_comm, Nat.add_mul_div_right _ _ (Nat.two_pow_pos _), Nat.div_eq_of_lt h4, Nat.zero_add]
  rw [hm, Nat.pow_add (m := lo + w), ← Nat.div_div_eq_div_mul, key, Nat.div_div_eq_div_mul, ← Nat.pow_add]

namespace Dev

/-! ### Words -/

@[simp] theorem word_setWord_same (s : Dev) (k : Nat) (w : Word) : (s.setWord k w).word k = w := Tab.get_set_same _ _ _ _

theorem word_setWord_other (s : Dev) (k j : Nat) (w : Word) (h : j ≠ k) : (s.setWord k w).word j = s.word j := Tab.get_set_other _ _ _ _ _ h

@[simp] theorem word_emit (s : Dev) (o : Output) (k : Nat) : (s.emit o).word k = s.word k := rfl

@[simp] theorem word_settle (old s : Dev) (k : Nat) : (settle old s).word k = s.word k := by simp [word]

/-- A word written with the value it has: nothing changes in what any key reads as. -/
theorem word_put_other (s : Dev) (f : Fld) (v k : Nat) (h : k ≠ f.addr) : (s.put f v).word k = s.word k := word_setWord_other _ _ _ _ h

/-! ### Fields -/

theorem word_put_toNat (s : Dev) (f : Fld) (v : Nat) (h : f.lo + f.w ≤ 32) :
    ((s.put f v).word f.addr).toNat = fieldSet (s.word f.addr).toNat f.lo f.w v := by
  simp only [put, word_setWord_same, BitVec.toNat_ofNat]
  exact Nat.mod_eq_of_lt (fieldSet_lt _ _ _ _ h (s.word f.addr).isLt)

/-- A field holds the value put into it, modulo its width. -/
theorem get_put_same (s : Dev) (f : Fld) (v : Nat) (h : f.lo + f.w ≤ 32) : (s.put f v).get f = v % 2 ^ f.w := by
  unfold get
  rw [word_put_toNat s f v h, fieldSet_get]

/-- A field of another word keeps its value. -/
theorem get_put_addr (s : Dev) (f g : Fld) (v : Nat) (h : g.addr ≠ f.addr) : (s.put f v).get g = s.get g := by
  unfold get
  rw [word_put_other s f v g.addr h]

/-- A field of the same word with other bits keeps its value. -/
theorem get_put_bits (s : Dev) (f g : Fld) (v : Nat) (hf : f.lo + f.w ≤ 32) (ha : g.addr = f.addr)
    (h : g.lo + g.w ≤ f.lo ∨ f.lo + f.w ≤ g.lo) : (s.put f v).get g = s.get g := by
  unfold get
  rw [ha, word_put_toNat s f v hf]
  rcases h with h | h
  · exact fieldSet_below _ _ _ _ _ _ h
  · exact fieldSet_above _ _ _ _ _ _ h

/-- The two cases in one: a field that shares no bit with the one written keeps its value. -/
theorem get_put_other (s : Dev) (f g : Fld) (v : Nat) (hf : f.lo + f.w ≤ 32)
    (h : g.addr ≠ f.addr ∨ g.lo + g.w ≤ f.lo ∨ f.lo + f.w ≤ g.lo) : (s.put f v).get g = s.get g := by
  by_cases ha : g.addr = f.addr
  · exact get_put_bits s f g v hf ha (h.resolve_left (not_not.mpr ha))
  · exact get_put_addr s f g v ha

@[simp] theorem get_emit (s : Dev) (o : Output) (f : Fld) : (s.emit o).get f = s.get f := rfl
@[simp] theorem get_settle (old s : Dev) (f : Fld) : (settle old s).get f = s.get f := by simp [get]
@[simp] theorem bit_settle (old s : Dev) (f : Fld) : (settle old s).bit f = s.bit f := by simp [bit]
@[simp] theorem bit_emit (s : Dev) (o : Output) (f : Fld) : (s.emit o).bit f = s.bit f := rfl

/-- A one-bit field after it is written. -/
theorem bit_put_same (s : Dev) (f : Fld) (v : Nat) (h : f.lo + f.w ≤ 32) (hw : f.w = 1) : (s.put f v).bit f = (v % 2 == 1) := by
  unfold bit
  rw [get_put_same s f v h, hw, pow_one]

/-- A field of another word, as a truth value. -/
theorem bit_put_other (s : Dev) (f g : Fld) (v : Nat) (hf : f.lo + f.w ≤ 32)
    (h : g.addr ≠ f.addr ∨ g.lo + g.w ≤ f.lo ∨ f.lo + f.w ≤ g.lo) : (s.put f v).bit g = s.bit g := by
  unfold bit
  rw [get_put_other s f g v hf h]

/-- The outputs play no part in what a word reads as. -/
@[simp] theorem word_fresh (s : Dev) (k : Nat) : s.fresh.word k = s.word k := rfl
@[simp] theorem get_fresh (s : Dev) (f : Fld) : s.fresh.get f = s.get f := rfl
@[simp] theorem bit_fresh (s : Dev) (f : Fld) : s.fresh.bit f = s.bit f := rfl
@[simp] theorem domOn_fresh (s : Dev) (d : Nat) : s.fresh.domOn d = s.domOn d := rfl
@[simp] theorem blockOn_fresh (s : Dev) (b : Nat) : s.fresh.blockOn b = s.blockOn b := rfl
@[simp] theorem hostRefused_fresh (s : Dev) (k : Nat) : s.fresh.hostRefused k = s.hostRefused k := rfl
@[simp] theorem now_fresh (s : Dev) : s.fresh.now = s.now := rfl

/-! ### The shared conditions -/

@[simp] theorem when_true (s : Dev) (f : Dev → Dev) : s.when true f = f s := rfl
@[simp] theorem when_false (s : Dev) (f : Dev → Dev) : s.when false f = s := rfl

/-- A host write of a word that no object of restricted access backs, to a block that is on, acts (R12, R18). -/
theorem hostGate_acts (s : Dev) (b k : Nat) (v : Word) (act : Dev → Dev) (hb : s.blockOn b = true) (hr : s.hostRefused k = false) :
    s.hostGate b k v act = act s := by simp [hostGate, hostGateOn, hb, hr]

/-- A host write to a block that is off has no effect (R18). -/
theorem hostGate_off (s : Dev) (b k : Nat) (v : Word) (act : Dev → Dev) (hb : s.blockOn b = false) : s.hostGate b k v act = s := by
  simp [hostGate, hostGateOn, hb]

/-- A command of a block that is on acts. -/
theorem atBlock_on (s : Dev) (b : Nat) (f : Dev → Dev) (hb : s.blockOn b = true) : s.atBlock b f = f s := by simp [atBlock, hb]

end Dev

end Sys2Proof.Machine
end

