-- ==== Sys2Proof/Laws/Faults.lean ====
section
/-! SUPPORT. What an event of a fault source can do (R345–R348, R359, R393, R396): its FLT_STICKY bit is 1 after it, and beside that only the counts of what was lost, the fault units, the log and the trace change. -/

namespace Sys2Proof.Machine

namespace Dev

/-! ### Frames compose -/

/-- A change of registers, fault units, log and trace alone. -/
def FaultOnly (K : Nat → Prop) (s t : Dev) : Prop :=
  (∀ k, ¬ K k → t.word k = s.word k) ∧ t = { s with regs := t.regs, flt := t.flt, log := t.log, trc := t.trc }

theorem FaultOnly.refl (K : Nat → Prop) (s : Dev) : FaultOnly K s s := ⟨fun _ _ => rfl, rfl⟩

theorem FaultOnly.trans {K : Nat → Prop} {a b c : Dev} (h : FaultOnly K a b) (k : FaultOnly K b c) : FaultOnly K a c :=
  ⟨fun j hj => (k.1 j hj).trans (h.1 j hj), by rw [k.2, h.2]⟩

theorem FaultOnly.mono {K L : Nat → Prop} {a b : Dev} (h : FaultOnly K a b) (hl : ∀ k, K k → L k) : FaultOnly L a b :=
  ⟨fun j hj => h.1 j fun hk => hj (hl j hk), h.2⟩

theorem FaultOnly.put (K : Nat → Prop) (s : Dev) (f : Fld) (v : Nat) (h : K f.addr) : FaultOnly K s (s.put f v) :=
  ⟨fun k hk => word_put_other s f v k fun he => hk (he ▸ h), rfl⟩

theorem FaultOnly.inc (K : Nat → Prop) (s : Dev) (f : Fld) (h : K f.addr) : FaultOnly K s (s.inc f) := FaultOnly.put K s f _ h

theorem FaultOnly.incBy (K : Nat → Prop) (s : Dev) (f : Fld) (n : Nat) (h : K f.addr) : FaultOnly K s (s.incBy f n) := FaultOnly.put K s f _ h

theorem setFltSrc_only (K : Nat → Prop) (s : Dev) (b n : Nat) (x : FltSrc) : FaultOnly K s (s.setFltSrc b n x) := ⟨fun _ _ => rfl, rfl⟩

theorem setTrc_only (K : Nat → Prop) (s : Dev) (x : TraceUnit) : FaultOnly K s { s with trc := x } := ⟨fun _ _ => rfl, rfl⟩

/-- A change of registers alone. -/
def WordOnly (K : Nat → Prop) (s t : Dev) : Prop := (∀ k, ¬ K k → t.word k = s.word k) ∧ t = { s with regs := t.regs }

theorem WordOnly.refl (K : Nat → Prop) (s : Dev) : WordOnly K s s := ⟨fun _ _ => rfl, rfl⟩

theorem WordOnly.trans {K : Nat → Prop} {a b c : Dev} (h : WordOnly K a b) (k : WordOnly K b c) : WordOnly K a c :=
  ⟨fun j hj => (k.1 j hj).trans (h.1 j hj), by rw [k.2, h.2]⟩

theorem WordOnly.mono {K L : Nat → Prop} {a b : Dev} (h : WordOnly K a b) (hl : ∀ k, K k → L k) : WordOnly L a b :=
  ⟨fun j hj => h.1 j fun hk => hj (hl j hk), h.2⟩

theorem WordOnly.setWord (K : Nat → Prop) (s : Dev) (k : Nat) (w : Word) (h : K k) : WordOnly K s (s.setWord k w) :=
  ⟨fun j hj => word_setWord_other s k j w fun he => hj (he ▸ h), rfl⟩

theorem WordOnly.put (K : Nat → Prop) (s : Dev) (f : Fld) (v : Nat) (h : K f.addr) : WordOnly K s (s.put f v) := WordOnly.setWord K s _ _ h

theorem WordOnly.toFault {K : Nat → Prop} {s t : Dev} (h : WordOnly K s t) : FaultOnly K s t := ⟨h.1, by rw [h.2]⟩

/-- The end of a command after a change of registers alone. -/
theorem WordOnly.settled {K : Nat → Prop} {s u : Dev} (h : WordOnly K s.fresh u) (old : Dev) : s.onlyWords K (settle old u) := by
  refine ⟨fun k hk => ?_, fun k _ => ?_, ?_⟩
  · rw [word_settle, h.1 k hk, word_fresh]
  · rw [settle_same old u, h.2]; rfl
  · rw [settle_same old u, h.2]; rfl

/-- The end of a command after a change of registers, fault units, log and trace alone. -/
theorem FaultOnly.settled {K : Nat → Prop} {s u : Dev} (h : FaultOnly K s.fresh u) (old : Dev) : s.onlyWordsAndFaults K (settle old u) := by
  refine ⟨fun k hk => ?_, fun k _ => ?_, ?_⟩
  · rw [word_settle, h.1 k hk, word_fresh]
  · rw [settle_same old u, h.2]; rfl
  · rw [settle_same old u, h.2]; rfl

/-! ### The parts of an event -/

theorem logStage_only (s : Dev) (k b n c d : Nat) : FaultOnly (· = Reg.STA_LOG_LOST) s (s.logStage k b n c d) := by
  unfold logStage
  dsimp only
  have h0 : ∀ l : LogUnit, FaultOnly (· = Reg.STA_LOG_LOST) s ({ s with log := l }) := fun l => ⟨fun _ _ => rfl, rfl⟩
  split
  · exact (h0 _).trans (FaultOnly.inc _ _ _ rfl)
  · split
    · exact ⟨fun _ _ => rfl, rfl⟩
    · split
      · exact (h0 _).trans (FaultOnly.inc _ _ _ rfl)
      · exact (h0 _).trans (FaultOnly.inc _ _ _ rfl)

theorem openSource_only (s : Dev) (b n : Nat) :
    FaultOnly (fun k => k = stickyAddr b ∨ k = Reg.STA_LOG_LOST) s (s.openSource b n) := by
  unfold openSource
  dsimp only
  exact ((FaultOnly.put _ s (stickyBit b n) 1 (.inl rfl)).trans (setFltSrc_only _ _ _ _ _)).trans
    ((logStage_only _ _ _ _ _ _).mono fun k hk => .inr hk)

theorem mergeEvent_only (K : Nat → Prop) (s : Dev) (b n : Nat) : FaultOnly K s (s.mergeEvent b n) := ⟨fun _ _ => rfl, rfl⟩

theorem traceLoss_only (s : Dev) (x : TraceUnit) (n : Nat) :
    FaultOnly (fun k => k = Reg.TRC_LOST ∨ k = statusAddr bTRC) s
      (if n = 0 then (({ s with trc := x } : Dev), false) else ((({ s with trc := x } : Dev).incBy Reg.TRC_LOST.COUNT n).raise bTRC 0, true)).1 := by
  split
  · exact setTrc_only _ s x
  · exact ((setTrc_only _ s x).trans (FaultOnly.incBy _ _ _ _ (.inl rfl))).trans (FaultOnly.put _ _ _ _ (.inr rfl))

theorem traceRaw_only (s : Dev) (r : TraceRec) :
    FaultOnly (fun k => k = Reg.TRC_LOST ∨ k = statusAddr bTRC) s (s.traceRaw r).1 := traceLoss_only s _ _

theorem traceOverflow_only (s : Dev) : FaultOnly (faultWords bTRC) s s.traceOverflow := by
  have ho := (openSource_only s bTRC 0).mono (L := faultWords bTRC) fun k hk => by
    rcases hk with h | h
    · exact .inl h
    · exact .inr (.inl h)
  have hr : ∀ (u : Dev) (r : TraceRec), FaultOnly (faultWords bTRC) u (u.traceRaw r).1 := fun u r =>
    (traceRaw_only u r).mono fun k hk => by
      rcases hk with h | h
      · exact .inr (.inr (.inr (.inr h)))
      · exact .inr (.inr (.inr (.inl h)))
  unfold traceOverflow
  dsimp only
  split
  · exact mergeEvent_only _ _ _ _
  · split
    · have h := hr (s.openSource bTRC 0) ((s.openSource bTRC 0).openingRecord bTRC 0 (s.statusView bTRC))
      split
      · rename_i heq
        rw [heq] at h
        exact (ho.trans h).trans (mergeEvent_only _ _ _ _)
      · rename_i heq
        rw [heq] at h
        exact ho.trans h
    · exact ho

/-- A trace record changes no register but those of the Telltale and the count of lost log entries. -/
theorem traceAt_only (s : Dev) (st src inst m a b : Nat) : FaultOnly (faultWords bTRC) s (s.traceAt st src inst m a b) := by
  unfold traceAt
  split
  · have h := (traceRaw_only s ⟨st, src, inst, a, b⟩).mono (L := faultWords bTRC) fun k hk => by
      rcases hk with h | h
      · exact .inr (.inr (.inr (.inr h)))
      · exact .inr (.inr (.inr (.inl h)))
    split
    · rename_i heq
      rw [heq] at h
      exact h.trans (traceOverflow_only _)
    · rename_i heq
      rw [heq] at h
      exact h
  · exact FaultOnly.refl _ _

theorem faultWords_trc (b k : Nat) (h : faultWords bTRC k) : faultWords b k := by
  rcases h with h | h
  · exact .inr (.inr (.inl h))
  · exact .inr h

/-- An event changes no register but those named, and beside registers the fault units, the log and the trace. -/
theorem fault_only (s : Dev) (b n : Nat) : FaultOnly (faultWords b) s (s.fault b n) := by
  unfold fault
  dsimp only
  split
  · exact mergeEvent_only _ _ _ _
  · refine FaultOnly.trans ((openSource_only s b n).mono fun k hk => ?_) ((traceAt_only _ _ _ _ _ _ _).mono (faultWords_trc b))
    rcases hk with h | h
    · exact .inl h
    · exact .inr (.inl h)

/-- A field of a word that an event does not name keeps its value. -/
theorem get_fault (s : Dev) (b n : Nat) (f : Fld) (h : ¬ faultWords b f.addr) : (s.fault b n).get f = s.get f := by
  unfold get
  rw [(fault_only s b n).1 f.addr h]

theorem bit_fault (s : Dev) (b n : Nat) (f : Fld) (h : ¬ faultWords b f.addr) : (s.fault b n).bit f = s.bit f := by
  unfold bit
  rw [get_fault s b n f h]

/-! ### The FLT_STICKY bit -/

theorem stickyAddr_ne (b k : Nat) (h : stickyAddr b ≠ k) : ¬ k = stickyAddr b := fun he => h he.symm

/-- The log stages an entry without touching FLT_STICKY. -/
theorem bit_logStage (s : Dev) (k b n c d : Nat) (f : Fld) (h : f.addr ≠ Reg.STA_LOG_LOST) : (s.logStage k b n c d).bit f = s.bit f := by
  unfold bit get
  rw [(logStage_only s k b n c d).1 f.addr h]

/-- The opening sets the FLT_STICKY bit. -/
theorem bit_openSource (s : Dev) (b n : Nat) (hn : n < 32) (hb : stickyAddr b ≠ Reg.STA_LOG_LOST) :
    (s.openSource b n).bit (stickyBit b n) = true := by
  unfold openSource
  dsimp only
  rw [bit_logStage _ _ _ _ _ _ _ hb]
  show (s.put (stickyBit b n) 1).bit (stickyBit b n) = true
  rw [bit_put_same _ _ _ (by simp only [stickyBit]; omega) rfl]
  rfl

/-- A FLT_STICKY bit that is 1 stays 1 through an opening. -/
theorem bit_openSource_mono (s : Dev) (b n c m : Nat) (hn : n < 32) (hc : stickyAddr c ≠ Reg.STA_LOG_LOST)
    (h : s.bit (stickyBit c m) = true) (_hm : m < 32) : (s.openSource b n).bit (stickyBit c m) = true := by
  unfold openSource
  dsimp only
  rw [bit_logStage _ _ _ _ _ _ _ hc]
  show (s.put (stickyBit b n) 1).bit (stickyBit c m) = true
  by_cases he : stickyBit c m = stickyBit b n
  · rw [he, bit_put_same _ _ _ (by simp only [stickyBit]; omega) rfl]; rfl
  · rw [bit_put_other _ _ _ _ (by simp only [stickyBit]; omega), h]
    simp only [stickyBit, Fld.mk.injEq, and_true, not_and] at he ⊢
    by_cases ha : stickyAddr c = stickyAddr b
    · have := he ha; omega
    · exact .inl ha

/-- The words of a lost record are no FLT_STICKY word. -/
theorem bit_traceRaw (s : Dev) (r : TraceRec) (f : Fld) (h1 : f.addr ≠ Reg.TRC_LOST) (h2 : f.addr ≠ statusAddr bTRC) :
    (s.traceRaw r).1.bit f = s.bit f := by
  unfold bit get
  rw [(traceRaw_only s r).1 f.addr fun h => h.elim h1 h2]

/-- FLT_STICKY words are none of the words beside them that an event may change. -/
theorem sticky_ne (c : Nat) (hc : c < 28) :
    stickyAddr c ≠ Reg.STA_LOG_LOST ∧ stickyAddr c ≠ Reg.TRC_LOST ∧ stickyAddr c ≠ statusAddr bTRC := by
  have h : ∀ c < 28, stickyAddr c ≠ Reg.STA_LOG_LOST ∧ stickyAddr c ≠ Reg.TRC_LOST ∧ stickyAddr c ≠ statusAddr bTRC := by decide
  exact h c hc

/-- A FLT_STICKY bit that is 1 stays 1 through a trace record. -/
theorem bit_traceAt_mono (s : Dev) (st src inst m a b : Nat) (c n : Nat) (hc : c < 28) (hn : n < 32) (h : s.bit (stickyBit c n) = true) :
    (s.traceAt st src inst m a b).bit (stickyBit c n) = true := by
  obtain ⟨h1, h2, h3⟩ := sticky_ne c hc
  have raw : ∀ (u : Dev) (r : TraceRec), u.bit (stickyBit c n) = true → (u.traceRaw r).1.bit (stickyBit c n) = true :=
    fun u r hu => (bit_traceRaw u r _ h2 h3).trans hu
  unfold traceAt
  split
  · have hr := raw s ⟨st, src, inst, a, b⟩ h
    split
    · rename_i u heq
      rw [heq] at hr
      unfold traceOverflow
      dsimp only
      split
      · exact hr
      · have ho := bit_openSource_mono u bTRC 0 c n (by omega) h1 hr hn
        split
        · have hx := raw (u.openSource bTRC 0) ((u.openSource bTRC 0).openingRecord bTRC 0 (u.statusView bTRC)) ho
          split
          · rename_i heq2
            rw [heq2] at hx
            exact hx
          · rename_i heq2
            rw [heq2] at hx
            exact hx
        · exact ho
    · rename_i heq
      rw [heq] at hr
      exact hr
  · exact h

/-- After an event the source's FLT_STICKY bit is 1 (R345). -/
theorem fault_sticky (s : Dev) (b n : Nat) (hb : b < 28) (hn : n < 32) : (s.fault b n).bit (stickyBit b n) = true := by
  unfold fault
  dsimp only
  split
  · assumption
  · exact bit_traceAt_mono _ _ _ _ _ _ _ b n hb hn (bit_openSource s b n hn (sticky_ne b hb).1)

/-- An event clears no FLT_STICKY bit. -/
theorem fault_sticky_mono (s : Dev) (b n c m : Nat) (hc : c < 28) (hn : n < 32) (hm : m < 32) (h : s.bit (stickyBit c m) = true) :
    (s.fault b n).bit (stickyBit c m) = true := by
  unfold fault
  dsimp only
  split
  · exact h
  · exact bit_traceAt_mono _ _ _ _ _ _ _ c m hc hm (bit_openSource_mono s b n c m hn (sticky_ne c hc).1 h hm)

end Dev

end Sys2Proof.Machine
end

