-- ==== Sys2Proof/Laws/Memory.lean ====
section
/-! SUPPORT. The laws of the addressed memories: DRAM, host memory and the Locker keep the canonical form, and a read after a write gives what was written. -/

namespace Sys2Proof.Machine

@[simp] theorem Memory.wf_nil : Memory.wf [] = true := rfl

/-- The octet just written is read back. -/
@[simp] theorem Memory.at_put_same (m : Memory) (a : Nat) (o : Octet) : Memory.at (m.put a o) a = o := Tab.get_set_same _ _ _ _

/-- Every other octet stays. -/
theorem Memory.at_put_other (m : Memory) (a b : Nat) (o : Octet) (h : b ≠ a) : Memory.at (m.put a o) b = Memory.at m b :=
  Tab.get_set_other _ _ _ _ _ h

/-- A write of one octet keeps the form. -/
theorem Memory.wf_put (m : Memory) (a : Nat) (o : Octet) (h : m.wf = true) : (m.put a o).wf = true := Tab.wf_set _ _ _ _ h

/-- Writes in order keep the form. -/
theorem Memory.wf_putAll (l : List (Nat × Octet)) (m : Memory) (h : m.wf = true) : (m.putAll l).wf = true := by
  induction l generalizing m with
  | nil => exact h
  | cons e l ih => exact ih _ (Memory.wf_put m e.1 e.2 h)

/-- A run of octets keeps the form. -/
theorem Memory.wf_putRun (m : Memory) (a : Nat) (l : List Octet) (h : m.wf = true) : (m.putRun a l).wf = true := Memory.wf_putAll _ _ h

/-- Dropping octets keeps the form. -/
theorem Memory.wf_filter (m : Memory) (p : Host.Cell → Bool) (h : m.wf = true) : Memory.wf (m.filter p) = true := Tab.wf_filter _ _ _ h

/-- An octet that no write of the list names stays. -/
theorem Memory.at_putAll_other (l : List (Nat × Octet)) (m : Memory) (b : Nat) (h : ∀ e ∈ l, e.1 ≠ b) :
    Memory.at (m.putAll l) b = Memory.at m b := by
  induction l generalizing m with
  | nil => rfl
  | cons e l ih =>
    rw [show m.putAll (e :: l) = (m.put e.1 e.2).putAll l from rfl, ih _ fun f hf => h f (.tail _ hf)]
    exact Memory.at_put_other _ _ _ _ (h e (.head _)).symm

end Sys2Proof.Machine
end

