-- ==== Sys2Proof/Tests/Slice0.lean ====
section
/-! SUPPORT. Own tests: ill-formed commands, worked examples of the spec, and for every obligation with hypotheses the states and operands that meet them. -/

open Sys2Proof Sys2Proof.Machine

namespace Sys2Proof.Wit

set_option Elab.async false

/-- A running device: every domain on, no fuse known, five seconds up, the time counting. -/
def dev0 : Dev :=
  let d := ({} : Dev).setDoms (fun _ => true)
  { d with up := 5000000000, pwr := { d.pwr with phase := .run },
           tim := { d.tim with counting := true, accA := 7 * 2 ^ 70, accB := 7 * 2 ^ 70 } }

/-- The running device after a change. -/
def mk (f : Dev → Dev) : State := { dev := f dev0 }

/-- The running device. -/
def run0 : State := { dev := dev0 }

/-! ### Witnesses of the hypotheses of the obligations -/

/-- States and operands that meet the hypotheses of `Obligations.EmptyQueueTicks`, clause by clause. -/
theorem wit_EmptyQueueTicks :
    (∃ (s : State), s.pending = []) :=
  ⟨run0, by decide +kernel⟩

/-- States and operands that meet the hypotheses of `Obligations.MemoryTouchedByNineCommands`, clause by clause. -/
theorem wit_MemoryTouchedByNineCommands :
    (∃ (c : Instr) (s : State) (t : State), exec c s = .next t ∧
      (match c with | .logWriteComplete .. => False | .hostRegisterWrite .. => False | .spiWrite .. => False | .dramAccessGrant .. => False | .dramReadComplete .. => False | .trainingDone .. => False | .imageWordWrite .. => False | .burstGrant .. => False | .traceDramWriteComplete .. => False | _ => True)) :=
  ⟨.perst true, run0, (match exec (.perst true) run0 with | .next t => t | _ => run0), rfl, trivial⟩

/-- States and operands that meet the hypotheses of `Obligations.StepKeepsMemoryCanonical`, clause by clause. -/
theorem wit_StepKeepsMemoryCanonical :
    (∃ (s : State) (t : State), s.memWf ∧ step s = .next t) :=
  ⟨run0, (match step run0 with | .next t => t | _ => run0), ⟨by decide +kernel, by decide +kernel⟩, rfl⟩

/-- States and operands that meet the hypotheses of `Obligations.AccessCodesBitByBit`, clause by clause. -/
theorem wit_AccessCodesBitByBit :
    (∃ (n : Nat), n < 32) :=
  ⟨31, by decide +kernel⟩

/-- States and operands that meet the hypotheses of `Obligations.HostRegisterWrite`, clause by clause. -/
theorem wit_HostRegisterWrite :
    (∃ (s : State) (r : Requester) (a : Nat), r.isHost = true ∧ s.dev.pwr.phase = .run ∧
      s.dev.pwr.perst = false ∧ a % 4 = 0 ∧ 0x280100 ≤ a ∧ a < 0x281100 ∧ a ≠ Reg.PLC_EVAC ∧
      s.dev.blockOn bPLC = true ∧ s.dev.hostRefused a = false)
  ∧ (∃ (s : State) (r : Requester) (a : Nat), r.isHost = true ∧ s.dev.pwr.phase = .run ∧
      s.dev.pwr.perst = false ∧ a % 4 = 0 ∧ 0x280100 ≤ a ∧ a < 0x281100 ∧ s.dev.blockOn bPLC = true ∧
      s.dev.critWord a = true)
  ∧ (∃ (s : State) (be : BitVec 4), be ≠ 15#4 ∧ s.dev.pwr.phase = .run ∧ s.dev.pwr.perst = false) :=
  ⟨⟨run0, .spi, 0x280100, by decide +kernel⟩,
   ⟨mk (·.setWord Reg.DCT_CRIT_MASK 0xFFFFFFFF), .spi, 0x280100, by decide +kernel⟩,
   ⟨run0, 3, by decide +kernel⟩⟩

/-- States and operands that meet the hypotheses of `Obligations.HostReads`, clause by clause. -/
theorem wit_HostReads :
    (∃ (s : State) (r : Requester), r.isHost = true ∧ s.dev.pwr.phase = .run ∧ s.dev.pwr.perst = false ∧
      s.dev.blockOn bTIM = true)
  ∧ (∃ (s : State) (r : Requester) (a : Nat), r.isHost = true ∧ s.dev.pwr.phase = .run ∧
      s.dev.pwr.perst = false ∧ s.dev.blockOn bGLB = true ∧
      (a = Reg.GLB_SPI_ERR_CNT ∨ a = Reg.GLB_HOST_ERR)) :=
  ⟨⟨run0, .spi, by decide +kernel⟩,
   ⟨run0, .pcie, Reg.GLB_HOST_ERR, by decide +kernel⟩⟩

/-- States and operands that meet the hypotheses of `Obligations.HostPort`, clause by clause. -/
theorem wit_HostPort :
    (∃ (s : State) (v : Fin 128), s.dev.pwr.perst = false ∧ s.dev.bit Reg.GLB_PCIE_STAT.MSIX_EN = true ∧
      s.dev.bit Reg.GLB_PCIE_STAT.MSIX_MASK = false ∧ s.dev.msixPend.testBit v = true)
  ∧ (∃ (s : State), s.dev.pwr.perst = false)
  ∧ (∃ (s : State), s.dev.pwr.phase = .run ∧ s.dev.pwr.perst = false)
  ∧ (∃ (s : State), s.dev.blockOn bGLB = true) :=
  ⟨⟨mk fun d => { d.put Reg.GLB_PCIE_STAT.MSIX_EN 1 with msixPend := 32 }, 5, by decide +kernel⟩,
   ⟨run0, by decide +kernel⟩,
   ⟨run0, by decide +kernel⟩,
   ⟨run0, by decide +kernel⟩⟩

/-- States and operands that meet the hypotheses of `Obligations.SpiFrames`, clause by clause. -/
theorem wit_SpiFrames :
    (∃ (s : State), s.dev.pwr.phase = .run ∧ s.dev.blockOn bGLB = true)
  ∧ (∃ (s : State), s.dev.pwr.phase = .run)
  ∧ (∃ (s : State) (a : BitVec 24), s.dev.pwr.phase = .run ∧ s.dev.blockOn bGLB = true ∧ a.toNat % 4 = 0 ∧
      0x400 ≤ a.toNat ∧ a.toNat < 0x41C)
  ∧ (∃ (s : State), s.dev.pwr.phase = .run)
  ∧ (∃ (s : State) (cmd : Octet), s.dev.pwr.phase = .run ∧ cmd ≠ 0x02#8 ∧ cmd ≠ 0x05#8 ∧ cmd ≠ 0x0B#8) :=
  ⟨⟨run0, by decide +kernel⟩,
   ⟨run0, by decide +kernel⟩,
   ⟨run0, 0x404, by decide +kernel⟩,
   ⟨run0, by decide +kernel⟩,
   ⟨run0, 7, by decide +kernel⟩⟩

/-- A device with an entry of the fault log issued to a DRAM channel that is up. -/
def logged : State :=
  mk fun d =>
    let d := (((d.put (Reg.MEM_CH_STAT.STATE 0) 2).put (Reg.MEM_CH_USABLE.SIZE 0) 100).put
      Reg.STA_LOG_CFG.EN 1).fault 12 1
    { d with log := { d.log with issued := true } }

/-- States and operands that meet the hypotheses of `Obligations.FaultUnits`, clause by clause. -/
theorem wit_FaultUnits :
    (∃ (s : State) (b : Fin 28), s.dev.blockOn b = true ∧ s.dev.hostRefused (stickyAddr b) = false)
  ∧ (∃ (s : State) (b : Fin 28), s.dev.blockOn b = true ∧ s.dev.fltSel b < sourceCount b ∧
      s.dev.hostRefused (fltCfgAddr b (s.dev.fltSel b)) = false)
  ∧ (∃ (s : State) (v : Word), s.dev.blockOn bSTA = true ∧ s.dev.hostRefused Reg.STA_INJECT = false ∧
      s.dev.bit Reg.STA_INJECT.AVAIL = true ∧ wfld v 0 5 < 28 ∧ wfld v 8 5 < sourceCount (wfld v 0 5) ∧
      s.dev.blockOn (wfld v 0 5) = true)
  ∧ (∃ (s : State) (v : Word), s.dev.blockOn bSTA = true ∧ s.dev.hostRefused Reg.STA_INJECT = false ∧
      s.dev.bit Reg.STA_INJECT.AVAIL = true ∧ wfld v 0 5 < 28 ∧ wfld v 8 5 < sourceCount (wfld v 0 5) ∧
      s.dev.blockOn (wfld v 0 5) = true ∧ s.dev.bit (stickyBit (wfld v 0 5) (wfld v 8 5)) = true ∧
      Dev.storageSource (wfld v 0 5) (wfld v 8 5) = false)
  ∧ (∃ (s : State) (v : Word), s.dev.blockOn bSTA = true ∧ s.dev.hostRefused Reg.STA_INJECT = false ∧
      s.dev.bit Reg.STA_INJECT.AVAIL = true ∧ wfld v 0 5 < 28 ∧ wfld v 8 5 < sourceCount (wfld v 0 5) ∧
      s.dev.blockOn (wfld v 0 5) = true ∧ s.dev.bit (stickyBit (wfld v 0 5) (wfld v 8 5)) = false ∧
      graveN (wfld v 0 5) (wfld v 8 5) = 0 ∧ Dev.storageSource (wfld v 0 5) (wfld v 8 5) = false)
  ∧ (∃ (s : State) (v : Word), s.dev.blockOn bSTA = true ∧ s.dev.hostRefused Reg.STA_INJECT = false ∧
      s.dev.bit Reg.STA_INJECT.AVAIL = true ∧ wfld v 0 5 < 28 ∧ wfld v 8 5 < sourceCount (wfld v 0 5) ∧
      s.dev.blockOn (wfld v 0 5) = true ∧ s.dev.bit (stickyBit (wfld v 0 5) (wfld v 8 5)) = false ∧
      wfld v 0 5 = bAUT ∧ wfld v 8 5 < 2 ∧ s.dev.isGrave bAUT = false ∧
      (∀ r < 2, s.dev.bit (Reg.SHD_RING_CFG.EN r) = false)) :=
  ⟨⟨run0, 12, by decide +kernel⟩,
   ⟨run0, 12, by decide +kernel⟩,
   ⟨mk (·.put Reg.STA_INJECT.AVAIL 1), 0x10C, by decide +kernel⟩,
   ⟨mk fun d => (d.put Reg.STA_INJECT.AVAIL 1).fault 12 0, 0xC, by decide +kernel⟩,
   ⟨mk (·.put Reg.STA_INJECT.AVAIL 1), 0x30C, by decide +kernel⟩,
   ⟨mk (·.put Reg.STA_INJECT.AVAIL 1), 0x115, by decide +kernel⟩⟩

/-- States and operands that meet the hypotheses of `Obligations.FaultLine`, clause by clause. -/
theorem wit_FaultLine :
    (∃ (s : State), s.dev.blockOn bSTA = true ∧ s.dev.bit Reg.STA_FLINE.SEEN_LOW = false ∧
      s.dev.bit Reg.STA_FLINE.DRIVING = false ∧ s.dev.bit Reg.STA_FLINE.IGNORING = false)
  ∧ (∃ (s : State), s.dev.blockOn bSTA = true ∧ s.dev.bit Reg.STA_FLINE.DRIVING = true ∧
      s.dev.bit Reg.STA_FLINE.HIGH_FAULT = false)
  ∧ (∃ (s : State), s.dev.bit Reg.STA_FLINE.HIGH_FAULT = true)
  ∧ (∃ (s : State), s.dev.blockOn bSTA = true ∧ s.dev.bit Reg.STA_FLINE.DRIVING = false ∧
      s.dev.bit Reg.STA_FLINE.SEEN_LOW = true ∧ s.dev.bit Reg.STA_FLINE.IGNORING = false ∧
      s.dev.fline.since + max 1 (s.dev.get Reg.STA_FLINE.LINE_WINDOW) * 1000000 ≤ s.dev.up)
  ∧ (∃ (s : State), s.dev.blockOn bSTA = true ∧ s.dev.bit Reg.STA_FLINE.IGNORING = true ∧
      s.dev.bit Reg.STA_FLINE.SEEN_LOW = false ∧ s.dev.fline.since + 1000000 ≤ s.dev.up)
  ∧ (∃ (s : State), s.dev.blockOn bSTA = true ∧ s.dev.bit Reg.STA_FLINE.DRIVING = false ∧
      s.dev.bit Reg.STA_FLINE.SEEN_LOW = true)
  ∧ (∃ (s : State), (s.dev.pwr.phase = .off ∨ s.dev.pwr.phase = .deepHold)) :=
  ⟨⟨run0, by decide +kernel⟩,
   ⟨mk (·.put Reg.STA_FLINE.DRIVING 1), by decide +kernel⟩,
   ⟨mk (·.put Reg.STA_FLINE.HIGH_FAULT 1), by decide +kernel⟩,
   ⟨mk (·.put Reg.STA_FLINE.SEEN_LOW 1), by decide +kernel⟩,
   ⟨mk (·.put Reg.STA_FLINE.IGNORING 1), by decide +kernel⟩,
   ⟨mk (·.put Reg.STA_FLINE.SEEN_LOW 1), by decide +kernel⟩,
   ⟨State.reset, by decide +kernel⟩⟩

/-- States and operands that meet the hypotheses of `Obligations.EventLog`, clause by clause. -/
theorem wit_EventLog :
    (∃ (s : State) (e : LogEntry), s.dev.logWrites = true ∧
      s.dev.ringFits (s.dev.get Reg.STA_LOG_BASE.BASE) (s.dev.get Reg.STA_LOG_CFG.SIZE_LOG) = true ∧
      s.dev.chUp s.dev.rt1Chan = true ∧ s.dev.log.issued = true ∧ s.dev.logNext = some e)
  ∧ (∃ (s : State), s.dev.blockOn bSTA = true ∧ s.dev.hostRefused (statusAddr bSTA) = false ∧
      s.dev.log.memFail = true)
  ∧ (∃ (s : State), s.dev.blockOn bSTA = true) :=
  ⟨⟨logged, logged.dev.logNext.get (by decide +kernel), by decide +kernel⟩,
   ⟨mk fun d => { d with log := { d.log with memFail := true } }, by decide +kernel⟩,
   ⟨run0, by decide +kernel⟩⟩

/-- A device whose servo follows port 0. -/
def follower (f : Dev → Dev) : State :=
  mk fun d => f ((d.put (ctlBit bTIM 0) 1).put (Reg.TIM_PORT_CFG.ROLE 0) 1)

/-- A locked servo, one second after the last Sync. -/
def locked (f : Dev → Dev) : State :=
  follower fun d => f { d.put Reg.TIM_SERVO.STATE 2 with
    tim := { d.tim with syncAt := some (d.stepless - 10 ^ 9 * 2 ^ 40) } }

/-- The offset of a Sync that the locked servo receives on port 0. -/
def thetaL : Int :=
  ((((locked id).dev.now + 655 : Nat) : Int) + 5 + (locked id).dev.linkDelay 0
    - (locked id).dev.ingressStamp 0 0) * 2 ^ 24

/-- States and operands that meet the hypotheses of `Obligations.SyncReceived`, clause by clause. -/
theorem wit_SyncReceived :
    (∃ (s : State) (p : Fin 8) (origin : Nat) (corr : Int) (since : Nat) (theta : Int), s.dev.blockOn bTIM = true ∧
      s.dev.isGrave bTIM = false ∧ s.dev.tim.counting = true ∧ Dev.sourceOf p = s.dev.wantedSource ∧
      s.dev.mayFollow p = true ∧ s.dev.rxWrapped p = false ∧ s.dev.servoEn = true ∧
      theta = ((origin : Int) + corr + s.dev.linkDelay p - s.dev.ingressStamp p since) * 2 ^ 24 ∧
      s.dev.servo = Dev.servoFree)
  ∧ (∃ (s : State) (p : Fin 8) (origin : Nat) (corr : Int) (since : Nat) (theta : Int) (t0 : Int) (y : Int), s.dev.blockOn bTIM = true ∧
      s.dev.isGrave bTIM = false ∧ s.dev.tim.counting = true ∧ Dev.sourceOf p = s.dev.wantedSource ∧
      s.dev.mayFollow p = true ∧ s.dev.rxWrapped p = false ∧ s.dev.servoEn = true ∧
      theta = ((origin : Int) + corr + s.dev.linkDelay p - s.dev.ingressStamp p since) * 2 ^ 24 ∧
      s.dev.servo = Dev.servoLocked ∧ s.dev.loopFreeze = false ∧ s.dev.tim.syncAt = some t0 ∧
      |theta| < s.dev.stepThr ∧
      y = s.dev.tim.integ + s.dev.servoInteg theta (s.dev.stepless - s.dev.get (Reg.TIM_LAT.ING_LAT p) * 2 ^ 40 - since * 2 ^ 24 - t0) + s.dev.servoProp theta) :=
  ⟨⟨follower id, 0, 1000, 5, 3, (1000 + 5 + (follower id).dev.linkDelay 0 - (follower id).dev.ingressStamp 0 3) * 2 ^ 24, by decide +kernel⟩,
   ⟨locked id, 0, (locked id).dev.now + 655, 5, 0, thetaL, (locked id).dev.stepless - 10 ^ 9 * 2 ^ 40, ((locked id).dev.tim.integ + (locked id).dev.servoInteg thetaL ((locked id).dev.stepless - (locked id).dev.get (Reg.TIM_LAT.ING_LAT 0) * 2 ^ 40 - 0 - ((locked id).dev.stepless - 10 ^ 9 * 2 ^ 40)) + (locked id).dev.servoProp thetaL), by decide +kernel⟩⟩

/-- States and operands that meet the hypotheses of `Obligations.ServoStates`, clause by clause. -/
theorem wit_ServoStates :
    (∃ (s : State), s.dev.blockOn bTIM = true ∧ s.dev.servo = Dev.servoSlewing ∧
      2 * |s.dev.offsetNow| < s.dev.stepThr)
  ∧ (∃ (s : State) (t0 : Int), s.dev.blockOn bTIM = true ∧
      (s.dev.servo = Dev.servoLocked ∨ s.dev.servo = Dev.servoSlewing) ∧ s.dev.tim.syncAt = some t0 ∧
      Dev.atLeastIntervals (s.dev.stepless - t0) 3 s.dev.syncExp = true)
  ∧ (∃ (s : State), s.dev.blockOn bTIM = true ∧ s.dev.hostRefused Reg.TIM_EPISODE = false ∧
      s.dev.isGrave bTIM = false)
  ∧ (∃ (s : State), s.dev.blockOn bTIM = true ∧ s.dev.hostRefused (blockBase bTIM + 4) = false)
  ∧ (∃ (s : State), s.dev.blockOn bTIM = true ∧ s.dev.hostRefused (blockBase bTIM + 4) = false) :=
  ⟨⟨mk (·.put Reg.TIM_SERVO.STATE 3), by decide +kernel⟩,
   ⟨locked fun d => { d with tim := { d.tim with syncAt := some (d.stepless - 10 ^ 10 * 2 ^ 40) } }, dev0.stepless - 10 ^ 10 * 2 ^ 40, by decide +kernel⟩,
   ⟨run0, by decide +kernel⟩,
   ⟨run0, by decide +kernel⟩,
   ⟨run0, by decide +kernel⟩⟩

/-- States and operands that meet the hypotheses of `Obligations.Halyards`, clause by clause. -/
theorem wit_Halyards :
    (∃ (s : State), s.dev.blockOn bTIM = true ∧ s.dev.tim.counting = true ∧ s.dev.pwr.phase ≠ .hold ∧
      s.dev.tim.loadDue = false ∧ |(s.dev.tim.accA : Int) - s.dev.tim.accB| ≤ 8 * 2 ^ 40)
  ∧ (∃ (s : State), s.dev.blockOn bTIM = true ∧ s.dev.tim.counting = true ∧ s.dev.pwr.phase ≠ .hold ∧
      s.dev.tim.loadDue = false ∧ 8 * 2 ^ 40 < |(s.dev.tim.accA : Int) - s.dev.tim.accB| ∧
      s.dev.tim.rejected = false ∧ s.dev.tim.syncAt = none ∧ s.dev.activeB = false)
  ∧ (∃ (s : State) (b : Fin 28) (d : Int), s.dev.blockOn bTIM = true ∧ s.dev.blockOn b = true ∧
      4 * 65536 < |d|)
  ∧ (∃ (d : Int), |d| ≤ 4 * 65536)
  ∧ (∃ (s : State), s.dev.blockOn bTIM = true) :=
  ⟨⟨run0, by decide +kernel⟩,
   ⟨mk fun d => { d with tim := { d.tim with accA := d.tim.accA + 9 * 2 ^ 40 } }, by decide +kernel⟩,
   ⟨run0, 3, -5 * 65536, by decide +kernel⟩,
   ⟨4 * 65536, by decide +kernel⟩,
   ⟨run0, by decide +kernel⟩⟩

/-- States and operands that meet the hypotheses of `Obligations.PtpMessages`, clause by clause. -/
theorem wit_PtpMessages :
    (∃ (s : State) (p : Fin 8), s.dev.blockOn bTIM = true ∧ s.dev.isGrave bTIM = false ∧ s.dev.ptpRole p ≠ 0 ∧
      s.dev.rxWrapped p = false)
  ∧ (∃ (s : State) (p : Fin 8), s.dev.blockOn bTIM = true ∧ s.dev.isGrave bTIM = false ∧ s.dev.ptpRole p ≠ 0 ∧
      s.dev.rxWrapped p = false ∧ s.dev.bmcaOn p = true ∧
      Dev.sourceOf p = s.dev.tim.ring.getD s.dev.wantedSource)
  ∧ (∃ (s : State) (p : Fin 8) (msg : List Octet) (sh : Bool) (q : Nat), s.dev.blockOn bTIM = true ∧
      s.dev.blockOn (bPRT p) = true ∧ s.dev.ptpRole p ≠ 0 ∧
      (s.dev.bit (Reg.TIM_PORT_CFG.DELAY_E2E p) = false ∨ p.val < 4) ∧ s.dev.ptpDue p 3 = true ∧
      s.dev.allocCheck .device (frameLen (s.dev.ptpData p msg)) = .ok sh ∧ q = (if p.val < 4 ∧
      s.dev.wrapped p = true then Dev.otherPort p else p) ∧ (p.val < 4 → s.dev.wrapped q = false) ∧
      s.dev.neverCarried q (s.dev.ptpClass p) (frameLen (s.dev.ptpData p msg)) = false) :=
  ⟨⟨follower id, 0, by decide +kernel⟩,
   ⟨follower (·.put Reg.TIM_CFG.BMCA_EN 1), 0, by decide +kernel⟩,
   ⟨follower id, 0, List.replicate 44 1, false, 0, by decide +kernel⟩⟩

/-- Angle domain 3 valid on a wheel of 60 teeth with two missing, one millisecond a tooth. -/
def wheel (x : AngDom → AngDom) : State :=
  mk fun d =>
    let iv : Int := 1000000 * 2 ^ 40
    (((((d.put (Reg.ANG_STATE.STATE 3) 2).put (Reg.ANG_SRC.KIND 3) 1).put (Reg.ANG_TOOTH.TEETH 3) 60).put
      (Reg.ANG_TOOTH.MISSING 3) 2).put (Reg.ANG_SRC.COAST_TEETH 3) 3).setAng 3
      (x { th := (1000000 * 2 ^ 40, 1), t1 := some (1000000 * 2 ^ 40, 1), lastIv := some (1000000 * 2 ^ 40),
           edgeAt := some (d.stepless - iv), at' := d.stepless - iv, rateN := 1, rateD := 2 ^ 50 })

/-- Angle domain 3 valid on the payloads of another device. -/
def remote (x : AngDom → AngDom) : State :=
  mk fun d => ((d.put (Reg.ANG_STATE.STATE 3) 2).put (Reg.ANG_SRC.KIND 3) 3).setAng 3 (x {})

/-- States and operands that meet the hypotheses of `Obligations.AngleTracking`, clause by clause. -/
theorem wit_AngleTracking :
    (∃ (s : State) (n : Fin 8) (width : Nat) (last : Nat), s.dev.blockOn bANG = true ∧
      s.dev.isGrave bANG = false ∧ s.dev.angState n = angValid ∧ s.dev.get (Reg.ANG_SRC.KIND n) = 1 ∧
      s.dev.get (Reg.ANG_SRC.DIR_MODE n) = 0 ∧ s.dev.get (Reg.ANG_SRC.FILT n) * 10 ≤ width ∧
      s.dev.angMissing n ≠ 0 ∧ (s.dev.ang n).lastIv = some last ∧
      s.dev.isGap n ((s.dev.sinceEdge n s.dev.edgeTime).getD 0) = decide (s.dev.get (Reg.ANG_STATE.POSITION n) / s.dev.angRev n < (s.dev.get (Reg.ANG_STATE.POSITION n) + (s.dev.posNext n (s.dev.get (Reg.ANG_STATE.POSITION n))).2.1) / s.dev.angRev n))
  ∧ (∃ (s : State) (n : Fin 8), s.dev.blockOn bANG = true ∧ s.dev.get (Reg.ANG_SRC.KIND n) = 1 ∧
      (s.dev.ang n).th.1 ≠ 0 ∧
      (8 * ((s.dev.ang n).declared + (s.dev.posNext n (s.dev.get (Reg.ANG_STATE.POSITION n))).2.1) + s.dev.get (Reg.ANG_TOOTH.MISS n)) * (s.dev.ang n).th.1 ≤ (s.dev.stepless - (s.dev.ang n).edgeAt.getD s.dev.stepless).toNat * 8 * (s.dev.ang n).th.2 ∧
      s.dev.angState n = angValid ∧ (s.dev.ang n).declared + 1 < s.dev.get (Reg.ANG_SRC.COAST_TEETH n))
  ∧ (∃ (s : State) (n : Fin 8), s.dev.blockOn bANG = true ∧ s.dev.get (Reg.ANG_SRC.KIND n) = 1 ∧
      (s.dev.ang n).th.1 ≠ 0 ∧
      (8 * ((s.dev.ang n).declared + (s.dev.posNext n (s.dev.get (Reg.ANG_STATE.POSITION n))).2.1) + s.dev.get (Reg.ANG_TOOTH.MISS n)) * (s.dev.ang n).th.1 ≤ (s.dev.stepless - (s.dev.ang n).edgeAt.getD s.dev.stepless).toNat * 8 * (s.dev.ang n).th.2 ∧
      s.dev.angOk n = true ∧ (s.dev.ang n).cmdAt ≠ some s.dev.up ∧
      s.dev.get (Reg.ANG_SRC.COAST_TEETH n) ≤ (s.dev.ang n).declared + 1)
  ∧ (∃ (s : State) (n : Fin 8), s.dev.blockOn bANG = true ∧ s.dev.get (Reg.ANG_SRC.KIND n) = 3 ∧
      s.dev.angState n = angValid ∧ (s.dev.ang n).payIvl ≠ 0 ∧
      3 * (s.dev.ang n).payIvl ≤ 2 * (s.dev.up - (s.dev.ang n).payAt.getD s.dev.up))
  ∧ (∃ (s : State) (n : Fin 8), s.dev.blockOn bANG = true ∧ s.dev.get (Reg.ANG_SRC.KIND n) = 3 ∧
      s.dev.angState n ≠ angOff ∧ s.dev.angState n ≠ angInvalid ∧ (s.dev.ang n).cmdAt ≠ some s.dev.up ∧
      max 1 (s.dev.get (Reg.ANG_REMOTE.TIMEOUT n)) * 1000 ≤ s.dev.up - (s.dev.ang n).payAt.getD (s.dev.ang n).searchAt) :=
  ⟨⟨wheel id, 3, 1000, 1000000 * 2 ^ 40, by decide +kernel⟩,
   ⟨wheel fun x => { x with edgeAt := some (dev0.stepless - 3000000 * 2 ^ 40) }, 3, by decide +kernel⟩,
   ⟨wheel fun x => { x with declared := 2, edgeAt := some (dev0.stepless - 5000000 * 2 ^ 40) }, 3, by decide +kernel⟩,
   ⟨remote fun x => { x with payIvl := 1000, payAt := some (dev0.up - 1000000000) }, 3, by decide +kernel⟩,
   ⟨remote fun x => { x with payIvl := 1000, payAt := some (dev0.up - 1000000000) }, 3, by decide +kernel⟩⟩

/-- States and operands that meet the hypotheses of `Obligations.AngleCommands`, clause by clause. -/
theorem wit_AngleCommands :
    (∃ (s : State) (n : Fin 8), s.dev.blockOn bANG = true ∧ s.dev.isGrave bANG = false ∧
      s.dev.hostRefused (Reg.ANG_SRC n) = false ∧ s.dev.angState n ≠ angOff ∧
      (s.dev.ang n).cmdAt ≠ some s.dev.up)
  ∧ (∃ (s : State) (n : Fin 8), s.dev.blockOn bANG = true ∧ s.dev.isGrave bANG = false ∧
      s.dev.hostRefused (Reg.ANG_TOOTH n) = false ∧ s.dev.angState n = angOff)
  ∧ (∃ (s : State) (n : Fin 8), s.dev.blockOn bANG = true ∧ s.dev.isGrave bANG = false ∧
      s.dev.hostRefused (Reg.ANG_TOOTH n) = false ∧ s.dev.angState n ≠ angOff ∧
      (s.dev.ang n).cmdAt ≠ some s.dev.up ∧ s.dev.get (Reg.ANG_SRC.KIND n) ≠ 0)
  ∧ (∃ (s : State) (n : Fin 8), s.dev.blockOn bANG = true ∧ s.dev.isGrave bANG = false ∧
      s.dev.hostRefused (Reg.ANG_CMD n) = false ∧ s.dev.angState n ≠ angOff)
  ∧ (∃ (s : State) (n : Fin 8), s.dev.blockOn bANG = true ∧ s.dev.isGrave bANG = false ∧
      s.dev.hostRefused (Reg.ANG_CMD n) = false ∧ s.dev.angState n = angOff)
  ∧ (∃ (s : State) (n : Fin 8), s.dev.blockOn bANG = true ∧ s.dev.hostRefused (Reg.ANG_CMD n) = false ∧
      s.dev.angState n ≠ angOff)
  ∧ (∃ (s : State) (n : Fin 8), s.dev.blockOn bANG = true ∧ s.dev.hostRefused (Reg.ANG_CMD n) = false ∧
      s.dev.angState n = angOff) :=
  ⟨⟨wheel id, 3, by decide +kernel⟩,
   ⟨run0, 3, by decide +kernel⟩,
   ⟨wheel id, 3, by decide +kernel⟩,
   ⟨wheel id, 3, by decide +kernel⟩,
   ⟨run0, 3, by decide +kernel⟩,
   ⟨mk (·.put (Reg.ANG_STATE.STATE 3) 1), 3, by decide +kernel⟩,
   ⟨run0, 3, by decide +kernel⟩⟩

/-- States and operands that meet the hypotheses of `Obligations.AngleMarks`, clause by clause. -/
theorem wit_AngleMarks :
    (∃ (s : State) (n : Fin 8), s.dev.blockOn bANG = true ∧ s.dev.hostRefused (Reg.ANG_MARK_CTL n) = false)
  ∧ (∃ (s : State) (n : Fin 8) (a : Int) (i : Nat), s.dev.blockOn bANG = true ∧ s.dev.angOk n = true ∧
      s.dev.nextMark n = some (a, i) ∧ a ≤ s.dev.pubAngle n)
  ∧ (∃ (s : State) (n : Fin 8), s.dev.blockOn bANG = true ∧ s.dev.angOk n = true ∧
      (s.dev.ang n).bcyc < s.dev.pubAngle n / cycleUnits)
  ∧ (∃ (s : State) (n : Fin 8), s.dev.blockOn bANG = true ∧ s.dev.bit (Reg.ANG_PUB.EN n) = true)
  ∧ (∃ (s : State) (n : Fin 8), s.dev.blockOn bANG = true ∧ s.dev.bit (Reg.ANG_PUB.EN n) = false) :=
  ⟨⟨run0, 3, by decide +kernel⟩,
   ⟨{ dev := ((wheel fun x => { x with pub := 20000000, markAt := -1 }).dev.setWord (Reg.ANG_MARK 0 3 7) 0x80001000) }, 3, 0x1000, 7, by decide +kernel⟩,
   ⟨wheel fun x => { x with pub := 20000000 }, 3, by decide +kernel⟩,
   ⟨mk (·.put (Reg.ANG_PUB.EN 3) 1), 3, by decide +kernel⟩,
   ⟨run0, 3, by decide +kernel⟩⟩

/-- Port 5 linked at 100 Mb/s, its limit 1 Gb/s. -/
def linked5 (f : Dev → Dev) : State :=
  mk fun d => f (((((d.put (Reg.PRT_MODE.MODE 5) 1).put (Reg.PRT_MODE.SPEED_MAX 5) 2).put
    (Reg.PRT_LINK.SPEED_NOW 5) 1).put (Dev.prtBit 5 1) 1).put (Dev.prtBit 5 3) 0)

/-- Both rings on, their four ports linked, port 1 asking for a recalibration, and the other direction healthy. -/
def ringed : State :=
  mk fun d => (((((((((d.put (Reg.SHD_RING_CFG.EN 0) 1).put (Reg.SHD_RING_CFG.EN 1) 1).put (Dev.prtBit 0 1) 1).put
    (Dev.prtBit 1 1) 1).put (Dev.prtBit 2 1) 1).put (Dev.prtBit 3 1) 1).put (Reg.PRT_SYNTH.SOFT_REQ 1) 1).put (Reg.GTE_PORT_CTL.GATE_EN 1) 1).modPort 1
    fun x => { x with gating := true, idleAt := d.up }).modSide 2 fun x => { x with gotPrev := true }

/-- The rings 45 µs later, a slot ending the quiet gap at 230 µs. -/
def ringedLater : State :=
  { dev := { (ringed.dev.setWord (Reg.SHD_SLOT_DESC 0 0 0) 0x40000400).setWord (Reg.SHD_SLOT_OFS 0 0 0) 230000 with
      tim := { ringed.dev.tim with accA := ringed.dev.tim.accA + 45000 * 2 ^ 40 }, up := ringed.dev.up + 45000 } }

/-- Port 5 with downshifting on, long below and long above its rates. -/
def shifting : State :=
  linked5 fun d => (((d.put (Reg.PRT_DS.DS_EN 5) 1).put (Reg.PRT_DS.DS_FLOOR 5) 0).put (Reg.PRT_DS.DWELL 5) 1).modPort 5
    fun x => { x with belowAt := some (d.up - 1000000000), txLast := 10 ^ 9 }

/-- States and operands that meet the hypotheses of `Obligations.PortLinks`, clause by clause. -/
theorem wit_PortLinks :
    (∃ (s : State) (p : Fin 8), s.dev.blockOn (bPRT p) = true ∧ s.dev.linkUp p = true ∧ p.val < 4 ∧
      s.dev.inGapOrEnd p = true)
  ∧ (∃ (s : State) (p : Fin 8), s.dev.blockOn (bPRT p) = true ∧ s.dev.linkUp p = true ∧
      (4 ≤ p.val ∨ s.dev.inGapOrEnd p = false))
  ∧ (∃ (s : State) (p : Fin 8), s.dev.blockOn (bPRT p) = true ∧ s.dev.mode p ≠ 0 ∧ s.dev.linkUp p = false ∧
      s.dev.bit (Dev.prtBit p 3) = false ∧ (s.dev.port p).rateBad = false ∧ s.dev.lockLong p = true ∧
      s.dev.rateFits p (if s.dev.mode p = 2 then 3 else s.dev.rate p) = true)
  ∧ (∃ (s : State) (p : Fin 8) (rate : Fin 5), s.dev.blockOn (bPRT p) = true ∧ s.dev.mode p ≠ 0 ∧
      s.dev.rateFits p rate = true)
  ∧ (∃ (s : State) (p : Fin 8) (rate : Fin 5), s.dev.blockOn (bPRT p) = true ∧ s.dev.mode p ≠ 0 ∧ p.val < 4 ∧
      s.dev.rateFits p rate = false)
  ∧ (∃ (s : State) (p : Fin 8), s.dev.blockOn (bPRT p) = true ∧ s.dev.hostRefused (Reg.PRT_MODE p) = false) :=
  ⟨⟨ringed, 1, by decide +kernel⟩,
   ⟨linked5 id, 5, by decide +kernel⟩,
   ⟨linked5 (·.put (Dev.prtBit 5 1) 0), 5, by decide +kernel⟩,
   ⟨linked5 id, 5, 2, by decide +kernel⟩,
   ⟨mk fun d => (d.put (Reg.PRT_MODE.MODE 1) 1).put (Reg.PRT_MODE.SPEED_MAX 1) 2, 1, 1, by decide +kernel⟩,
   ⟨run0, 5, by decide +kernel⟩⟩

/-- States and operands that meet the hypotheses of `Obligations.PortCommands`, clause by clause. -/
theorem wit_PortCommands :
    (∃ (s : State) (p : Fin 8), s.dev.blockOn (bPRT p) = true ∧ s.dev.hostRefused (Reg.PRT_CMD p) = false ∧
      4 ≤ p.val)
  ∧ (∃ (s : State) (p : Fin 8), s.dev.blockOn (bPRT p) = true ∧ s.dev.hostRefused (Reg.PRT_CMD p) = false ∧
      p.val < 4)
  ∧ (∃ (s : State) (p : Fin 8), s.dev.blockOn (bPRT p) = true ∧ s.dev.hostRefused (Reg.PRT_CMD p) = false)
  ∧ (∃ (s : State) (p : Fin 8), s.dev.blockOn (bPRT p) = true ∧ s.dev.hostRefused (Reg.PRT_CMD p) = false)
  ∧ (∃ (s : State) (p : Fin 8), s.dev.blockOn (bPRT p) = true ∧ s.dev.hostRefused (Reg.PRT_MDIO p) = false ∧
      s.dev.bit (Reg.PRT_MDIO.START p) = true)
  ∧ (∃ (s : State) (p : Fin 8) (v : Word), s.dev.blockOn (bPRT p) = true ∧
      s.dev.hostRefused (Reg.PRT_MDIO p) = false ∧ s.dev.bit (Reg.PRT_MDIO.START p) = false ∧
      wbit v 31 = true ∧ s.dev.mdio = [])
  ∧ (∃ (s : State) (p : Fin 8) (w : Nat) (rest : List (Nat × Nat × Bool)), s.dev.blockOn (bPRT p) = true ∧
      s.dev.mdio = (p.val, w, false) :: rest) :=
  ⟨⟨run0, 4, by decide +kernel⟩,
   ⟨run0, 3, by decide +kernel⟩,
   ⟨run0, 3, by decide +kernel⟩,
   ⟨run0, 3, by decide +kernel⟩,
   ⟨mk (·.put (Reg.PRT_MDIO.START 5) 1), 5, by decide +kernel⟩,
   ⟨run0, 5, 0xC5000000, by decide +kernel⟩,
   ⟨mk fun d => { d.put (Reg.PRT_MDIO.START 5) 1 with mdio := [(5, 0xC5000000, false)] }, 5, 0xC5000000, [], by decide +kernel⟩⟩

/-- States and operands that meet the hypotheses of `Obligations.PortRecalibration`, clause by clause. -/
theorem wit_PortRecalibration :
    (∃ (s : State) (p : Fin 8) (tune : BitVec 8), s.dev.blockOn (bPRT p) = true ∧ tune ≠ 0 ∧ tune ≠ 255)
  ∧ (∃ (s : State) (p : Fin 8) (tune : BitVec 8), s.dev.blockOn (bPRT p) = true ∧ (tune = 0 ∨ tune = 255))
  ∧ (∃ (s : State) (p : Fin 8) (g : Nat × Nat) (t0 : Nat) (t1 : Nat), s.dev.blockOn (bPRT p) = true ∧
      p.val < 4 ∧ s.dev.bit (Reg.PRT_SYNTH.SOFT_REQ p) = true ∧
      s.dev.bit (Reg.PRT_SYNTH.RECAL_ACTIVE p) = false ∧ s.dev.inGap p = some g ∧
      t0 = s.dev.up - ((s.dev.ringSchedule (Dev.ringOf p)).phase s.dev.now - g.1 * 65536) / 65536 ∧
      s.dev.firstIdle p t0 = some t1 ∧ s.dev.up < t1 + 2 ∧ t1 - t0 + 30000 ≤ g.2 - g.1 ∧
      s.dev.ringHealthy (1 - Dev.ringOf p) = true)
  ∧ (∃ (s : State) (p : Fin 8), s.dev.blockOn (bPRT p) = true ∧ 4 ≤ p.val ∧
      s.dev.bit (Reg.PRT_SYNTH.SOFT_REQ p) = true ∧ s.dev.bit (Reg.PRT_SYNTH.RECAL_ACTIVE p) = false ∧
      s.dev.txIdle p = true ∧
      (∀ c < 8, s.dev.carriesScheduled p c = true → s.dev.closedThrough p c s.dev.now (s.dev.now + 40000 * 65536) = true))
  ∧ (∃ (s : State) (p : Fin 8), s.dev.blockOn (bPRT p) = true ∧
      s.dev.bit (Reg.PRT_SYNTH.RECAL_ACTIVE p) = true)
  ∧ (∃ (s : State) (p : Fin 8) (t0 : Nat), s.dev.blockOn (bPRT p) = true ∧ p.val < 4 ∧
      s.dev.gapEnded p = some t0 ∧ s.dev.bit (Reg.PRT_SYNTH.SOFT_REQ p) = true ∧
      s.dev.bit (Reg.PRT_SYNTH.RECAL_ACTIVE p) = false ∧ (s.dev.port p).softAt ≤ t0 ∧
      (∀ t1, (s.dev.port p).gapCounted = some t1 → t1 + 1000 < t0))
  ∧ (∃ (s : State) (p : Fin 8) (t0 : Nat) (t1 : Nat), p.val < 4 ∧ s.dev.gapEnded p = some t0 ∧
      (s.dev.port p).gapCounted = some t1 ∧ t0 ≤ t1 + 1000)
  ∧ (∃ (s : State) (p : Fin 8) (t0 : Nat), s.dev.blockOn (bPRT p) = true ∧ (s.dev.port p).lossAt = some t0 ∧
      s.dev.up < t0 + 30000)
  ∧ (∃ (s : State) (p : Fin 8) (t0 : Nat), s.dev.blockOn (bPRT p) = true ∧ (s.dev.port p).lossAt = some t0 ∧
      t0 + 30000 ≤ s.dev.up) :=
  ⟨⟨run0, 5, 3, by decide +kernel⟩,
   ⟨run0, 5, 0, by decide +kernel⟩,
   ⟨ringed, 1, (ringed.dev.inGap 1).get (by decide +kernel), ringed.dev.up - ((ringed.dev.ringSchedule 0).phase ringed.dev.now - ((ringed.dev.inGap 1).get (by decide +kernel)).1 * 65536) / 65536, ringed.dev.up, by decide +kernel⟩,
   ⟨linked5 (·.put (Reg.PRT_SYNTH.SOFT_REQ 5) 1), 5, by decide +kernel⟩,
   ⟨mk (·.put (Reg.PRT_SYNTH.RECAL_ACTIVE 5) 1), 5, by decide +kernel⟩,
   ⟨ringedLater, 1, (ringedLater.dev.gapEnded 1).get (by decide +kernel), by decide +kernel⟩,
   ⟨{ dev := ringedLater.dev.modPort 1 fun x => { x with gapCounted := ringedLater.dev.gapEnded 1 } }, 1, (ringedLater.dev.gapEnded 1).get (by decide +kernel), (ringedLater.dev.gapEnded 1).get (by decide +kernel), by decide +kernel⟩,
   ⟨mk fun d => d.modPort 5 fun x => { x with lossAt := some (d.up - 29999) }, 5, 4999970001, by decide +kernel⟩,
   ⟨mk fun d => d.modPort 5 fun x => { x with lossAt := some (d.up - 30000) }, 5, 4999970000, by decide +kernel⟩⟩

/-- States and operands that meet the hypotheses of `Obligations.PortRates`, clause by clause. -/
theorem wit_PortRates :
    (∃ (s : State) (p : Fin 8) (r : Nat) (t0 : Nat), s.dev.blockOn (bPRT p) = true ∧ s.dev.shifts p = true ∧
      s.dev.linkUp p = true ∧ s.dev.dwellOver p = true ∧ s.dev.lowerRate p = some r ∧
      (s.dev.port p).belowAt = some t0 ∧ t0 + s.dev.dwellNs p ≤ s.dev.up)
  ∧ (∃ (s : State) (p : Fin 8) (r : Nat), s.dev.blockOn (bPRT p) = true ∧ s.dev.shifts p = true ∧
      s.dev.linkUp p = true ∧ s.dev.dwellOver p = true ∧ s.dev.higherRate p = some r ∧
      (Dev.pct (s.dev.get (Reg.PRT_DS.UP_PCT p)) * rateKbps (s.dev.rate p) < 800 * max (s.dev.port p).txLast (s.dev.port p).rxLast))
  ∧ (∃ (s : State) (p : Fin 8), s.dev.blockOn (bPRT p) = true)
  ∧ (∃ (s : State) (p : Fin 8), s.dev.blockOn (bPRT p) = true ∧
      (s.dev.bit (Reg.PRT_EQ.EQ_FREEZE p) = true ∨ s.dev.bit (ctlBit (bPRT p) 16) = true))
  ∧ (∃ (s : State) (p : Fin 8), s.dev.blockOn (bPRT p) = true ∧ s.dev.bit (Reg.PRT_EQ.EQ_FREEZE p) = false ∧
      s.dev.bit (ctlBit (bPRT p) 16) = false)
  ∧ (∃ (s : State) (p : Fin 8), s.dev.blockOn (bPRT p) = true) :=
  ⟨⟨shifting, 5, 0, 4000000000, by decide +kernel⟩,
   ⟨shifting, 5, 2, by decide +kernel⟩,
   ⟨run0, 5, by decide +kernel⟩,
   ⟨mk (·.put (Reg.PRT_EQ.EQ_FREEZE 5) 1), 5, by decide +kernel⟩,
   ⟨run0, 5, by decide +kernel⟩,
   ⟨run0, 5, by decide +kernel⟩⟩

/-- A port linked at 1 Gb/s. -/
def link (d : Dev) (p : Nat) : Dev :=
  ((((d.put (Reg.PRT_MODE.MODE p) 1).put (Reg.PRT_MODE.SPEED_MAX p) 2).put (Reg.PRT_LINK.SPEED_NOW p) 2).put
    (Dev.prtBit p 1) 1).put (Dev.prtBit p 0) 1

/-- A frame of one repeated octet. -/
def frameOf5 (n : Nat) : List Octet := List.replicate n 0xA5

/-- Rule 3 sends every frame to queue 4 of its port, which is on at port 5. -/
def ruled : State :=
  mk fun d => ((((((link d 5).setWord (Reg.FRM_RULE_A 0 3) 0xFFFFFFFF).put (Reg.FRM_RULE_A.ACTION 0 3) 1).put
    (Reg.FRM_RULE_A.QIDX 0 3) 4).put (Reg.FRM_RULE_B.PCP_MASK 0 3) 255).put (Reg.FRM_Q_A.EN 84) 1).put
    (Reg.FRM_Q_A.DEPTH 84) 4

/-- Ring 0 on, its ports linked. -/
def ringOn : State := mk fun d => (link (link d 0) 1).put (Reg.SHD_RING_CFG.EN 0) 1

/-- A fault notice from the ring. -/
def notice : RxFrame :=
  { data := patch (ringOn.dev.controlFrame 0 false 3 1 0
      (octetsBE 1 0x10 ++ octetsBE 1 0 ++ octetsBE 2 9 ++ List.replicate 16 0)) 16 (octetsBE 2 0x0123) }

/-- A line of 400 octets going out in class 0. -/
def line400 : TxLine := { ent := { desc := 0, data := frameOf5 400 }, cls := 0, start := dev0.now - 2700 * 65536, pre := true }

/-- Port 5 gated, the gate of class 0 closing before the line ends. -/
def gated5 : State :=
  mk fun d => (((((((link d 5).put (Reg.GTE_PORT_CTL.GATE_EN 5) 1).setWord (Reg.GTE_CYCLE_TIME 5 0) 10000).put
    (Reg.GTE_LIST_LEN.LEN 5 0) 2).setWord (Reg.GTE_GCL_IVL 5 0 0) 1000).put (Reg.GTE_GCL_GATE.GATE_STATE 5 0 0) 1).put
    (Reg.GTE_GCL_GATE.GATE_STATE 5 0 1) 0).modPort 5 fun x => { x with gating := true, line := some line400 }

/-- States and operands that meet the hypotheses of `Obligations.FrameReceived`, clause by clause. -/
theorem wit_FrameReceived :
    (∃ (s : State) (p : Fin 8) (f : RxFrame) (r : Nat), 4 ≤ p.val ∧ s.dev.goodArrival p f = true ∧
      s.dev.isPtp p f.data = false ∧ s.dev.isOdeivo p f.data = false ∧
      (s.dev.rulesOn s.dev.ruleBank).find? (fun r => s.dev.ruleHolds s.dev.ruleBank r p (parse f.data) (s.dev.identify (parse f.data))) = some r ∧
      s.dev.get (Reg.FRM_RULE_A.ACTION s.dev.ruleBank r) = 1 ∧
      s.dev.bit (Reg.FRM_Q_A.EN (16 * p + s.dev.get (Reg.FRM_RULE_A.QIDX s.dev.ruleBank r))) = true ∧
      s.dev.get (Reg.FRM_Q_A.BIND (16 * p + s.dev.get (Reg.FRM_RULE_A.QIDX s.dev.ruleBank r))) = 0 ∧
      ((Tab.get (fun _ => []) s.dev.rxQ (16 * p + s.dev.get (Reg.FRM_RULE_A.QIDX s.dev.ruleBank r))).filter fun (e : RxQEnt) => e.ctx.isNone).length < s.dev.get (Reg.FRM_Q_A.DEPTH (16 * p + s.dev.get (Reg.FRM_RULE_A.QIDX s.dev.ruleBank r))) ∧
      (∃ sh, s.dev.allocCheck (.queue (16 * p + s.dev.get (Reg.FRM_RULE_A.QIDX s.dev.ruleBank r))) (frameLen f.data) = .ok sh))
  ∧ (∃ (s : State) (p : Fin 8) (f : RxFrame), s.dev.goodArrival p { f with fcsOk := true } = true ∧
      f.fcsOk = false)
  ∧ (∃ (s : State) (p : Fin 8) (f : RxFrame), f.cut = true ∧ s.dev.blockOn (bPRT p) = true ∧
      (s.dev.port p).cutDue = true)
  ∧ (∃ (s : State), s.dev.blockOn bFRM = true ∧ s.dev.hostRefused Reg.FRM_RULE_CTL = false ∧
      s.dev.ruleSwapAt = none)
  ∧ (∃ (s : State), s.dev.blockOn bFRM = true ∧ s.dev.hostRefused Reg.FRM_RULE_CTL = false ∧
      s.dev.ruleSwapAt ≠ none)
  ∧ (∃ (s : State) (t0 : Nat), s.pending = [] ∧ s.dev.ruleSwapAt = some t0 ∧ s.dev.up + 1 < t0 + 3)
  ∧ (∃ (s : State) (t0 : Nat), s.pending = [] ∧ s.dev.ruleSwapAt = some t0 ∧ t0 + 3 ≤ s.dev.up + 1)
  ∧ (∃ (s : State) (p : Fin 8) (f : RxFrame), s.dev.isControl p f 3 = true ∧ s.dev.goodArrival p f = true ∧
      s.dev.ringEn (Dev.ringOf p) = true ∧ s.dev.wrapped p = false ∧
      (s.dev.ring (Dev.ringOf p)).notices < s.dev.noticeLimit)
  ∧ (∃ (s : State), s.dev.blockOn bFRM = true ∧ s.dev.hostRefused Reg.FRM_NOTICE_CTL = false) :=
  ⟨⟨ruled, 5, { data := frameOf5 60 }, 3, by decide +kernel⟩,
   ⟨ruled, 5, { data := frameOf5 60, fcsOk := false }, by decide +kernel⟩,
   ⟨{ dev := dev0.modPort 5 fun x => { x with cutDue := true } }, 5, { data := [], cut := true }, by decide +kernel⟩,
   ⟨run0, by decide +kernel⟩,
   ⟨mk fun d => { d with ruleSwapAt := some d.up }, by decide +kernel⟩,
   ⟨mk fun d => { d with ruleSwapAt := some d.up }, 5000000000, by decide +kernel⟩,
   ⟨mk fun d => { d with ruleSwapAt := some (d.up - 2) }, 4999999998, by decide +kernel⟩,
   ⟨ringOn, 0, notice, by decide +kernel⟩,
   ⟨run0, by decide +kernel⟩⟩

/-- States and operands that meet the hypotheses of `Obligations.FrameTransmit`, clause by clause. -/
theorem wit_FrameTransmit :
    (∃ (s : State) (p : Fin 8) (c : Nat) (e : QEnt), s.dev.blockOn (bPRT p) = true ∧
      (s.dev.port p).line = none ∧ (s.dev.port p).mpTill ≤ s.dev.up ∧ (s.dev.port p).hold = none ∧
      s.dev.selectClass p = some c ∧ s.dev.headOf p c = some e ∧ e.sent = 0)
  ∧ (∃ (s : State) (p : Fin 8) (h : TxHold), s.dev.blockOn (bPRT p) = true ∧ (s.dev.port p).line = none ∧
      (s.dev.port p).mpTill ≤ s.dev.up ∧ (s.dev.port p).hold = some h ∧ s.dev.selectClass p = some h.cls ∧
      0 < h.ent.sent)
  ∧ (∃ (s : State) (p : Fin 8) (l : TxLine), s.dev.blockOn (bPRT p) = true ∧ (s.dev.port p).line = some l)
  ∧ (∃ (s : State) (p : Fin 8) (i : Nat) (g : Nat) (l : TxLine), s.dev.blockOn (bPRT p) = true ∧
      (s.dev.port p).line = some l ∧ (s.dev.frameOf l.ent.desc).granules[i]? = some g)
  ∧ (∃ (s : State) (p : Fin 8) (sent : Nat) (k : Nat) (l : TxLine), s.dev.blockOn (bPRT p) = true ∧
      (s.dev.port p).line = some l ∧ l.pre = true ∧
      s.dev.firstBoundary p l.ent.sent (frameLen l.ent.data) = some k ∧ k ≤ sent ∧
      sent + 64 ≤ frameLen l.ent.data ∧
      (s.dev.closeBoundary p l = some sent ∨ s.dev.expressBoundary p l k sent = true) ∧
      s.dev.lineStart p l + s.dev.octetsTime p (sent - l.ent.sent + 24) ≤ s.dev.now + 65536)
  ∧ (∃ (s : State) (p : Fin 8) (h : TxHold), s.dev.blockOn (bPRT p) = true ∧ (s.dev.port p).hold = some h ∧
      h.endedAt + (if s.dev.bit (Reg.GTE_PORT_CTL.GATE_EN p) then (s.dev.schedule p (s.dev.gclActive p)).cycle else 1000000 : Nat) * 65536 < s.dev.smooth) :=
  ⟨⟨mk fun d => ((link d 5).setFrame 0 { data := frameOf5 60, copies := 1 }).setClassQueue 5 6 [{ desc := 0, data := frameOf5 60 }], 5, 6, { desc := 0, data := frameOf5 60 }, by decide +kernel⟩,
   ⟨mk fun d => (link d 5).modPort 5 fun x => { x with hold := some { ent := { desc := 0, data := frameOf5 400, sent := 60 }, cls := 0, endedAt := 0 } }, 5, { ent := { desc := 0, data := frameOf5 400, sent := 60 }, cls := 0, endedAt := 0 }, by decide +kernel⟩,
   ⟨gated5, 5, line400, by decide +kernel⟩,
   ⟨{ dev := gated5.dev.setFrame 0 { data := frameOf5 400, copies := 1, granules := [7] } }, 5, 0, 7, line400, by decide +kernel⟩,
   ⟨gated5, 5, 92, 60, line400, by decide +kernel⟩,
   ⟨mk fun d => (link d 5).modPort 5 fun x => { x with hold := some { ent := { desc := 0, data := frameOf5 400 }, cls := 0, endedAt := 0 } }, 5, { ent := { desc := 0, data := frameOf5 400 }, cls := 0, endedAt := 0 }, by decide +kernel⟩⟩

/-- The verification of port 5 due and answered. -/
def verifying : State :=
  mk fun d => ((link d 5).put (Reg.GTE_PREEMPT.EN 5) 1).modPort 5 fun x => { x with verifyDue := true, respondDue := true }

/-- The verification of port 5 waiting for its answer after n attempts. -/
def verifyWait (n : Nat) : State :=
  mk fun d => (((link d 5).put (Reg.GTE_PREEMPT.EN 5) 1).put (Reg.GTE_PREEMPT_STAT.VERIFY_STATE 5) 2).modPort 5
    fun x => { x with verifyAt := some (d.up - 200000000), attempts := n }

/-- States and operands that meet the hypotheses of `Obligations.GateLists`, clause by clause. -/
theorem wit_GateLists :
    (∃ (s : State) (p : Fin 8), s.dev.gating p = true ∧ (s.dev.port p).freezeTill = none)
  ∧ (∃ (s : State) (p : Fin 8), s.dev.blockOn bGTE = true ∧ s.dev.hostRefused (Reg.GTE_GCL_CTL p) = false ∧
      s.dev.bit (Reg.GTE_GCL_CTL.SWAP_PEND p) = false ∧ s.dev.gteCheck p (1 - s.dev.gclActive p) = none)
  ∧ (∃ (s : State) (p : Fin 8) (code : _) (q : _) (c : _), s.dev.blockOn bGTE = true ∧
      s.dev.hostRefused (Reg.GTE_GCL_CTL p) = false ∧ s.dev.bit (Reg.GTE_GCL_CTL.SWAP_PEND p) = false ∧
      s.dev.gteCheck p (1 - s.dev.gclActive p) = some (code, q, c))
  ∧ (∃ (s : State) (p : Fin 8), s.dev.bit (Reg.GTE_GCL_CTL.SWAP_PEND p) = true ∧
      s.dev.pendingPoint p ≤ s.dev.now)
  ∧ (∃ (s : State) (p : Fin 8), s.dev.blockOn bGTE = true ∧ s.dev.hostRefused (Reg.GTE_PORT_CTL p) = false)
  ∧ (∃ (s : State) (p : Fin 8), s.dev.blockOn bGTE = true ∧ s.dev.hostRefused (Reg.GTE_PORT_CTL p) = false)
  ∧ (∃ (s : State) (p : Fin 8) (c : Fin 8) (reg : Fin 4), s.dev.blockOn bGTE = true ∧
      s.dev.hostRefused (Dev.shaperKey p c reg) = false) :=
  ⟨⟨gated5, 5, by decide +kernel⟩,
   ⟨mk fun d => ((d.setWord (Reg.GTE_CYCLE_TIME 5 1) 10000).put (Reg.GTE_LIST_LEN.LEN 5 1) 1).setWord (Reg.GTE_GCL_IVL 5 1 0) 1000, 5, by decide +kernel⟩,
   ⟨run0, 5, ((dev0.gteCheck 5 (1 - dev0.gclActive 5)).get (by decide +kernel)).1, ((dev0.gteCheck 5 (1 - dev0.gclActive 5)).get (by decide +kernel)).2.1, ((dev0.gteCheck 5 (1 - dev0.gclActive 5)).get (by decide +kernel)).2.2, by decide +kernel⟩,
   ⟨mk (·.put (Reg.GTE_GCL_CTL.SWAP_PEND 5) 1), 5, by decide +kernel⟩,
   ⟨run0, 5, by decide +kernel⟩,
   ⟨run0, 5, by decide +kernel⟩,
   ⟨run0, 5, 2, 2, by decide +kernel⟩⟩

/-- States and operands that meet the hypotheses of `Obligations.PreemptVerify`, clause by clause. -/
theorem wit_PreemptVerify :
    (∃ (s : State) (p : Fin 8), s.dev.blockOn (bPRT p) = true ∧ s.dev.mpacketOk p = true ∧
      (s.dev.port p).verifyDue = true)
  ∧ (∃ (s : State) (p : Fin 8), s.dev.blockOn (bPRT p) = true ∧ s.dev.mpacketOk p = true ∧
      (s.dev.port p).respondDue = true)
  ∧ (∃ (s : State) (p : Fin 8), s.dev.blockOn (bPRT p) = true ∧ s.dev.bit (Reg.GTE_PREEMPT.EN p) = true)
  ∧ (∃ (s : State) (p : Fin 8), s.dev.blockOn (bPRT p) = true ∧ s.dev.bit (Reg.GTE_PREEMPT.EN p) = true ∧
      s.dev.bit (Reg.GTE_PREEMPT.VERIFY_DIS p) = false ∧
      s.dev.get (Reg.GTE_PREEMPT_STAT.VERIFY_STATE p) = 2)
  ∧ (∃ (s : State) (p : Fin 8) (t0 : Nat), s.dev.blockOn (bPRT p) = true ∧ (s.dev.port p).verifyAt = some t0 ∧
      s.dev.get (Reg.GTE_PREEMPT_STAT.VERIFY_STATE p) = 2 ∧ t0 + s.dev.verifyMs p * 1000000 ≤ s.dev.up ∧
      (s.dev.port p).attempts < 3)
  ∧ (∃ (s : State) (p : Fin 8) (t0 : Nat), s.dev.blockOn (bPRT p) = true ∧ (s.dev.port p).verifyAt = some t0 ∧
      s.dev.get (Reg.GTE_PREEMPT_STAT.VERIFY_STATE p) = 2 ∧ t0 + s.dev.verifyMs p * 1000000 ≤ s.dev.up ∧
      3 ≤ (s.dev.port p).attempts)
  ∧ (∃ (s : State) (p : Fin 8), s.dev.blockOn bGTE = true ∧ s.dev.hostRefused (Reg.GTE_PREEMPT p) = false) :=
  ⟨⟨verifying, 5, by decide +kernel⟩,
   ⟨verifying, 5, by decide +kernel⟩,
   ⟨verifying, 5, by decide +kernel⟩,
   ⟨verifyWait 3, 5, by decide +kernel⟩,
   ⟨verifyWait 2, 5, 4800000000, by decide +kernel⟩,
   ⟨verifyWait 3, 5, 4800000000, by decide +kernel⟩,
   ⟨run0, 5, by decide +kernel⟩⟩

/-- Context 7 active at generation 4. -/
def ctxOn (f : Dev → Dev) : State :=
  mk fun d => f ((((d.setWord (Reg.FRM_STM_RESV 7) 0x80320004).put (Reg.STM_CTX_CFG.EN 7) 1).put (Reg.STM_CTX_STAT.STATE 7) 1).put (Reg.STM_CTX_STAT.GEN 7) 4)

/-- Context 7 transmitting on port 5. -/
def ctxTx (f : Dev → Dev) : State :=
  ctxOn fun d => f (((d.put (Reg.STM_CTX_CFG.DIR 7) 1).put (Reg.STM_CTX_CFG.EGRESS 7) 0x20).put (Reg.STM_CTX_CFG.SEQ_EN 7) 1)

/-- Its token bucket on, of 100 octets. -/
def ctxTb (f : Dev → Dev) : State :=
  ctxTx fun d => f (((d.put (Reg.STM_TB.TB_EN 7) 1).put (Reg.STM_TB_BURST.BURST 7) 100).put (Reg.STM_TB.RATE 7) 1000)

/-- A frame held in the bucket, its tokens there. -/
def ctxHeld : State :=
  { dev := match exec (.transmitHandover 7 4 (frameOf5 60)) (ctxTb id) with | .next t => t.dev | _ => dev0 }

/-- States and operands that meet the hypotheses of `Obligations.StreamStates`, clause by clause. -/
theorem wit_StreamStates :
    (∃ (s : State) (x : Fin 512), s.dev.blockOn bSTM = true ∧ s.dev.hostRefused (Reg.STM_CTX_CFG x) = false ∧
      s.dev.ctxState x = 0)
  ∧ (∃ (s : State) (x : Fin 512), s.dev.blockOn bSTM = true ∧ s.dev.hostRefused (Reg.STM_CTX_CFG x) = false ∧
      s.dev.ctxState x = 1)
  ∧ (∃ (s : State) (x : Fin 512), s.dev.blockOn bSTM = true ∧ s.dev.ctxState x = 2 ∧
      (s.dev.ctx x).quarAt + s.dev.holdUs * 1000 ≤ s.dev.up)
  ∧ (∃ (s : State) (x : Fin 512) (t0 : Nat), s.dev.blockOn bSTM = true ∧ (s.dev.ctx x).timer = some t0 ∧
      (s.dev.bit (Reg.STM_SEQ.TAKE_ANY x) && ((s.dev.ctx x).takeA && ((s.dev.ctx x).takeB && (s.dev.ctx x).takeE))) = false ∧
      t0 + max 1 (s.dev.get (Reg.STM_RCV_TIMER.RESET_MS x)) * 1000000 ≤ s.dev.up)
  ∧ (∃ (s : State) (x : Fin 512) (t0 : Nat) (dp : Int) (dd : Int), s.dev.blockOn bSTM = true ∧
      (s.dev.ctx x).latAt = some t0 ∧ s.dev.get (Reg.STM_RCV_TIMER.LAT_PERIOD x) ≠ 0 ∧
      s.dev.seqEn x = true ∧ s.dev.isTx x = false ∧ s.dev.ctxState x = 1 ∧
      t0 + s.dev.get (Reg.STM_RCV_TIMER.LAT_PERIOD x) * 1000000 ≤ s.dev.up ∧
      dp = ((s.dev.get (Reg.STM_CNT.COUNT x 0) + 2 ^ 32 - (s.dev.ctx x).latP) % 2 ^ 32 : Nat) ∧
      dd = ((s.dev.get (Reg.STM_CNT.COUNT x 1) + 2 ^ 32 - (s.dev.ctx x).latD) % 2 ^ 32 : Nat) ∧
      s.dev.bit (stickyBit bSTM 0) = false) :=
  ⟨⟨run0, 7, by decide +kernel⟩,
   ⟨ctxOn id, 7, by decide +kernel⟩,
   ⟨mk (·.put (Reg.STM_CTX_STAT.STATE 7) 2), 7, by decide +kernel⟩,
   ⟨mk (·.setCtx 7 { ({} : Ctx) with timer := some 0, takeA := false }), 7, 0, by decide +kernel⟩,
   ⟨ctxOn fun d => (((d.put (Reg.STM_CTX_CFG.SEQ_EN 7) 1).put (Reg.STM_RCV_TIMER.LAT_PERIOD 7) 100).put (Reg.STM_CNT.COUNT 7 0) 1000).setCtx 7 { ({} : Ctx) with latAt := some 3000000000 }, 7, 3000000000, 1000, 0, by decide +kernel⟩⟩

/-- States and operands that meet the hypotheses of `Obligations.StreamTransmit`, clause by clause. -/
theorem wit_StreamTransmit :
    (∃ (s : State) (x : Fin 512) (gen : BitVec 8) (data : List Octet) (sh : Bool), s.dev.blockOn bSTM = true ∧
      s.dev.refOk x gen.toNat = true ∧ s.dev.isTx x = true ∧ s.dev.get (Reg.STM_CTX_CFG.EGRESS x) ≠ 0 ∧
      s.dev.allocCheck (.ctx x) (s.dev.sentLen x data) = .ok sh ∧ s.dev.bit (Reg.STM_TB.TB_EN x) = false)
  ∧ (∃ (s : State) (x : Fin 512) (gen : BitVec 8) (data : List Octet) (sh : Bool), s.dev.blockOn bSTM = true ∧
      s.dev.refOk x gen.toNat = true ∧ s.dev.isTx x = true ∧ s.dev.get (Reg.STM_CTX_CFG.EGRESS x) ≠ 0 ∧
      s.dev.allocCheck (.ctx x) (s.dev.sentLen x data) = .ok sh ∧ s.dev.bit (Reg.STM_TB.TB_EN x) = true ∧
      (s.dev.ctx x).held = [] ∧ s.dev.sentLen x data ≤ s.dev.get (Reg.STM_TB_BURST.BURST x))
  ∧ (∃ (s : State) (x : Fin 512) (h : Held) (rest : List Held), s.dev.blockOn bSTM = true ∧
      (s.dev.ctx x).held = h :: rest ∧ s.dev.bit (Reg.STM_TB.TB_EN x) = true ∧
      s.dev.sentLen x h.data * Dev.octetUnits ≤ s.dev.tokensNow x ∧
      (∀ g ∈ rest, s.dev.sentLen x g.data ≤ s.dev.get (Reg.STM_TB_BURST.BURST x)))
  ∧ (∃ (s : State) (r : Fin 2), s.dev.blockOn bPLC = true ∧
      s.dev.bit (Reg.SHD_STATE.TABLE_MISMATCH r) = false)
  ∧ (∃ (s : State) (m : Fin 512) (reg : Fin 5), s.dev.blockOn bGTE = true ∧
      s.dev.hostRefused (Dev.meterKey m reg) = false)
  ∧ (∃ (s : State) (x : Fin 512) (burst : Bool), s.dev.blockOn bSTM = true ∧
      s.dev.hostRefused (if burst then Reg.STM_TB_BURST x else Reg.STM_TB x) = false) :=
  ⟨⟨ctxTx id, 7, 4, frameOf5 60, false, by decide +kernel⟩,
   ⟨ctxTb id, 7, 4, frameOf5 60, false, by decide +kernel⟩,
   ⟨ctxHeld, 7, (ctxHeld.dev.ctx 7).held.head (by decide +kernel), (ctxHeld.dev.ctx 7).held.tail, by decide +kernel⟩,
   ⟨run0, 0, by decide +kernel⟩,
   ⟨run0, 5, 2, by decide +kernel⟩,
   ⟨run0, 7, true, by decide +kernel⟩⟩

/-- Ring 0 on, gated by a cycle of 250 µs. -/
def ringGated (f : Dev → Dev) : State :=
  mk fun d => f (((((link (link d 0) 1).put (Reg.SHD_RING_CFG.EN 0) 1).put (Reg.GTE_PORT_CTL.GATE_EN 1) 1).setWord
    (Reg.GTE_CYCLE_TIME 1 0) 250000).put (Reg.GTE_LIST_LEN.LEN 1 0) 1 |>.modPort 1 fun x => { x with gating := true })

/-- The ring master with slot 5 to be claimed. -/
def ringMaster : State :=
  ringGated fun d => (d.put (Reg.SHD_STATE.ROLE_NOW 0) 1).setWord (Reg.SHD_SLOT_DESC 0 0 5) 0x80001000

/-- A claim of slot 5 by node 0x44, its generation 3. -/
def claim5 : RxFrame :=
  { data := patch (ringMaster.dev.controlFrame 0 false 2 1 0
      (octetsBE 1 9 ++ octetsBE 1 3 ++ octetsBE 2 5 ++ octetsBE 4 0)) 16 (octetsBE 2 0x0044) }

/-- A beacon of cycle 77 from node 0x44. -/
def beacon77 : RxFrame := { data := patch ((ringGated id).dev.beaconData 0 77) 16 (octetsBE 2 0x0044) }

/-- A link frame. -/
def linkFrame : RxFrame :=
  { data := (ringGated id).dev.controlFrame 0 false 4 0 0 (octetsBE 1 0x80 ++ octetsBE 3 0 ++ octetsBE 4 11 ++ octetsBE 4 22) }

/-- States and operands that meet the hypotheses of `Obligations.RingClaims`, clause by clause. -/
theorem wit_RingClaims :
    (∃ (s : State) (r : Fin 2), s.dev.blockOn bSHD = true ∧ s.dev.ringEn r = true ∧
      s.dev.gating (Dev.eastPort r) = true ∧ (s.dev.ring r).cycle ≠ some (s.dev.cycleIdx r))
  ∧ (∃ (s : State) (r : Fin 2), s.dev.blockOn bSHD = true ∧ 8 ≤ (s.dev.ring r).roleCycles ∧
      (s.dev.ring r).roleAt + s.dev.get (Reg.SHD_TIMING.HOLDOFF_MS r) * 1000000 ≤ s.dev.up ∧
      s.dev.bit (Reg.SHD_STATE.HOLDOFF r) = true)
  ∧ (∃ (s : State) (r : Fin 2), s.dev.blockOn bSHD = true ∧ s.dev.hostRefused (Reg.SHD_SLOT_CTL r) = false)
  ∧ (∃ (s : State) (r : Fin 2), s.dev.blockOn bSHD = true ∧ s.dev.hostRefused (Reg.SHD_CLAIM r) = false ∧
      s.dev.get (Reg.SHD_CLAIM_STAT.RESULT r) ≠ 1)
  ∧ (∃ (s : State) (r : Fin 2), s.dev.blockOn bSHD = true ∧ (s.dev.ring r).sendIn = some (s.dev.cycleIdx r) ∧
      s.dev.inClaimWindow r = true ∧ s.dev.bit (Reg.SHD_STATE.TABLE_MISMATCH r) = false)
  ∧ (∃ (s : State) (p : Fin 8) (f : RxFrame) (r : Nat) (node : Nat) (gen : Nat) (slot : Nat), r = Dev.ringOf p ∧
      node = fieldBE f.data 16 2 % 256 ∧ gen = fieldBE f.data 27 1 ∧ fieldBE f.data 28 2 = slot ∧
      slot < 4096 ∧ s.dev.isControl p f 2 = true ∧ s.dev.goodArrival p f = true ∧ s.dev.ringEn r = true ∧
      s.dev.wrapped p = false ∧ s.dev.isMaster r = true ∧ s.dev.bit (Reg.SHD_STATE.HOLDOFF r) = false ∧
      0 < sdiff gen (s.dev.get (Dev.recFld r node)) 8 ∧ s.dev.slotKind r (s.dev.slotBank r) slot = 2 ∧
      ((s.dev.ring r).accepted ++ (s.dev.ring r).listed).all (fun g => g.slot != slot || g.node == node) = true ∧
      (s.dev.ring r).accepted.length < 16) :=
  ⟨⟨ringGated id, 0, by decide +kernel⟩,
   ⟨ringGated fun d => (d.put (Reg.SHD_STATE.HOLDOFF 0) 1).setRing 0 { ({} : Ring) with roleCycles := 8 }, 0, by decide +kernel⟩,
   ⟨run0, 0, by decide +kernel⟩,
   ⟨run0, 0, by decide +kernel⟩,
   ⟨ringGated fun d => ((d.setWord (Reg.SHD_SLOT_DESC 0 0 3) 0xC000F000).setWord (Reg.SHD_SLOT_OFS 0 0 3) 0).setRing 0 { ({} : Ring) with sendIn := some (d.cycleIdx 0) }, 0, by decide +kernel⟩,
   ⟨ringMaster, 0, claim5, 0, 0x44, 3, 5, by decide +kernel⟩⟩

/-- States and operands that meet the hypotheses of `Obligations.RingFrames`, clause by clause. -/
theorem wit_RingFrames :
    (∃ (s : State) (p : Fin 8) (f : RxFrame), s.dev.isControl p f 1 = true ∧ s.dev.goodArrival p f = true ∧
      s.dev.ringEn (Dev.ringOf p) = true ∧ s.dev.wrapped p = false ∧
      (s.dev.ring (Dev.ringOf p)).acted.contains (fieldBE f.data 26 4) = false)
  ∧ (∃ (s : State) (p : Fin 8) (f : RxFrame), s.dev.isControl p f 1 = true ∧ s.dev.goodArrival p f = true ∧
      s.dev.ringEn (Dev.ringOf p) = true ∧ s.dev.wrapped p = false ∧
      (s.dev.ring (Dev.ringOf p)).acted.contains (fieldBE f.data 26 4) = true)
  ∧ (∃ (s : State) (p : Fin 8) (f : RxFrame), s.dev.isControl p f 4 = true ∧ s.dev.goodArrival p f = true ∧
      s.dev.ringEn (Dev.ringOf p) = true)
  ∧ (∃ (s : State) (r : Fin 2) (code : BitVec 8) (sh : Bool), s.dev.blockOn bSHD = true ∧
      s.dev.hostRefused (Reg.SHD_NOTICE_TX r) = false ∧ s.dev.ringEn r = true ∧ 0x10 ≤ code.toNat ∧
      s.dev.allocCheck .device 64 = .ok sh)
  ∧ (∃ (s : State) (r : Fin 2) (code : BitVec 8), s.dev.hostRefused (Reg.SHD_NOTICE_TX r) = false ∧
      code.toNat < 0x10) :=
  ⟨⟨ringGated id, 1, beacon77, by decide +kernel⟩,
   ⟨ringGated (·.setRing 0 { ({} : Ring) with acted := [77] }), 1, beacon77, by decide +kernel⟩,
   ⟨ringGated id, 1, linkFrame, by decide +kernel⟩,
   ⟨ringGated id, 0, 0x10, false, by decide +kernel⟩,
   ⟨run0, 0, 0xF, by decide +kernel⟩⟩

/-- States and operands that meet the hypotheses of `Obligations.RingBreaks`, clause by clause. -/
theorem wit_RingBreaks :
    (∃ (s : State) (p : Fin 4), s.dev.blockOn bSHD = true ∧ (s.dev.side p).broken ≠ 0 ∧
      s.dev.wrapped p = false ∧ s.dev.ringEn (Dev.ringOf p) = true)
  ∧ (∃ (s : State) (p : Fin 4), s.dev.blockOn bSHD = true ∧
      ((s.dev.side p).indDue = true ∨ (s.dev.wrapped p = true ∧ s.dev.linkUp p = false)))
  ∧ (∃ (s : State) (p : Fin 4) (t0 : Nat), s.dev.blockOn bSHD = true ∧ (s.dev.side p).cleanAt = some t0 ∧
      s.dev.wrapped p = true ∧ s.dev.linkUp p = true ∧ s.dev.bit (Dev.readyFld p) = false ∧
      t0 + s.dev.cleanNs (Dev.ringOf p) ≤ s.dev.up) :=
  ⟨⟨ringGated (·.modSide 1 fun x => { x with broken := 1 }), 1, by decide +kernel⟩,
   ⟨ringGated (·.modSide 1 fun x => { x with indDue := true }), 1, by decide +kernel⟩,
   ⟨ringGated fun d => (d.put (Reg.SHD_STATE.WRAP_E 0) 1).modSide 1 fun x => { x with cleanAt := some 0 }, 1, 0, by decide +kernel⟩⟩

/-- Cell 9 idle on pair 4, its trigger the time, its program one output and the end. -/
def cell9 (f : Dev → Dev) : State :=
  mk fun d => f ((((((((((((d.put (Reg.CEL_STAT.STATE 9) celIdle).put (Reg.CEL_STAT.PAIR 9) 4).put (Reg.CEL_PAIR_STAT.STATE 4) 1).put
    (Reg.CEL_PAIR_STAT.CELL 4) 9).put (Reg.CEL_CFG.EN 9) 1).put (Reg.CEL_CFG.TRIG 9) 1).put (Reg.CEL_PERIOD.PERIOD 9) 10000).setWord
    (Reg.CEL_TBL 9 0 1) 0x840C0000).setWord (Reg.CEL_TBL 9 0 0) 0).setWord (Reg.CEL_TBL 9 0 (0x80 + 3)) 0x30000).setWord
    (Reg.CEL_TBL 9 0 0x1E0) 0xC0000011).setWord (Reg.CEL_TBL 9 0 0x1C5) 0x77)

/-- Its activation started, ten microseconds later. -/
def cellRunning : State :=
  { dev := match exec (.activationStart 9) (cell9 (·.modCell 9 fun x => { x with req := some false })) with
      | .next t => { t.dev with up := t.dev.up + 10000 } | _ => dev0 }

/-- Its activation executed again on another pair, ten microseconds later. -/
def cellAgain : State :=
  { dev := match exec (.activationComparison 9 false false) cellRunning with
      | .next t => { t.dev with up := t.dev.up + 10000 } | _ => dev0 }
/-- The cell runs while no pair is spare, no output enabled. -/
def cellLast : State :=
  { dev := (List.range 68).foldl (fun (d : Dev) q => if q = 4 then d else d.put (Reg.CEL_PAIR_STAT.STATE q) 2) (cellRunning.dev.setWord (Reg.CEL_TBL 9 0 0x1E0) 0) }

/-- The cell HALTED without a pair. -/
def cellHalted : State := cell9 fun d => ((d.setPair 4 2).put (Reg.CEL_STAT.PAIR 9) 0x7F).put (Reg.CEL_STAT.STATE 9) celHalted

/-- States and operands that meet the hypotheses of `Obligations.CellActivations`, clause by clause. -/
theorem wit_CellActivations :
    (∃ (s : State) (c : Fin 64) (m : Nat), s.dev.celState c ≠ celOff ∧ s.dev.celState c ≠ celHalted ∧
      s.dev.get (Reg.CEL_CFG.TRIG c) = 1 ∧ s.dev.isGrave bCEL = false ∧ (s.dev.cell c).req = none ∧
      m + 1 = Dev.gridIn (ofStamp (s.dev.stamp3 (Reg.CEL_BASE_LO c))) (max 1 (s.dev.get (Reg.CEL_PERIOD.PERIOD c)) * 65536) (s.dev.cell c).trigAt s.dev.now)
  ∧ (∃ (s : State) (c : Fin 64) (g : Prog), s.dev.mayStart c = true ∧
      s.dev.bit (Reg.CEL_BANK.SWAP_PEND c) = false ∧
      ((s.dev.cell c).queue.head?.all fun e => e.ref.all fun x => s.dev.refOk x.1 x.2) = true ∧
      g = s.dev.fresh.runProgram c (s.dev.celBank c) (s.dev.cell c).queue.head?)
  ∧ (∃ (s : State) (c : Fin 64) (r : CelRun), (s.dev.cell c).run = some r ∧ s.dev.celState c = celRun ∧
      r.doneUp ≤ s.dev.up ∧ s.dev.isGrave bCEL = false ∧
      (r.outs.all fun o => s.dev.outWord c r.bank o.out 0 / 2 ^ 28 % 8 != 3) = true ∧
      (s.dev.cell c).offDue = false ∧ (s.dev.cell c).restartDue = false)
  ∧ (∃ (s : State) (c : Fin 64) (r : CelRun) (p : Nat), (s.dev.cell c).run = some r ∧
      s.dev.celState c = celRun ∧ r.doneUp ≤ s.dev.up ∧ s.dev.isGrave bCEL = false ∧
      (List.range 68).find? s.dev.pairFree = some p)
  ∧ (∃ (s : State) (c : Fin 64) (r : CelRun), (s.dev.cell c).run = some r ∧ s.dev.celState c = celRun ∧
      r.doneUp ≤ s.dev.up ∧ s.dev.isGrave bCEL = false ∧ (List.range 68).find? s.dev.pairFree = none ∧
      s.dev.celPair c < 68 ∧ (s.dev.cell c).offDue = false ∧ (s.dev.cell c).restartDue = false ∧
      (∀ o < 8, (s.dev.outWord c (s.dev.celBank c) o 0).testBit 31 = false))
  ∧ (∃ (s : State) (c : Fin 64) (r : CelRun) (p : Nat), s.dev.blockOn bCEL = true ∧
      (s.dev.cell c).run = some r ∧ r.spare = some p ∧ p < 68 ∧ s.dev.celPair c < 68 ∧ s.dev.celPair c ≠ p ∧
      r.doneUp ≤ s.dev.up ∧ s.dev.isGrave bCEL = false ∧
      (r.outs.all fun o => s.dev.outWord c r.bank o.out 0 / 2 ^ 28 % 8 != 3) = true ∧
      (s.dev.cell c).offDue = false ∧ (s.dev.cell c).restartDue = false)
  ∧ (∃ (s : State) (c : Fin 64) (r : CelRun) (p : Nat), s.dev.blockOn bCEL = true ∧
      (s.dev.cell c).run = some r ∧ r.spare = some p ∧ r.doneUp ≤ s.dev.up ∧ s.dev.isGrave bCEL = false ∧
      (s.dev.cell c).offDue = false ∧ (s.dev.cell c).restartDue = false) :=
  ⟨⟨cell9 (·.modCell 9 fun x => { x with trigAt := dev0.now - 30000 * 65536 }), 9, 2, by decide +kernel⟩,
   ⟨cell9 (·.modCell 9 fun x => { x with req := some false }), 9, (cell9 (·.modCell 9 fun x => { x with req := some false })).dev.fresh.runProgram 9 0 none, by decide +kernel, by decide +kernel, by decide +kernel, rfl⟩,
   ⟨cellRunning, 9, (cellRunning.dev.cell 9).run.get (by decide +kernel), by decide +kernel⟩,
   ⟨cellRunning, 9, (cellRunning.dev.cell 9).run.get (by decide +kernel), 0, by decide +kernel⟩,
   ⟨cellLast, 9, (cellLast.dev.cell 9).run.get (by decide +kernel), by decide +kernel⟩,
   ⟨cellAgain, 9, (cellAgain.dev.cell 9).run.get (by decide +kernel), 0, by decide +kernel⟩,
   ⟨cellAgain, 9, (cellAgain.dev.cell 9).run.get (by decide +kernel), 0, by decide +kernel⟩⟩

/-- States and operands that meet the hypotheses of `Obligations.CellTables`, clause by clause. -/
theorem wit_CellTables :
    (∃ (s : State) (g : Fin 17), s.dev.grpFrozen g = false ∧ s.dev.grpBusy g = false ∧
      s.dev.get (Reg.CEL_GRP_DVFS.FREQ_NOW g) ≠ s.dev.freqTarget g ∧ s.dev.domOn (Dev.groupDom g) = true ∧
      s.dev.isGrave bCEL = false)
  ∧ (∃ (s : State) (v : Word), s.dev.blockOn bCEL = true ∧ s.dev.hostRefused Reg.CEL_PAIR_CMD = false ∧
      wbit v 31 = true ∧ wfld v 0 7 < 68 ∧ s.dev.pairState (wfld v 0 7) = 2 ∧
      s.dev.bit (Reg.CEL_PAIR_STAT.TESTED (wfld v 0 7)) = true ∧ (∀ c < 64, s.dev.celWaits c = false))
  ∧ (∃ (s : State) (c : Fin 64) (v : Word), s.dev.blockOn bCEL = true ∧
      s.dev.hostRefused (Reg.CEL_BANK c) = false ∧ wbit v 0 = true ∧
      s.dev.bit (Reg.CEL_BANK.SWAP_PEND c) = false ∧ s.dev.bankCheck c (1 - s.dev.celBank c) = none)
  ∧ (∃ (s : State) (c : Fin 64) (v : Word) (code : _) (k : _), s.dev.blockOn bCEL = true ∧
      s.dev.hostRefused (Reg.CEL_BANK c) = false ∧ wbit v 0 = true ∧
      s.dev.bit (Reg.CEL_BANK.SWAP_PEND c) = false ∧
      s.dev.bankCheck c (1 - s.dev.celBank c) = some (code, k))
  ∧ (∃ (s : State) (c : Fin 64) (v : Word), s.dev.blockOn bCEL = true ∧
      s.dev.hostRefused (Reg.CEL_CMD c) = false ∧ wbit v 0 = true ∧ (s.dev.cell c).run = none ∧
      s.dev.celState c ≠ celOff ∧ s.dev.celPair c ≠ 0x7F ∧
      (s.dev.celState c = celHalted → s.dev.get Reg.CEL_SPARES.SPARE_NOW ≠ 0) ∧
      (s.dev.get (Reg.CEL_CFG.TRIG c) = 2 → s.dev.angOk (s.dev.get (Reg.CEL_CFG.DOM c)) = false → ∀ o < 8, (s.dev.outWord c (s.dev.celBank c) o 0).testBit 31 = false))
  ∧ (∃ (s : State) (c : Fin 64) (v : Word) (p : Nat), s.dev.blockOn bCEL = true ∧
      s.dev.hostRefused (Reg.CEL_CMD c) = false ∧ wbit v 0 = true ∧ (s.dev.cell c).run = none ∧
      s.dev.celState c = celHalted ∧ s.dev.celPair c = 0x7F ∧ s.dev.get Reg.CEL_SPARES.SPARE_NOW ≠ 0 ∧
      s.dev.restartPair c = some p ∧
      (s.dev.get (Reg.CEL_CFG.TRIG c) = 2 → s.dev.angOk (s.dev.get (Reg.CEL_CFG.DOM c)) = true)) :=
  ⟨⟨mk (·.put (Reg.CEL_GRP_DVFS.FREQ_NOW 3) 5), 3, by decide +kernel⟩,
   ⟨mk fun d => (d.put (Reg.CEL_PAIR_STAT.STATE 5) 2).put (Reg.CEL_PAIR_STAT.TESTED 5) 1, 0x80000005, by decide +kernel⟩,
   ⟨cell9 id, 9, 1, by decide +kernel⟩,
   ⟨mk (·.setWord (Reg.CEL_TBL 9 1 1) 0x90000000), 9, 1, ((((mk (·.setWord (Reg.CEL_TBL 9 1 1) 0x90000000)).dev.bankCheck 9 1)).get (by decide +kernel)).1, ((((mk (·.setWord (Reg.CEL_TBL 9 1 1) 0x90000000)).dev.bankCheck 9 1)).get (by decide +kernel)).2, by decide +kernel⟩,
   ⟨cell9 id, 9, 1, by decide +kernel⟩,
   ⟨cellHalted, 9, 1, 0, by decide +kernel⟩⟩

/-- Channel 2 of Chuck 1 triggered by the time, every microsecond. -/
def chan18 (f : Dev → Dev) : State :=
  mk fun d => f ((((d.put (Reg.SMP_CH_CFG.EN 1 2) 1).put (Reg.SMP_CH_CFG.TRIG 1 2) 1).put (Reg.SMP_PORT_CFG.EN 1) 1).setWord
    (Reg.SMP_CH_TRIG_A 1 2) 1000)

/-- The channel's read due. -/
def chanDue : State :=
  chan18 fun d => (d.put (Reg.SMP_CH_GAIN.VALUE 1 2) 0x10000).modChan 18 fun x => { x with due := some d.up }

/-- The channel's read under way, its last bit clocked. -/
def chanRead : State := { dev := match exec (.transactionStart 1) chanDue with | .next t => { t.dev with up := (t.dev.chk 1).bitsUp } | _ => dev0 }

/-- An output pin on, an edge pushed. -/
def pinPushed : State :=
  { dev := match exec (.edgePush 3 0xC0000000) (mk (·.put (Reg.SCR_PIN_CFG.EN 3) 1)) with | .next t => t.dev | _ => dev0 }

/-- The edge executed. -/
def pinHigh : State := { dev := match exec (.edgeExecute 3) pinPushed with | .next t => t.dev | _ => dev0 }

/-- States and operands that meet the hypotheses of `Obligations.ChuckReads`, clause by clause. -/
theorem wit_ChuckReads :
    (∃ (s : State) (n : Fin 512) (m : Nat), s.dev.chanOn n = true ∧ s.dev.isGrave bSMP = false ∧
      s.dev.chanTrig n = 1 ∧ (s.dev.chan n).due = none ∧
      m + 1 = Dev.instantsIn (s.dev.chanTime n) (max 1 (s.dev.word (Reg.SMP_CH_TRIG_A (n / 16) (n % 16))).toNat * 65536) (s.dev.chan n).trigAt s.dev.now)
  ∧ (∃ (s : State) (n : Fin 512) (m : Nat), s.dev.chanOn n = true ∧ s.dev.isGrave bSMP = false ∧
      s.dev.chanTrig n = 3 ∧ (s.dev.chan n).due = none ∧ s.dev.angOk (s.dev.chanDom n) = true ∧
      (s.dev.chan n).restart = false ∧
      m + 1 = (Dev.stepCount (s.dev.get (Reg.SMP_CH_TRIG_B.START (n / 16) (n % 16))) ((s.dev.word (Reg.SMP_CH_TRIG_A (n / 16) (n % 16))).toNat % 16777216) (s.dev.pubAngle (s.dev.chanDom n)) - Dev.stepCount (s.dev.get (Reg.SMP_CH_TRIG_B.START (n / 16) (n % 16))) ((s.dev.word (Reg.SMP_CH_TRIG_A (n / 16) (n % 16))).toNat % 16777216) (s.dev.chan n).stepAt).toNat)
  ∧ (∃ (s : State) (n : Fin 512), s.dev.chkOn (n / 16) = true ∧
      s.dev.hostRefused (Reg.SMP_CH_TIME_HI (n / 16) (n % 16)) = false)
  ∧ (∃ (s : State) (k : Fin 32) (e : _) (q : _) (q' : _), s.dev.chkOn k = true ∧
      s.dev.bit (Reg.SMP_PORT_CFG.EN k) = true ∧ s.dev.isGrave bSMP = false ∧ (s.dev.chk k).txn = none ∧
      (s.dev.chk k).endUp ≤ s.dev.up ∧ (s.dev.chk k).cmds = q ++ e :: q' ∧ (q.any s.dev.cmdDue) = false ∧
      s.dev.cmdDue e = true)
  ∧ (∃ (s : State) (k : Fin 32) (cs : _) (ns : _), s.dev.chkOn k = true ∧
      s.dev.bit (Reg.SMP_PORT_CFG.EN k) = true ∧ s.dev.isGrave bSMP = false ∧ (s.dev.chk k).txn = none ∧
      (s.dev.chk k).endUp ≤ s.dev.up ∧ ((s.dev.chk k).cmds.any s.dev.cmdDue) = false ∧
      s.dev.nextRead k = some (cs, ns))
  ∧ (∃ (s : State) (k : Fin 32) (cs : Fin 4) (w32 : Bool) (w : Nat), s.dev.chkOn k = true ∧
      (s.dev.chk k).bitsUp ≤ s.dev.up ∧ (s.dev.chk k).txn = some (.command cs w32 w))
  ∧ (∃ (s : State) (k : Fin 32) (words : List Nat) (cs : Nat) (st : Nat) (a : Nat) (w : Nat) (v : Int) (i : Fin 16), s.dev.chkOn k = true ∧
      (s.dev.chk k).bitsUp ≤ s.dev.up ∧ (s.dev.chk k).txn = some (.read cs [(i.val, a)] st) ∧
      s.dev.chanOn (16 * k + i) = true ∧ s.dev.get (Reg.SMP_CH_FILT.CIC_N k i) = 0 ∧
      s.dev.bit (Reg.SMP_CH_FILT.FIR_EN k i) = false ∧
      w = Dev.widthBits (s.dev.get (Reg.SMP_CH_CFG.WIDTH k i)) ∧
      v = (if s.dev.bit (Reg.SMP_CH_CFG.SIGNED k i) then toSigned w (words.getD (s.dev.get (Reg.SMP_CH_CFG.SLOT k i)) 0 % 2 ^ w) else (words.getD (s.dev.get (Reg.SMP_CH_CFG.SLOT k i)) 0 % 2 ^ w : Nat) - 2 ^ (w - 1)))
  ∧ (∃ (s : State) (n : Fin 512) (a : Nat) (q : List Nat), (s.dev.chan n).capQ = a :: q ∧
      ((s.dev.chn 0).waits.filter fun a => a.owner == .capture n).length + ((s.dev.chn 1).waits.filter fun a => a.owner == .capture n).length < q.length + 1) :=
  ⟨⟨chan18 (·.modChan 18 fun x => { x with trigAt := dev0.now - 3000 * 65536 }), 18, 2, by decide +kernel⟩,
   ⟨chan18 fun d => (((d.put (Reg.SMP_CH_CFG.TRIG 1 2) 3).setWord (Reg.SMP_CH_TRIG_A 1 2) 0x400000).put (Reg.ANG_STATE.STATE 0) 2).setAng 0 { ({} : AngDom) with pub := 0x900000 }, 18, 1, by decide +kernel⟩,
   ⟨run0, 18, by decide +kernel⟩,
   ⟨chan18 (·.modChk 1 fun x => { x with cmds := [{ cs := 2, w32 := false, word := 0x1234, target := .atOnce }] }), 1, { cs := 2, w32 := false, word := 0x1234, target := .atOnce }, [], [], by decide +kernel⟩,
   ⟨chanDue, 1, 0, [18], by decide +kernel⟩,
   ⟨mk fun d => d.modChk 1 fun x => { x with txn := some (.command 2 false 0x1234) }, 1, 2, false, 0x1234, by decide +kernel⟩,
   ⟨chanRead, 1, [0x9000], 0, dev0.now, (((chanRead.dev.chk 1).txn.bind fun t => match t with | .read _ [(_, a)] _ => some a | _ => none).getD 0), Dev.widthBits (chanRead.dev.get (Reg.SMP_CH_CFG.WIDTH 1 2)), (0x9000 % 2 ^ Dev.widthBits (chanRead.dev.get (Reg.SMP_CH_CFG.WIDTH 1 2)) : Nat) - 2 ^ (Dev.widthBits (chanRead.dev.get (Reg.SMP_CH_CFG.WIDTH 1 2)) - 1), 2, by decide +kernel⟩,
   ⟨mk (·.modChan 18 fun x => { x with capQ := [5, 6] }), 18, 5, [6], by decide +kernel⟩⟩

/-- States and operands that meet the hypotheses of `Obligations.CommandsAndPins`, clause by clause. -/
theorem wit_CommandsAndPins :
    (∃ (s : State) (k : Fin 32) (v : Word), s.dev.chkOn k = true ∧
      s.dev.hostRefused (Reg.SMP_CMD_CTL k) = false ∧ s.dev.isGrave bSMP = false ∧ wbit v 31 = true ∧
      (wfld v 29 2 = 0 ∨ wfld v 29 2 = 3) ∧ (s.dev.chk k).safeDoms = [] ∧ (s.dev.chk k).cmds.length < 16)
  ∧ (∃ (s : State) (k : Fin 32), s.dev.chkOn k = true)
  ∧ (∃ (s : State) (k : Fin 32) (v : Word), s.dev.chkOn k = true ∧
      s.dev.hostRefused (Reg.SMP_FIR_CTL k) = false ∧ wbit v 0 = true)
  ∧ (∃ (s : State) (p : Fin 32) (v : Word), s.dev.blockOn bSCR = true ∧
      s.dev.hostRefused (Reg.SCR_EDGE_CTL p) = false ∧ s.dev.scrGrave = false ∧ wbit v 31 = true ∧
      (wfld v 28 2 = 0 ∨ wfld v 28 2 = 3) ∧ (s.dev.pin p).queue.length < 2)
  ∧ (∃ (s : State) (p : Fin 32) (e : Edge) (rest : List Edge), s.dev.blockOn bSCR = true ∧
      s.dev.scrGrave = false ∧ (s.dev.pin p).queue = e :: rest ∧ s.dev.edgeGap p = true ∧
      s.dev.edgeDue e = true)
  ∧ (∃ (s : State) (p : Fin 32) (l : Bool) (pad : Bool), s.dev.blockOn bSCR = true ∧ s.dev.pinLevel p = some l ∧
      l ≠ pad) :=
  ⟨⟨chan18 id, 1, 0x82000000, by decide +kernel⟩,
   ⟨run0, 1, by decide +kernel⟩,
   ⟨run0, 1, 1, by decide +kernel⟩,
   ⟨mk (·.put (Reg.SCR_PIN_CFG.EN 3) 1), 3, 0xC0000000, by decide +kernel⟩,
   ⟨pinPushed, 3, ⟨true, .atOnce⟩, [], by decide +kernel⟩,
   ⟨pinHigh, 3, true, false, by decide +kernel⟩⟩

/-- Cell 9 idle on pair 40, just released. -/
def cellOn40 (f : Dev → Dev) : State :=
  mk fun d => f ((((((d.put (Reg.CEL_STAT.STATE 9) celIdle).put (Reg.CEL_STAT.PAIR 9) 40).put (Reg.CEL_PAIR_STAT.STATE 40) 1).put
    (Reg.CEL_PAIR_STAT.CELL 40) 9).put (Reg.CEL_CFG.EN 9) 1).modCell 9 fun x => { x with relUp := some d.up, prevUp := some d.up })

/-- Cell 9's pair too warm. -/
def cellWarm : State :=
  cellOn40 fun d => ((d.put Reg.PLC_POLICY.MODE 1).put (Reg.PLC_GRP_TEMP.TEMP 10) 126).put Reg.PLC_POLICY.TEMP_LO 50

/-- Bank 5 being evacuated, a frame of two granules in it. -/
def evacuating : State :=
  { dev := match exec (.evacStart 5) (mk fun d => (d.put (Reg.PLC_OWNER_BANKS.BANKS 3) 0xFF).setFrame 7
        { data := frameOf5 300, owner := .queue 3, granules := [5 * 2048, 6 * 2048], copies := 1 }) with
      | .next t => t.dev | _ => dev0 }

/-- Job 33 idle on Tackle A, its pin naming Tackle B. -/
def jobPinned : State :=
  mk fun d => ((((((d.put Reg.PLC_POLICY.MODE 1).put (Reg.PLC_PIN_A.EN 2) 1).put (Reg.PLC_PIN_A.KIND 2) 3).put (Reg.PLC_PIN_A.ITEM 2) 33).put
    (Reg.PLC_PIN_B.TARGET 2) 1).placeJob 33 0 5).put (Dev.doneFld 0 33) 1

/-- States and operands that meet the hypotheses of `Obligations.RiggerMoves`, clause by clause. -/
theorem wit_RiggerMoves :
    (∃ (s : State) (c : Fin 64) (item : Fin 643) (p : Nat), s.dev.blockOn bPLC = true ∧ item.val = c.val ∧
      s.dev.mayPlan = true ∧ s.dev.planTarget c = some p ∧ s.dev.moveBoundary c = true ∧
      s.dev.celPair c < 68 ∧ s.dev.celPair c ≠ p)
  ∧ (∃ (s : State) (c : Fin 64) (p : Nat), s.dev.blockOn bPLC = true ∧ s.dev.mayPlan = true ∧
      s.dev.moveBoundary c = true ∧ s.dev.celPair c < 68 ∧ s.dev.celPair c ≠ p ∧
      s.dev.tempHi ≤ s.dev.grpTemp (s.dev.celPair c / 4) ∧ s.dev.pinTarget 0 c = none ∧
      s.dev.coolest ((List.range 68).filter fun p => s.dev.moveFits c p) = some p)
  ∧ (∃ (s : State) (j : Fin 64) (item : Fin 643) (u : Nat) (ch : Nat), s.dev.blockOn bPLC = true ∧
      item.val = j.val ∧ s.dev.mayPlan = true ∧ s.dev.pinTarget 3 j = some u ∧ u < 2 ∧
      s.dev.jobUnit j = 1 - u ∧ s.dev.jobPlace j = 1 ∧ s.dev.jobIdle j = true ∧ s.dev.freeChan u = some ch ∧
      s.dev.domOn (Dev.unitDom u) = true)
  ∧ (∃ (s : State) (k : Fin 32), k.val < 24 ∧ s.dev.blockOn bPLC = true ∧
      s.dev.hostRefused Reg.PLC_EVAC = false ∧ s.dev.plc.evac = none ∧
      (s.dev.plc.evacWait.any fun e => e.1 == k.val) = false ∧ s.dev.evacAllowed k = true)
  ∧ (∃ (s : State) (d : Fin 16384) (k : Nat) (cause : Nat) (m : Nat) (gs : List Nat) (next : Nat), s.dev.blockOn bPLC = true ∧
      s.dev.plc.evac = some (k, cause) ∧ ((s.dev.frameOf d).granules.any fun g => g / 2048 == k) = true ∧
      (s.dev.frameOf d).started = false ∧ (s.dev.frameOf d).since + 10000000 ≤ s.dev.up ∧
      m = (if s.dev.bankSet (s.dev.frameOf d).owner.key &&& s.dev.openMask = 0 then s.dev.openMask else s.dev.bankSet (s.dev.frameOf d).owner.key &&& s.dev.openMask) ∧
      pickGranules s.dev.usedGranules m (Tab.get (fun _ => 0) s.dev.bankNext (s.dev.frameOf d).owner.key) (s.dev.frameOf d).granules.length = (gs, next) ∧
      gs.length = (s.dev.frameOf d).granules.length)
  ∧ (∃ (s : State) (k : Fin 32), k.val < 24 ∧ s.dev.blockOn bPLC = true ∧
      s.dev.hostRefused Reg.PLC_EVAC = false ∧ s.dev.bankIn k = false ∧ s.dev.plc.evacWait = [] ∧
      s.dev.plc.faulty.testBit k = false ∧ s.dev.domOn (19 + k) = true)
  ∧ (∃ (s : State) (d : Fin 80), s.dev.blockOn bPLC = true ∧ s.dev.cycling 1 d = false ∧ s.dev.powerEn = true ∧
      s.dev.plcFrozen = false ∧ Dev.riggerDom d = true ∧ s.dev.domOn d = true ∧ s.dev.pinTarget 4 d = none ∧
      s.dev.domEmpty d = true) :=
  ⟨⟨cellOn40 (·.put Reg.PLC_POLICY.MODE 1), 9, 9, ((cellOn40 (·.put Reg.PLC_POLICY.MODE 1)).dev.planTarget 9).get (by decide +kernel), by decide +kernel⟩,
   ⟨cellWarm, 9, (cellWarm.dev.coolest ((List.range 68).filter fun p => cellWarm.dev.moveFits 9 p)).get (by decide +kernel), by decide +kernel⟩,
   ⟨jobPinned, 33, 33, 1, 0, by decide +kernel⟩,
   ⟨run0, 5, by decide +kernel⟩,
   ⟨evacuating, 7, 5, causeSoftware, (evacuating.dev.bankSet 3 &&& evacuating.dev.openMask), (pickGranules evacuating.dev.usedGranules (evacuating.dev.bankSet 3 &&& evacuating.dev.openMask) (Tab.get (fun _ => 0) evacuating.dev.bankNext 3) 2).1, (pickGranules evacuating.dev.usedGranules (evacuating.dev.bankSet 3 &&& evacuating.dev.openMask) (Tab.get (fun _ => 0) evacuating.dev.bankNext 3) 2).2, by decide +kernel⟩,
   ⟨mk (·.put ⟨Reg.FRM_BANK_STATE, 5, 1⟩ 0), 5, by decide +kernel⟩,
   ⟨mk (·.put Reg.PLC_POLICY.POWER_EN 1), 50, by decide +kernel⟩⟩

/-- The octets of an Odeivo request. -/
def request (op idx sub len off : Nat) (data : List Octet) : List Octet :=
  octetsBE 1 1 ++ octetsBE 1 op ++ octetsBE 2 77 ++ octetsBE 2 0 ++ octetsBE 2 idx ++ octetsBE 1 sub ++ octetsBE 1 0 ++
    octetsBE 2 len ++ octetsBE 4 off ++ data

/-- A request of mailbox 1. -/
def mboxReq (op idx sub len off : Nat) (data : List Octet) : DctReq :=
  { src := 9, data := padTo 1040 (request op idx sub len off data) }

/-- It waiting in the Dictionary's queue. -/
def mbox (q : DctReq) (f : Dev → Dev := id) : State :=
  mk fun d => (f (d.put (Reg.DCT_MBOX_CTL.GO 1) 1)).modDct fun x => { x with queue := [q] }

/-- The Dictionary with the request taken. -/
def taken (s : State) : Dev := s.dev.fresh.modDct fun d => { d with queue := [] }

/-- A staged value. -/
def staging (d : Dev) : Dev := d.modDct fun x => { x with staged := [⟨0x4005, 4, [0, 0, 0, 0x0F]⟩] }

/-- A frame that carries a READ. -/
def odeivoFrame : List Octet :=
  octetsBE 6 0x112233445566 ++ octetsBE 6 0x0A0B0C0D0E0F ++ octetsBE 2 (dev0.get Reg.DCT_CFG.ETYPE) ++
    padTo 50 (request 1 0x1010 1 0 0 [])

/-- A WRITE repeated by another client. -/
def dupReq : DctReq := { src := 3, data := request 2 0x1010 2 1 0 [5], sa := 0x112233445566 }

/-- A commit's check under way. -/
def checking (x : List Stg) : State :=
  mk (·.modDct fun d => { d with staged := x, check := some (mboxReq 5 0 0 0 0 [], none) })

/-- A staged value that the admission check refuses. -/
def refused : State := checking [⟨0x1100, 1, [0xFF, 0xFF, 0xFF, 0xFF]⟩]

/-- A value waiting for its commit point. -/
def waitingValue : State := mk (·.modDct fun d => { d with waiting := [⟨0x1010, 2, [0x0F]⟩] })

/-- States and operands that meet the hypotheses of `Obligations.DictionaryOperations`, clause by clause. -/
theorem wit_DictionaryOperations :
    (∃ (s : State) (p : Fin 8) (data : List Octet), s.dev.isOdeivo p data = true ∧
      16 ≤ (s.dev.frameReq p data).data.length ∧ fieldBE (s.dev.frameReq p data).data 0 1 = 1 ∧
      s.dev.dct.queue.length < 32)
  ∧ (∃ (s : State) (p : Fin 8) (data : List Octet), s.dev.isOdeivo p data = true ∧
      16 ≤ (s.dev.frameReq p data).data.length ∧ fieldBE (s.dev.frameReq p data).data 0 1 = 1 ∧
      32 ≤ s.dev.dct.queue.length)
  ∧ (∃ (s : State) (m : Fin 2), s.dev.blockOn bDCT = true ∧ s.dev.hostRefused (Reg.DCT_MBOX_CTL m) = false ∧
      s.dev.bit (Reg.DCT_MBOX_CTL.GO m) = false ∧ (s.dev.word (Reg.DCT_MBOX m 0)).toNat / 2 ^ 24 = 1)
  ∧ (∃ (s : State) (u : Dev) (q : DctReq) (rest : List DctReq) (o : Obj), s.dev.blockOn bDCT = true ∧
      s.dev.dct.queue = q :: rest ∧ s.dev.dct.check = none ∧
      u = s.dev.fresh.modDct (fun d => { d with queue := rest }) ∧ u.dupOf q = none ∧
      u.reqStatus (u.reqRights q) q = 0 ∧ u.objOf q.index q.sub = some o ∧ q.op = 1)
  ∧ (∃ (s : State) (u : Dev) (q : DctReq) (rest : List DctReq) (o : Obj), s.dev.blockOn bDCT = true ∧
      s.dev.dct.queue = q :: rest ∧ s.dev.dct.check = none ∧
      u = s.dev.fresh.modDct (fun d => { d with queue := rest }) ∧ u.dupOf q = none ∧
      u.reqStatus (u.reqRights q) q = 0 ∧ u.objOf q.index q.sub = some o ∧ q.op = 2 ∧ o.kind ≠ .command)
  ∧ (∃ (s : State) (u : Dev) (q : DctReq) (rest : List DctReq) (o : Obj), s.dev.blockOn bDCT = true ∧
      s.dev.dct.queue = q :: rest ∧ s.dev.dct.check = none ∧
      u = s.dev.fresh.modDct (fun d => { d with queue := rest }) ∧ u.dupOf q = none ∧
      u.reqStatus (u.reqRights q) q = 0 ∧ u.objOf q.index q.sub = some o ∧ q.op = 3)
  ∧ (∃ (s : State) (u : Dev) (q : DctReq) (rest : List DctReq) (o : Obj), s.dev.blockOn bDCT = true ∧
      s.dev.dct.queue = q :: rest ∧ s.dev.dct.check = none ∧
      u = s.dev.fresh.modDct (fun d => { d with queue := rest }) ∧ u.dupOf q = none ∧
      u.reqStatus (u.reqRights q) q = 0 ∧ u.objOf q.index q.sub = some o ∧ q.op = 4)
  ∧ (∃ (s : State) (u : Dev) (q : DctReq) (rest : List DctReq) (o : Obj) (b : _) (k : _) (inst : _), s.dev.blockOn bDCT = true ∧
      s.dev.dct.queue = q :: rest ∧ s.dev.dct.check = none ∧
      u = s.dev.fresh.modDct (fun d => { d with queue := rest }) ∧ u.dupOf q = none ∧
      u.reqStatus (u.reqRights q) q = 0 ∧ u.objOf q.index q.sub = some o ∧ q.op = 7 ∧
      o.kind = .table b k inst)
  ∧ (∃ (s : State) (u : Dev) (q : DctReq) (rest : List DctReq) (o : Obj) (b : _) (k : _) (inst : _), s.dev.blockOn bDCT = true ∧
      s.dev.dct.queue = q :: rest ∧ s.dev.dct.check = none ∧
      u = s.dev.fresh.modDct (fun d => { d with queue := rest }) ∧ u.dupOf q = none ∧
      u.reqStatus (u.reqRights q) q = 0 ∧ u.objOf q.index q.sub = some o ∧ q.op = 8 ∧
      o.kind = .table b k inst ∧ (k = 5 → s.dev.chkOn inst = true))
  ∧ (∃ (s : State) (u : Dev) (q : DctReq) (rest : List DctReq), s.dev.blockOn bDCT = true ∧
      s.dev.dct.queue = q :: rest ∧ s.dev.dct.check = none ∧
      u = s.dev.fresh.modDct (fun d => { d with queue := rest }) ∧ q.op = 6 ∧ u.dupOf q = none ∧
      u.reqStatus (u.reqRights q) q = 0)
  ∧ (∃ (s : State) (u : Dev) (q : DctReq) (rest : List DctReq) (n : _) (m : _), s.dev.blockOn bDCT = true ∧
      s.dev.dct.queue = q :: rest ∧ s.dev.dct.check = none ∧
      u = s.dev.fresh.modDct (fun d => { d with queue := rest }) ∧ m < 2 ∧ q.op = 1 ∧ q.src = 8 + m ∧
      u.reqStatus 1 q = n ∧ n ≠ 0 ∧ n ≠ 9)
  ∧ (∃ (s : State) (u : Dev) (q : DctReq) (rest : List DctReq) (d : _), s.dev.blockOn bDCT = true ∧
      s.dev.dct.queue = q :: rest ∧ s.dev.dct.check = none ∧
      u = s.dev.fresh.modDct (fun d => { d with queue := rest }) ∧ q.op = 2 ∧ u.dupOf q = some d) :=
  ⟨⟨mk (·.put Reg.DCT_CFG.PORTS 255), 3, odeivoFrame, by decide +kernel⟩,
   ⟨mk fun d => (d.put Reg.DCT_CFG.PORTS 255).modDct fun x => { x with queue := List.replicate 32 { src := 9, data := [] } }, 3, odeivoFrame, by decide +kernel⟩,
   ⟨mk (·.setWord (Reg.DCT_MBOX 1 0) 0x01010203), 1, by decide +kernel⟩,
   ⟨mbox (mboxReq 1 0x1010 1 0 0 []), taken (mbox (mboxReq 1 0x1010 1 0 0 [])), (mboxReq 1 0x1010 1 0 0 []), [], ((taken (mbox (mboxReq 1 0x1010 1 0 0 []))).objOf (mboxReq 1 0x1010 1 0 0 []).index (mboxReq 1 0x1010 1 0 0 []).sub).get (by decide +kernel), by decide +kernel⟩,
   ⟨mbox (mboxReq 2 0x4005 4 4 0 [0, 0, 0, 0x0F]), taken (mbox (mboxReq 2 0x4005 4 4 0 [0, 0, 0, 0x0F])), (mboxReq 2 0x4005 4 4 0 [0, 0, 0, 0x0F]), [], ((taken (mbox (mboxReq 2 0x4005 4 4 0 [0, 0, 0, 0x0F]))).objOf (mboxReq 2 0x4005 4 4 0 [0, 0, 0, 0x0F]).index (mboxReq 2 0x4005 4 4 0 [0, 0, 0, 0x0F]).sub).get (by decide +kernel), by decide +kernel⟩,
   ⟨mbox (mboxReq 3 0x4005 4 0 0 []) staging, taken (mbox (mboxReq 3 0x4005 4 0 0 []) staging), (mboxReq 3 0x4005 4 0 0 []), [], ((taken (mbox (mboxReq 3 0x4005 4 0 0 []) staging)).objOf (mboxReq 3 0x4005 4 0 0 []).index (mboxReq 3 0x4005 4 0 0 []).sub).get (by decide +kernel), by decide +kernel⟩,
   ⟨mbox (mboxReq 4 0x1010 2 0 0 []), taken (mbox (mboxReq 4 0x1010 2 0 0 [])), (mboxReq 4 0x1010 2 0 0 []), [], ((taken (mbox (mboxReq 4 0x1010 2 0 0 []))).objOf (mboxReq 4 0x1010 2 0 0 []).index (mboxReq 4 0x1010 2 0 0 []).sub).get (by decide +kernel), by decide +kernel⟩,
   ⟨mbox (mboxReq 7 0x1060 1 8 16 []), taken (mbox (mboxReq 7 0x1060 1 8 16 [])), (mboxReq 7 0x1060 1 8 16 []), [], ((taken (mbox (mboxReq 7 0x1060 1 8 16 []))).objOf (mboxReq 7 0x1060 1 8 16 []).index (mboxReq 7 0x1060 1 8 16 []).sub).get (by decide +kernel), bFRM, 1, 0, by decide +kernel⟩,
   ⟨mbox (mboxReq 8 0x4020 61 8 16 (octetsBE 8 0x0102030405060708)), taken (mbox (mboxReq 8 0x4020 61 8 16 (octetsBE 8 0x0102030405060708))), (mboxReq 8 0x4020 61 8 16 (octetsBE 8 0x0102030405060708)), [], ((taken (mbox (mboxReq 8 0x4020 61 8 16 (octetsBE 8 0x0102030405060708)))).objOf (mboxReq 8 0x4020 61 8 16 (octetsBE 8 0x0102030405060708)).index (mboxReq 8 0x4020 61 8 16 (octetsBE 8 0x0102030405060708)).sub).get (by decide +kernel), bSMP, 5, 2, by decide +kernel⟩,
   ⟨mbox (mboxReq 6 0 0 0 0 []) staging, taken (mbox (mboxReq 6 0 0 0 0 []) staging), (mboxReq 6 0 0 0 0 []), [], by decide +kernel⟩,
   ⟨mbox (mboxReq 1 0x1010 9 0 0 []), taken (mbox (mboxReq 1 0x1010 9 0 0 [])), (mboxReq 1 0x1010 9 0 0 []), [], (taken (mbox (mboxReq 1 0x1010 9 0 0 []))).reqStatus 1 (mboxReq 1 0x1010 9 0 0 []), 1, by decide +kernel⟩,
   ⟨mk fun d => d.modDct fun x => { x with queue := [dupReq], dups := [⟨0x112233445566, 77, 0, [], d.up - 5⟩] }, taken (mk fun d => d.modDct fun x => { x with queue := [dupReq], dups := [⟨0x112233445566, 77, 0, [], d.up - 5⟩] }), dupReq, [], ⟨0x112233445566, 77, 0, [], dev0.up - 5⟩, by decide +kernel⟩⟩

/-- States and operands that meet the hypotheses of `Obligations.DictionaryCommits`, clause by clause. -/
theorem wit_DictionaryCommits :
    (∃ (s : State) (u : Dev) (q : DctReq) (rest : List DctReq), s.dev.blockOn bDCT = true ∧
      s.dev.dct.queue = q :: rest ∧ s.dev.dct.check = none ∧
      u = s.dev.fresh.modDct (fun d => { d with queue := rest }) ∧ u.dupOf q = none ∧ q.op = 5 ∧
      u.reqRights q ≠ 0)
  ∧ (∃ (s : State) (q : DctReq) (m : Nat), m < 2 ∧ s.dev.blockOn bDCT = true ∧
      s.dev.dct.check = some (q, none) ∧ q.op = 5 ∧ q.src = 8 + m ∧ s.dev.fresh.admissionCheck = none)
  ∧ (∃ (s : State) (q : DctReq) (m : Nat) (r : Refused) (k : Nat), m < 2 ∧ s.dev.blockOn bDCT = true ∧
      s.dev.dct.check = some (q, none) ∧ q.op = 5 ∧ q.src = 8 + m ∧ s.dev.fresh.admissionCheck = some r ∧
      r.reg = some k ∧
      k ∈ [Reg.FRM_ADMIT, Reg.GTE_ADMIT, Reg.STM_ADMIT, Reg.SHD_ADMIT, Reg.CEL_ADMIT, Reg.SMP_ADMIT, Reg.PLC_ADMIT, Reg.AUT_ADMIT, Reg.MEM_ADMIT])
  ∧ (∃ (s : State) (pt : CommitPoint) (sub : Nat) (v : List Octet) (f : Fld), s.dev.blockOn bDCT = true ∧
      (sub, f) ∈ [(1, Reg.DCT_CFG.ETYPE), (2, Reg.DCT_CFG.PORTS), (3, Reg.DCT_CFG.OPEN)] ∧
      (s.dev.dct.waiting.filter fun g => s.dev.dueAtPoint pt g.index && !s.dev.waitsForDomain g) = [⟨0x1010, sub, v⟩])
  ∧ (∃ (s : State) (pt : CommitPoint), s.dev.blockOn bDCT = true ∧
      (s.dev.dct.waiting.filter fun g => s.dev.dueAtPoint pt g.index && !s.dev.waitsForDomain g) = []) :=
  ⟨⟨mbox (mboxReq 5 0 0 0 0 []) staging, taken (mbox (mboxReq 5 0 0 0 0 []) staging), (mboxReq 5 0 0 0 0 []), [], by decide +kernel⟩,
   ⟨checking [⟨0x4005, 4, [0, 0, 0, 0x0F]⟩], mboxReq 5 0 0 0 0 [], 1, by decide +kernel⟩,
   ⟨refused, mboxReq 5 0 0 0 0 [], 1, refused.dev.fresh.admissionCheck.get (by decide +kernel), (refused.dev.fresh.admissionCheck.get (by decide +kernel)).reg.getD 0, by decide +kernel⟩,
   ⟨waitingValue, .immediate, 2, [0x0F], Reg.DCT_CFG.PORTS, by decide +kernel⟩,
   ⟨waitingValue, .angle 3, by decide +kernel⟩⟩

/-- Client 5 with a key and rights; the key is that of the examples of the AES-CMAC standard. -/
def clientDev : Dev :=
  let d := ((dev0.put (Reg.AUT_CL_CFG.STATE 5) 1).put (Reg.AUT_CL_CFG.KEY_GEN 5) 3).put (Reg.AUT_CL_CFG.RIGHTS 5) 0x3FF
  { d.put Reg.AUT_CFG.DEV_ADDR 0x1234 with keys := [(5, 0x2B7E151628AED2A6ABF7158809CF4F3C)] }

/-- What client 5 signs: a WRITE of one value, its counter 9. -/
def critHead : List Octet :=
  octetsBE 2 0x3005 ++ octetsBE 2 0x1234 ++ octetsBE 6 9 ++ request 2 0x1010 2 1 0 [0x0F]

/-- The signed request. -/
def critReq (tag : Nat) : DctReq :=
  mboxReq 9 0 0 (critHead.length + 8) 0 (critHead ++ octetsBE 8 tag)

/-- The mailbox with client 5's request. -/
def critState (q : DctReq) (last : Nat) : State :=
  { dev := ((clientDev.put (Reg.DCT_MBOX_CTL.GO 1) 1).setClientLast 5 last).modDct fun x => { x with queue := [q] } }

/-- The tag of what client 5 signs. -/
def critTag : Nat := Aes.cmac 0x2B7E151628AED2A6ABF7158809CF4F3C (clientDev.bootIdOctets ++ critHead) / 2 ^ 64

/-- States and operands that meet the hypotheses of `Obligations.CriticalCommands`, clause by clause. -/
theorem wit_CriticalCommands :
    (∃ (s : State) (u : Dev) (q : DctReq) (rest : List DctReq) (c : _), s.dev.blockOn bDCT = true ∧
      s.dev.dct.queue = q :: rest ∧ s.dev.dct.check = none ∧
      u = s.dev.fresh.modDct (fun d => { d with queue := rest }) ∧ u.dupOf q = none ∧ q.op = 9 ∧
      q.beyond = false ∧ 34 ≤ q.length ∧ q.src < 10 ∧ u.critOuter q.body = some c)
  ∧ (∃ (s : State) (u : Dev) (q : DctReq) (rest : List DctReq) (v : Dev) (o : Obj), s.dev.blockOn bDCT = true ∧
      s.dev.dct.queue = q :: rest ∧ s.dev.dct.check = none ∧
      u = s.dev.fresh.modDct (fun d => { d with queue := rest }) ∧ u.dupOf q = none ∧ q.op = 9 ∧
      q.beyond = false ∧ 34 ≤ q.length ∧ q.src < 10 ∧ u.critOuter q.body = none ∧
      fieldBE q.body 4 6 ≠ 2 ^ 48 - 1 ∧
      v = (u.setClientLast (fieldBE q.body 0 2 % 4096) (fieldBE q.body 4 6)).inc Reg.AUT_OK_CNT.COUNT ∧
      (u.setClientLast (fieldBE q.body 0 2 % 4096) (fieldBE q.body 4 6)).critInner q.body = none ∧
      (Dev.innerReq q).op = 2 ∧ v.reqStatus 2 (Dev.innerReq q) = 0 ∧
      v.objOf (Dev.innerReq q).index (Dev.innerReq q).sub = some o ∧ o.kind ≠ .command)
  ∧ (∃ (s : State), s.dev.blockOn bAUT = true ∧ s.dev.hostRefused Reg.AUT_TEST_CTL = false ∧
      s.dev.bit Reg.AUT_TEST_CTL.START = false)
  ∧ (∃ (s : State), s.dev.blockOn bAUT = true ∧ s.dev.bit Reg.AUT_TEST_CTL.START = true) :=
  ⟨⟨critState (critReq 1) 9, taken (critState (critReq 1) 9), critReq 1, [], ((taken (critState (critReq 1) 9)).critOuter (critReq 1).body).get (by decide +kernel), by decide +kernel⟩,
   ⟨critState (critReq critTag) 8, (taken (critState (critReq critTag) 8)), critReq critTag, [], ((taken (critState (critReq critTag) 8)).setClientLast 5 9).inc Reg.AUT_OK_CNT.COUNT, ((((taken (critState (critReq critTag) 8)).setClientLast 5 9).inc Reg.AUT_OK_CNT.COUNT).objOf (Dev.innerReq (critReq critTag)).index (Dev.innerReq (critReq critTag)).sub).get (by decide +kernel), by decide +kernel⟩,
   ⟨run0, by decide +kernel⟩,
   ⟨mk (·.put Reg.AUT_TEST_CTL.START 1), by decide +kernel⟩⟩

/-- Job 5 placed on channel 3 of unit 1, 100 octets to move. -/
def job5 (f : Dev → Dev) : State :=
  mk fun d => f ((((((((d.setWord Reg.DMA_JOB_EN_LO 0x20).put (Reg.PLC_JOB_MAP.STATE 5) 1).put (Reg.PLC_JOB_MAP.UNIT 5) 1).put
    (Reg.PLC_JOB_MAP.CHAN 5) 3).put (Reg.DMA_CNT.CNT 5) 100).put (Reg.DMA_SRC_LO.ADDR 5) 0x1000).put (Reg.DMA_DST_LO.ADDR 5) 0x2010))

/-- The job started, host to host, the link up. -/
def jobRunning (f : Dev → Dev) : State :=
  match exec (.dmaStart 1 5 0x94008400) (job5 id) with
  | .next r => { r with dev := f ((r.dev.put Reg.GLB_PCIE_STAT.LINK_UP 1).put Reg.GLB_PCIE_STAT.BUS_MASTER 1) }
  | _ => run0

/-- The job running from the DRAM to the DRAM. -/
def jobDram : State :=
  job5 fun d => ((((d.put (Reg.MEM_CH_STAT.STATE 0) 2).put (Reg.MEM_CH_STAT.STATE 1) 2).put (Reg.DMA_STAT.STATE 5) 1).setWord
    (Reg.DMA_CTL 5) 0x04000400).setJob 5 { total := 100 }

/-- The job running from an empty frame queue. -/
def jobFrame : State :=
  job5 fun d => ((d.put (Reg.DMA_STAT.STATE 5) 1).setWord (Reg.DMA_CTL 5) 0x24000400).setJob 5 { total := 100 }

/-- The octets of the job's next burst. -/
def burstOf (d : Dev) : Nat :=
  min (min (16 * 2 ^ min 4 (d.get (Reg.DMA_CTL.BURST 5))) ((d.job 5).total - (d.job 5).issued))
    (min ((d.srcSide 5).len (d.job 5).total - (d.job 5).issued % (d.srcSide 5).len (d.job 5).total)
      ((d.dstSide 5).len (d.job 5).total - (d.job 5).issued % (d.dstSide 5).len (d.job 5).total))

/-- States and operands that meet the hypotheses of `Obligations.DmaJobs`, clause by clause. -/
theorem wit_DmaJobs :
    (∃ (s : State) (u : Fin 2) (hi : Bool) (i : Fin 32) (key : Nat) (j : Nat) (c : _), key = (if hi then Reg.DMA_JOB_EN_HI else Reg.DMA_JOB_EN_LO) ∧
      j = i + (if hi then 32 else 0) ∧ s.dev.blockOn (bDMA u) = true ∧ s.dev.hostRefused key = false ∧
      wbit (s.dev.word key) i = false ∧ (s.dev.job j).removing = false ∧
      s.dev.freeChan (s.dev.chooseUnit j) = some c ∧
      s.dev.domOn (Dev.unitDom (s.dev.chooseUnit j)) = true)
  ∧ (∃ (s : State) (u : Fin 2) (hi : Bool) (i : Fin 32) (key : Nat) (j : Nat) (c : _), key = (if hi then Reg.DMA_JOB_EN_HI else Reg.DMA_JOB_EN_LO) ∧
      j = i + (if hi then 32 else 0) ∧ s.dev.blockOn (bDMA u) = true ∧ s.dev.hostRefused key = false ∧
      wbit (s.dev.word key) i = false ∧ (s.dev.job j).removing = false ∧
      s.dev.freeChan (s.dev.chooseUnit j) = some c ∧
      s.dev.domOn (Dev.unitDom (s.dev.chooseUnit j)) = false)
  ∧ (∃ (s : State) (u : Fin 2) (hi : Bool) (i : Fin 32) (key : Nat) (j : Nat), key = (if hi then Reg.DMA_JOB_EN_HI else Reg.DMA_JOB_EN_LO) ∧
      j = i + (if hi then 32 else 0) ∧ s.dev.blockOn (bDMA u) = true ∧ s.dev.hostRefused key = false ∧
      wbit (s.dev.word key) i = true ∧ s.dev.jobState j ≠ 1)
  ∧ (∃ (s : State) (u : Fin 2) (j : Fin 64) (v : Word) (w : Dev) (e : Nat), s.dev.blockOn (bDMA u) = true ∧
      s.dev.hostRefused (Reg.DMA_CTL j) = false ∧ s.dev.jobEn j = true ∧ s.dev.jobState j ≠ 1 ∧
      wbit v 30 = false ∧ w = s.dev.setWord (Reg.DMA_CTL j) (v &&& 0x3FFFF700#32) ∧ w.startErr j = e)
  ∧ (∃ (s : State) (u : Fin 2) (j : Fin 64), s.dev.blockOn (bDMA u) = true ∧
      s.dev.hostRefused (Reg.DMA_CTL j) = false ∧ s.dev.jobEn j = true ∧ s.dev.jobState j = 1 ∧
      s.dev.jobAccs j = [] ∧ (s.dev.job j).frame = none ∧ (s.dev.job j).gather = false ∧
      (s.dev.job j).removing = false)
  ∧ (∃ (s : State) (u : Fin 2) (j : Fin 64), s.dev.blockOn (bDMA u) = true ∧
      s.dev.hostRefused (Reg.DMA_CTL j) = false ∧ s.dev.jobEn j = true ∧ s.dev.jobState j = 1 ∧
      s.dev.jobAccs j ≠ [])
  ∧ (∃ (s : State) (u : Fin 2) (j : Fin 64) (v : Word) (w : Dev), s.dev.blockOn (bDMA u) = true ∧
      s.dev.hostRefused (Reg.SH_SRC_LO j + 0x14) = false ∧ s.dev.jobEn j = true ∧
      s.dev.get (Reg.DMA_STAT.ARMED j) = 0 ∧
      w = s.dev.setWord (Reg.SH_SRC_LO j + 0x14) (v &&& 0x3FFFF700#32) ∧ s.dev.jobState j = 1)
  ∧ (∃ (s : State) (u : Fin 2) (j : Fin 64) (v : Word) (w : Dev), s.dev.blockOn (bDMA u) = true ∧
      s.dev.hostRefused (Reg.SH_SRC_LO j + 0x14) = false ∧ s.dev.jobEn j = true ∧
      s.dev.get (Reg.DMA_STAT.ARMED j) = 0 ∧
      w = s.dev.setWord (Reg.SH_SRC_LO j + 0x14) (v &&& 0x3FFFF700#32) ∧ s.dev.jobState j = 0 ∧
      (w.shadowCopy j).startErr j = 0)
  ∧ (∃ (s : State) (u : Fin 2) (w : Fin 4), s.dev.blockOn (bDMA u) = true ∧
      s.dev.hostRefused (Reg.DMA_REQ_SET w) = false)
  ∧ (∃ (s : State) (j : Fin 64), s.dev.jobPlace j ≠ 0 ∧ s.dev.jobUnit j < 2 ∧ s.dev.jobState j = 1 ∧
      (s.dev.job j).stopping = false ∧ (s.dev.job j).gather = false ∧ (s.dev.job j).frame = none ∧
      ((s.dev.job j).short = true ∨ (s.dev.job j).total ≤ (s.dev.job j).issued) ∧ s.dev.jobAccs j = [] ∧
      s.dev.get (Reg.DMA_STAT.ARMED j) = 0)
  ∧ (∃ (s : State) (u : Fin 2) (j : Fin 64) (kind : Fin 5), s.dev.blockOn (bDMA u) = true ∧ kind.val ≠ 0 ∧
      s.dev.unitStopped u = false ∧ s.dev.jobPlace j ≠ 0 ∧ s.dev.jobUnit j = u ∧ s.dev.jobState j = 1 ∧
      (s.dev.job j).removing = false)
  ∧ (∃ (s : State) (u : Fin 2), s.dev.blockOn (bDMA u) = true ∧
      s.dev.hostRefused (Reg.DMA_UNIT_CTL u) = false) :=
  ⟨⟨mk (·.setWord Reg.DMA_JOB_EN_HI 0xF), 0, true, 7, Reg.DMA_JOB_EN_HI, 39, (dev0.freeChan (dev0.chooseUnit 39)).get (by decide +kernel), by decide +kernel⟩,
   ⟨mk fun d => (d.setWord Reg.DMA_JOB_EN_HI 0xF).setDom 69 false, 1, true, 7, Reg.DMA_JOB_EN_HI, 39, (dev0.freeChan (dev0.chooseUnit 39)).get (by decide +kernel), by decide +kernel⟩,
   ⟨job5 id, 1, false, 5, Reg.DMA_JOB_EN_LO, 5, by decide +kernel⟩,
   ⟨job5 id, 1, 5, 0x94008400, (job5 id).dev.setWord (Reg.DMA_CTL 5) (0x94008400 &&& 0x3FFFF700#32), 0, by decide +kernel⟩,
   ⟨jobRunning id, 0, 5, by decide +kernel⟩,
   ⟨jobRunning (·.setChn 0 { waits := [{ port := 3, block := 7, reads := [(448, 0)], owner := .job 5 }] }), 0, 5, by decide +kernel⟩,
   ⟨jobRunning id, 1, 5, 0x14000000, (jobRunning id).dev.setWord (Reg.SH_SRC_LO 5 + 0x14) (0x14000000 &&& 0x3FFFF700#32), by decide +kernel⟩,
   ⟨(job5 fun d => (d.setWord (Reg.SH_SRC_LO 5 + 0x10) 64).setWord (Reg.SH_SRC_LO 5) 0x500), 1, 5, 0x14000000, (job5 fun d => (d.setWord (Reg.SH_SRC_LO 5 + 0x10) 64).setWord (Reg.SH_SRC_LO 5) 0x500).dev.setWord (Reg.SH_SRC_LO 5 + 0x14) (0x14000000 &&& 0x3FFFF700#32), by decide +kernel⟩,
   ⟨run0, 1, 1, by decide +kernel⟩,
   ⟨jobRunning (fun d => d.setJob 5 { d.job 5 with issued := 100 }), 5, by decide +kernel⟩,
   ⟨jobRunning id, 1, 5, 3, by decide +kernel⟩,
   ⟨run0, 1, by decide +kernel⟩⟩

/-- States and operands that meet the hypotheses of `Obligations.DmaBursts`, clause by clause. -/
theorem wit_DmaBursts :
    (∃ (s : State) (u : Fin 2) (j : Nat) (n : Nat), s.dev.blockOn (bDMA u) = true ∧
      s.dev.unitStopped u = false ∧ s.dev.burstsInFlight u < 16 ∧ s.dev.pickJob u = some j ∧
      n = min (min (16 * 2 ^ min 4 (s.dev.get (Reg.DMA_CTL.BURST j))) ((s.dev.job j).total - (s.dev.job j).issued)) (min ((s.dev.srcSide j).len (s.dev.job j).total - (s.dev.job j).issued % (s.dev.srcSide j).len (s.dev.job j).total) ((s.dev.dstSide j).len (s.dev.job j).total - (s.dev.job j).issued % (s.dev.dstSide j).len (s.dev.job j).total)) ∧
      s.dev.get (Reg.DMA_CTL.SRC_SPACE j) = 1 ∧ s.dev.get (Reg.DMA_CTL.DST_SPACE j) = 1 ∧
      s.dev.hostReach = true)
  ∧ (∃ (s : State) (u : Fin 2) (j : Nat) (n : Nat), s.dev.blockOn (bDMA u) = true ∧
      s.dev.unitStopped u = false ∧ s.dev.burstsInFlight u < 16 ∧ s.dev.pickJob u = some j ∧
      n = min (min (16 * 2 ^ min 4 (s.dev.get (Reg.DMA_CTL.BURST j))) ((s.dev.job j).total - (s.dev.job j).issued)) (min ((s.dev.srcSide j).len (s.dev.job j).total - (s.dev.job j).issued % (s.dev.srcSide j).len (s.dev.job j).total) ((s.dev.dstSide j).len (s.dev.job j).total - (s.dev.job j).issued % (s.dev.dstSide j).len (s.dev.job j).total)) ∧
      s.dev.get (Reg.DMA_CTL.SRC_SPACE j) = 0 ∧ s.dev.get (Reg.DMA_CTL.DST_SPACE j) < 2 ∧
      s.dev.chUp 0 = true ∧ s.dev.chUp 1 = true ∧ s.dev.jobUnit j = u)
  ∧ (∃ (s : State) (u : Fin 2) (j : Nat) (n : Nat), s.dev.blockOn (bDMA u) = true ∧
      s.dev.unitStopped u = false ∧ s.dev.burstsInFlight u < 16 ∧ s.dev.pickJob u = some j ∧
      n = min (min (16 * 2 ^ min 4 (s.dev.get (Reg.DMA_CTL.BURST j))) ((s.dev.job j).total - (s.dev.job j).issued)) (min ((s.dev.srcSide j).len (s.dev.job j).total - (s.dev.job j).issued % (s.dev.srcSide j).len (s.dev.job j).total) ((s.dev.dstSide j).len (s.dev.job j).total - (s.dev.job j).issued % (s.dev.dstSide j).len (s.dev.job j).total)) ∧
      s.dev.get (Reg.DMA_CTL.SRC_SPACE j) = 2 ∧ Tab.get (fun _ => []) s.dev.rxQ (s.dev.frameQueue j) = []) :=
  ⟨⟨jobRunning id, 1, 5, burstOf (jobRunning id).dev, by decide +kernel⟩,
   ⟨jobDram, 1, 5, burstOf jobDram.dev, by decide +kernel⟩,
   ⟨jobFrame, 1, 5, burstOf jobFrame.dev, by decide +kernel⟩⟩

/-- Both DRAM channels ready, no refresh due. -/
def dramReady (f : Dev → Dev) : State :=
  mk fun d => f ((((d.put (Reg.MEM_CH_STAT.STATE 0) 2).put (Reg.MEM_CH_STAT.STATE 1) 2).setChn 0 { refAt := d.up + 100 }).setChn 1
    { refAt := d.up + 100 })

/-- Channel 1 with one access waiting. -/
def waitsFor (a : Acc) : State := dramReady fun d => d.setChn 1 { d.chn 1 with waits := [a] }

/-- A read of job 5. -/
def jobRead : Acc := { port := 3, block := 7, reads := [(448, 0), (449, 1)], owner := .job 5 }

/-- A capture's write of two octets. -/
def captureWrite : Acc := { port := 0, block := 7, writes := [(448, 1), (449, 2)], owner := .capture 5 }

/-- Job 5 running from the DRAM to the host, its read in flight on channel 1. -/
def readFlying : State :=
  { dev := (((((job5 id).dev.put (Reg.DMA_STAT.STATE 5) 1).setWord (Reg.DMA_CTL 5) 0x04000400).setJob 5 { total := 100, issued := 64 }).put
      Reg.GLB_PCIE_STAT.LINK_UP 1).put Reg.GLB_PCIE_STAT.BUS_MASTER 1 |>.setChn 1 { flight := [jobRead] } }

/-- An entry of the fault log waiting for channel 0. -/
def logDram : State :=
  dramReady fun d =>
    { (d.put Reg.STA_LOG_CFG.EN 1).put (Reg.MEM_CH_USABLE.SIZE 0) 7168 with log := { d.log with overwritten := 1 } }

/-- States and operands that meet the hypotheses of `Obligations.MemoryChannels`, clause by clause. -/
theorem wit_MemoryChannels :
    (∃ (s : State) (ch : Nat), ch = s.dev.retrainNext ∧ s.dev.chState ch = chReady ∧ s.dev.dramAwake = true ∧
      s.dev.retrainAt + s.dev.msField Reg.MEM_CFG.RETRAIN_MS ≤ s.dev.up ∧
      (s.dev.chn 0).retrainTill ≤ s.dev.up ∧ (s.dev.chn 1).retrainTill ≤ s.dev.up ∧
      (s.dev.chn ch).catchTill ≤ s.dev.up ∧ (∀ q < 2, ∀ c < 2, s.dev.bit (Dev.panicFld q c) = false))
  ∧ (∃ (s : State) (ch : Nat), ch = s.dev.retrainNext ∧ s.dev.chState ch = chReady ∧ s.dev.dramAwake = true ∧
      s.dev.retrainAt + s.dev.msField Reg.MEM_CFG.RETRAIN_MS ≤ s.dev.up ∧
      (s.dev.chn 0).retrainTill ≤ s.dev.up ∧ (s.dev.chn 1).retrainTill ≤ s.dev.up ∧
      (s.dev.chn ch).catchTill ≤ s.dev.up ∧ (∀ q < 2, ∀ c < 2, s.dev.bit (Dev.panicFld q c) = false))
  ∧ (∃ (s : State) (ch : Fin 2), s.dev.chState ch = chReady ∧ s.dev.dramAwake = true ∧
      (s.dev.chn ch).mr4At + s.dev.msField Reg.MEM_CFG.MR4_MS ≤ s.dev.up)
  ∧ (∃ (s : State) (ch : Fin 2), s.dev.chState ch = chReady ∧ s.dev.dramAwake = true ∧
      (s.dev.chn ch).refAt ≤ s.dev.up ∧ (s.dev.chn ch).multNext = none ∧
      s.dev.bit Reg.MEM_CFG.REFRESH_MODE = true)
  ∧ (∃ (s : State) (ch : Fin 2), s.dev.chState ch = chReady ∧ s.dev.dramAwake = true ∧
      (s.dev.chn ch).refAt ≤ s.dev.up ∧ (s.dev.chn ch).multNext = none ∧
      s.dev.bit Reg.MEM_CFG.REFRESH_MODE = false ∧
      s.dev.bankInUse ch ((s.dev.chn ch).nextBank % 8) = false)
  ∧ (∃ (s : State) (ch : Fin 2), s.dev.chUp ch = true)
  ∧ (∃ (s : State) (ch : Fin 2), s.dev.blockOn bMEM = true ∧ s.dev.hostRefused (Reg.MEM_CH_CTL ch) = false ∧
      s.dev.chState ch = chDown)
  ∧ (∃ (s : State) (ch : Fin 2), s.dev.chState ch = chTraining)
  ∧ (∃ (s : State) (ch : Fin 2), s.dev.chState ch = chTraining)
  ∧ (∃ (s : State) (ch : Fin 2), s.dev.chState ch = chTraining) :=
  ⟨⟨dramReady id, (dramReady id).dev.retrainNext, by decide +kernel⟩,
   ⟨dramReady id, (dramReady id).dev.retrainNext, by decide +kernel⟩,
   ⟨dramReady id, 1, by decide +kernel⟩,
   ⟨dramReady fun d => (d.put Reg.MEM_CFG.REFRESH_MODE 1).setChn 1 { d.chn 1 with refAt := d.up - 3 }, 1, by decide +kernel⟩,
   ⟨dramReady fun d => (d.put Reg.MEM_CFG.REFRESH_MODE 0).setChn 1 { d.chn 1 with refAt := d.up - 3, nextBank := 5 }, 1, by decide +kernel⟩,
   ⟨dramReady id, 1, by decide +kernel⟩,
   ⟨mk (·.put (Reg.MEM_CH_STAT.STATE 1) 3), 1, by decide +kernel⟩,
   ⟨mk (·.put (Reg.MEM_CH_STAT.STATE 1) 1), 1, by decide +kernel⟩,
   ⟨mk (·.put (Reg.MEM_CH_STAT.STATE 1) 1), 1, by decide +kernel⟩,
   ⟨mk (·.put (Reg.MEM_CH_STAT.STATE 1) 1), 1, by decide +kernel⟩⟩

/-- States and operands that meet the hypotheses of `Obligations.DramAccesses`, clause by clause. -/
theorem wit_DramAccesses :
    (∃ (s : State) (ch : Fin 2) (q : _) (a : _), s.dev.chState ch = chReady ∧ s.dev.dramAwake = true ∧
      s.dev.up < (s.dev.chn ch).refAt ∧ (s.dev.chn ch).busyTill ≤ s.dev.up ∧
      (s.dev.chn ch).retrainTill ≤ s.dev.up ∧ s.dev.pickPort ch = some q ∧ q ≠ 1 ∧
      s.dev.headReady ch q = some a ∧ a.reads = [])
  ∧ (∃ (s : State) (ch : Fin 2) (q : _) (a : _), s.dev.chState ch = chReady ∧ s.dev.dramAwake = true ∧
      s.dev.up < (s.dev.chn ch).refAt ∧ (s.dev.chn ch).busyTill ≤ s.dev.up ∧
      (s.dev.chn ch).retrainTill ≤ s.dev.up ∧ s.dev.pickPort ch = some q ∧ q ≠ 1 ∧
      s.dev.headReady ch q = some a ∧ a.reads ≠ [])
  ∧ (∃ (s : State) (ch : Fin 2) (q : _) (a : _) (n : _), s.dev.chState ch = chReady ∧ s.dev.dramAwake = true ∧
      s.dev.up < (s.dev.chn ch).refAt ∧ (s.dev.chn ch).busyTill ≤ s.dev.up ∧
      (s.dev.chn ch).retrainTill ≤ s.dev.up ∧ s.dev.pickPort ch = some q ∧ q ≠ 1 ∧
      s.dev.headReady ch q = some a ∧ a.reads = [] ∧ a.owner = .capture n ∧
      Dev.partialWrite a.writes = true)
  ∧ (∃ (s : State) (ch : Fin 2) (k : _), s.dev.chState ch = chReady ∧ s.dev.dramAwake = true ∧
      s.dev.up < (s.dev.chn ch).refAt ∧ (s.dev.chn ch).busyTill ≤ s.dev.up ∧
      (s.dev.chn ch).retrainTill ≤ s.dev.up ∧ s.dev.pickPort ch = some 1 ∧
      s.dev.rt1Next ch = some (true, k))
  ∧ (∃ (s : State) (ch : Fin 2) (a : Acc) (rest : List Acc) (j : Fin 64) (res : Fin 3), (s.dev.chn ch).flight = a :: rest ∧
      a.owner = .job j ∧ s.dev.jobState j = 1 ∧ s.dev.get (Reg.DMA_CTL.DST_SPACE j) = 1 ∧
      s.dev.hostReach = true ∧ (s.dev.job j).frame = none ∧ (s.dev.job j).stopping = false ∧ res.val < 2)
  ∧ (∃ (s : State) (ch : Fin 2) (a : Acc) (rest : List Acc) (j : Fin 64), (s.dev.chn ch).flight = a :: rest ∧
      a.owner = .job j ∧ s.dev.jobState j = 1 ∧ s.dev.get (Reg.DMA_CTL.DST_SPACE j) = 1 ∧
      s.dev.hostReach = true ∧ (s.dev.job j).frame = none ∧ (s.dev.job j).stopping = false ∧
      s.dev.unitStopped (s.dev.jobUnit j) = false ∧ s.dev.jobPlace j ≠ 0 ∧ (s.dev.job j).removing = false) :=
  ⟨⟨waitsFor captureWrite, 1, 0, captureWrite, by decide +kernel⟩,
   ⟨waitsFor jobRead, 1, 3, jobRead, by decide +kernel⟩,
   ⟨waitsFor captureWrite, 1, 0, captureWrite, 5, by decide +kernel⟩,
   ⟨logDram, 0, ((logDram.dev.rt1Next 0).get (by decide +kernel)).2, by decide +kernel⟩,
   ⟨readFlying, 1, jobRead, [], 5, 1, by decide +kernel⟩,
   ⟨readFlying, 1, jobRead, [], 5, by decide +kernel⟩⟩

/-- The start-up at step n, the boot straps at sel. -/
def startingAt (n sel : Nat) (f : Dev → Dev) : State :=
  mk fun d => f { (d.put Reg.GLB_BOOT.STEP n).put Reg.GLB_STRAP.BOOTSEL sel with pwr := { d.pwr with phase := .starting } }

/-- Both DRAM channels trained. -/
def trained (d : Dev) : Dev := (d.put (Reg.MEM_CH_STAT.STATE 0) 2).put (Reg.MEM_CH_STAT.STATE 1) 2

/-- The start-up waiting for BOOT_CTL.GO. -/
def waitGo (d : Dev) : Dev := d.put (statusBit bGLB 3) 1

/-- An image record: a COMMIT. -/
def commitRec : List Octet := octetsBE 1 1 ++ octetsBE 1 5 ++ List.replicate 14 0

/-- An image's header and record. -/
def imageHead : List Octet :=
  [0x53, 0x43, 0x49, 0x4D, 0x01, 1, 0, 0] ++ octetsBE 4 48 ++ octetsBE 4 0x77 ++ commitRec

/-- The image signed with the key of a master key. -/
def image : List Octet := imageHead ++ octetsBE 16 (Aes.cmac (imageKey 0x55) imageHead)

/-- The start-up at the choice of an image, the master key known. -/
def picking (key : Option (BitVec 128)) : State :=
  startingAt 10 0 fun d => { trained d with pwr := { d.pwr with masterKey := key } }

/-- States and operands that meet the hypotheses of `Obligations.Resets`, clause by clause. -/
theorem wit_Resets :
    (∃ (s : State), s.dev.pwr.phase ≠ .off)
  ∧ (∃ (s : State), s.dev.pwr.phase ≠ .deepHold ∧ s.dev.pwr.phase ≠ .waking 3)
  ∧ (∃ (s : State), s.dev.powered = true)
  ∧ (∃ (s : State), s.dev.powered = true)
  ∧ (∃ (s : State), s.dev.powered = true)
  ∧ (∃ (s : State), s.dev.powered = true) :=
  ⟨⟨run0, by decide +kernel⟩,
   ⟨run0, by decide +kernel⟩,
   ⟨run0, by decide +kernel⟩,
   ⟨run0, by decide +kernel⟩,
   ⟨run0, by decide +kernel⟩,
   ⟨run0, by decide +kernel⟩⟩

/-- States and operands that meet the hypotheses of `Obligations.StartUp`, clause by clause. -/
theorem wit_StartUp :
    (∃ (s : State), s.dev.pwr.phase = .off ∨ s.dev.pwr.phase = .waking 3)
  ∧ (∃ (s : State), s.dev.pwr.phase = .starting ∧ s.dev.bit (statusBit bGLB 3) = false ∧
      s.dev.get Reg.GLB_BOOT.STEP = 4)
  ∧ (∃ (s : State), s.dev.pwr.phase = .starting ∧ s.dev.bit (statusBit bGLB 3) = false ∧
      s.dev.get Reg.GLB_BOOT.STEP = 4)
  ∧ (∃ (s : State), s.dev.pwr.phase = .starting ∧ s.dev.bit (statusBit bGLB 3) = false ∧
      s.dev.get Reg.GLB_BOOT.STEP = 5)
  ∧ (∃ (s : State), s.dev.pwr.phase = .starting ∧ s.dev.bit (statusBit bGLB 3) = false ∧
      s.dev.get Reg.GLB_BOOT.STEP = 6)
  ∧ (∃ (s : State), s.dev.pwr.phase = .starting ∧ s.dev.bit (statusBit bGLB 3) = false ∧
      s.dev.get Reg.GLB_BOOT.STEP = 6 ∨ s.dev.get Reg.GLB_BOOT.STEP = 7)
  ∧ (∃ (s : State), s.dev.pwr.phase = .starting ∧ s.dev.bit (statusBit bGLB 3) = false ∧
      s.dev.get Reg.GLB_BOOT.STEP = 9 ∧ s.dev.chState 0 = chReady ∧ s.dev.chState 1 = chReady)
  ∧ (∃ (s : State), s.dev.pwr.phase = .starting ∧ s.dev.bit (statusBit bGLB 3) = false ∧
      s.dev.get Reg.GLB_BOOT.STEP = 10 ∧ s.dev.bootsel = 3)
  ∧ (∃ (s : State), s.dev.pwr.phase = .starting ∧ s.dev.bit (statusBit bGLB 3) = false ∧
      s.dev.get Reg.GLB_BOOT.STEP = 11 ∧ s.dev.dct.image = [])
  ∧ (∃ (s : State), s.dev.pwr.phase = .starting ∧ s.dev.bit (statusBit bGLB 3) = false ∧
      s.dev.get Reg.GLB_BOOT.STEP = 12)
  ∧ (∃ (s : State) (a : List Octet) (b : List Octet) (code : _) (unit : _), s.dev.pwr.phase = .starting ∧
      s.dev.bit (statusBit bGLB 3) = false ∧ s.dev.get Reg.GLB_BOOT.STEP = 10 ∧ s.dev.bootsel < 2 ∧
      s.dev.isGrave bAUT = false ∧ imagePick s.dev.pwr.masterKey none [(0, a), (1, b)] = .bad code unit)
  ∧ (∃ (s : State) (a : List Octet) (b : List Octet) (n : _) (img : _) (r : _), s.dev.pwr.phase = .starting ∧
      s.dev.bit (statusBit bGLB 3) = false ∧ s.dev.get Reg.GLB_BOOT.STEP = 10 ∧ s.dev.bootsel < 2 ∧
      s.dev.isGrave bAUT = false ∧ imagePick s.dev.pwr.masterKey none [(0, a), (1, b)] = .good n img ∧
      recordsOf img = [r] ∧ fieldBE r 0 1 = 1 ∧ fieldBE r 1 1 % 128 = 5 ∧
      (fieldBE img 5 1 % 2 = 1 ∨ fieldBE img 6 2 = s.dev.get Reg.AUT_CFG.DEV_ADDR))
  ∧ (∃ (s : State), s.dev.blockOn bGLB = true ∧ s.dev.hostRefused Reg.GLB_BOOT_CTL = false ∧
      s.dev.bit (statusBit bGLB 3) = true)
  ∧ (∃ (s : State) (b : Nat), s.dev.pwr.phase = .starting ∧ s.dev.bootsel = 2 ∧ s.dev.imageBase = some b) :=
  ⟨⟨State.reset, by decide +kernel⟩,
   ⟨startingAt 4 0 id, by decide +kernel⟩,
   ⟨startingAt 4 0 id, by decide +kernel⟩,
   ⟨startingAt 5 0 id, by decide +kernel⟩,
   ⟨startingAt 6 0 id, by decide +kernel⟩,
   ⟨startingAt 7 2 id, by decide +kernel⟩,
   ⟨startingAt 9 0 trained, by decide +kernel⟩,
   ⟨startingAt 10 3 trained, by decide +kernel⟩,
   ⟨startingAt 11 3 trained, by decide +kernel⟩,
   ⟨startingAt 12 3 trained, by decide +kernel⟩,
   ⟨picking none, [], [], 0xA01, 0, by decide +kernel⟩,
   ⟨picking (some 0x55), [], image, 1, image, commitRec, by decide +kernel⟩,
   ⟨startingAt 9 2 waitGo, by decide +kernel⟩,
   ⟨startingAt 9 2 fun d => (trained d).put Reg.GLB_IMG_ADDR.INDEX 5, ((startingAt 9 2 fun d => (trained d).put Reg.GLB_IMG_ADDR.INDEX 5).dev.imageBase).get (by decide +kernel), by decide +kernel⟩⟩

/-- The device in a power phase. -/
def phased (p : PowerPhase) (f : Dev → Dev) : State := mk fun d => f { d with pwr := { d.pwr with phase := p } }

/-- The wake by the host port on. -/
def wakeable (d : Dev) : Dev := d.setWord Reg.PWR_WAKE_CFG 1

/-- Every wake off. -/
def unwakeable (d : Dev) : Dev := d.setWord Reg.PWR_WAKE_CFG 0

/-- A domain being switched on. -/
def switchingDom (d : Nat) : State :=
  mk fun x => let y := x.setDoms (fun e => e != d); { y with pwr := { y.pwr with switching := 2 ^ d } }

/-- States and operands that meet the hypotheses of `Obligations.VoltageAndDomains`, clause by clause. -/
theorem wit_VoltageAndDomains :
    (∃ (s : State) (dom : Fin 80), s.dev.avsRuns = true ∧
      (∀ t, s.dev.pwr.avsAt = some t → t + 10000 ≤ s.dev.up) ∧ s.dev.domOn dom = true)
  ∧ (∃ (s : State) (d : Fin 80), Dev.riggerDom d = false ∧ s.dev.domOn d = false ∧
      s.dev.pwr.switching.testBit d = false ∧ s.dev.pwr.phase = .run ∧ s.dev.domWanted d = true ∧
      s.dev.cycling 2 d = false)
  ∧ (∃ (s : State) (d : Fin 80) (slack : BitVec 16), s.dev.pwr.switching.testBit d = true ∧
      s.dev.cycling 3 d = false ∧ (s.dev.get Reg.PWR_AVS.TARGET : Int) ≤ slack.toInt)
  ∧ (∃ (s : State) (d : Fin 80) (slack : BitVec 16), s.dev.pwr.switching.testBit d = true ∧
      s.dev.cycling 3 d = false ∧ slack.toInt < (s.dev.get Reg.PWR_AVS.TARGET : Int))
  ∧ (∃ (s : State) (d : Fin 80), s.dev.pwr.switching.testBit d = true) :=
  ⟨⟨run0, 0, by decide +kernel, fun t h => (nomatch h), by decide +kernel⟩,
   ⟨mk fun d => (d.setDoms fun e => e != 68).put (Reg.ANG_SRC.KIND 3) 1, 68, by decide +kernel⟩,
   ⟨switchingDom 68, 68, 0x7FFF, by decide +kernel⟩,
   ⟨switchingDom 68, 68, 0x8000, by decide +kernel⟩,
   ⟨switchingDom 68, 68, by decide +kernel⟩⟩

/-- States and operands that meet the hypotheses of `Obligations.StandbyStates`, clause by clause. -/
theorem wit_StandbyStates :
    (∃ (s : State), s.dev.blockOn bPWR = true ∧ s.dev.hostRefused Reg.PWR_CMD = false ∧ s.dev.pwr.phase = .run ∧
      s.dev.workEnabled = false)
  ∧ (∃ (s : State), s.dev.blockOn bPWR = true ∧ s.dev.hostRefused Reg.PWR_CMD = false ∧ s.dev.pwr.phase = .run ∧
      s.dev.workEnabled = false ∧ s.dev.wakeEnabled = true)
  ∧ (∃ (s : State), s.dev.blockOn bPWR = true ∧ s.dev.hostRefused Reg.PWR_CMD = false ∧ s.dev.pwr.phase = .run ∧
      s.dev.word Reg.STA_GRAVE = 0 ∧ s.dev.wakeEnabled = true)
  ∧ (∃ (s : State), s.dev.blockOn bPWR = true ∧ s.dev.hostRefused Reg.PWR_CMD = false ∧
      s.dev.pwr.phase = .run)
  ∧ (∃ (s : State), s.dev.blockOn bPWR = true ∧ s.dev.hostRefused Reg.PWR_CMD = false ∧
      s.dev.workEnabled = true)
  ∧ (∃ (s : State), s.dev.blockOn bPWR = true ∧ s.dev.hostRefused Reg.PWR_CMD = false ∧
      s.dev.workEnabled = true)
  ∧ (∃ (s : State), s.dev.blockOn bPWR = true ∧ s.dev.hostRefused Reg.PWR_CMD = false ∧
      s.dev.workEnabled = false ∧ s.dev.wakeEnabled = false)
  ∧ (∃ (s : State), s.dev.blockOn bPWR = true ∧ s.dev.hostRefused Reg.PWR_CMD = false ∧
      s.dev.word Reg.STA_GRAVE ≠ 0)
  ∧ (∃ (s : State), s.dev.blockOn bPWR = true ∧ s.dev.hostRefused Reg.PWR_CMD = false ∧
      s.dev.word Reg.STA_GRAVE = 0 ∧ s.dev.wakeEnabled = false)
  ∧ (∃ (s : State), s.dev.blockOn bPWR = true ∧ s.dev.hostRefused Reg.PWR_CMD = false ∧
      s.dev.pwr.phase = .doze)
  ∧ (∃ (s : State), s.dev.pwr.phase = .entering 1 ∧ s.dev.pwr.wakeDue = false)
  ∧ (∃ (s : State), s.dev.pwr.phase = .entering 2 ∧ s.dev.pwr.wakeDue = false)
  ∧ (∃ (s : State), s.dev.pwr.phase = .entering 3 ∧ s.dev.pwr.wakeDue = false ∧
      s.dev.pwr.graveInEntry = false)
  ∧ (∃ (s : State), s.dev.pwr.phase = .waking 1)
  ∧ (∃ (s : State) (src : Fin 4), (s.dev.get ⟨Reg.PWR_WAKE_CFG, 0, 4⟩).testBit src = true ∧
      (src.val = 1 → s.dev.bit Reg.PWR_WAKE_CFG.PHY_LATCH = true) ∧ s.dev.pwr.phase = .doze)
  ∧ (∃ (s : State) (src : Fin 4), (s.dev.get ⟨Reg.PWR_WAKE_CFG, 0, 4⟩).testBit src = true ∧
      (src.val = 1 → s.dev.bit Reg.PWR_WAKE_CFG.PHY_LATCH = true) ∧ s.dev.pwr.phase = .hold ∧ src.val ≠ 3)
  ∧ (∃ (s : State) (src : Fin 4), (s.dev.get ⟨Reg.PWR_WAKE_CFG, 0, 4⟩).testBit src = true ∧
      (src.val = 1 → s.dev.bit Reg.PWR_WAKE_CFG.PHY_LATCH = true) ∧ s.dev.pwr.phase = .deepHold ∧
      src.val ≠ 3)
  ∧ (∃ (s : State) (src : Fin 4) (n : _), (s.dev.get ⟨Reg.PWR_WAKE_CFG, 0, 4⟩).testBit src = true ∧
      (src.val = 1 → s.dev.bit Reg.PWR_WAKE_CFG.PHY_LATCH = true) ∧ s.dev.pwr.phase = .entering n ∧
      s.dev.pwr.wakeDue = false ∧ (src.val = 3 → n = 1)) :=
  ⟨⟨phased .run wakeable, by decide +kernel⟩,
   ⟨phased .run wakeable, by decide +kernel⟩,
   ⟨phased .run wakeable, by decide +kernel⟩,
   ⟨run0, by decide +kernel⟩,
   ⟨phased .run fun d => d.put (Reg.CEL_CFG.EN 4) 1, by decide +kernel⟩,
   ⟨phased .run fun d => d.put (Reg.CEL_CFG.EN 4) 1, by decide +kernel⟩,
   ⟨phased .run unwakeable, by decide +kernel⟩,
   ⟨phased .run fun d => d.setWord Reg.STA_GRAVE 8, by decide +kernel⟩,
   ⟨phased .run unwakeable, by decide +kernel⟩,
   ⟨phased .doze id, by decide +kernel⟩,
   ⟨phased (.entering 1) id, by decide +kernel⟩,
   ⟨phased (.entering 2) id, by decide +kernel⟩,
   ⟨phased (.entering 3) id, by decide +kernel⟩,
   ⟨phased (.waking 1) id, by decide +kernel⟩,
   ⟨phased .doze wakeable, 0, by decide +kernel⟩,
   ⟨phased .hold wakeable, 0, by decide +kernel⟩,
   ⟨phased .deepHold wakeable, 0, by decide +kernel⟩,
   ⟨phased (.entering 2) wakeable, 0, 2, by decide +kernel⟩⟩

/-- The Burnisher on, test 5 enabled. -/
def testsOn (f : Dev → Dev) : State := mk fun d => f ((d.put Reg.IST_CFG.EN 1).put Reg.IST_CFG.TEST_EN 0x20)

/-- A sweep begun. -/
def sweeping : State := match exec .runNow (testsOn id) with | .next t => t | _ => run0

/-- Unit 0 of test 5 running. -/
def testing : State := match exec (.testUnitStart 5 0) sweeping with | .next t => t | _ => run0

/-- States and operands that meet the hypotheses of `Obligations.BurnisherTests`, clause by clause. -/
theorem wit_BurnisherTests :
    (∃ (s : State) (t0 : Nat), s.dev.blockOn bIST = true ∧ s.dev.ist.dueAt = some t0 ∧ t0 ≤ s.dev.up ∧
      s.dev.pwr.phase = .run ∧ s.dev.bit Reg.IST_CFG.EN = true ∧ s.dev.testsEnabled ≠ [])
  ∧ (∃ (s : State), s.dev.blockOn bIST = true ∧ s.dev.hostRefused Reg.IST_CMD = false ∧
      s.dev.ist.sweeping = false ∧ s.dev.testsEnabled ≠ [])
  ∧ (∃ (s : State) (x : Fin 8), s.dev.blockOn bIST = true ∧ s.dev.hostRefused Reg.IST_CMD = false ∧
      s.dev.ist.sweeping = false ∧ x.val < 6)
  ∧ (∃ (s : State) (x : Fin 6) (u : Fin 68), s.dev.blockOn bIST = true ∧ s.dev.ist.running = none ∧
      s.dev.pwr.phase = .run ∧ s.dev.unitWaits x u = true ∧ s.dev.unitTurn x u = true ∧
      s.dev.domOn 78 = true ∧ s.dev.unitReady x u = true)
  ∧ (∃ (s : State) (u : Nat), s.dev.blockOn bIST = true ∧ s.dev.ist.running = some (5, u) ∧ u < 28 ∧
      s.dev.ist.sweeping = true ∧ s.dev.ist.left ≠ [])
  ∧ (∃ (s : State) (d : BitVec 7) (n : _), s.dev.blockOn bIST = true ∧ s.dev.hostRefused Reg.IST_CYCLE = false ∧
      ((Dev.cycleDom d.toNat = false ∧ n = 1) ∨ (Dev.cycleDom d.toNat = true ∧
      s.dev.pinTarget 4 d.toNat ≠ none ∧ n = 2) ∨ (Dev.cycleDom d.toNat = true ∧
      s.dev.pinTarget 4 d.toNat = none ∧ s.dev.canEmpty d.toNat = false ∧
      n = 3) ∨ (Dev.cycleDom d.toNat = true ∧ s.dev.pinTarget 4 d.toNat = none ∧
      s.dev.canEmpty d.toNat = true ∧ (s.dev.ist.running ≠ none ∨ s.dev.ist.cyclePhase ≠ 0) ∧ n = 4)))
  ∧ (∃ (s : State) (d : BitVec 7), s.dev.blockOn bIST = true ∧ s.dev.hostRefused Reg.IST_CYCLE = false ∧
      Dev.cycleDom d.toNat = true ∧ s.dev.pinTarget 4 d.toNat = none ∧ s.dev.canEmpty d.toNat = true ∧
      s.dev.ist.running = none ∧ s.dev.ist.cyclePhase = 0) :=
  ⟨⟨testsOn fun d => { d with ist := { dueAt := some 7 } }, 7, by decide +kernel⟩,
   ⟨testsOn id, by decide +kernel⟩,
   ⟨testsOn id, 3, by decide +kernel⟩,
   ⟨sweeping, 5, 0, by decide +kernel⟩,
   ⟨testing, 0, by decide +kernel⟩,
   ⟨testsOn id, 3, 1, by decide +kernel⟩,
   ⟨testsOn id, 53, by decide +kernel⟩⟩

/-- A trace record. -/
def traceRec : TraceRec := ⟨5, 3, 7, 9, 11⟩

/-- Trace on port 6, three records waiting. -/
def tracePort : State :=
  mk fun d =>
    let d := (((d.put Reg.TRC_OUT.PORT_EN 1).put Reg.TRC_OUT.PORT 6).put Reg.TRC_OUT.MAX_REC 2).put (Reg.PRT_MODE.MODE 6) 1
    { d with trc := { d.trc with port := { recs := [traceRec, traceRec, traceRec] } } }

/-- Trace to the DRAM, a record issued. -/
def traceDram : State :=
  mk fun d =>
    let d := ((d.put Reg.TRC_OUT.DRAM_EN 1).put (Reg.MEM_CH_STAT.STATE 0) 2).put (Reg.MEM_CH_USABLE.SIZE 0) 7168
    { d with trc := { d.trc with dram := { recs := [traceRec] }, dramIssued := 1, dramCount := 2 } }

/-- Trace on the pin, a record waiting. -/
def tracePin : State :=
  mk fun d => let d := d.put Reg.TRC_OUT.PIN_EN 1; { d with trc := { d.trc with pin := { recs := [traceRec] } } }

/-- States and operands that meet the hypotheses of `Obligations.TraceOutputs`, clause by clause. -/
theorem wit_TraceOutputs :
    (∃ (s : State) (c : Nat) (sh : Bool), s.dev.domOn 76 = true ∧ s.dev.tracePortOn = true ∧
      s.dev.maxRec ≤ s.dev.trc.port.recs.length ∧
      c = s.dev.classOf (s.dev.get Reg.TRC_OUT.PORT) (s.dev.get Reg.TRC_OUT.PRIO) ∧
      s.dev.allocCheck .trace (frameLen (s.dev.traceFrame (s.dev.get Reg.TRC_OUT.PORT) (s.dev.trc.port.recs.take s.dev.maxRec))) = .ok sh ∧
      s.dev.neverCarried (s.dev.get Reg.TRC_OUT.PORT) c (frameLen (s.dev.traceFrame (s.dev.get Reg.TRC_OUT.PORT) (s.dev.trc.port.recs.take s.dev.maxRec))) = false)
  ∧ (∃ (s : State) (r : TraceRec) (rest : List TraceRec), s.dev.trc.dram.recs = r :: rest ∧
      s.dev.domOn 76 = true ∧ s.dev.bit Reg.TRC_OUT.DRAM_EN = true ∧
      s.dev.ringFits (s.dev.get Reg.TRC_DRAM_BASE.BASE) (s.dev.get Reg.TRC_DRAM_CFG.SIZE_LOG) = true ∧
      s.dev.chUp s.dev.rt1Chan = true ∧ s.dev.trc.dramIssued ≠ 0)
  ∧ (∃ (s : State) (r : TraceRec) (rest : List TraceRec), s.dev.trc.pin.recs = r :: rest ∧
      s.dev.domOn 76 = true ∧ s.dev.bit Reg.TRC_OUT.PIN_EN = true) :=
  ⟨⟨tracePort, tracePort.dev.classOf (tracePort.dev.get Reg.TRC_OUT.PORT) (tracePort.dev.get Reg.TRC_OUT.PRIO), false, by decide +kernel⟩,
   ⟨traceDram, traceRec, [], by decide +kernel⟩,
   ⟨tracePin, traceRec, [], by decide +kernel⟩⟩

/-- States and operands that meet the hypotheses of `Obligations.ResetThenStartUp`, clause by clause. -/
theorem wit_ResetThenStartUp :
    (∃ (s : State), s.dev.pwr.phase ≠ .off) :=
  ⟨run0, by decide +kernel⟩

/-- States and operands that meet the hypotheses of `Obligations.RightsGrantInnerWrites`, clause by clause. -/
theorem wit_RightsGrantInnerWrites :
    (∃ (op : Nat) (x : Nat), x < 0x10000 ∧ (op = 2 ∨ op = 8))
  ∧ (∃ (op : Nat) (x : Nat), x < 0x10000 ∧ (op = 5 ∨ op = 6)) :=
  ⟨⟨2, 0xFFFF, by decide +kernel⟩,
   ⟨5, 0, by decide +kernel⟩⟩

/-! ### Ill-formed commands: one for each check of `WellFormed` -/

theorem test_wf_write_dict : WellFormed (.hostRegisterWrite .dict 0x280100 0 15) = false := by decide
theorem test_wf_write_align : WellFormed (.hostRegisterWrite .pcie 0x280102 0 15) = false := by decide
theorem test_wf_write_beyond : WellFormed (.hostRegisterWrite .pcie 0x1000000 0 15) = false := by decide
theorem test_wf_capture_align : WellFormed (.captureRead .spi 2) = false := by decide
theorem test_wf_rc_dict : WellFormed (.rcRead .dict 0x40C) = false := by decide
theorem test_wf_sync_interval : WellFormed (.syncReceived ⟨0, 0⟩ 0 0 0 128) = false := by decide
theorem test_wf_ptp_short : WellFormed (.ptpMessageSend 0 3 (List.replicate 33 0)) = false := by decide
theorem test_wf_frame_short : WellFormed (.frameReceived 5 { data := List.replicate 13 0 }) = false := by decide
theorem test_wf_frame_fragments :
    WellFormed (.frameReceived 5 { data := List.replicate 60 0, frags := 1 }) = false := by decide
theorem test_wf_notice_short : WellFormed (.faultNoticeReceived 0 { data := [] }) = false := by decide
theorem test_wf_beacon_short : WellFormed (.beaconReceived 0 { data := [] }) = false := by decide
theorem test_wf_claim_short : WellFormed (.claimReceived 0 { data := [] }) = false := by decide
theorem test_wf_link_short : WellFormed (.linkFrameReceived 0 { data := [] }) = false := by decide
theorem test_wf_handover_short : WellFormed (.transmitHandover 7 4 [1]) = false := by decide
theorem test_wf_request_short : WellFormed (.odeivoRequestArrival 3 [1]) = false := by decide
theorem test_wf_spi_write_align : WellFormed (.spiWrite 0x40E [1]) = false := by decide
theorem test_wf_spi_read_align : WellFormed (.spiRead 0x405 1 1) = false := by decide
theorem test_wf_image_long : WellFormed (.startupStepComplete (.flash (List.replicate 8388609 0) [])) = false := by
  simp only [WellFormed, StepEnd.wf, List.length_replicate]; rfl
theorem test_wf_good : WellFormed (.hostRegisterWrite .spi 0x280100 0 15) = true := by decide

/-! ### Worked examples and figures of the spec -/

/-- The device after a command; the device before where it stops. -/
def after (c : Instr) (s : State) : Dev := match exec c s with | .next t => t.dev | _ => s.dev

/-- Chapter 2's example of R5 and R26: a lies 8,192 ns after b. -/
theorem test_forerunner_difference : sdiff 0x00001000 0xFFFFF000 32 = 8192 := by decide

/-- Chapter 3's example of R45: the target is 2.5 cycles ahead. -/
theorem test_angle_ahead : sdiff 0x000001000000 0xFFFFFE800000 48 = 0x2800000 := by decide

/-- R54, RESYNC on a domain that is not OFF: SEARCH with reason 7. -/
theorem test_resync :
    let d := after (.resync 3) (wheel id)
    d.angState 3 = angSearch ∧ d.get (Reg.ANG_STATE.REASON 3) = 7 := by decide +kernel

/-- Chapter 3's table of the sensor lead, step 3: the first missing tooth coasts and counts. -/
theorem test_missing_tooth :
    let d := after (.missingTooth 3) (wheel fun x => { x with edgeAt := some (dev0.stepless - 1500000 * 2 ^ 40) })
    d.angState 3 = angCoasting ∧ d.get (Reg.ANG_COAST_CNT.COUNT 3) = 1 := by decide +kernel

/-- A receive context in chapter 7's example of R139: REC_SEQ 199, VALID 8, HIST 0xFF, H = 8. -/
def vector40 : Dev :=
  ((((dev0.put (Reg.STM_CTX_CFG.HIST_LEN 40) 8).put (Reg.STM_SEQ.TAKE_ANY 40) 0).put (Reg.STM_SEQ.SEQ 40) 199).put
    (Reg.STM_SEQ.VALID 40) 8).setHist 40 0xFF

/-- Its step 1: sequence number 200 passes with the history full. -/
theorem test_recovery_pass :
    (vector40.vectorRecovery 40 200).1 = true ∧ (vector40.vectorRecovery 40 200).2.hist 40 = 0xFF := by decide +kernel

/-- Its step 2: the copy on ring B is discarded. -/
theorem test_recovery_duplicate :
    ((vector40.vectorRecovery 40 200).2.vectorRecovery 40 200).1 = false := by decide +kernel

/-- Its steps 7 and 9: 204 after 202 passes with HIST 0xFD and OUT_OF_ORDER 1; LOST counts 203 at 211. -/
theorem test_recovery_gap :
    let d := ([200, 201, 202, 204].foldl (fun s q => (s.vectorRecovery 40 q).2) vector40)
    let e := ([205, 206, 207, 208, 209, 210, 211].foldl (fun s q => (s.vectorRecovery 40 q).2) d)
    d.hist 40 = 0xFD ∧ d.get (Reg.STM_CNT.COUNT 40 2) = 1 ∧ d.get (Reg.STM_CNT.COUNT 40 3) = 0 ∧
      e.get (Reg.STM_CNT.COUNT 40 3) = 1 ∧ e.get (Reg.STM_CNT.COUNT 40 0) = 11 := by decide +kernel

/-- Chapter 9's example of R199: the curve through (1.0, 10.0) and (4.0, 11.0) at 2.0 is 0x000A_5555. -/
theorem test_curve :
    let d := (((dev0.setWord (Reg.CEL_TBL 9 0 0x400) 0x10000).setWord (Reg.CEL_TBL 9 0 0x401) 0xA0000).setWord
      (Reg.CEL_TBL 9 0 0x402) 0x40000).setWord (Reg.CEL_TBL 9 0 0x403) 0xB0000
    d.curve 9 0 0x20000 0 2 = 0xA5555 := by decide +kernel

/-- Chapter 13's example: the CMAC of NIST SP 800-38B, read back from AUT_TEST_MAC. -/
theorem test_cmac :
    let d := [0x2B7E1516, 0x28AED2A6, 0xABF71588, 0x09CF4F3C].zipIdx.foldl
      (fun (s : Dev) (e : Nat × Nat) => s.setWord (Reg.AUT_TEST_KEY e.2) (BitVec.ofNat 32 e.1)) dev0
    let d := [0x6BC1BEE2, 0x2E409F96, 0xE93D7E11, 0x7393172A].zipIdx.foldl
      (fun (s : Dev) (e : Nat × Nat) => s.setWord (Reg.AUT_TEST_MSG e.2) (BitVec.ofNat 32 e.1)) d
    let t := after .testCmacDone { dev := d.setWord Reg.AUT_TEST_CTL 0x80000010 }
    (List.range 4).map (fun i => t.word (Reg.AUT_TEST_MAC i)) =
      [0x070A16B4, 0x6B4D4144, 0xF79BDD9D, 0xD04A287C] := by decide +kernel

/-- Chapter 12's example: a deadline of 20 µs beside a period of 10 µs is refused with the word 0x0005_0902. -/
theorem test_deadline_refused :
    let d := (((dev0.put (Reg.CEL_CFG.EN 5) 1).put (Reg.CEL_CFG.TRIG 5) 1).put (Reg.CEL_PERIOD.PERIOD 5) 10000).modDct fun x => { x with staged := [⟨0x3005, 2, [0, 0, 7, 0xD0]⟩] }
    d.admissionCheck.map (fun r => (r.code, r.block, r.word)) = some (0x0902, 0x10, 0x00050902) := by decide +kernel

/-- Chapter 20's example: SMP_CH_CFG of sample channel 37 is at 0x20_A680. -/
theorem test_channel_address : Reg.SMP_CH_CFG 2 5 = 0x20A680 := by decide

/-- R119's table: 1,522 bytes take 1,233.6 ns at 10 Gb/s and leave a class-0 window of 2,000 ns; 9,216 bytes do not. -/
theorem test_guard :
    let d := (((((dev0.put (Reg.PRT_LINK.SPEED_NOW 0) 4).put (Reg.GTE_PORT_CTL.GATE_EN 0) 1).setWord
      (Reg.GTE_CYCLE_TIME 0 0) 250000).put (Reg.GTE_LIST_LEN.LEN 0 0) 2).setWord (Reg.GTE_GCL_IVL 0 0 0) 2000).put
      (Reg.GTE_GCL_GATE.GATE_STATE 0 0 0) 1
    let d := ((d.setWord (Reg.GTE_GCL_IVL 0 0 1) 248000).put (Reg.GTE_GCL_GATE.GATE_STATE 0 0 1) 0).modPort 0
      fun x => { x with gating := true }
    d.fits 0 0 0 (1522 + 20) = true ∧ d.fits 0 0 0 (9216 + 20) = false := by decide +kernel

end Sys2Proof.Wit
end

section
/-! SUPPORT. The access codes of R6: the masks of every register word are disjoint, and a write acts on each bit by its code alone. -/

namespace Sys2Proof.Machine

/-- No bit of a word has two of the codes RW, W1C and W1S, and each of these codes is of bits of the word (R6). -/
def Masks.codesApart (m : Masks) : Bool :=
  Nat.blt m.rw (2 ^ 32) && Nat.blt m.w1c (2 ^ 32) && m.rw &&& m.w1c == 0 && m.rw &&& m.w1s == 0 && m.w1c &&& m.w1s == 0

/-- Numbers without a common bit share none. -/
theorem testBit_apart {a b : Nat} (h : a &&& b = 0) (n : Nat) : (a.testBit n && b.testBit n) = false := by
  rw [← Nat.testBit_and, h, Nat.zero_testBit]

theorem Masks.codesApart_spec {m : Masks} (h : m.codesApart = true) (n : Nat) :
    m.rw < 2 ^ 32 ∧ m.w1c < 2 ^ 32 ∧ (m.rw.testBit n && m.w1c.testBit n) = false
      ∧ (m.rw.testBit n && m.w1s.testBit n) = false ∧ (m.w1c.testBit n && m.w1s.testBit n) = false := by
  simp only [codesApart, Bool.and_eq_true, Nat.blt_eq, beq_iff_eq] at h
  obtain ⟨⟨⟨⟨hrw, hw1c⟩, h1⟩, h2⟩, h3⟩ := h
  exact ⟨hrw, hw1c, testBit_apart h1 n, testBit_apart h2 n, testBit_apart h3 n⟩

/-! ### The masks of the model -/

/-- The masks that a row of the register tables gives its words. -/
def Row.masks (r : Row) : Masks := { rw := r.rw, w1c := r.w1c, w1s := r.w1s, wo := r.wo }

/-- The rows of every window, checked window by window. -/
theorem rowsAt_codesApart (a : Nat) : ((rowsAt a).all fun r => r.masks.codesApart) = true := by
  unfold rowsAt
  repeat' refine iteInduction (motive := fun l : List Row => (l.all fun r => r.masks.codesApart) = true) (fun _ => ?_) fun _ => ?_
  all_goals decide +kernel

theorem rowOf_codesApart {a : Nat} {r : Row} (h : rowOf a = some r) : r.masks.codesApart = true :=
  List.all_eq_true.mp (rowsAt_codesApart a) r (List.mem_of_find?_eq_some h)

/-- The W1C bits of _STATUS lie in its low half. -/
theorem statusW1c_lt (b : Nat) : statusW1c b < 2 ^ 16 := by
  by_cases hb : b < 28
  · have h : ∀ b < 28, statusW1c b < 2 ^ 16 := by decide
    exact h b hb
  · have h0 : statusW1c b = 0 := by
      rw [statusW1c, if_neg (by omega), List.getD_eq_default _ _ (by simpa using by omega)]
    omega

theorem headerMasks_codesApart (b o : Nat) : (headerMasks b o).codesApart = true := by
  have hs := statusW1c_lt b
  unfold headerMasks
  split_ifs
  · decide
  · decide
  · simp only [Masks.codesApart, Nat.zero_and, Nat.and_zero, beq_self_eq_true, Bool.and_true, Bool.and_eq_true, Nat.blt_eq]
    omega
  all_goals decide

/-- Every word of every block, whatever its key (R6, R20). -/
theorem masksOf_codesApart (b k : Nat) : (masksOf b k).codesApart = true := by
  unfold masksOf
  split_ifs
  · exact headerMasks_codesApart b _
  · decide
  · decide
  · decide
  · split
    · next r hr => exact rowOf_codesApart hr
    · decide

/-! ### What a write leaves -/

theorem accessWrite_lt (m : Masks) {old v : Nat} (ho : old < 2 ^ 32) (hv : v < 2 ^ 32) : accessWrite m old v < 2 ^ 32 := by
  unfold accessWrite
  have left {x : Nat} (y : Nat) (hx : x < 2 ^ 32) : x &&& y < 2 ^ 32 := Nat.lt_of_le_of_lt Nat.and_le_left hx
  exact Nat.or_lt_two_pow (left _ (Nat.or_lt_two_pow (left _ ho) (left _ hv))) (left _ hv)

/-- A bit of the complement of a mask. -/
theorem testBit_complement {m n : Nat} (hm : m < 2 ^ 32) (hn : n < 32) : (0xFFFFFFFF - m).testBit n = !m.testBit n := by
  have h := Nat.testBit_two_pow_sub_succ hm n
  rw [show 2 ^ 32 - (m + 1) = 0xFFFFFFFF - m by omega] at h
  simpa [hn] using h

/-- The bit that a write leaves, from the three masks (R6). -/
theorem testBit_accessWrite (m : Masks) (old v n : Nat) (hrw : m.rw < 2 ^ 32) (hw1c : m.w1c < 2 ^ 32) (hn : n < 32) :
    (accessWrite m old v).testBit n
      = ((((old.testBit n && !m.rw.testBit n) || (v.testBit n && m.rw.testBit n)) && !(v.testBit n && m.w1c.testBit n))
        || (v.testBit n && m.w1s.testBit n)) := by
  have hc : v &&& m.w1c < 2 ^ 32 := Nat.and_lt_two_pow _ hw1c
  simp only [accessWrite, Nat.testBit_or, Nat.testBit_and, testBit_complement hrw hn, testBit_complement hc hn]

/-- The same code by code, where no bit has two of them (R6). -/
theorem testBit_accessWrite_cases {m : Masks} (hm : m.codesApart = true) (old v n : Nat) (hn : n < 32) :
    (accessWrite m old v).testBit n
      = if m.rw.testBit n then v.testBit n else if m.w1c.testBit n then old.testBit n && !v.testBit n
        else if m.w1s.testBit n then old.testBit n || v.testBit n else old.testBit n := by
  obtain ⟨hrw, hw1c, h1, h2, h3⟩ := Masks.codesApart_spec hm n
  rw [testBit_accessWrite m old v n hrw hw1c hn]
  split_ifs with ha hb hc
  · rw [ha, Bool.true_and] at h1 h2
    simp [ha, h1, h2]
  · rw [hb, Bool.true_and] at h3
    simp [ha, hb, h3]
  · simp [ha, hb, hc]
  · simp [ha, hb, hc]

namespace Dev

theorem written_toNat (s : Dev) (b k : Nat) (v : Word) :
    (s.written b k v).toNat = accessWrite (masksOf b k) (s.word k).toNat v.toNat := by
  rw [written, BitVec.toNat_ofNat, Nat.mod_eq_of_lt (accessWrite_lt _ (s.word k).isLt v.isLt)]

end Dev

/-- At most one of three masks without common bits has a bit. -/
theorem filter_codes_length_le_one {m : Masks} (hm : m.codesApart = true) (n : Nat) :
    ([m.rw, m.w1c, m.w1s].filter fun x => x.testBit n).length ≤ 1 := by
  obtain ⟨-, -, h1, h2, h3⟩ := Masks.codesApart_spec hm n
  cases ha : m.rw.testBit n
  · cases hb : m.w1c.testBit n
    · rw [List.filter_cons_of_neg (by simp [ha]), List.filter_cons_of_neg (by simp [hb])]
      exact List.length_filter_le _ _
    · rw [hb, Bool.true_and] at h3
      simp [List.filter, ha, hb, h3]
  · rw [ha, Bool.true_and] at h1 h2
    simp [List.filter, ha, h1, h2]

/-- Settles O9: the masks of the tables are disjoint, so each bit follows its one code. -/
theorem accessCodesBitByBit : Obligations.AccessCodesBitByBit := by
  intro s b k v n hn
  have hm := masksOf_codesApart b k
  refine ⟨?_, filter_codes_length_le_one hm n⟩
  simp only [← BitVec.testBit_toNat, Dev.written_toNat]
  exact testBit_accessWrite_cases hm _ _ n hn

end Sys2Proof.Machine
end

section
/-! SUPPORT. Frames of host accesses, and what the two host paths do in Run (R301, R302, R306, R309). -/

namespace Sys2Proof.Machine

namespace Dev

/-! ### Frames compose -/

theorem onlyWords_trans {K : Nat → Prop} {a b c : Dev} (h : a.onlyWords K b) (k : b.onlyWords K c) : a.onlyWords K c := by
  obtain ⟨hw, hb, he⟩ := h
  obtain ⟨kw, kb, ke⟩ := k
  exact ⟨fun j hj => (kw j hj).trans (hw j hj), fun j hj => (kb j hj).trans (hb j hj), by rw [ke, he]⟩

/-- What the end of a command may change stands in every frame. -/
theorem onlyWords_of_sameBut {s t : Dev} (K : Nat → Prop) (h : SameBut s t) : s.onlyWords K t := by
  unfold SameBut at h
  refine ⟨fun k _ => ?_, fun k _ => ?_, ?_⟩ <;> rw [h] <;> rfl

theorem onlyWords_fresh (K : Nat → Prop) (s : Dev) : s.onlyWords K s.fresh := onlyWords_of_sameBut K rfl

/-- The whole of a command: its beginning, a change within the frame, its end. -/
theorem onlyWords_settled {K : Nat → Prop} {s u : Dev} (h : s.fresh.onlyWords K u) (old : Dev) : s.onlyWords K (settle old u) :=
  onlyWords_trans (onlyWords_fresh K s) (onlyWords_trans h (onlyWords_of_sameBut K (settle_same old u)))

theorem WordOnly.onlyWords {K : Nat → Prop} {s t : Dev} (h : WordOnly K s t) : s.onlyWords K t := by
  obtain ⟨hw, he⟩ := h
  exact ⟨hw, fun k _ => by rw [he]; rfl, by rw [he]⟩

/-- A rewritten word loses its parity error, and no other does. -/
theorem onlyWords_mendWord (s : Dev) (k : Nat) : s.onlyWords (· = k) (s.mendWord k) := by
  refine ⟨fun _ _ => rfl, fun j hj => ?_, rfl⟩
  simp [badWord, mendWord, List.contains_eq_mem, hj]

theorem onlyWords_writeFields (s : Dev) (b k : Nat) (v : Word) : s.onlyWords (· = k) (s.writeFields b k v) :=
  onlyWords_trans (onlyWords_mendWord s k) (WordOnly.setWord (· = k) (s.mendWord k) k _ rfl).onlyWords

@[simp] theorem word_writeFields (s : Dev) (b k : Nat) (v : Word) : (s.writeFields b k v).word k = s.written b k v :=
  word_setWord_same _ _ _

/-- What a command has sent comes first. -/
theorem out_isPrefix_settle (old s : Dev) : s.out <+: (settle old s).out := by
  obtain ⟨l, hl, -⟩ := settle_sends old s
  exact ⟨l, hl.symm⟩

/-! ### The requesters in Run -/

/-- In Run there is nothing to wake (R374). -/
theorem wake_run (s : Dev) (src : Nat) (h : s.pwr.phase = .run) : s.wake src = s := by
  simp [wake, h]

theorem hostArrive_run (s : Dev) (r : Requester) (h : s.pwr.phase = .run) : s.hostArrive r = s := by
  cases r
  · exact wake_run s 3 h
  · exact wake_run s 2 h
  · rfl

/-- Both host paths reach the device while PERST_N is high (R309, R411). -/
theorem hostReaches_host (s : Dev) (r : Requester) (hr : r.isHost = true) (hp : s.pwr.perst = false) : s.hostReaches r = true := by
  cases r
  · simp [hostReaches, hp]
  · rfl
  · cases hr

/-! ### Addresses (R405) -/

theorem blockAt_glb {a : Nat} (h : a < 0x10000) : blockAt a = some bGLB := by
  rw [blockAt, if_pos (by omega), Nat.div_eq_of_lt h]

theorem blockAt_plc {a : Nat} (h1 : 0x280000 ≤ a) (h2 : a < 0x290000) : blockAt a = some bPLC := by
  rw [blockAt, if_neg (by omega), if_neg (by omega), if_neg (by omega), if_neg (by omega), if_pos (by omega),
    Nat.div_eq_of_lt (by omega)]

/-- Outside the Chuck the header domain alone decides whether a word answers (R18). -/
theorem answers_of_blockOn (s : Dev) {b : Nat} (a : Nat) (hb : b ≠ bSMP) (h : s.blockOn b = true) : s.answers b a = true := by
  simp [answers, chuckPortAt, hb, h]

/-- An address outside the windows that a selector resolves is the key of its word. -/
theorem hostKey_plain (s : Dev) (r : Requester) {a : Nat} (h : a < 0x20164 ∨ 0x280000 ≤ a ∧ a < 0x2A0000) : s.hostKey r a = a := by
  unfold hostKey
  dsimp only
  rw [if_neg (by omega), if_neg (by omega), if_neg (by omega), if_neg (by omega), if_neg (by omega), if_neg (by omega), if_neg (by omega),
    dmaKey, if_pos (by omega)]

theorem isSelector_false {a : Nat} (h : a < 0xD0000 ∨ 0x280000 ≤ a ∧ a < 0x2A0000) : isSelector a = false := by
  simp only [isSelector, Reg.GTE_LIST_SEL, Reg.SHD_SLOT_SEL, Reg.CEL_TBL_SEL, Reg.AUT_CLIENT_SEL, Bool.or_eq_false_iff, beq_eq_false_iff_ne]
  omega

/-! ### Host writes (R6, R12, R302) -/

/-- A write to a word that no selector moves goes through the gate of R12 to the rule of that word. -/
theorem hostWriteBlock_gate (s : Dev) (r : Requester) (b : Nat) {a : Nat} (v : Word) (hk : s.hostKey r a = a) (hs : isSelector a = false)
    (hf : a ≠ hostWriteBlock.fltHeader b) : s.hostWriteBlock r b a v = s.hostGate b a v fun s => s.writeWord b a v false := by
  simp [hostWriteBlock, hk, hs, hf]

/-- A write to a block's word that answers reaches the block. -/
theorem hostWrite_block (s : Dev) (r : Requester) {a b : Nat} (v : Word) (hal : a % 4 = 0) (ha : a < 0x400000) (hb : blockAt a = some b)
    (hans : s.answers b a = true) : s.hostWrite r a v = s.hostWriteBlock r b a v := by
  rw [hostWrite, if_neg (by omega), if_neg (by omega), if_neg (by omega), hb]
  simp [hans]

/-- A write that the access of its object refuses leaves no more than HOST_WR_REFUSED (R12). -/
theorem hostGate_refused (s : Dev) (b k : Nat) (v : Word) (act : Dev → Dev) (hb : s.blockOn b = true) (hr : s.hostRefused k = true) :
    s.hostGate b k v act = s.when (s.wouldChange (masksOf b k) k v.toNat) (·.raise b 16) := by
  simp [hostGate, hostGateOn, hb, hr, wouldChange]

theorem blockBase_plc : blockBase bPLC = 0x280000 := rfl

/-- The words of the Rigger, PLC_EVAC apart, follow their access codes. -/
theorem writeWord_plc (s : Dev) {a : Nat} (v : Word) (h1 : 0x280100 ≤ a) (h2 : a < 0x290000) (he : a ≠ Reg.PLC_EVAC) :
    s.writeWord bPLC a v false = s.writeFields bPLC a v := by
  have hne : ∀ k, k < 0x280100 ∨ 0x290000 ≤ k → a ≠ k := by omega
  have hrest : s.writeWord bPLC a v false = s.writeRest bPLC a v := by
    rw [writeWord, blockBase_plc, if_neg (by omega)]
    rfl
  rw [hrest, writeRest, if_neg (hne _ (by decide)), if_neg he, if_neg (hne _ (by decide)), if_neg (hne _ (by decide)),
    if_neg (hne _ (by decide)), if_neg (hne _ (by decide)), if_neg (hne _ (by decide)), if_neg (hne _ (by decide)),
    if_neg fun h => hne _ (by decide) h.1]

/-- A host write to the Rigger's window passes the gate of R12. -/
theorem hostWrite_plc (s : Dev) (r : Requester) {a : Nat} (v : Word) (hal : a % 4 = 0) (h1 : 0x280100 ≤ a) (h2 : a < 0x290000)
    (hon : s.blockOn bPLC = true) : s.hostWrite r a v = s.hostGate bPLC a v fun s => s.writeWord bPLC a v false := by
  rw [hostWrite_block s r v hal (by omega) (blockAt_plc (by omega) h2) (answers_of_blockOn s a (by decide) hon),
    hostWriteBlock_gate s r bPLC v (hostKey_plain s r (by omega)) (isSelector_false (by omega)) (by simp only [hostWriteBlock.fltHeader, blockBase_plc]; omega)]

theorem bit_raise_when (s : Dev) (b n : Nat) (c : Bool) (hn : n < 32) :
    (s.when c (·.raise b n)).bit (statusBit b n) = (s.bit (statusBit b n) || c) := by
  cases c
  · simp
  · rw [when_true, raise, bit_put_same _ _ _ (by simp only [statusBit]; omega) rfl, Bool.or_true]
    rfl

theorem WordOnly.when {K : Nat → Prop} {s : Dev} {f : Dev → Dev} (c : Bool) (h : WordOnly K s (f s)) : WordOnly K s (s.when c f) := by
  cases c
  · exact WordOnly.refl K s
  · exact h

theorem WordOnly.raise (K : Nat → Prop) (s : Dev) (b n : Nat) (h : K (statusAddr b)) : WordOnly K s (s.raise b n) := WordOnly.put K s _ _ h

theorem WordOnly.inc (K : Nat → Prop) (s : Dev) (f : Fld) (h : K f.addr) : WordOnly K s (s.inc f) := WordOnly.put K s _ _ h

end Dev

/-- A host write in Run, all octets enabled, of a word other than GLB_IMG_DATA, is one of the device alone (R302). -/
theorem State.hostRegisterWrite_run (s : State) (r : Requester) {a : Nat} (v : Word) (hr : r.isHost = true) (hrun : s.dev.pwr.phase = .run)
    (hp : s.dev.pwr.perst = false) (ha : a ≠ Reg.GLB_IMG_DATA) :
    s.hostRegisterWrite r a v 15#4 = s.onDev (·.hostWrite r a v) := by
  simp [State.hostRegisterWrite, Dev.hostReaches_host _ _ hr hp, State.onDev, Dev.hostArrive_run _ _ hrun, State.hostWrite, ha]

/-- A doubleword with octets not enabled counts in GLB_HOST_ERR (R302). -/
theorem State.hostRegisterWrite_partial (s : State) (a : Nat) (v : Word) {be : BitVec 4} (hbe : be ≠ 15#4) (hrun : s.dev.pwr.phase = .run)
    (hp : s.dev.pwr.perst = false) : s.hostRegisterWrite .pcie a v be = s.onDev (·.hostErr) := by
  simp [State.hostRegisterWrite, Dev.hostReaches_host _ .pcie rfl hp, State.onDev, Dev.hostArrive_run _ _ hrun, hbe]

/-- A command that changes the device alone, by `g`, answers it settled, with both memories and the queue as they were. -/
theorem memStep_onDev (f : State → State) (g : Dev → Dev) (s : State) (h : f { s with dev := s.dev.fresh } = { s with dev := g s.dev.fresh }) :
    memStep f s = .next { s with dev := Dev.settle s.dev.fresh (g s.dev.fresh) } := by
  simp [memStep, h]

theorem exec_hostRegisterWrite (r : Requester) (a : Nat) (v : Word) (be : BitVec 4) (s : State) :
    exec (.hostRegisterWrite r a v be) s = memStep (·.hostRegisterWrite r a v be) s := rfl

/-- HOST_REGISTER_WRITE of a word of the Rigger's window (R302). -/
theorem exec_hostRegisterWrite_plc (s : State) (r : Requester) {a : Nat} (v : Word) (hr : r.isHost = true) (hrun : s.dev.pwr.phase = .run)
    (hp : s.dev.pwr.perst = false) (hal : a % 4 = 0) (h1 : 0x280100 ≤ a) (h2 : a < 0x290000) (hon : s.dev.blockOn bPLC = true) :
    exec (.hostRegisterWrite r a v 15#4) s
      = .next { s with dev := Dev.settle s.dev.fresh (s.dev.fresh.hostGate bPLC a v fun d => d.writeWord bPLC a v false) } := by
  have ha : a ≠ Reg.GLB_IMG_DATA := by simp only [Reg.GLB_IMG_DATA]; omega
  rw [exec_hostRegisterWrite]
  refine memStep_onDev _ (fun d => d.hostGate bPLC a v fun d => d.writeWord bPLC a v false) s ?_
  rw [State.hostRegisterWrite_run { s with dev := s.dev.fresh } r v hr hrun hp ha, State.onDev,
    Dev.hostWrite_plc s.dev.fresh r v hal h1 h2 hon]

/-- A word of the Rigger that backs no object of restricted access takes the written fields and nothing else changes (R6). -/
theorem hostRegisterWrite_plc_writes (s : State) (r : Requester) (a : Nat) (v : Word) (hr : r.isHost = true) (hrun : s.dev.pwr.phase = .run)
    (hp : s.dev.pwr.perst = false) (hal : a % 4 = 0) (h1 : 0x280100 ≤ a) (h2 : a < 0x281100) (he : a ≠ Reg.PLC_EVAC)
    (hon : s.dev.blockOn bPLC = true) (href : s.dev.hostRefused a = false) :
    Answers (.hostRegisterWrite r a v 15#4) s fun t =>
      (t.dev.word a).toNat = accessWrite (masksOf bPLC a) (s.dev.word a).toNat v.toNat ∧ s.dev.onlyWords (· = a) t.dev ∧ s.sameMem t := by
  have hgate : (s.dev.fresh.hostGate bPLC a v fun d => d.writeWord bPLC a v false) = s.dev.fresh.writeFields bPLC a v := by
    rw [Dev.hostGate_acts s.dev.fresh _ _ _ _ hon href, Dev.writeWord_plc _ v h1 (by omega) he]
  refine ⟨_, exec_hostRegisterWrite_plc s r v hr hrun hp hal h1 (by omega) hon, ?_, ?_, rfl, rfl⟩
  · rw [hgate, Dev.word_settle, Dev.word_writeFields, Dev.written_toNat, Dev.word_fresh]
  · rw [hgate]
    exact Dev.onlyWords_settled (Dev.onlyWords_writeFields _ _ _ _) _

/-- A word of the Rigger that backs a CRIT or CONST object keeps its value, and HOST_WR_REFUSED tells of a change refused (R12). -/
theorem hostRegisterWrite_plc_refused (s : State) (r : Requester) (a : Nat) (v : Word) (hr : r.isHost = true) (hrun : s.dev.pwr.phase = .run)
    (hp : s.dev.pwr.perst = false) (hal : a % 4 = 0) (h1 : 0x280100 ≤ a) (h2 : a < 0x281100)
    (hon : s.dev.blockOn bPLC = true) (hcrit : s.dev.critWord a = true) :
    Answers (.hostRegisterWrite r a v 15#4) s fun t =>
      t.dev.word a = s.dev.word a ∧ s.dev.onlyWords (· = statusAddr bPLC) t.dev
        ∧ t.dev.bit (statusBit bPLC 16) = (s.dev.bit (statusBit bPLC 16) || s.dev.wouldChange (masksOf bPLC a) a v.toNat) := by
  have href : s.dev.fresh.hostRefused a = true := Bool.or_eq_true_iff.mpr (.inl hcrit)
  have hgate := Dev.hostGate_refused s.dev.fresh bPLC a v (fun d => d.writeWord bPLC a v false) hon href
  have hframe : s.dev.fresh.onlyWords (· = statusAddr bPLC) (s.dev.fresh.hostGate bPLC a v fun d => d.writeWord bPLC a v false) := by
    rw [hgate]
    exact (Dev.WordOnly.when _ (Dev.WordOnly.raise (· = statusAddr bPLC) _ _ _ rfl)).onlyWords
  refine ⟨_, exec_hostRegisterWrite_plc s r v hr hrun hp hal h1 (by omega) hon, ?_, Dev.onlyWords_settled hframe _, ?_⟩
  · exact (Dev.word_settle _ _ _).trans (hframe.1 a (by simp only [statusAddr, Dev.blockBase_plc]; omega))
  · rw [hgate, Dev.bit_settle, Dev.bit_raise_when _ _ _ _ (by omega)]
    rfl

/-- A doubleword with octets not enabled has no effect but its count (R302). -/
theorem hostRegisterWrite_partial_counts (s : State) (a : Nat) (v : Word) (be : BitVec 4) (hbe : be ≠ 15#4) (hrun : s.dev.pwr.phase = .run)
    (hp : s.dev.pwr.perst = false) :
    Answers (.hostRegisterWrite .pcie a v be) s fun t =>
      t.dev.get Reg.GLB_HOST_ERR.COUNT = (s.dev.get Reg.GLB_HOST_ERR.COUNT + 1) % 2 ^ 32
        ∧ s.dev.onlyWords (· = Reg.GLB_HOST_ERR) t.dev ∧ s.sameMem t := by
  have hstep : exec (.hostRegisterWrite .pcie a v be) s = .next { s with dev := Dev.settle s.dev.fresh s.dev.fresh.hostErr } := by
    rw [exec_hostRegisterWrite]
    exact memStep_onDev _ Dev.hostErr s (State.hostRegisterWrite_partial { s with dev := s.dev.fresh } a v hbe hrun hp)
  refine ⟨_, hstep, ?_, ?_, rfl, rfl⟩
  · rw [Dev.get_settle, Dev.hostErr, Dev.inc, Dev.get_put_same _ _ _ (by decide), Dev.get_fresh]
    rfl
  · exact Dev.onlyWords_settled (Dev.WordOnly.inc (· = Reg.GLB_HOST_ERR) _ _ rfl).onlyWords _

/-- Settles O10: a write passes the gate of R12, and a doubleword that is not whole never reaches it. -/
theorem hostRegisterWrite : Obligations.HostRegisterWrite :=
  ⟨hostRegisterWrite_plc_writes, hostRegisterWrite_plc_refused, hostRegisterWrite_partial_counts⟩

end Sys2Proof.Machine
end

section
/-! SUPPORT. Reads over the host paths: what a word reads as, and what a capturing read keeps for its requester (R6, R400). -/

namespace Sys2Proof.Machine

namespace Dev

/-! ### Views -/

/-- The outputs play no part in what a word reads as. -/
@[simp] theorem viewWord_fresh (s : Dev) (k : Nat) : s.fresh.viewWord k = s.viewWord k := rfl

/-- A word beyond its block's header, with no write-only bit, reads as its own word. -/
theorem viewWord_of_block (s : Dev) {b k : Nat} (hb : blockAt k = some b) (ho : 0x100 ≤ k - blockBase b) (hwo : (masksOf b k).wo = 0) :
    s.viewWord k = s.ownWord k % 2 ^ 32 := by
  rw [viewWord, hb]
  dsimp only
  rw [if_neg (by omega), hwo]
  exact Nat.and_two_pow_sub_one_eq_mod _ 32

/-- The error counters of the host port read as they are held. -/
theorem viewWord_errCount (s : Dev) {a : Nat} (ha : a = Reg.GLB_SPI_ERR_CNT ∨ a = Reg.GLB_HOST_ERR) : s.viewWord a = (s.word a).toNat := by
  have hown : s.ownWord a = (s.word a).toNat := by rcases ha with rfl | rfl <;> rfl
  have hrange : 0x100 ≤ a ∧ a < 0x10000 := by rcases ha with rfl | rfl <;> decide
  have hwo : (masksOf bGLB a).wo = 0 := by rcases ha with rfl | rfl <;> decide
  rw [viewWord_of_block s (blockAt_glb hrange.2) hrange.1 hwo, hown, Nat.mod_eq_of_lt (s.word a).isLt]

/-- Word `i` of the group of TIM_NOW at local time `t`: the native stamp's three words and the forerunner stamp (R24, R25). -/
def timeWord (t i : Nat) : Nat :=
  if i = 0 then stampOf t % 2 ^ 32 else if i = 1 then stampOf t / 2 ^ 32 % 2 ^ 32 else if i = 2 then stampOf t / 2 ^ 64 % 2 ^ 32
  else forerunner t

theorem timeWord_zero (t : Nat) : timeWord t 0 = stampOf t % 2 ^ 32 := by rw [timeWord, if_pos rfl]
theorem timeWord_one (t : Nat) : timeWord t 1 = stampOf t / 2 ^ 32 % 2 ^ 32 := by rw [timeWord, if_neg (by decide), if_pos rfl]
theorem timeWord_two (t : Nat) : timeWord t 2 = stampOf t / 2 ^ 64 % 2 ^ 32 := by
  rw [timeWord, if_neg (by decide), if_neg (by decide), if_pos rfl]
theorem timeWord_three (t : Nat) : timeWord t 3 = forerunner t := by
  rw [timeWord, if_neg (by decide), if_neg (by decide), if_neg (by decide)]

theorem timeWord_lt (t i : Nat) : timeWord t i < 2 ^ 32 := by
  rw [timeWord, forerunner]
  split_ifs <;> exact Nat.mod_lt _ (by decide)

theorem ownWord_time (s : Dev) {i : Nat} (hi : i < 4) : s.ownWord (Reg.TIM_NOW_LO + 4 * i) = timeWord s.now i := by
  have hne : ∀ k, k < Reg.TIM_NOW_LO ∨ Reg.TIM_COMPAT < k → Reg.TIM_NOW_LO + 4 * i ≠ k := by
    simp only [Reg.TIM_NOW_LO, Reg.TIM_COMPAT]
    omega
  rw [ownWord, if_neg (hne _ (by decide)), if_neg (hne _ (by decide)), if_neg (hne _ (by decide)), if_neg (hne _ (by decide)),
    if_neg (hne _ (by decide)), if_neg (hne _ (by decide))]
  obtain rfl | rfl | rfl | rfl : i = 0 ∨ i = 1 ∨ i = 2 ∨ i = 3 := by omega
  · rw [if_pos (by decide), timeWord_zero]
  · rw [if_neg (by decide), if_pos (by decide), timeWord_one]
  · rw [if_neg (by decide), if_neg (by decide), if_pos (by decide), timeWord_two]
  · rw [if_neg (by decide), if_neg (by decide), if_neg (by decide), if_pos (by decide), timeWord_three]

/-- The words of TIM_NOW read as the local time (R24, R25). -/
theorem viewWord_time (s : Dev) {i : Nat} (hi : i < 4) : s.viewWord (Reg.TIM_NOW_LO + 4 * i) = timeWord s.now i := by
  have hb : ∀ i < 4, blockAt (Reg.TIM_NOW_LO + 4 * i) = some bTIM ∧ 0x100 ≤ Reg.TIM_NOW_LO + 4 * i - blockBase bTIM
      ∧ (masksOf bTIM (Reg.TIM_NOW_LO + 4 * i)).wo = 0 := by decide
  obtain ⟨h1, h2, h3⟩ := hb i hi
  rw [viewWord_of_block s h1 h2 h3, ownWord_time s hi, Nat.mod_eq_of_lt (timeWord_lt _ _)]

/-! ### Captures -/

/-- The captures of the first `n` words of a value, in order. -/
def capturedRun (s : Dev) (r : Requester) (k n : Nat) : Tab Word :=
  (List.range n).foldl
    (fun m i => Tab.set (fun _ => 0) m (captureKey r (k + 4 * i)) (BitVec.ofNat 32 (s.viewWord (k + 4 * i)))) s.captured

theorem capturedRun_succ (s : Dev) (r : Requester) (k n : Nat) :
    s.capturedRun r k (n + 1)
      = Tab.set (fun _ => 0) (s.capturedRun r k n) (captureKey r (k + 4 * n)) (BitVec.ofNat 32 (s.viewWord (k + 4 * n))) := by
  rw [capturedRun, List.range_succ, List.foldl_append]
  rfl

/-- Every word of the run is kept as it reads. -/
theorem capturedRun_word (s : Dev) (r : Requester) (k : Nat) {n i : Nat} (hi : i < n) :
    Tab.get (fun _ => 0) (s.capturedRun r k n) (captureKey r (k + 4 * i)) = BitVec.ofNat 32 (s.viewWord (k + 4 * i)) := by
  induction n with
  | zero => omega
  | succ n ih =>
    rw [capturedRun_succ]
    by_cases he : i = n
    · rw [he, Tab.get_set_same]
    · rw [Tab.get_set_other _ _ _ _ _ (by simp only [captureKey]; omega), ih (by omega)]

/-- A key of none of the words keeps what it has. -/
theorem capturedRun_other (s : Dev) (r : Requester) (k j n : Nat) (h : ∀ i < n, j ≠ captureKey r (k + 4 * i)) :
    Tab.get (fun _ => 0) (s.capturedRun r k n) j = Tab.get (fun _ => 0) s.captured j := by
  induction n with
  | zero => rfl
  | succ n ih => rw [capturedRun_succ, Tab.get_set_other _ _ _ _ _ (h n (by omega)), ih fun i hi => h i (by omega)]

/-- A read of the lowest word of a value keeps all its words, and changes nothing else (R400). -/
theorem capture_eq (s : Dev) (r : Requester) (k : Nat) (h : captureLen k ≠ 1) :
    s.capture r k = { s with captured := s.capturedRun r k (captureLen k) } := by
  rw [capture, if_neg h]
  rfl

theorem reqNum_injective (q r : Requester) : reqNum q = reqNum r → q = r := by
  cases q <;> cases r <;> simp [reqNum]

/-- The stores of two requesters are apart. -/
theorem captureKey_ne {q r : Requester} {j k : Nat} (h : q ≠ r) (hj : j < 2 ^ 26) (hk : k < 2 ^ 26) : captureKey q j ≠ captureKey r k := by
  have hn : reqNum q ≠ reqNum r := fun he => h (reqNum_injective q r he)
  simp only [captureKey]
  omega

/-! ### Host reads -/

/-- A read of a block's word that answers gives what its requester reads of it, and captures (R400). -/
theorem hostRead_block (s : Dev) (r : Requester) {a b : Nat} (hal : a % 4 = 0) (ha : a < 0x400000) (hb : blockAt a = some b)
    (hans : s.answers b a = true) (hs : isSelector a = false) (hk : s.hostKey r a = a) :
    s.hostRead r a = (s.readWord r a, s.capture r a) := by
  rw [hostRead, if_neg (by omega), if_neg (by omega), if_neg (by omega), if_neg (by omega), if_neg (by omega), hb]
  simp [hans, hs, hk]

theorem blockBase_glb : blockBase bGLB = 0 := rfl

/-- No word of GLB from PCI Express identity to SPI error count is part of a value that a read captures. -/
theorem captureLen_glb {k : Nat} (h1 : 0x3E0 ≤ k) (h2 : k < 0x41C) : captureLen k = 1 := by
  have hhdr : (k - blockBase bGLB == 0x40) = false := beq_eq_false_iff_ne.mpr (by rw [blockBase_glb]; omega)
  have hne : ∀ j, j < 0x3E0 ∨ 0x41C ≤ j → k ≠ j := by omega
  rw [captureLen, blockAt_glb (by omega)]
  dsimp only
  rw [if_neg (ne_true_of_eq_false hhdr), if_neg (hne _ (by decide)), if_neg (hne _ (by decide)), if_neg (by omega), if_neg (by omega), if_neg (by omega),
    if_neg (not_or.mpr ⟨hne _ (by decide), hne _ (by decide)⟩), if_neg (by omega)]

theorem captureHigh_glb {k : Nat} (h1 : 0x400 ≤ k) (h2 : k < 0x41C) : captureHigh k = false := by
  rw [captureHigh, List.any_eq_false]
  intro i hi
  rw [List.mem_range] at hi
  rw [captureLen_glb (by omega) (by omega)]
  simp

/-- A read of such a word of GLB gives its view and keeps nothing. -/
theorem hostRead_glb (s : Dev) (r : Requester) {a : Nat} (hal : a % 4 = 0) (h1 : 0x400 ≤ a) (h2 : a < 0x41C) (hon : s.blockOn bGLB = true) :
    s.hostRead r a = (s.viewWord a, s) := by
  rw [hostRead_block s r hal (by omega) (blockAt_glb (by omega)) (answers_of_blockOn s a (by decide) hon) (isSelector_false (by omega))
    (hostKey_plain s r (by omega)), readWord, captureHigh_glb h1 h2, capture, if_pos (captureLen_glb (by omega) h2)]
  rfl

/-- A read of TIM_NOW_LO gives the lowest word of the stamp and keeps the group of four for its requester (R400). -/
theorem hostRead_timNow (s : Dev) (r : Requester) (hon : s.blockOn bTIM = true) :
    s.hostRead r Reg.TIM_NOW_LO = (timeWord s.now 0, { s with captured := s.capturedRun r Reg.TIM_NOW_LO 4 }) := by
  have hlen : captureLen Reg.TIM_NOW_LO = 4 := by decide
  have hlow : captureHigh Reg.TIM_NOW_LO = false := by decide
  have hview : s.viewWord Reg.TIM_NOW_LO = timeWord s.now 0 := viewWord_time s (i := 0) (by decide)
  rw [hostRead_block s r (by decide) (by decide) (by decide : blockAt Reg.TIM_NOW_LO = some bTIM) (answers_of_blockOn s _ (by decide) hon)
    (by decide) (hostKey_plain s r (by decide)), readWord, hlow, if_neg Bool.false_ne_true, capture_eq s r _ (by rw [hlen]; decide), hlen, hview]

/-- A read command over a host path in Run returns the word and leaves the device as the read does. -/
theorem hostReadCmd_run (s : Dev) (r : Requester) (a : Nat) (hr : r.isHost = true) (hrun : s.pwr.phase = .run) (hp : s.pwr.perst = false) :
    s.hostReadCmd r a = (s.hostRead r a).2.emit (.word (BitVec.ofNat 32 (s.hostRead r a).1)) := by
  simp [hostReadCmd, hostReaches_host s r hr hp, hostArrive_run s r hrun]

theorem onlyWords_emit (K : Nat → Prop) (s : Dev) (o : Output) : s.onlyWords K (s.emit o) := onlyWords_of_sameBut K rfl

/-- A higher word of the group reads for its requester as it was captured, whatever the device has become. -/
theorem readWord_captured_time {s u : Dev} {r : Requester} (hu : u.captured = s.capturedRun r Reg.TIM_NOW_LO 4) {i : Nat} (h0 : 0 < i) (hi : i < 4) :
    u.readWord r (Reg.TIM_NOW_LO + 4 * i) = timeWord s.now i := by
  have hhigh : ∀ i < 4, 0 < i → captureHigh (Reg.TIM_NOW_LO + 4 * i) = true := by decide
  rw [readWord, hhigh i hi h0, if_pos rfl, hu, capturedRun_word s r _ hi, viewWord_time s hi, BitVec.toNat_ofNat,
    Nat.mod_eq_of_lt (timeWord_lt _ _)]

end Dev

/-- A word holds a number modulo its width. -/
theorem ofNat_mod_word (x : Nat) : BitVec.ofNat 32 (x % 2 ^ 32) = BitVec.ofNat 32 x := by
  apply BitVec.eq_of_toNat_eq
  rw [BitVec.toNat_ofNat, BitVec.toNat_ofNat, Nat.mod_mod]

theorem exec_captureRead (r : Requester) (a : Nat) (s : State) : exec (.captureRead r a) s = devStep (·.hostReadCmd r a) s := rfl

theorem exec_rcRead (r : Requester) (a : Nat) (s : State) : exec (.rcRead r a) s = devStep (·.hostReadCmd r a) s := rfl

/-- CAPTURE_READ of TIM_NOW_LO keeps the group of the time for its requester alone (R400). -/
theorem captureRead_timNow (s : State) (r : Requester) (hr : r.isHost = true) (hrun : s.dev.pwr.phase = .run) (hp : s.dev.pwr.perst = false)
    (hon : s.dev.blockOn bTIM = true) :
    Answers (.captureRead r Reg.TIM_NOW_LO) s fun t =>
      Output.word (BitVec.ofNat 32 (stampOf s.dev.now)) ∈ t.dev.out
        ∧ (∀ u : Dev, u.captured = t.dev.captured → u.readWord r Reg.TIM_NOW_MID = stampOf s.dev.now / 2 ^ 32 % 2 ^ 32
            ∧ u.readWord r Reg.TIM_NOW_HI = stampOf s.dev.now / 2 ^ 64 % 2 ^ 32 ∧ u.readWord r Reg.TIM_COMPAT = forerunner s.dev.now)
        ∧ (∀ (q : Requester) (k : Nat), q ≠ r → k < 2 ^ 26 →
            Tab.get (fun _ => 0) t.dev.captured (Dev.captureKey q k) = Tab.get (fun _ => 0) s.dev.captured (Dev.captureKey q k))
        ∧ (∀ k, t.dev.word k = s.dev.word k) ∧ s.sameMem t := by
  have hcmd : s.dev.fresh.hostReadCmd r Reg.TIM_NOW_LO
      = Dev.emit { s.dev.fresh with captured := s.dev.fresh.capturedRun r Reg.TIM_NOW_LO 4 } (.word (BitVec.ofNat 32 (Dev.timeWord s.dev.now 0))) := by
    rw [Dev.hostReadCmd_run s.dev.fresh r _ hr hrun hp, Dev.hostRead_timNow s.dev.fresh r hon, Dev.now_fresh]
  refine ⟨_, (exec_captureRead _ _ _).trans (devStep_next _ _), ?_, ?_, ?_, ?_, rfl, rfl⟩
  · refine Dev.mem_settle_out _ _ _ ?_
    rw [hcmd, Dev.timeWord_zero, ofNat_mod_word]
    exact List.mem_append_right _ (List.mem_singleton_self _)
  · intro u hu
    have hc : u.captured = s.dev.fresh.capturedRun r Reg.TIM_NOW_LO 4 := by rw [hu, Dev.settle_captured, hcmd]; rfl
    rw [← Dev.timeWord_one, ← Dev.timeWord_two, ← Dev.timeWord_three, ← Dev.now_fresh]
    exact ⟨Dev.readWord_captured_time hc (i := 1) (by decide) (by decide), Dev.readWord_captured_time hc (i := 2) (by decide) (by decide),
      Dev.readWord_captured_time hc (i := 3) (by decide) (by decide)⟩
  · intro q k hq hk
    rw [Dev.settle_captured, hcmd]
    refine Dev.capturedRun_other s.dev.fresh r _ _ _ fun i hi => Dev.captureKey_ne hq hk ?_
    simp only [Reg.TIM_NOW_LO]
    omega
  · intro k
    rw [Dev.word_settle, hcmd]
    rfl

/-- RC_READ of an error counter of the host port returns it and clears nothing (R6). -/
theorem rcRead_errCount (s : State) (r : Requester) (a : Nat) (hr : r.isHost = true) (hrun : s.dev.pwr.phase = .run) (hp : s.dev.pwr.perst = false)
    (hon : s.dev.blockOn bGLB = true) (ha : a = Reg.GLB_SPI_ERR_CNT ∨ a = Reg.GLB_HOST_ERR) :
    Answers (.rcRead r a) s fun t => Output.word (s.dev.word a) ∈ t.dev.out ∧ s.dev.onlyWords (fun _ => False) t.dev ∧ s.sameMem t := by
  have hrange : a % 4 = 0 ∧ 0x400 ≤ a ∧ a < 0x41C := by rcases ha with rfl | rfl <;> decide
  obtain ⟨hal, h1, h2⟩ := hrange
  have hcmd : s.dev.fresh.hostReadCmd r a = s.dev.fresh.emit (.word (s.dev.word a)) := by
    rw [Dev.hostReadCmd_run s.dev.fresh r _ hr hrun hp, Dev.hostRead_glb s.dev.fresh r hal h1 h2 hon, Dev.viewWord_errCount _ ha,
      BitVec.ofNat_toNat, BitVec.setWidth_eq, Dev.word_fresh]
  refine ⟨_, (exec_rcRead _ _ _).trans (devStep_next _ _), ?_, ?_, rfl, rfl⟩
  · exact Dev.mem_settle_out _ _ _ (by rw [hcmd]; exact List.mem_singleton_self _)
  · exact Dev.onlyWords_settled (by rw [hcmd]; exact Dev.onlyWords_emit _ _ _) _

/-- Settles O11: the read of the lowest word stores all four words under the requester's own keys. -/
theorem hostReads : Obligations.HostReads := ⟨captureRead_timNow, rcRead_errCount⟩

end Sys2Proof.Machine
end

section
/-! SUPPORT. Frames on the SPI slave (R306, R307), and the values after reset. -/

namespace Sys2Proof.Machine

namespace Dev

/-! ### Octets on MISO -/

/-- MISO carries the octets in order, and nothing else changes (R307). -/
theorem miso_eq (s : Dev) (l : List Octet) : s.miso l = { s with out := s.out ++ l.map Output.octet } := by
  induction l generalizing s with
  | nil => simp [miso]
  | cons o l ih =>
    rw [show s.miso (o :: l) = (s.emit (.octet o)).miso l from rfl, ih]
    simp [emit]

@[simp] theorem miso_out (s : Dev) (l : List Octet) : (s.miso l).out = s.out ++ l.map Output.octet := by rw [miso_eq]
@[simp] theorem word_miso (s : Dev) (l : List Octet) (k : Nat) : (s.miso l).word k = s.word k := by rw [miso_eq]; rfl
@[simp] theorem get_miso (s : Dev) (l : List Octet) (f : Fld) : (s.miso l).get f = s.get f := by rw [get, get, word_miso]
@[simp] theorem bit_miso (s : Dev) (l : List Octet) (f : Fld) : (s.miso l).bit f = s.bit f := by rw [bit, bit, get_miso]

theorem onlyWords_miso (K : Nat → Prop) (s : Dev) (l : List Octet) : s.onlyWords K (s.miso l) :=
  onlyWords_of_sameBut K (by rw [miso_eq]; rfl)

/-- What a command first drives on MISO stands first in its outputs. -/
theorem miso_isPrefix_settle (old s : Dev) (l : List Octet) : l.map Output.octet <+: (settle old (s.fresh.miso l)).out := by
  have h := out_isPrefix_settle old (s.fresh.miso l)
  rwa [miso_out, fresh_out, List.nil_append] at h

/-! ### Reads and the status octet -/

/-- The answer to a READ of one word of GLB: wait octets, the marker, the word (R307). -/
theorem spiRead_glb (s : Dev) {a w : Nat} (hrun : s.pwr.phase = .run) (hon : s.blockOn bGLB = true) (hal : a % 4 = 0) (h1 : 0x400 ≤ a)
    (h2 : a < 0x41C) : s.spiRead a 1 w = s.miso (List.replicate w 0 ++ 0xA5 :: octetsLE 4 (s.viewWord a)) := by
  rw [spiRead, hostArrive_run s _ hrun, if_neg (by omega), spiAnswer, hostRead_glb s .spi hal h1 h2 hon, spiAnswer]

theorem spiStatus_run (s : Dev) (n : Nat) (hrun : s.pwr.phase = .run) : s.spiStatus n = s.miso (List.replicate n s.spiStatusOctet) := by
  rw [spiStatus, hostArrive_run s _ hrun]

/-! ### Writes -/

/-- A write of GLB_DIAG_PAGE over SPI, a word that backs no object, takes its fields (R12, R303). -/
theorem hostWrite_diagPage (s : Dev) (v : Word) (hon : s.blockOn bGLB = true) :
    s.hostWrite .spi Reg.GLB_DIAG_PAGE v = s.writeFields bGLB Reg.GLB_DIAG_PAGE v := by
  have hregion : regionOf Reg.GLB_DIAG_PAGE = none := by decide
  have href : s.hostRefused Reg.GLB_DIAG_PAGE = false := by
    rw [hostRefused, critWord, hregion, Option.isSome_none, Bool.and_false, Bool.or_false]
    rfl
  rw [hostWrite_block s .spi v (by decide) (by decide) (blockAt_glb (by decide)) (answers_of_blockOn s _ (by decide) hon),
    hostWriteBlock_gate s .spi bGLB v (hostKey_plain s .spi (by decide)) (by decide) (by decide), hostGate_acts s _ _ _ _ hon href]
  rfl

/-- PAGE after a write is bit 0 of the written word. -/
theorem get_diagPage_writeFields (s : Dev) (v : Word) :
    (s.writeFields bGLB Reg.GLB_DIAG_PAGE v).get Reg.GLB_DIAG_PAGE.PAGE = v.toNat % 2 := by
  have hm : masksOf bGLB Reg.GLB_DIAG_PAGE = { rw := 1 } := by decide
  have hbit := testBit_accessWrite_cases (m := { rw := 1 }) (by decide) (s.word Reg.GLB_DIAG_PAGE).toNat v.toNat 0 (by decide)
  rw [if_pos (by decide), Nat.testBit_zero, Nat.testBit_zero, decide_eq_decide] at hbit
  have hget : (s.writeFields bGLB Reg.GLB_DIAG_PAGE v).get Reg.GLB_DIAG_PAGE.PAGE
      = (s.written bGLB Reg.GLB_DIAG_PAGE v).toNat / 2 ^ 0 % 2 ^ 1 := congrArg (·.toNat / 2 ^ 0 % 2 ^ 1) (word_writeFields _ _ _ _)
  rw [hget, written_toNat, hm]
  omega

/-! ### Refused frames -/

/-- A frame whose CMD is none of the three is refused (R306). -/
theorem spiFrameBad_unknown {cmd : Octet} (l : List Octet) (h2 : cmd ≠ 0x02#8) (h5 : cmd ≠ 0x05#8) (hB : cmd ≠ 0x0B#8) :
    spiFrameBad (cmd :: l) = true := by
  simp [spiFrameBad, h2, h5, hB]

/-- A refused frame changes the words of its record and of the fault event alone. -/
theorem spiBad_only (s : Dev) :
    FaultOnly (fun k => k = Reg.GLB_SPI_STAT ∨ k = Reg.GLB_SPI_ERR_CNT ∨ faultWords bGLB k) s s.spiBad :=
  ((FaultOnly.put _ s Reg.GLB_SPI_STAT.BAD 1 (.inl rfl)).trans (FaultOnly.inc _ _ Reg.GLB_SPI_ERR_CNT.COUNT (.inr (.inl rfl)))).trans
    ((fault_only _ bGLB 1).mono fun _ hk => .inr (.inr hk))

theorem bit_spiBad (s : Dev) : s.spiBad.bit Reg.GLB_SPI_STAT.BAD = true := by
  rw [spiBad, bit_fault _ _ _ _ (by unfold faultWords; decide), inc, bit_put_other _ _ _ _ (by decide) (by decide), bit_put_same _ _ _ (by decide) rfl]
  rfl

theorem get_spiBad (s : Dev) : s.spiBad.get Reg.GLB_SPI_ERR_CNT.COUNT = (s.get Reg.GLB_SPI_ERR_CNT.COUNT + 1) % 2 ^ 32 := by
  rw [spiBad, get_fault _ _ _ _ (by unfold faultWords; decide), inc, get_put_same _ _ _ (by decide), get_put_addr _ _ _ _ (by decide)]
  rfl

end Dev

/-- The word that four octets spell has the first of them lowest (R306). -/
theorem toNat_octets_mod_two (a b c d : Octet) : (d ++ c ++ b ++ a : Word).toNat % 2 = a.toNat % 2 := by
  rw [BitVec.toNat_append, ← Nat.shiftLeft_add_eq_or_of_lt a.isLt, Nat.shiftLeft_eq]
  omega

/-- A WRITE frame in Run: its words are written, and MISO is driven with 0x00 (R306). -/
theorem State.spiWrite_run (s : State) {a : Nat} (l : List Octet) (hrun : s.dev.pwr.phase = .run) (hal : a % 4 = 0) :
    s.spiWrite a l = (s.spiWords a l).onDev (·.miso (List.replicate l.length 0)) := by
  have harr : s.onDev (·.hostArrive .spi) = s := by rw [State.onDev, Dev.hostArrive_run _ _ hrun]
  rw [State.spiWrite, harr, if_neg (by omega)]

theorem exec_spiWrite (a : BitVec 24) (l : List Octet) (s : State) : exec (.spiWrite a l) s = memStep (·.spiWrite a.toNat l) s := rfl
theorem exec_spiRead (a : BitVec 24) (n : Nat) (w : Fin 33) (s : State) :
    exec (.spiRead a n w) s = devStep (·.spiRead a.toNat n w) s := rfl
theorem exec_spiStatus (n : Nat) (s : State) : exec (.spiStatus n) s = devStep (·.spiStatus n) s := rfl
theorem exec_spiBadFrame (l : List Octet) (s : State) :
    exec (.spiBadFrame l) s = devStep (fun d => (d.hostArrive .spi).when (Dev.spiFrameBad l) (·.spiBad)) s := rfl

/-- SPI_WRITE in Run, where the words of the frame change the device alone. -/
theorem exec_spiWrite_run (s : State) (a : BitVec 24) (l : List Octet) (g : Dev → Dev) (hrun : s.dev.pwr.phase = .run) (hal : a.toNat % 4 = 0)
    (hg : State.spiWords { s with dev := s.dev.fresh } a.toNat l = { s with dev := g s.dev.fresh }) :
    exec (.spiWrite a l) s
      = .next { s with dev := Dev.settle s.dev.fresh ((g s.dev.fresh).miso (List.replicate l.length 0)) } := by
  rw [exec_spiWrite]
  refine memStep_onDev _ (fun d => (g d).miso (List.replicate l.length 0)) s ?_
  rw [State.spiWrite_run { s with dev := s.dev.fresh } l hrun hal, hg]
  rfl

/-- A WRITE frame of one word to GLB_DIAG_PAGE (R303, R306). -/
theorem spiWrite_diagPage (s : State) (a b c d : Octet) (hrun : s.dev.pwr.phase = .run) (hon : s.dev.blockOn bGLB = true) :
    Answers (.spiWrite 0x40C [a, b, c, d]) s fun t => t.dev.get Reg.GLB_DIAG_PAGE.PAGE = a.toNat % 2
      ∧ s.dev.onlyWords (· = Reg.GLB_DIAG_PAGE) t.dev ∧ s.sameMem t := by
  have hstep := exec_spiWrite_run s 0x40C [a, b, c, d] (·.writeFields bGLB Reg.GLB_DIAG_PAGE (d ++ c ++ b ++ a)) hrun (by decide) (by
    rw [← Dev.hostWrite_diagPage s.dev.fresh (d ++ c ++ b ++ a) hon]
    rfl)
  refine ⟨_, hstep, ?_, Dev.onlyWords_settled ?_ _, rfl, rfl⟩
  · rw [Dev.get_settle, Dev.get_miso, Dev.get_diagPage_writeFields, toNat_octets_mod_two]
  · exact Dev.onlyWords_trans (Dev.onlyWords_writeFields _ _ _ _) (Dev.onlyWords_miso _ _ _)

/-- A WRITE frame whose word is not whole sets PARTIAL (R306). -/
theorem spiWrite_partial (s : State) (a b c : Octet) (hrun : s.dev.pwr.phase = .run) :
    Answers (.spiWrite 0x40C [a, b, c]) s fun t => t.dev.bit Reg.GLB_SPI_STAT.PARTIAL = true ∧ s.dev.onlyWords (· = Reg.GLB_SPI_STAT) t.dev
      ∧ s.sameMem t := by
  have hstep := exec_spiWrite_run s 0x40C [a, b, c] (·.put Reg.GLB_SPI_STAT.PARTIAL 1) hrun (by decide) rfl
  refine ⟨_, hstep, ?_, Dev.onlyWords_settled ?_ _, rfl, rfl⟩
  · rw [Dev.bit_settle, Dev.bit_miso, Dev.bit_put_same _ _ _ (by decide) rfl]
    rfl
  · exact Dev.onlyWords_trans (Dev.WordOnly.put (· = Reg.GLB_SPI_STAT) _ _ _ rfl).onlyWords (Dev.onlyWords_miso _ _ _)

/-- A READ frame of one word of GLB (R307). -/
theorem spiRead_answers (s : State) (a : BitVec 24) (w : Fin 33) (hrun : s.dev.pwr.phase = .run) (hon : s.dev.blockOn bGLB = true)
    (hal : a.toNat % 4 = 0) (h1 : 0x400 ≤ a.toNat) (h2 : a.toNat < 0x41C) :
    Answers (.spiRead a 1 w) s fun t => s.dev.onlyWords (fun _ => False) t.dev ∧ s.sameMem t
      ∧ (List.replicate w (Output.octet 0) ++ (Output.octet 0xA5 :: (octetsLE 4 (s.dev.viewWord a.toNat)).map Output.octet)) <+: t.dev.out := by
  have hcmd := Dev.spiRead_glb s.dev.fresh (w := w) hrun hon hal h1 h2
  refine ⟨_, (exec_spiRead _ _ _ _).trans (devStep_next _ _), Dev.onlyWords_settled ?_ _, ⟨rfl, rfl⟩, ?_⟩
  · rw [hcmd]
    exact Dev.onlyWords_miso _ _ _
  · have h := Dev.miso_isPrefix_settle s.dev.fresh s.dev (List.replicate w 0 ++ 0xA5 :: octetsLE 4 (s.dev.viewWord a.toNat))
    rw [List.map_append, List.map_replicate, List.map_cons] at h
    rw [hcmd, Dev.viewWord_fresh]
    exact h

/-- A STATUS frame (R307). -/
theorem spiStatus_answers (s : State) (n : Nat) (hrun : s.dev.pwr.phase = .run) :
    Answers (.spiStatus n) s fun t => s.dev.onlyWords (fun _ => False) t.dev ∧ s.sameMem t
      ∧ List.replicate n (Output.octet (BitVec.ofNat 8 (128 * s.dev.get (statusBit bGLB 0) + 2 * s.dev.get Reg.GLB_SPI_STAT.PARTIAL
          + s.dev.get Reg.GLB_SPI_STAT.BAD))) <+: t.dev.out := by
  have hcmd := Dev.spiStatus_run s.dev.fresh n hrun
  refine ⟨_, (exec_spiStatus _ _).trans (devStep_next _ _), Dev.onlyWords_settled ?_ _, ⟨rfl, rfl⟩, ?_⟩
  · rw [hcmd]
    exact Dev.onlyWords_miso _ _ _
  · have h := Dev.miso_isPrefix_settle s.dev.fresh s.dev (List.replicate n s.dev.spiStatusOctet)
    rw [List.map_replicate] at h
    rw [hcmd]
    exact h

/-- A frame with an unknown CMD (R306, R345). -/
theorem spiBadFrame_answers (s : State) (cmd : Octet) (l : List Octet) (hrun : s.dev.pwr.phase = .run) (h2 : cmd ≠ 0x02#8) (h5 : cmd ≠ 0x05#8)
    (hB : cmd ≠ 0x0B#8) :
    Answers (.spiBadFrame (cmd :: l)) s fun t => t.dev.bit Reg.GLB_SPI_STAT.BAD = true
      ∧ t.dev.get Reg.GLB_SPI_ERR_CNT.COUNT = (s.dev.get Reg.GLB_SPI_ERR_CNT.COUNT + 1) % 2 ^ 32 ∧ t.dev.bit (stickyBit bGLB 1) = true
      ∧ s.dev.onlyWordsAndFaults (fun k => k = Reg.GLB_SPI_STAT ∨ k = Reg.GLB_SPI_ERR_CNT ∨ Dev.faultWords bGLB k) t.dev ∧ s.sameMem t := by
  have hcmd : (s.dev.fresh.hostArrive .spi).when (Dev.spiFrameBad (cmd :: l)) (·.spiBad) = s.dev.fresh.spiBad := by
    rw [Dev.hostArrive_run s.dev.fresh _ hrun, Dev.spiFrameBad_unknown l h2 h5 hB, Dev.when_true]
  refine ⟨_, (exec_spiBadFrame _ _).trans (devStep_next _ _), ?_, ?_, ?_, ?_, rfl, rfl⟩
  · rw [hcmd, Dev.bit_settle, Dev.bit_spiBad]
  · rw [hcmd, Dev.get_settle, Dev.get_spiBad, Dev.get_fresh]
  · rw [hcmd, Dev.bit_settle]
    exact Dev.fault_sticky _ bGLB 1 (by decide) (by decide)
  · rw [hcmd]
    exact (Dev.spiBad_only _).settled _

/-- Settles O13: each kind of frame, in Run, by what it does to the words and to MISO. -/
theorem spiFrames : Obligations.SpiFrames :=
  ⟨spiWrite_diagPage, spiWrite_partial, spiRead_answers, spiStatus_answers, spiBadFrame_answers⟩

/-! ### Reset (R1, R20) -/

/-- After reset every word is at its reset value. -/
theorem word_reset (k : Nat) : State.reset.dev.word k = resetWord k := rfl

/-- Settles O7: no word is stored at reset, so every word is the tables' own (R20); that domain 0 alone is on then is the choice of log entry 25. -/
theorem resetValues : Obligations.ResetValues := by
  refine ⟨rfl, rfl, by decide, fun b hb => ?_, fun e he => ?_⟩
  · have h : ∀ b < 28, resetWord (stickyAddr b) = 0 := by decide
    rw [word_reset, h b hb]
  · rw [word_reset]
    revert e
    decide

end Sys2Proof.Machine
end

section
/-! SUPPORT. What the statistics of a frame and the release of its copy may change (R90, R98, R99, R150, R252–R256): two words of each counter; the frames and banks of the Locker, the Rigger's words and its evacuations, the log and the trace. -/

namespace Sys2Proof.Machine

namespace Dev

/-! ### Statistics (R90, R150) -/

/-- A counter of a port changes with the half-range bits of its port alone. -/
theorem incTx_only (s : Dev) (p i : Nat) : WordOnly (fun k => k = Reg.PRT_TX_CNT p i ∨ k = Reg.PRT_HALF_TX p) s (s.incTx p i) :=
  (WordOnly.inc _ s (Reg.PRT_TX_CNT.COUNT p i) (.inl rfl)).trans (WordOnly.when _ (WordOnly.put _ _ ⟨Reg.PRT_HALF_TX p, i, 1⟩ _ (.inr rfl)))

/-- A counter of a context changes with the state word of its context alone. -/
theorem incCtx_only (s : Dev) (x i : Nat) : WordOnly (fun k => k = Reg.STM_CNT x i ∨ k = Reg.STM_CTX_STAT x) s (s.incCtx x i) :=
  (WordOnly.inc _ s (Reg.STM_CNT.COUNT x i) (.inl rfl)).trans (WordOnly.when _ (WordOnly.put _ _ ⟨Reg.STM_CTX_STAT x, i, 1⟩ _ (.inr rfl)))

/-! ### Copies and banks (R98, R99, R252–R256) -/

/-- The words that the end of an evacuation or a new choice of banks may change: the state of the banks, the windows from the Rigger's to the Telltale's, and the bank sets of the owners. -/
def bankWords (k : Nat) : Prop := k = Reg.FRM_BANK_STATE ∨ (0x280000 ≤ k ∧ k < 0x300000) ∨ 0x1250000 ≤ k

/-- A change of registers, fault units, log, trace, frames, retired granules and the Rigger alone. -/
def LockerOnly (K : Nat → Prop) (s t : Dev) : Prop :=
  (∀ k, ¬ K k → t.word k = s.word k)
    ∧ t = { s with regs := t.regs, flt := t.flt, log := t.log, trc := t.trc, frames := t.frames, retired := t.retired, plc := t.plc }

theorem LockerOnly.refl (K : Nat → Prop) (s : Dev) : LockerOnly K s s := ⟨fun _ _ => rfl, rfl⟩

theorem LockerOnly.trans {K : Nat → Prop} {a b c : Dev} (h : LockerOnly K a b) (k : LockerOnly K b c) : LockerOnly K a c :=
  ⟨fun j hj => (k.1 j hj).trans (h.1 j hj), by rw [k.2, h.2]⟩

theorem LockerOnly.mono {K L : Nat → Prop} {a b : Dev} (h : LockerOnly K a b) (hl : ∀ k, K k → L k) : LockerOnly L a b :=
  ⟨fun j hj => h.1 j fun hk => hj (hl j hk), h.2⟩

theorem FaultOnly.toLocker {K : Nat → Prop} {s t : Dev} (h : FaultOnly K s t) : LockerOnly K s t := ⟨h.1, by rw [h.2]⟩

theorem LockerOnly.put (K : Nat → Prop) (s : Dev) (f : Fld) (v : Nat) (h : K f.addr) : LockerOnly K s (s.put f v) := (FaultOnly.put K s f v h).toLocker

theorem LockerOnly.foldl {α : Type} {K : Nat → Prop} (l : List α) {f : Dev → α → Dev} (h : ∀ s x, LockerOnly K s (f s x)) (s : Dev) :
    LockerOnly K s (l.foldl f s) := by
  induction l generalizing s with
  | nil => exact LockerOnly.refl K s
  | cons x l ih => exact (h s x).trans (ih _)

theorem setLocker_only (K : Nat → Prop) (s : Dev) (m : Tab Frame) (r : List Nat) (x : Plc) :
    LockerOnly K s { s with frames := m, retired := r, plc := x } := ⟨fun _ _ => rfl, rfl⟩

theorem bankWords_window {k : Nat} (h1 : 0x280000 ≤ k) (h2 : k < 0x300000) : bankWords k := .inr (.inl ⟨h1, h2⟩)

theorem bankWords_of_faultWords {k : Nat} (h : faultWords bPLC k) : bankWords k := by
  rcases h with rfl | rfl | rfl | rfl | rfl
  all_goals exact bankWords_window (by decide) (by decide)

theorem plcMove_only (s : Dev) (kind cause to' frm item : Nat) : LockerOnly bankWords s (s.plcMove kind cause to' frm item) := by
  have hword : ∀ (u : Dev) (w : Word), FaultOnly bankWords u (u.setWord Reg.PLC_MOVE_LAST w) := fun u w =>
    (WordOnly.setWord _ _ _ _ (bankWords_window (by decide) (by decide))).toFault
  have hlog : ∀ (u : Dev) (w : Nat), FaultOnly bankWords u (u.logStage 2 bPLC 0 0 w) := fun u w =>
    (logStage_only _ _ _ _ _ _).mono fun k hk => hk ▸ bankWords_window (by decide) (by decide)
  have htrace : ∀ (u : Dev) (w : Nat), FaultOnly bankWords u (u.trace 5 0 kind w 0) := fun u w =>
    (traceAt_only u _ 5 0 kind w 0).mono fun _ h => bankWords_of_faultWords (faultWords_trc bPLC _ h)
  unfold plcMove
  exact ((((FaultOnly.inc _ _ _ (bankWords_window (by decide) (by decide))).trans (hword _ _)).trans
    (FaultOnly.put _ _ _ _ (bankWords_window (by decide) (by decide)))).trans ((hlog _ _).trans (htrace _ _))).toLocker

theorem evacCheck_only (s : Dev) : LockerOnly bankWords s s.evacCheck := by
  unfold evacCheck
  split
  · exact LockerOnly.refl _ s
  · split
    · exact LockerOnly.refl _ s
    · exact ((setLocker_only _ s _ _ _).trans (LockerOnly.put _ _ _ _ (.inl rfl))).trans
        (((LockerOnly.put _ _ Reg.PLC_EVAC.START _ (bankWords_window (by decide) (by decide))).trans
          (LockerOnly.put _ _ (statusBit bPLC 2) _ (bankWords_window (by decide) (by decide)))).trans (plcMove_only _ _ _ _ _ _))

theorem rechoose_only (s : Dev) (l : List Nat) : LockerOnly bankWords s (s.rechoose l) := by
  have hput : ∀ (u : Dev) (o v : Nat), LockerOnly bankWords u (u.put (Reg.PLC_OWNER_BANKS.BANKS o) v) := fun u o v =>
    LockerOnly.put _ _ _ _ (.inr (.inr (by simp only [Reg.PLC_OWNER_BANKS.BANKS]; omega)))
  exact (LockerOnly.foldl _ (fun u o => hput u o 0) s).trans (LockerOnly.foldl _ (fun u o => hput u o _) _)

theorem rebank_only (s : Dev) (l : List Nat) : LockerOnly bankWords s (s.rebank l) := by
  unfold rebank
  dsimp only
  split
  · exact rechoose_only s _
  · exact rechoose_only s _

theorem evacStart_only (s : Dev) (k cause : Nat) : LockerOnly bankWords s (s.evacStart k cause) := by
  unfold evacStart
  exact (((setLocker_only _ s _ _ _).trans (LockerOnly.put _ _ _ _ (bankWords_window (by decide) (by decide)))).trans (rebank_only _ _)).trans
    (evacCheck_only _)

theorem evacNext_only (s : Dev) : LockerOnly bankWords s s.evacNext := by
  unfold evacNext
  split
  · exact LockerOnly.refl _ s
  · split
    · exact (setLocker_only _ s _ _ _).trans (evacStart_only _ _ _)
    · exact LockerOnly.refl _ s

theorem releaseCopy_only (s : Dev) (d : Nat) : LockerOnly bankWords s (s.releaseCopy d) := by
  unfold releaseCopy
  dsimp only
  split
  · exact setLocker_only _ s _ _ _
  · exact ((setLocker_only _ s _ _ _).trans (evacCheck_only _)).trans (evacNext_only _)

/-- The words that a dropped copy may change beside its port's counter: a counter of its context, and the banks'. -/
def dropWords (j k : Nat) : Prop := (∃ x, k = Reg.STM_CNT x j ∨ k = Reg.STM_CTX_STAT x) ∨ bankWords k

/-- A late copy is counted, for its context too, and its frame released (R74, R151). -/
theorem dropLate_counted (s : Dev) (p : Nat) (e : QEnt) : LockerOnly (dropWords 1) (s.incTx p 17) (s.dropLate p e) := by
  unfold dropLate
  dsimp only
  split
  · exact ((incCtx_only _ _ 1).toFault.toLocker.mono fun k h => .inl ⟨_, h⟩).trans ((releaseCopy_only _ _).mono fun k h => .inr h)
  · exact (releaseCopy_only _ _).mono fun k h => .inr h

theorem dropLate_only (s : Dev) (p : Nat) (e : QEnt) :
    LockerOnly (fun k => (k = Reg.PRT_TX_CNT p 17 ∨ k = Reg.PRT_HALF_TX p) ∨ dropWords 1 k) s (s.dropLate p e) :=
  ((incTx_only s p 17).toFault.toLocker.mono fun _ h => .inl h).trans ((dropLate_counted s p e).mono fun _ h => .inr h)

/-! ### What lies beside the words of a frame -/

theorem LockerOnly.get_eq {K : Nat → Prop} {s t : Dev} (h : LockerOnly K s t) {f : Fld} (hk : ¬ K f.addr) : t.get f = s.get f := by
  rw [get, get, h.1 _ hk]

theorem LockerOnly.bit_eq {K : Nat → Prop} {s t : Dev} (h : LockerOnly K s t) {f : Fld} (hk : ¬ K f.addr) : t.bit f = s.bit f := by
  rw [bit, bit, h.get_eq hk]

theorem LockerOnly.port_eq {K : Nat → Prop} {s t : Dev} (h : LockerOnly K s t) (p : Nat) : t.port p = s.port p := by
  rw [port, port, h.2]

theorem LockerOnly.out_eq {K : Nat → Prop} {s t : Dev} (h : LockerOnly K s t) : t.out = s.out := by rw [h.2]

theorem WordOnly.get_eq {K : Nat → Prop} {s t : Dev} (h : WordOnly K s t) {f : Fld} (hk : ¬ K f.addr) : t.get f = s.get f := by
  rw [get, get, h.1 _ hk]

theorem WordOnly.port_eq {K : Nat → Prop} {s t : Dev} (h : WordOnly K s t) (p : Nat) : t.port p = s.port p := by
  rw [port, port, h.2]

end Dev
end Sys2Proof.Machine
end

section
/-! SUPPORT. What the blocks beyond GLB, PWR and TIM leave alone: the root of the device. One lemma per operation that a tick, a step of time, a renegotiation, a notice or the queueing of a frame passes through. -/

namespace Sys2Proof.Machine

namespace Dev

/-- The root of the device: the time since power-on, the timebase and servo, the power state, and the words of GLB, PWR and TIM. -/
def root (s : Dev) : Nat × Tim × Pwr × (Nat → Word) := (s.up, s.tim, s.pwr, fun k => if k < 0x30000 then s.word k else 0)

theorem up_of_root {s t : Dev} (h : t.root = s.root) : t.up = s.up := congrArg (·.1) h
theorem tim_of_root {s t : Dev} (h : t.root = s.root) : t.tim = s.tim := congrArg (·.2.1) h
theorem pwr_of_root {s t : Dev} (h : t.root = s.root) : t.pwr = s.pwr := congrArg (·.2.2.1) h

theorem word_of_root {s t : Dev} (h : t.root = s.root) {k : Nat} (hk : k < 0x30000) : t.word k = s.word k := by
  have hw := congrFun (congrArg (·.2.2.2) h) k
  simpa [root, hk] using hw

theorem root_of_words {s t : Dev} (hw : ∀ k < 0x30000, t.word k = s.word k) (hu : t.up = s.up) (ht : t.tim = s.tim) (hp : t.pwr = s.pwr) :
    t.root = s.root := by
  have hf : (fun k => if k < 0x30000 then t.word k else 0) = fun k => if k < 0x30000 then s.word k else 0 :=
    funext fun k => ite_congr rfl (fun hk => hw k hk) fun _ => rfl
  simp only [root, hu, ht, hp, hf]

theorem root_of_regs {s t : Dev} (hr : t.regs = s.regs) (hu : t.up = s.up) (ht : t.tim = s.tim) (hp : t.pwr = s.pwr) : t.root = s.root :=
  root_of_words (fun k _ => by rw [word, word, hr]) hu ht hp

/-! ### Registers and control flow -/

@[simp] theorem setWord_root (s : Dev) {k : Nat} (w : Word) (h : 0x30000 ≤ k) : (s.setWord k w).root = s.root :=
  root_of_words (fun j hj => word_setWord_other s k j w (by omega)) rfl rfl rfl

@[simp] theorem put_root (s : Dev) {f : Fld} (v : Nat) (h : 0x30000 ≤ f.addr) : (s.put f v).root = s.root := setWord_root s _ h
@[simp] theorem inc_root (s : Dev) {f : Fld} (h : 0x30000 ≤ f.addr) : (s.inc f).root = s.root := put_root s _ h
@[simp] theorem incBy_root (s : Dev) {f : Fld} (n : Nat) (h : 0x30000 ≤ f.addr) : (s.incBy f n).root = s.root := put_root s _ h
@[simp] theorem putBit_root (s : Dev) {f : Fld} (b : Bool) (h : 0x30000 ≤ f.addr) : (s.putBit f b).root = s.root := put_root s _ h

/-- The windows from ANG on lie beyond those of the root (R405). -/
theorem le_blockBase {b : Nat} (h : 3 ≤ b) : 0x30000 ≤ blockBase b := by
  unfold blockBase
  split_ifs <;> omega

@[simp] theorem three_le_bPRT (p : Nat) : 3 ≤ bPRT p := Nat.le_add_right_of_le (by decide)
@[simp] theorem le_statusAddr {b : Nat} (h : 3 ≤ b) : 0x30000 ≤ statusAddr b := Nat.le_add_right_of_le (le_blockBase h)
@[simp] theorem le_stickyAddr {b : Nat} (h : 3 ≤ b) : 0x30000 ≤ stickyAddr b := Nat.le_add_right_of_le (le_blockBase h)

@[simp] theorem raise_root (s : Dev) {b : Nat} (n : Nat) (h : 3 ≤ b) : (s.raise b n).root = s.root := put_root s 1 (le_statusAddr h)
theorem putStatus_root (s : Dev) {b : Nat} (n v : Nat) (h : 3 ≤ b) : (s.put (statusBit b n) v).root = s.root := put_root s v (le_statusAddr h)

@[simp] theorem when_root (s : Dev) (c : Bool) {f : Dev → Dev} (h : ∀ s, (f s).root = s.root) : (s.when c f).root = s.root := by
  cases c
  · rfl
  · exact h s

@[simp] theorem atBlock_root (s : Dev) (b : Nat) {f : Dev → Dev} (h : ∀ s, (f s).root = s.root) : (s.atBlock b f).root = s.root := when_root s _ h

@[simp] theorem ite_root (c : Prop) [Decidable c] (s t : Dev) : (if c then s else t).root = if c then s.root else t.root := apply_ite root c s t

@[simp] theorem foldl_root {α : Type} (l : List α) {f : Dev → α → Dev} (h : ∀ s x, (f s x).root = s.root) (s : Dev) : (l.foldl f s).root = s.root := by
  induction l generalizing s with
  | nil => rfl
  | cons x l ih => exact (ih _).trans (h s x)

/-! ### The stores of the blocks -/

@[simp] theorem emit_root (s : Dev) (o : Output) : (s.emit o).root = s.root := root_of_regs rfl rfl rfl rfl
@[simp] theorem freeWord_root (s : Dev) : s.freeWord.2.root = s.root := root_of_regs rfl rfl rfl rfl
@[simp] theorem modCell_root (s : Dev) (c : Nat) (f : Cell → Cell) : (s.modCell c f).root = s.root := root_of_regs rfl rfl rfl rfl
@[simp] theorem setCell_root (s : Dev) (c : Nat) (x : Cell) : (s.setCell c x).root = s.root := root_of_regs rfl rfl rfl rfl
@[simp] theorem modChk_root (s : Dev) (k : Nat) (f : ChkPort → ChkPort) : (s.modChk k f).root = s.root := root_of_regs rfl rfl rfl rfl
@[simp] theorem modChan_root (s : Dev) (n : Nat) (f : Chan → Chan) : (s.modChan n f).root = s.root := root_of_regs rfl rfl rfl rfl
@[simp] theorem modPin_root (s : Dev) (p : Nat) (f : Pin → Pin) : (s.modPin p f).root = s.root := root_of_regs rfl rfl rfl rfl
@[simp] theorem setPort_root (s : Dev) (p : Nat) (x : Port) : (s.setPort p x).root = s.root := root_of_regs rfl rfl rfl rfl
@[simp] theorem modPort_root (s : Dev) (p : Nat) (f : Port → Port) : (s.modPort p f).root = s.root := root_of_regs rfl rfl rfl rfl
@[simp] theorem modAng_root (s : Dev) (n : Nat) (f : AngDom → AngDom) : (s.modAng n f).root = s.root := root_of_regs rfl rfl rfl rfl
@[simp] theorem angSettle_root (s : Dev) (n : Nat) : (s.angSettle n).root = s.root := root_of_regs rfl rfl rfl rfl
@[simp] theorem setRing_root (s : Dev) (r : Nat) (x : Ring) : (s.setRing r x).root = s.root := root_of_regs rfl rfl rfl rfl
@[simp] theorem modSide_root (s : Dev) (p : Nat) (f : Side → Side) : (s.modSide p f).root = s.root := root_of_regs rfl rfl rfl rfl
@[simp] theorem setChn_root (s : Dev) (c : Nat) (x : Chn) : (s.setChn c x).root = s.root := root_of_regs rfl rfl rfl rfl
@[simp] theorem setFrame_root (s : Dev) (d : Nat) (x : Frame) : (s.setFrame d x).root = s.root := root_of_regs rfl rfl rfl rfl
@[simp] theorem setCtx_root (s : Dev) (x : Nat) (c : Ctx) : (s.setCtx x c).root = s.root := root_of_regs rfl rfl rfl rfl
@[simp] theorem setSlotWaits_root (s : Dev) (r : Nat) (l : List SlotWait) : (s.setSlotWaits r l).root = s.root := root_of_regs rfl rfl rfl rfl
@[simp] theorem setClassQueue_root (s : Dev) (p c : Nat) (q : List QEnt) : (s.setClassQueue p c q).root = s.root := root_of_regs rfl rfl rfl rfl
@[simp] theorem creditSync_root (s : Dev) (p c : Nat) : (s.creditSync p c).root = s.root := root_of_regs rfl rfl rfl rfl
@[simp] theorem creditSyncAll_root (s : Dev) (p : Nat) : (s.creditSyncAll p).root = s.root := by simp [creditSyncAll]

/-! ### Events, log and trace -/

theorem le_of_faultWords {b k : Nat} (hb : 3 ≤ b) (h : faultWords b k) : 0x30000 ≤ k := by
  rcases h with rfl | rfl | rfl | rfl | rfl
  · exact le_stickyAddr hb
  all_goals decide

/-- A frame of registers beyond the root, fault units, log and trace keeps the root. -/
theorem FaultOnly.root {K : Nat → Prop} {s t : Dev} (h : FaultOnly K s t) (hK : ∀ k, K k → 0x30000 ≤ k) : t.root = s.root := by
  obtain ⟨hw, he⟩ := h
  refine root_of_words (fun k hk => hw k fun hK' => ?_) (by rw [he]) (by rw [he]) (by rw [he])
  have := hK k hK'
  omega

@[simp] theorem fault_root (s : Dev) {b : Nat} (n : Nat) (h : 3 ≤ b) : (s.fault b n).root = s.root :=
  (fault_only s b n).root fun _ => le_of_faultWords h

@[simp] theorem logStage_root (s : Dev) (k b n c d : Nat) : (s.logStage k b n c d).root = s.root :=
  (logStage_only s k b n c d).root fun _ hk => hk ▸ (by decide)

@[simp] theorem traceAt_root (s : Dev) (st src inst m a b : Nat) : (s.traceAt st src inst m a b).root = s.root :=
  (traceAt_only s st src inst m a b).root fun _ => le_of_faultWords (by decide)

@[simp] theorem trace_root (s : Dev) (src inst m a b : Nat) : (s.trace src inst m a b).root = s.root := traceAt_root s _ src inst m a b

/-! ### Statistics -/

@[simp] theorem incTx_root (s : Dev) (p i : Nat) : (s.incTx p i).root = s.root := by
  have hc : 0x30000 ≤ (Reg.PRT_TX_CNT.COUNT p i).addr := by simp only [Reg.PRT_TX_CNT.COUNT]; omega
  have hh : 0x30000 ≤ Reg.PRT_HALF_TX p := by simp only [Reg.PRT_HALF_TX]; omega
  simp [incTx, hc, hh]

@[simp] theorem incCtx_root (s : Dev) (x i : Nat) : (s.incCtx x i).root = s.root := by
  have hc : 0x30000 ≤ (Reg.STM_CNT.COUNT x i).addr := by simp only [Reg.STM_CNT.COUNT]; omega
  have hh : 0x30000 ≤ Reg.STM_CTX_STAT x := by simp only [Reg.STM_CTX_STAT]; omega
  simp [incCtx, hc, hh]

/-! ### Copies of frames -/

theorem le_of_bankWords {k : Nat} (h : bankWords k) : 0x30000 ≤ k := by
  rcases h with rfl | h | h
  · decide
  all_goals omega

/-- The Locker's banks lie beyond the root. -/
theorem LockerOnly.root {s t : Dev} (h : LockerOnly bankWords s t) : t.root = s.root := by
  obtain ⟨hw, he⟩ := h
  refine root_of_words (fun k hk => hw k fun hb => ?_) (by rw [he]) (by rw [he]) (by rw [he])
  have := le_of_bankWords hb
  omega

@[simp] theorem evacCheck_root (s : Dev) : s.evacCheck.root = s.root := (evacCheck_only s).root
@[simp] theorem evacNext_root (s : Dev) : s.evacNext.root = s.root := (evacNext_only s).root
@[simp] theorem releaseCopy_root (s : Dev) (d : Nat) : (s.releaseCopy d).root = s.root := (releaseCopy_only s d).root

@[simp] theorem dropNeverCarried_root (s : Dev) (p : Nat) (e : QEnt) : (s.dropNeverCarried p e).root = s.root := by
  unfold dropNeverCarried
  split <;> simp

@[simp] theorem dropLate_root (s : Dev) (p : Nat) (e : QEnt) : (s.dropLate p e).root = s.root := by
  unfold dropLate
  split <;> simp

@[simp] theorem queueCopy_root (s : Dev) (p c : Nat) (e : QEnt) : (s.queueCopy p c e).root = s.root := by
  unfold queueCopy
  split
  · exact dropNeverCarried_root s p e
  · rfl

@[simp] theorem queueRing_root (s : Dev) (p c : Nat) (e : QEnt) : (s.queueRing p c e).root = s.root := by
  have h : ∀ r, 0x30000 ≤ (Reg.SHD_PASS_LATE.COUNT r).addr := fun r => by simp only [Reg.SHD_PASS_LATE.COUNT]; omega
  simp [queueRing, h]

@[simp] theorem sendOwn_root (s : Dev) (p prio : Nat) (slot : Bool) (e : QEnt) : (s.sendOwn p prio slot e).root = s.root := by
  simp [sendOwn]

@[simp] theorem stageCopy_root (s : Dev) (p : Nat) : (s.stageCopy p).root = s.root := by
  unfold stageCopy
  split <;> rfl

@[simp] theorem placeFrame_root (s : Dev) (o : Owner) (shared : Bool) (data : List Octet) (copies ingress : Nat) :
    (s.placeFrame o shared data copies ingress).2.root = s.root := stageCopy_root s ingress

theorem allocDevice_root {s t : Dev} {o : Owner} {data : List Octet} {copies d : Nat} (h : s.allocDevice o data copies = some (d, t)) : t.root = s.root := by
  unfold allocDevice at h
  split at h
  · cases h
    exact placeFrame_root ..
  · cases h

/-! ### Links -/

@[simp] theorem abandonHold_root (s : Dev) (p : Nat) : (s.abandonHold p).root = s.root := by
  unfold abandonHold
  split <;> simp +decide

@[simp] theorem dropLink_root (s : Dev) (p : Nat) : (s.dropLink p).root = s.root := by
  simp [dropLink, prtBit, putStatus_root]

@[simp] theorem detectBreak_root (s : Dev) (p code : Nat) : (s.detectBreak p code).root = s.root := by
  have h : ∀ r, 0x30000 ≤ (if p % 2 = 0 then Reg.SHD_STATE.READY_W r else Reg.SHD_STATE.READY_E r).addr := fun r => by
    split <;> simp only [Reg.SHD_STATE.READY_W, Reg.SHD_STATE.READY_E] <;> omega
  simp [detectBreak, h]

@[simp] theorem quietDrop_root (s : Dev) (p : Nat) : (s.quietDrop p).root = s.root := by simp [quietDrop]

@[simp] theorem restartAn_root (s : Dev) (p r : Nat) : (s.restartAn p r).root = s.root := by simp [restartAn, prtBit, putStatus_root]

@[simp] theorem reneg_root (s : Dev) (p : Nat) : (s.reneg p).root = s.root := by simp [reneg]

@[simp] theorem forceRestart_root (s : Dev) (p : Nat) : (s.forceRestart p).root = s.root := by simp [forceRestart]

@[simp] theorem rateMismatch_root (s : Dev) (p : Nat) : (s.rateMismatch p).root = s.root := by
  have h : 0x30000 ≤ (Reg.PRT_LINK_LOSS_CNT.COUNT p).addr := by simp only [Reg.PRT_LINK_LOSS_CNT.COUNT]; omega
  simp [rateMismatch, h]

@[simp] theorem rateGuard_root (s : Dev) (p : Nat) : (s.rateGuard p).root = s.root := by simp [rateGuard]

/-- A slave port that gives up its down-shift renegotiates; the root stays (R82). -/
@[simp] theorem slaveDsClear_root (s : Dev) (p : Nat) : (s.slaveDsClear p).root = s.root := by
  have h : 0x30000 ≤ (Reg.PRT_DS.DS_EN p).addr := by simp only [Reg.PRT_DS.DS_EN]; omega
  simp [slaveDsClear, h]

/-! ### Notices and beacons -/

@[simp] theorem noticeOn_root (s : Dev) (r code subject detail : Nat) : (s.noticeOn r code subject detail).root = s.root := by
  have h : 0x30000 ≤ (Reg.SHD_NOTICE_SENT.COUNT r).addr := by simp only [Reg.SHD_NOTICE_SENT.COUNT]; omega
  unfold noticeOn
  dsimp only
  split
  · rfl
  · next ha => simp [h, allocDevice_root ha]

@[simp] theorem notice_root (s : Dev) (code subject detail : Nat) : (s.notice code subject detail).root = s.root := by simp [notice]

@[simp] theorem beaconSend_root (s : Dev) (r : Nat) (k : Int) : (s.beaconSend r k).root = s.root := by
  unfold beaconSend
  dsimp only
  split
  · rfl
  · next ha => simp [allocDevice_root ha]

@[simp] theorem beaconSlot_root (s : Dev) (r : Nat) : (s.beaconSlot r).root = s.root := by
  unfold beaconSlot
  split
  · rfl
  · simp

/-! ### Gates -/

/-- A late copy of a relay is counted before it is dropped (R161). -/
theorem lateCopy_root (s : Dev) (p : Nat) (e : QEnt) :
    (Dev.dropLate (match e.relay with
      | some r => s.inc (Reg.SHD_PASS_LATE.COUNT r)
      | none => s) p e).root = s.root := by
  have h : ∀ r, 0x30000 ≤ (Reg.SHD_PASS_LATE.COUNT r).addr := fun r => by simp only [Reg.SHD_PASS_LATE.COUNT]; omega
  rw [dropLate_root]
  split <;> simp [h]

@[simp] theorem closeClass_root (s : Dev) (p c : Nat) : (s.closeClass p c).root = s.root := by
  unfold closeClass
  refine (foldl_root _ (fun s e => lateCopy_root s p e) _).trans ?_
  split <;> simp

@[simp] theorem countCycles_root (s : Dev) (p : Nat) : (s.countCycles p).root = s.root := by
  have h : 0x30000 ≤ (Reg.GTE_CYCLE_CNT.COUNT p).addr := by simp only [Reg.GTE_CYCLE_CNT.COUNT]; omega
  simp [countCycles, h]

@[simp] theorem changeGates_root (s : Dev) (p entry bank new skipped : Nat) : (s.changeGates p entry bank new skipped).root = s.root := by
  have hg : 0x30000 ≤ (Reg.GTE_CUR_ENTRY.GATE_STATE p).addr := by simp only [Reg.GTE_CUR_ENTRY.GATE_STATE]; omega
  have hb : 0x30000 ≤ (Reg.GTE_CUR_ENTRY.BANK p).addr := by simp only [Reg.GTE_CUR_ENTRY.BANK]; omega
  have he : 0x30000 ≤ (Reg.GTE_CUR_ENTRY.ENTRY p).addr := by simp only [Reg.GTE_CUR_ENTRY.ENTRY]; omega
  simp [changeGates, hg, hb, he]

@[simp] theorem gatesAfterStep_root (s : Dev) (t0 : Nat) : (s.gatesAfterStep t0).root = s.root := by simp [gatesAfterStep]

/-! ### Chuck -/

@[simp] theorem cmdLate_root (s : Dev) (k : Nat) : (s.cmdLate k).root = s.root := by
  have h : 0x30000 ≤ (Reg.SMP_CMD_LATE.COUNT k).addr := by simp only [Reg.SMP_CMD_LATE.COUNT]; omega
  simp +decide [cmdLate, h]

@[simp] theorem chkSafe_root (s : Dev) (k : Nat) : (s.chkSafe k).root = s.root := by simp [chkSafe]

@[simp] theorem cmdPush_root (s : Dev) (k : Nat) (e : CmdEnt) : (s.cmdPush k e).root = s.root := by
  have h : 0x30000 ≤ (Reg.SMP_CMD_OVF.COUNT k).addr := by simp only [Reg.SMP_CMD_OVF.COUNT]; omega
  unfold cmdPush
  dsimp only
  split
  · rfl
  · split
    · simp +decide [h]
    · split
      · simp
      · simp
      · split
        · split <;> simp
        · simp

@[simp] theorem cmdRelease_root (s : Dev) (k : Nat) (p : CmdEnt → Bool) (key : CmdEnt → Int) : (s.cmdRelease k p key).root = s.root := modChk_root s k _

@[simp] theorem trigOvf_root (s : Dev) (n m : Nat) : (s.trigOvf n m).root = s.root := by
  have h : 0x30000 ≤ (Reg.SMP_TRIG_OVF.COUNT (n / 16)).addr := by simp only [Reg.SMP_TRIG_OVF.COUNT]; omega
  simp +decide [trigOvf, h]

@[simp] theorem chanDue_root (s : Dev) (n : Nat) (follow : Bool) : (s.chanDue n follow).root = s.root := by simp [chanDue]

@[simp] theorem chanDrop_root (s : Dev) (n : Nat) : (s.chanDrop n).root = s.root := by simp [chanDrop]

@[simp] theorem sampleTime_root (s : Dev) (n : Nat) : (s.sampleTime n).root = s.root := by simp [sampleTime]

@[simp] theorem chkTimeStep_root (s : Dev) (t0 : Nat) : (s.chkTimeStep t0).root = s.root := by simp [chkTimeStep]

@[simp] theorem chkDomLost_root (s : Dev) (d : Nat) : (s.chkDomLost d).root = s.root := by
  unfold chkDomLost
  dsimp only
  refine (foldl_root _ (fun s k => ?_) _).trans (foldl_root _ (fun s n => by simp) s)
  split
  · rfl
  · split <;> simp

@[simp] theorem chkDomBack_root (s : Dev) (d : Nat) : (s.chkDomBack d).root = s.root := by simp [chkDomBack]

/-! ### Scribe -/

@[simp] theorem pinShow_root (old s : Dev) (p : Nat) : (pinShow old s p).root = s.root := by
  unfold pinShow
  dsimp only
  split_ifs
  · rfl
  · split <;> rfl

theorem atPin_root (s : Dev) (p : Nat) {f : Dev → Dev} (h : (f s).root = s.root) : (s.atPin p f).root = s.root := by
  rw [atPin, pinShow_root, h]

@[simp] theorem edgeLate_root (s : Dev) (p : Nat) : (s.edgeLate p).root = s.root := by
  have h : 0x30000 ≤ (Reg.SCR_LATE.COUNT p).addr := by simp only [Reg.SCR_LATE.COUNT]; omega
  simp +decide [edgeLate, h]

@[simp] theorem edgeApply_root (s : Dev) (p : Nat) (level : Bool) : (s.edgeApply p level).root = s.root := by
  have h : 0x30000 ≤ (Reg.SCR_PIN_STAT.LEVEL p).addr := by simp only [Reg.SCR_PIN_STAT.LEVEL]; omega
  unfold edgeApply
  rw [atPin_root]
  rw [modPin_root, putBit_root s level h]

@[simp] theorem pinEnterSafe_root (s : Dev) (p : Nat) (dom : Option Nat) : (s.pinEnterSafe p dom).root = s.root := by
  have h : (s.atPin p fun s => s.modPin p fun x => { x with queue := [], safeDom := dom, driven := false }).root = s.root := atPin_root s p rfl
  simp +decide [pinEnterSafe, h]

@[simp] theorem edgeHead_root (n : Nat) (s : Dev) (p : Nat) : (edgeHead n s p).root = s.root := by
  induction n generalizing s with
  | zero => rfl
  | succ n ih =>
    unfold edgeHead
    split
    · rfl
    · dsimp only
      split
      · rfl
      · simp [ih]
      · split
        · split <;> simp [ih]
        · simp [ih]

@[simp] theorem edgePush_root (s : Dev) (p : Nat) (e : Edge) : (s.edgePush p e).root = s.root := by
  have h : 0x30000 ≤ (Reg.SCR_OVF.COUNT p).addr := by simp only [Reg.SCR_OVF.COUNT]; omega
  simp +decide [edgePush, h]

@[simp] theorem scrDomLost_root (s : Dev) (d : Nat) : (s.scrDomLost d).root = s.root := by
  unfold scrDomLost
  refine foldl_root _ (fun s p => ?_) s
  split <;> simp

@[simp] theorem scrDomBack_root (s : Dev) (d : Nat) : (s.scrDomBack d).root = s.root := by
  unfold scrDomBack
  refine foldl_root _ (fun s p => ?_) s
  dsimp only
  split <;> simp

@[simp] theorem scrTimeStep_root (s : Dev) (t0 : Nat) : (s.scrTimeStep t0).root = s.root := by simp [scrTimeStep]

/-! ### Streams -/

@[simp] theorem lastEvt_root (s : Dev) (kind x : Nat) : (s.lastEvt kind x).root = s.root := by simp +decide [lastEvt]

@[simp] theorem refuseRef_root (s : Dev) (x g : Nat) : (s.refuseRef x g).root = s.root := by simp +decide [refuseRef]

@[simp] theorem refuseSend_root (s : Dev) (x : Nat) : (s.refuseSend x).root = s.root := by simp +decide [refuseSend]

@[simp] theorem assignSlot_root (s : Dev) (r from' : Nat) (w : SlotWait) : (s.assignSlot r from' w).root = s.root := by simp +decide [assignSlot]

@[simp] theorem releaseFrame_root (s : Dev) (x : Nat) (h : Held) : (s.releaseFrame x h).root = s.root := by
  have hq : 0x30000 ≤ (Reg.STM_SEQ.SEQ x).addr := by simp only [Reg.STM_SEQ.SEQ]; omega
  have hl : ∀ (s : Dev) (m : Memory), ({ s with locker := m } : Dev).root = s.root := fun _ _ => rfl
  simp [releaseFrame, hq, hl]

@[simp] theorem dropTooLong_root (n : Nat) (s : Dev) (x : Nat) : (s.dropTooLong x n).root = s.root := by
  induction n generalizing s with
  | zero => rfl
  | succ n ih =>
    unfold dropTooLong
    split
    · split_ifs
      · simp [ih]
      · rfl
    · rfl

@[simp] theorem handover_root (s : Dev) (x gen : Nat) (data : List Octet) (ready : Option Nat) : (s.handover x gen data ready).2.root = s.root := by
  unfold handover
  dsimp only
  split
  · exact refuseRef_root s x gen
  · split
    · exact refuseSend_root s x
    · split
      · simp [apply_ite Prod.snd]
      · simp

/-! ### The Lathe -/

@[simp] theorem celRequest_root (s : Dev) (c : Nat) (angle trig : Bool) : (s.celRequest c angle trig).root = s.root := by
  have h : 0x30000 ≤ (Reg.CEL_TRIG_OVF.COUNT c).addr := by simp only [Reg.CEL_TRIG_OVF.COUNT]; omega
  unfold celRequest
  dsimp only
  split
  · rfl
  · split <;> simp [h]

@[simp] theorem celQueueRequest_root (s : Dev) (c : Nat) : (s.celQueueRequest c).root = s.root := by simp [celQueueRequest]

@[simp] theorem celEvent_root (s : Dev) (c src : Nat) (v : Int) (ref : Option (Nat × Nat)) : (s.celEvent c src v ref).root = s.root := by
  have hu : 0x30000 ≤ (Reg.CEL_EVT_UNBOUND.COUNT c).addr := by simp only [Reg.CEL_EVT_UNBOUND.COUNT]; omega
  have ho : 0x30000 ≤ (Reg.CEL_EVT_OVF.COUNT c).addr := by simp only [Reg.CEL_EVT_OVF.COUNT]; omega
  unfold celEvent
  dsimp only
  split
  · rfl
  · split
    · simp [hu]
    · split
      · simp +decide [ho]
      · simp

@[simp] theorem imageOctet_root (s : Dev) (f o v : Nat) : (s.imageOctet f o v).root = s.root := by
  have h : 0x30000 ≤ Reg.CEL_PAYLOAD f (o / 4) := by simp only [Reg.CEL_PAYLOAD]; omega
  simp [imageOctet, h]

@[simp] theorem imageWrite_root (s : Dev) (f o : Nat) (l : List Octet) : (s.imageWrite f o l).root = s.root := by
  induction l generalizing s o with
  | nil => rfl
  | cons v l ih =>
    unfold imageWrite
    simp [ih]

@[simp] theorem formatSend_root (s : Dev) (f ready : Nat) : (s.formatSend f ready).root = s.root := by simp [formatSend]

@[simp] theorem celObjectWrite_root (s : Dev) (x sub : Nat) (v : List Octet) : (s.celObjectWrite x sub v).root = s.root := by
  simp +decide [celObjectWrite, pendingBit]
  rfl

@[simp] theorem outEffect_root (s : Dev) (c b : Nat) (o : CelOut) (t : Target) : (s.outEffect c b o t).root = s.root := by
  have h : 0x30000 ≤ (Reg.CEL_OUT_VAL.VALUE c o.out).addr := by simp only [Reg.CEL_OUT_VAL.VALUE]; omega
  unfold outEffect
  dsimp only
  split
  · simp [h]
  · simp [h]
  · simp [h]
  · split <;> simp [h]
  · simp [h]
  · simp [h]

@[simp] theorem handOn_root (s : Dev) (c b : Nat) (outs : List CelOut) (ready : Nat) : (s.handOn c b outs ready).root = s.root := by
  have h : 0x30000 ≤ (Reg.CEL_LATE.COUNT c).addr := by simp only [Reg.CEL_LATE.COUNT]; omega
  unfold handOn
  dsimp only
  refine (foldl_root _ (fun s f => formatSend_root s f ready) _).trans (foldl_root _ (fun s o => ?_) s)
  split <;> simp [h]

@[simp] theorem safeOutputs_root (s : Dev) (c : Nat) : (s.safeOutputs c).root = s.root := by simp +decide [safeOutputs]

@[simp] theorem setCelState_root (s : Dev) (c st : Nat) : (s.setCelState c st).root = s.root := by
  have h : 0x30000 ≤ (Reg.CEL_STAT.STATE c).addr := by simp only [Reg.CEL_STAT.STATE]; omega
  exact put_root s st h

@[simp] theorem celSafeCheck_root (s : Dev) (c : Nat) : (s.celSafeCheck c).root = s.root := by simp [celSafeCheck]

theorem le_celLate (c : Nat) : 0x30000 ≤ (Reg.CEL_LATE.COUNT c).addr := by simp only [Reg.CEL_LATE.COUNT]; omega

@[simp] theorem timeTrigger_root (s : Dev) (c : Nat) : (s.timeTrigger c).root = s.root := by simp [timeTrigger]

@[simp] theorem celTimeStep_root (s : Dev) (t0 : Nat) : (s.celTimeStep t0).root = s.root := by simp [celTimeStep, le_celLate]

@[simp] theorem celDomLost_root (s : Dev) (d : Nat) : (s.celDomLost d).root = s.root := by simp [celDomLost, le_celLate]

@[simp] theorem celDomBack_root (s : Dev) (d : Nat) : (s.celDomBack d).root = s.root := by simp [celDomBack, le_celLate]

/-! ### The Spindle -/

@[simp] theorem setAngState_root (s : Dev) (n st : Nat) : (s.setAngState n st).root = s.root := by
  have h : 0x30000 ≤ (Reg.ANG_STATE.STATE n).addr := by simp only [Reg.ANG_STATE.STATE]; omega
  have hb : 0x30000 ≤ (statusBit bANG n).addr := le_statusAddr (by decide)
  simp [setAngState, h, hb]

@[simp] theorem angFall_root (s : Dev) (n reason : Nat) : (s.angFall n reason).root = s.root := by
  have h : 0x30000 ≤ (Reg.ANG_STATE.REASON n).addr := by simp only [Reg.ANG_STATE.REASON]; omega
  simp +decide [angFall, h]

@[simp] theorem angInvalidate_root (s : Dev) (n reason : Nat) : (s.angInvalidate n reason).root = s.root := by simp [angInvalidate]

@[simp] theorem angTimeStep_root (s : Dev) : s.angTimeStep.root = s.root := by simp [angTimeStep]

/-! ### What else a tick does -/

@[simp] theorem panicOne_root (s : Dev) (q ch : Nat) : (s.panicOne q ch).root = s.root := by
  have hp : 0x30000 ≤ (panicFld q ch).addr := by simp only [panicFld, Reg.MEM_PORT_STAT]; omega
  have hc : 0x30000 ≤ (Reg.MEM_PANIC_CNT.COUNT q).addr := by simp only [Reg.MEM_PANIC_CNT.COUNT]; omega
  simp +decide [panicOne, hp, hc]

@[simp] theorem panicUpdate_root (s : Dev) : s.panicUpdate.root = s.root := by simp [panicUpdate]

@[simp] theorem stallBegin_root (s : Dev) (ch : Nat) : (s.stallBegin ch).root = s.root := by simp [stallBegin]

@[simp] theorem dsMillisecond_root (s : Dev) : s.dsMillisecond.root = s.root := by simp [dsMillisecond]

@[simp] theorem eqAdapt_root (s : Dev) (p : Nat) : (s.eqAdapt p).root = s.root := by
  have hc : 0x30000 ≤ (Reg.PRT_EQ.CTLE_NOW p).addr := by simp only [Reg.PRT_EQ.CTLE_NOW]; omega
  have hd : 0x30000 ≤ (Reg.PRT_EQ.DFE_TAP p).addr := by simp only [Reg.PRT_EQ.DFE_TAP]; omega
  simp [eqAdapt, ctleSet, hc, hd]

@[simp] theorem ruleSwapEffect_root (s : Dev) : s.ruleSwapEffect.root = s.root := by
  unfold ruleSwapEffect
  split
  · split
    · rfl
    · refine (root_of_regs rfl rfl rfl rfl).trans (?_ : ((s.put Reg.FRM_RULE_CTL.ACTIVE (1 - s.ruleBank)).raise bFRM 3).root = s.root)
      simp +decide
  · rfl

end Dev
end Sys2Proof.Machine
end

section
/-! SUPPORT. A tick of the timebase (R27, R30, log entry 21). -/

namespace Sys2Proof.Machine

namespace Dev

/-- A step of time moves the local times and leaves the time since power-on (R33). -/
@[simp] theorem timeJump_up (s : Dev) (delta : Int) : (s.timeJump delta).up = s.up := by
  unfold timeJump
  dsimp only
  rw [up_of_root (gatesAfterStep_root _ _), up_of_root (angTimeStep_root _)]
  split
  · rw [up_of_root (celTimeStep_root _ _), up_of_root (chkTimeStep_root _ _), up_of_root (scrTimeStep_root _ _)]
  · rfl

@[simp] theorem setLoad_up (s : Dev) : s.setLoad.up = s.up := by
  unfold setLoad
  split
  · simp [episodeStep, raise]
  · rfl

/-- Without a step due by SET nothing is loaded (R29). -/
theorem setLoad_of_not_due {s : Dev} (h : s.tim.setDue = false) : s.setLoad = s := by simp [setLoad, h]

/-- What a change of RATE keeps: all but that word and the RATE that HOLDOVER would hold (R28, R34). -/
theorem setRate_eq (s : Dev) (r : Int) : ∃ w, s.setRate r = { s with regs := (s.setRate r).regs, tim := { s.tim with lockedRate := w } } := by
  unfold setRate
  dsimp only
  split
  · exact ⟨_, rfl⟩
  · exact ⟨s.tim.lockedRate, rfl⟩

theorem servoRate_eq (s : Dev) (r : Int) : ∃ w, s.servoRate r = { s with regs := (s.servoRate r).regs, tim := { s.tim with lockedRate := w } } := by
  unfold servoRate
  split
  · exact ⟨s.tim.lockedRate, rfl⟩
  · exact setRate_eq s r

/-- A refused step changes no accumulator (R30). -/
theorem refuseStep_keeps (s : Dev) : s.refuseStep.up = s.up ∧ s.refuseStep.tim.accA = s.tim.accA ∧ s.refuseStep.tim.accB = s.tim.accB := by
  have hf := (fault_only ((s.raise bTIM 9).inc Reg.TIM_REFUSED_CNT.COUNT) bTIM 3).2
  obtain ⟨w, hw⟩ := servoRate_eq ((((s.raise bTIM 9).inc Reg.TIM_REFUSED_CNT.COUNT).fault bTIM 3).setServo servoSlewing)
    (if 0 < ((((s.raise bTIM 9).inc Reg.TIM_REFUSED_CNT.COUNT).fault bTIM 3).setServo servoSlewing).offsetNow then rateLimit else -rateLimit)
  unfold refuseStep slewRate
  dsimp only
  rw [hw, setServo, put_up, put_tim, hf]
  exact ⟨rfl, rfl, rfl⟩

/-- One nanosecond counted: by the Halyards, Halyard A alone in Hold, by the handover difference and by the offset applied (R27, R36). -/
def counted (s : Dev) : Dev :=
  { s with tim := { s.tim with
    accA := s.tim.accA + ((2 ^ 40 : Int) + s.getS Reg.TIM_RATE.RATE).toNat
    accB := if s.pwr.phase = PowerPhase.hold then s.tim.accB else s.tim.accB + ((2 ^ 40 : Int) + s.getS Reg.TIM_RATE.RATE).toNat
    hand := s.tim.hand - handStep s.tim.hand
    applied := s.tim.applied + s.getS Reg.TIM_RATE.RATE } }

/-- A tick of the counting timebase is the count, the load of a due step, and the refusal of an offset that has reached STEP_THR (R27, R30). -/
theorem timTick_eq {s : Dev} (hc : s.tim.counting = true) :
    s.timTick = if s.counted.setLoad.servo = servoLocked ∧ s.counted.setLoad.servoEn ∧ s.counted.setLoad.stepThr ≤ |s.counted.setLoad.offsetNow|
      then s.counted.setLoad.refuseStep else s.counted.setLoad := by
  unfold timTick
  rw [if_neg (not_not.mpr hc)]
  rfl

/-- The timebase counts while the Halyards do, each by 2^40 + RATE, Halyard A alone in Hold (R27). -/
theorem timTick_counts {s : Dev} (hc : s.tim.counting = true) (hd : s.tim.setDue = false) :
    s.timTick.tim.accA = s.counted.tim.accA ∧ s.timTick.tim.accB = s.counted.tim.accB := by
  rw [timTick_eq hc, setLoad_of_not_due (s := s.counted) hd]
  split
  · exact (refuseStep_keeps s.counted).2
  · exact ⟨rfl, rfl⟩

/-- Before step 5 of the start-up the timebase stands (R24). -/
theorem timTick_stands {s : Dev} (hc : s.tim.counting = false) : s.timTick = s := by simp [timTick, hc]

@[simp] theorem timTick_up (s : Dev) : s.timTick.up = s.up := by
  cases hc : s.tim.counting
  · rw [timTick_stands hc]
  · rw [timTick_eq hc]
    split
    · rw [(refuseStep_keeps _).1, setLoad_up, counted]
    · rw [setLoad_up, counted]

/-- Beside the timebase a tick changes nothing of the root but the count of nanoseconds. -/
theorem tick_root (s : Dev) : s.tick.root = Dev.root { s.timTick with up := s.timTick.up + 1 } := by simp [tick]

theorem tick_up (s : Dev) : s.tick.up = s.up + 1 := by
  rw [up_of_root (tick_root s), timTick_up]

theorem tick_tim (s : Dev) : s.tick.tim = s.timTick.tim := (tim_of_root (tick_root s) :)

end Dev

theorem step_idle {s : State} (h : s.pending = []) : step s = .next { s with dev := Dev.settle s.dev.fresh s.dev.fresh.tick } := by
  have hs : step s = idleTick s := by rw [step, h]
  rw [hs]
  exact devStep_next _ _

/-- Settles O2: what a tick does beside the timebase leaves the root of the device. -/
theorem emptyQueueTicks : Obligations.EmptyQueueTicks := by
  intro s hq
  refine ⟨_, step_idle hq, ?_, hq, ⟨rfl, rfl⟩, fun hc => ?_, fun hc hd => ?_⟩
  · rw [Dev.settle_up, Dev.tick_up, Dev.fresh_up]
  · rw [Dev.settle_tim, Dev.tick_tim, Dev.timTick_stands (s := s.dev.fresh) hc]
    exact ⟨rfl, rfl⟩
  · rw [Dev.settle_tim, Dev.tick_tim]
    exact Dev.timTick_counts (s := s.dev.fresh) hc hd

end Sys2Proof.Machine
end

section
/-! SUPPORT. The servo and the pair of Halyards: what each operation of network time sets, and what it leaves (R27–R38, R428, R429). -/

namespace Sys2Proof.Machine

/-- A command that runs one operation of the device answers the device after it. -/
theorem answers_devStep {c : Instr} {s : State} {f : Dev → Dev} {P : State → Prop} (he : exec c s = devStep f s)
    (h : P { s with dev := Dev.settle s.dev.fresh (f s.dev.fresh) }) : Answers c s P := ⟨_, he, h⟩

/-- A command of a block that is on answers the device after the block's operation (R18). -/
theorem answers_atBlock {c : Instr} {s : State} {b : Nat} {f : Dev → Dev} {P : State → Prop} (he : exec c s = devStep (·.atBlock b f) s)
    (hb : s.dev.blockOn b = true) (h : P { s with dev := Dev.settle s.dev.fresh (f s.dev.fresh) }) : Answers c s P :=
  answers_devStep he (by rwa [Dev.atBlock_on s.dev.fresh _ _ hb])

/-- A host write that is not refused, to a block that is on, answers the device after it (R12, R18). -/
theorem answers_hostGate {c : Instr} {s : State} {b k : Nat} {v : Dev → Word} {f : Dev → Dev} {P : State → Prop}
    (he : exec c s = devStep (fun d => d.hostGate b k (v d) f) s) (hb : s.dev.blockOn b = true) (hr : s.dev.hostRefused k = false)
    (h : P { s with dev := Dev.settle s.dev.fresh (f s.dev.fresh) }) : Answers c s P :=
  answers_devStep he (by rwa [Dev.hostGate_acts s.dev.fresh _ _ _ _ hb hr])

/-- A signed value within `w` bits is read back from its pattern (R5). -/
theorem toSigned_ofSigned {w : Nat} {i : Int} (h1 : -2 ^ w ≤ 2 * i) (h2 : 2 * i < 2 ^ w) : toSigned w (ofSigned w i) = i := by
  have hw : (0 : Int) < 2 ^ w := by positivity
  have hn : ((ofSigned w i : Nat) : Int) = i % 2 ^ w := by
    simp only [ofSigned, Nat.cast_pow, Nat.cast_ofNat]
    exact Int.toNat_of_nonneg (Int.emod_nonneg _ hw.ne')
  have hlt : ofSigned w i < 2 ^ w := by
    have := Int.emod_lt_of_pos i hw
    zify
    omega
  unfold toSigned
  dsimp only
  rw [Nat.mod_eq_of_lt hlt]
  rcases le_or_gt 0 i with hi | hi
  · have he : i % 2 ^ w = i := Int.emod_eq_of_lt hi (by omega)
    rw [if_pos (by zify; omega), hn, he]
  · have he : i % 2 ^ w = i + 2 ^ w := by
      rw [← Int.add_emod_right, Int.emod_eq_of_lt (by omega) (by omega)]
    rw [if_neg (by zify; omega)]
    push_cast
    omega

namespace Dev

/-- A signed value put into a field that holds it is read back. -/
theorem getS_put_same (s : Dev) (f : Fld) {i : Int} (hf : f.lo + f.w ≤ 32) (h1 : -2 ^ f.w ≤ 2 * i) (h2 : 2 * i < 2 ^ f.w) :
    (s.put f (ofSigned f.w i)).getS f = i := by
  rw [getS, get_put_same s f _ hf]
  refine Eq.trans ?_ (toSigned_ofSigned h1 h2)
  simp only [toSigned, Nat.mod_mod]

@[simp] theorem getS_settle (old s : Dev) (f : Fld) : (settle old s).getS f = s.getS f := by simp [getS]

/-! ### What the registers decide -/

theorem word_of_regs {s t : Dev} (h : t.regs = s.regs) (k : Nat) : t.word k = s.word k := by rw [word, word, h]
theorem get_of_regs {s t : Dev} (h : t.regs = s.regs) (f : Fld) : t.get f = s.get f := by rw [get, get, word_of_regs h]
theorem bit_of_regs {s t : Dev} (h : t.regs = s.regs) (f : Fld) : t.bit f = s.bit f := by rw [bit, bit, get_of_regs h]

/-! ### What the servo reads -/

@[simp] theorem servo_settle (old s : Dev) : (settle old s).servo = s.servo := get_settle ..
@[simp] theorem servoEn_settle (old s : Dev) : (settle old s).servoEn = s.servoEn := bit_settle ..
@[simp] theorem activeB_settle (old s : Dev) : (settle old s).activeB = s.activeB := bit_settle ..
@[simp] theorem dist40_settle (old s : Dev) : (settle old s).dist40 = s.dist40 := by simp [dist40]
@[simp] theorem now_settle (old s : Dev) : (settle old s).now = s.now := by simp [now]

theorem setServo_servo (s : Dev) {st : Nat} (h : st < 8) : (s.setServo st).servo = st :=
  (get_put_same s Reg.TIM_SERVO.STATE st (by decide)).trans (Nat.mod_eq_of_lt h)

theorem setServo_word (s : Dev) (st : Nat) {k : Nat} (h : k ≠ Reg.TIM_SERVO) : (s.setServo st).word k = s.word k := word_put_other s _ _ _ h

theorem setServo_bit (s : Dev) (st : Nat) {f : Fld} (h : f.addr ≠ Reg.TIM_SERVO) : (s.setServo st).bit f = s.bit f :=
  bit_put_other s _ f st (by decide) (.inl h)

@[simp] theorem setServo_loopFreeze (s : Dev) (st : Nat) : (s.setServo st).loopFreeze = s.loopFreeze := setServo_bit s st (by decide)
@[simp] theorem setServo_servoEn (s : Dev) (st : Nat) : (s.setServo st).servoEn = s.servoEn := setServo_bit s st (by decide)

/-! ### RATE (R28, R34) -/

/-- RATE takes the value, clamped at 500 ppm. -/
theorem setRate_rate (s : Dev) (r : Int) : (s.setRate r).getS Reg.TIM_RATE.RATE = max (-rateLimit) (min rateLimit r) := by
  have hp : (s.put Reg.TIM_RATE.RATE (ofSigned 32 (max (-rateLimit) (min rateLimit r)))).getS Reg.TIM_RATE.RATE = max (-rateLimit) (min rateLimit r) :=
    getS_put_same s Reg.TIM_RATE.RATE (by decide) (by simp only [rateLimit, Reg.TIM_RATE.RATE]; omega) (by simp only [rateLimit, Reg.TIM_RATE.RATE]; omega)
  unfold setRate
  dsimp only
  split
  · exact hp
  · exact hp

theorem setRate_word (s : Dev) (r : Int) {k : Nat} (h : k ≠ Reg.TIM_RATE) : (s.setRate r).word k = s.word k := by
  have hp := word_put_other s Reg.TIM_RATE.RATE (ofSigned 32 (max (-rateLimit) (min rateLimit r))) k h
  unfold setRate
  dsimp only
  split
  · exact hp
  · exact hp

theorem servoRate_word (s : Dev) (r : Int) {k : Nat} (h : k ≠ Reg.TIM_RATE) : (s.servoRate r).word k = s.word k := by
  unfold servoRate
  split
  · rfl
  · exact setRate_word s r h

theorem servoRate_rate {s : Dev} (r : Int) (h : s.loopFreeze = false) : (s.servoRate r).getS Reg.TIM_RATE.RATE = max (-rateLimit) (min rateLimit r) := by
  rw [servoRate, h]
  exact setRate_rate s r

theorem servoRate_servo (s : Dev) (r : Int) : (s.servoRate r).servo = s.servo := by
  rw [servo, servo, get, get, servoRate_word s r (by decide)]

/-! ### Transitions of the servo (R30, R32, R34, R429) -/

theorem enterLocked_servo (s : Dev) : s.enterLocked.servo = servoLocked := setServo_servo s (by decide)

theorem enterLocked_integ (s : Dev) :
    s.enterLocked.tim.integ = if s.loopFreeze then s.tim.integ else s.getS Reg.TIM_RATE.RATE * (1000000000 * 2 ^ 24) := by
  rw [← setServo_loopFreeze s servoLocked]
  rfl

theorem enterLocked_word (s : Dev) {k : Nat} (h : k ≠ Reg.TIM_SERVO) : s.enterLocked.word k = s.word k := setServo_word s _ h

theorem slewingEnd_of_small {s : Dev} (h : s.servo = servoSlewing) (ho : 2 * |s.offsetNow| < s.stepThr) : s.slewingEnd = s.enterLocked := by
  rw [slewingEnd, if_pos ⟨h, decide_eq_true ho⟩]

theorem holdover_of_silence {s : Dev} {t0 : Int} (hs : s.servo = servoLocked ∨ s.servo = servoSlewing) (ht : s.tim.syncAt = some t0)
    (hi : atLeastIntervals (s.stepless - t0) 3 s.syncExp = true) : s.holdover = (s.setServo servoHoldover).servoRate s.tim.lockedRate := by
  unfold holdover
  rw [ht]
  exact if_pos ⟨hs, hi⟩

/-- The marks of a new episode, before the servo leaves its state (R32). -/
def episodeMarks (s : Dev) (set : Bool) : Dev :=
  { (s.inc Reg.TIM_SERVO.EPISODE).put (statusBit bTIM 4) 0 with tim := { s.tim with syncs := 0, setDue := set, setEpisode := set } }

theorem episodeMarks_regs (s : Dev) (set : Bool) : (s.episodeMarks set).regs = ((s.inc Reg.TIM_SERVO.EPISODE).put (statusBit bTIM 4) 0).regs := rfl

theorem episodeMarks_word (s : Dev) (set : Bool) {k : Nat} (h1 : k ≠ Reg.TIM_SERVO) (h2 : k ≠ statusAddr bTIM) : (s.episodeMarks set).word k = s.word k := by
  rw [word_of_regs (episodeMarks_regs s set), word_put_other _ _ _ _ h2, inc, word_put_other _ _ _ _ h1]

theorem episodeMarks_servoEn (s : Dev) (set : Bool) : (s.episodeMarks set).servoEn = s.servoEn := by
  rw [servoEn, servoEn, bit, bit, get, get, episodeMarks_word s set (by decide) (by decide)]

theorem episodeMarks_servo (s : Dev) (set : Bool) : (s.episodeMarks set).servo = s.servo := by
  rw [servo, servo, get_of_regs (episodeMarks_regs s set), get_put_other _ _ _ _ (by decide) (by decide), inc, get_put_other _ _ _ _ (by decide) (by decide)]

theorem episodeMarks_episode (s : Dev) (set : Bool) : (s.episodeMarks set).get Reg.TIM_SERVO.EPISODE = (s.get Reg.TIM_SERVO.EPISODE + 1) % 2 ^ 8 := by
  rw [get_of_regs (episodeMarks_regs s set), get_put_other _ _ _ _ (by decide) (by decide), inc, get_put_same _ _ _ (by decide)]
  rfl

theorem episodeMarks_stepUsed (s : Dev) (set : Bool) : (s.episodeMarks set).bit (statusBit bTIM 4) = false := by
  rw [bit_of_regs (episodeMarks_regs s set), bit_put_same _ _ _ (by decide) rfl]
  rfl

theorem episodeStart_eq {s : Dev} (set : Bool) (hg : s.isGrave bTIM = false) :
    s.episodeStart set = if s.servoEn then (s.episodeMarks set).setServo servoAcquiring else s.episodeMarks set := by
  rw [← episodeMarks_servoEn s set, episodeStart, hg]
  rfl

theorem episodeStart_tim {s : Dev} (set : Bool) (hg : s.isGrave bTIM = false) :
    (s.episodeStart set).tim = { s.tim with syncs := 0, setDue := set, setEpisode := set } := by
  rw [episodeStart_eq set hg]
  split <;> rfl

theorem episodeStart_servo {s : Dev} (set : Bool) (hg : s.isGrave bTIM = false) :
    (s.episodeStart set).servo = if s.servoEn then servoAcquiring else s.servo := by
  rw [episodeStart_eq set hg]
  split
  · exact setServo_servo _ (by decide)
  · exact episodeMarks_servo s set

/-- Beside STATE an episode leaves what its marks have set. -/
theorem episodeStart_word_marks {s : Dev} (set : Bool) (hg : s.isGrave bTIM = false) {k : Nat} (hk : k ≠ Reg.TIM_SERVO) :
    (s.episodeStart set).word k = (s.episodeMarks set).word k := by
  rw [episodeStart_eq set hg]
  split
  · exact setServo_word _ _ hk
  · rfl

theorem episodeStart_episode {s : Dev} (set : Bool) (hg : s.isGrave bTIM = false) :
    (s.episodeStart set).get Reg.TIM_SERVO.EPISODE = (s.get Reg.TIM_SERVO.EPISODE + 1) % 2 ^ 8 := by
  rw [episodeStart_eq set hg, ← episodeMarks_episode s set]
  split
  · exact get_put_other _ _ _ _ (by decide) (by decide)
  · rfl

theorem servoEnWrite_true (s : Dev) : s.servoEnWrite true = s.putBit (ctlBit bTIM 0) true := by simp [servoEnWrite]

theorem putBit_servoEn (s : Dev) (en : Bool) : (s.putBit (ctlBit bTIM 0) en).servoEn = en := by
  cases en
  · exact bit_put_same s (ctlBit bTIM 0) 0 (by decide) rfl
  · exact bit_put_same s (ctlBit bTIM 0) 1 (by decide) rfl

theorem servoEnWrite_false (s : Dev) :
    s.servoEnWrite false = if servoAcquiring ≤ s.servo ∧ s.servo ≤ servoHoldover then (s.putBit (ctlBit bTIM 0) false).setServo servoFree
      else s.putBit (ctlBit bTIM 0) false := by
  have h : (s.putBit (ctlBit bTIM 0) false).servo = s.servo := get_put_other s _ _ _ (by decide) (by decide)
  simp [servoEnWrite, h]

theorem servoEnWrite_false_servo (s : Dev) :
    (s.servoEnWrite false).servo = if servoAcquiring ≤ s.servo ∧ s.servo ≤ servoHoldover then servoFree else s.servo := by
  rw [servoEnWrite_false]
  split
  · exact setServo_servo _ (by decide)
  · exact get_put_other s _ _ _ (by decide) (by decide)

theorem servoEnWrite_false_servoEn (s : Dev) : (s.servoEnWrite false).servoEn = false := by
  rw [servoEnWrite_false]
  split
  · rw [setServo_servoEn, putBit_servoEn]
  · exact putBit_servoEn s false

theorem servoEnWrite_false_only (s : Dev) : WordOnly (fun k => k = blockBase bTIM + 4 ∨ k = Reg.TIM_SERVO) s (s.servoEnWrite false) := by
  have hput : WordOnly (fun k => k = blockBase bTIM + 4 ∨ k = Reg.TIM_SERVO) s (s.putBit (ctlBit bTIM 0) false) := WordOnly.put _ _ _ _ (.inl rfl)
  rw [servoEnWrite_false]
  split
  · exact hput.trans (WordOnly.put _ _ _ _ (.inr rfl))
  · exact hput

end Dev

theorem exec_episodeStart (set : Bool) (s : State) :
    exec (.episodeStart set) s = devStep (fun d => d.hostGate bTIM Reg.TIM_EPISODE (if set then 3 else 1) (·.episodeStart set)) s := rfl
theorem exec_servoDisable (s : State) : exec .servoDisable s = devStep (fun d => d.hostGate bTIM (ctlBit bTIM 0).addr
    (BitVec.ofNat 32 (fieldSet (d.word (ctlBit bTIM 0).addr).toNat 0 1 0)) (·.servoEnWrite false)) s := rfl
theorem exec_servoEnable (s : State) : exec .servoEnable s = devStep (fun d => d.hostGate bTIM (ctlBit bTIM 0).addr
    (BitVec.ofNat 32 (fieldSet (d.word (ctlBit bTIM 0).addr).toNat 0 1 1)) (·.servoEnWrite true)) s := rfl

theorem slewingEnd_answers (s : State) (hb : s.dev.blockOn bTIM = true) (hs : s.dev.servo = Dev.servoSlewing) (ho : 2 * |s.dev.offsetNow| < s.dev.stepThr) :
    Answers .slewingEnd s fun t => t.dev.servo = Dev.servoLocked
      ∧ t.dev.tim.integ = (if s.dev.loopFreeze then s.dev.tim.integ else s.dev.getS Reg.TIM_RATE.RATE * (1000000000 * 2 ^ 24))
      ∧ (∀ k, k ≠ Reg.TIM_SERVO → t.dev.word k = s.dev.word k) ∧ s.sameMem t := by
  refine answers_atBlock rfl hb ?_
  rw [Dev.slewingEnd_of_small (s := s.dev.fresh) hs ho]
  refine ⟨?_, ?_, fun k hk => ?_, rfl, rfl⟩
  · rw [Dev.servo_settle, Dev.enterLocked_servo]
  · rw [Dev.settle_tim]
    exact Dev.enterLocked_integ s.dev.fresh
  · rw [Dev.word_settle, Dev.enterLocked_word _ hk, Dev.word_fresh]

theorem holdover_answers (s : State) (t0 : Int) (hb : s.dev.blockOn bTIM = true) (hs : s.dev.servo = Dev.servoLocked ∨ s.dev.servo = Dev.servoSlewing)
    (ht : s.dev.tim.syncAt = some t0) (hi : Dev.atLeastIntervals (s.dev.stepless - t0) 3 s.dev.syncExp = true) :
    Answers .holdover s fun t => t.dev.servo = Dev.servoHoldover
      ∧ (s.dev.loopFreeze = false → t.dev.getS Reg.TIM_RATE.RATE = max (-Dev.rateLimit) (min Dev.rateLimit s.dev.tim.lockedRate))
      ∧ (∀ k, k ≠ Reg.TIM_SERVO → k ≠ Reg.TIM_RATE → t.dev.word k = s.dev.word k) ∧ s.sameMem t := by
  refine answers_atBlock rfl hb ?_
  rw [Dev.holdover_of_silence (s := s.dev.fresh) hs ht hi]
  refine ⟨?_, fun hf => ?_, fun k h1 h2 => ?_, rfl, rfl⟩
  · rw [Dev.servo_settle, Dev.servoRate_servo, Dev.setServo_servo _ (by decide)]
  · rw [Dev.getS_settle, Dev.servoRate_rate _ ((Dev.setServo_loopFreeze s.dev.fresh _).trans hf), Dev.fresh_tim]
  · rw [Dev.word_settle, Dev.servoRate_word _ _ h2, Dev.setServo_word _ _ h1, Dev.word_fresh]

theorem episodeStart_answers (s : State) (set : Bool) (hb : s.dev.blockOn bTIM = true) (hr : s.dev.hostRefused Reg.TIM_EPISODE = false)
    (hg : s.dev.isGrave bTIM = false) :
    Answers (.episodeStart set) s fun t => t.dev.get Reg.TIM_SERVO.EPISODE = (s.dev.get Reg.TIM_SERVO.EPISODE + 1) % 2 ^ 8
      ∧ t.dev.bit (statusBit bTIM 4) = false ∧ t.dev.tim.setDue = set ∧ t.dev.tim.syncs = 0
      ∧ t.dev.servo = (if s.dev.servoEn then Dev.servoAcquiring else s.dev.servo)
      ∧ (∀ k, k ≠ Reg.TIM_SERVO → k ≠ statusAddr bTIM → t.dev.word k = s.dev.word k) ∧ s.sameMem t := by
  refine answers_hostGate (exec_episodeStart set s) hb hr ?_
  have hf : s.dev.fresh.isGrave bTIM = false := hg
  refine ⟨?_, ?_, ?_, ?_, ?_, fun k h1 h2 => ?_, rfl, rfl⟩
  · rw [Dev.get_settle, Dev.episodeStart_episode set hf, Dev.get_fresh]
  · rw [Dev.bit_settle, Dev.bit, Dev.get, Dev.episodeStart_word_marks set hf (by decide)]
    exact Dev.episodeMarks_stepUsed s.dev.fresh set
  · rw [Dev.settle_tim, Dev.episodeStart_tim set hf]
  · rw [Dev.settle_tim, Dev.episodeStart_tim set hf]
  · rw [Dev.servo_settle, Dev.episodeStart_servo set hf]
    rfl
  · rw [Dev.word_settle, Dev.episodeStart_word_marks set hf h1, Dev.episodeMarks_word _ set h1 h2, Dev.word_fresh]

theorem servoDisable_answers (s : State) (hb : s.dev.blockOn bTIM = true) (hr : s.dev.hostRefused (blockBase bTIM + 4) = false) :
    Answers .servoDisable s fun t => t.dev.servoEn = false
      ∧ t.dev.servo = (if Dev.servoAcquiring ≤ s.dev.servo ∧ s.dev.servo ≤ Dev.servoHoldover then Dev.servoFree else s.dev.servo)
      ∧ s.dev.onlyWords (fun k => k = blockBase bTIM + 4 ∨ k = Reg.TIM_SERVO) t.dev ∧ s.sameMem t := by
  refine answers_hostGate (exec_servoDisable s) hb hr ?_
  refine ⟨?_, ?_, (Dev.servoEnWrite_false_only _).settled _, rfl, rfl⟩
  · rw [Dev.servoEn_settle, Dev.servoEnWrite_false_servoEn]
  · rw [Dev.servo_settle, Dev.servoEnWrite_false_servo]
    rfl

theorem servoEnable_answers (s : State) (hb : s.dev.blockOn bTIM = true) (hr : s.dev.hostRefused (blockBase bTIM + 4) = false) :
    Answers .servoEnable s fun t => t.dev.servoEn = true ∧ s.dev.onlyWords (· = blockBase bTIM + 4) t.dev ∧ s.sameMem t := by
  refine answers_hostGate (exec_servoEnable s) hb hr ?_
  rw [Dev.servoEnWrite_true]
  refine ⟨?_, (Dev.WordOnly.put (· = blockBase bTIM + 4) _ (ctlBit bTIM 0) _ rfl).settled _, rfl, rfl⟩
  rw [Dev.servoEn_settle, Dev.putBit_servoEn]

/-- Settles O18: one transition of the servo after another. -/
theorem servoStates : Obligations.ServoStates :=
  ⟨slewingEnd_answers, holdover_answers, episodeStart_answers, servoDisable_answers, servoEnable_answers⟩

end Sys2Proof.Machine
end

section
/-! SUPPORT. The pair of Halyards, the local copies and the timebase PLL (R35–R38, R349). -/

namespace Sys2Proof.Machine

namespace Dev

theorem dist40_eq (s : Dev) : s.dist40 = ((if s.activeB then s.tim.accB else s.tim.accA : Nat) + s.tim.hand).toNat := rfl

/-- Distributed time depends on the active Halyard, the accumulators and the handover difference alone. -/
theorem dist40_congr {s t : Dev} (hb : t.activeB = s.activeB) (hA : t.tim.accA = s.tim.accA) (hB : t.tim.accB = s.tim.accB) (hh : t.tim.hand = s.tim.hand) :
    t.dist40 = s.dist40 := by
  rw [dist40_eq, dist40_eq, hb, hA, hB, hh]

/-- TIM_HAL_DIFF shows the difference of the Halyards in whole ns, within its range (R35). -/
def halDiff (s : Dev) : Dev :=
  s.put Reg.TIM_HAL_DIFF.DIFF (ofSigned 32 (max (-2147483648) (min 2147483647 (((s.tim.accA : Int) - s.tim.accB).tdiv (2 ^ 40)))))

theorem halDiff_word (s : Dev) {k : Nat} (h : k ≠ Reg.TIM_HAL_DIFF) : s.halDiff.word k = s.word k := word_put_other s _ _ _ h
theorem halDiff_bit (s : Dev) {f : Fld} (h : f.addr ≠ Reg.TIM_HAL_DIFF) : s.halDiff.bit f = s.bit f := bit_put_other s _ f _ (by decide) (.inl h)
@[simp] theorem halDiff_tim (s : Dev) : s.halDiff.tim = s.tim := rfl
@[simp] theorem halDiff_activeB (s : Dev) : s.halDiff.activeB = s.activeB := halDiff_bit s (by decide)

/-- Halyards within 8 ns fit the field. -/
theorem halDiff_diff {s : Dev} (h : |(s.tim.accA : Int) - s.tim.accB| ≤ 8 * 2 ^ 40) :
    s.halDiff.getS Reg.TIM_HAL_DIFF.DIFF = ((s.tim.accA : Int) - s.tim.accB).tdiv (2 ^ 40) := by
  have hr : -8 ≤ ((s.tim.accA : Int) - s.tim.accB).tdiv (2 ^ 40) ∧ ((s.tim.accA : Int) - s.tim.accB).tdiv (2 ^ 40) ≤ 8 := by
    rw [abs_le] at h
    obtain ⟨h1, h2⟩ := h
    generalize (s.tim.accA : Int) - s.tim.accB = x at h1 h2
    rcases le_or_gt 0 x with hx | hx
    · rw [Int.tdiv_eq_ediv_of_nonneg hx]
      omega
    · rw [← neg_neg x, Int.neg_tdiv, Int.tdiv_eq_ediv_of_nonneg (by omega)]
      omega
  generalize hd : ((s.tim.accA : Int) - s.tim.accB).tdiv (2 ^ 40) = d at hr
  rw [halDiff, hd, max_eq_right (by omega), min_eq_right (by omega)]
  exact getS_put_same s Reg.TIM_HAL_DIFF.DIFF (by decide) (by simp only [Reg.TIM_HAL_DIFF.DIFF]; omega) (by simp only [Reg.TIM_HAL_DIFF.DIFF]; omega)

/-- Without a reload due the standby is not loaded before the comparison (R37). -/
theorem reload_of_not_due {s : Dev} (h : s.tim.loadDue = false) : (if s.tim.loadDue then s.halReload else s) = s := by simp [h]

/-- Halyards that agree are shown; a rejected one counts towards its return (R35, R37). -/
theorem halyardComparison_of_agree {s : Dev} (la lb : Bool) (hc : s.tim.counting = true) (hp : s.pwr.phase ≠ .hold) (hl : s.tim.loadDue = false)
    (hd : |(s.tim.accA : Int) - s.tim.accB| ≤ 8 * 2 ^ 40) :
    s.halyardComparison la lb = if s.tim.rejected then
      { s.halDiff with tim := { s.tim with good := s.tim.good + 1, rejected := Nat.blt (s.tim.good + 1) 1000 } } else s.halDiff := by
  unfold halyardComparison
  rw [if_neg (by simp [hc, hp])]
  simp only [reload_of_not_due hl]
  exact if_pos hd

theorem halyardComparison_agree_facts {s : Dev} (la lb : Bool) (hc : s.tim.counting = true) (hp : s.pwr.phase ≠ .hold) (hl : s.tim.loadDue = false)
    (hd : |(s.tim.accA : Int) - s.tim.accB| ≤ 8 * 2 ^ 40) :
    (s.halyardComparison la lb).regs = s.halDiff.regs ∧ (s.halyardComparison la lb).dist40 = s.dist40 := by
  rw [halyardComparison_of_agree la lb hc hp hl hd]
  split
  · exact ⟨rfl, dist40_congr (halDiff_activeB s) rfl rfl rfl⟩
  · exact ⟨rfl, dist40_congr (halDiff_activeB s) rfl rfl rfl⟩

/-! ### A failover (R36) -/

theorem halFailover_regs (s : Dev) :
    s.halFailover.regs = (((s.putBit (statusBit bTIM 3) (!s.activeB)).raise bTIM 10).inc Reg.TIM_FAILOVER_CNT.COUNT).regs := rfl

theorem halFailover_activeB (s : Dev) : s.halFailover.activeB = !s.activeB := by
  rw [activeB, bit_of_regs (halFailover_regs s), inc, bit_put_other _ _ _ _ (by decide) (by decide), raise,
    bit_put_other _ _ _ _ (by decide) (by decide), putBit, bit_put_same _ _ _ (by decide) rfl]
  cases s.activeB <;> rfl

theorem halFailover_count (s : Dev) : s.halFailover.get Reg.TIM_FAILOVER_CNT.COUNT = (s.get Reg.TIM_FAILOVER_CNT.COUNT + 1) % 2 ^ 32 := by
  rw [get_of_regs (halFailover_regs s), inc, get_put_same _ _ _ (by decide), raise, get_put_other _ _ _ _ (by decide) (by decide), putBit,
    get_put_other _ _ _ _ (by decide) (by decide)]
  rfl

theorem halFailover_sticky (s : Dev) (n : Nat) : s.halFailover.bit (stickyBit bTIM n) = s.bit (stickyBit bTIM n) := by
  have h : ∀ k, k = statusAddr bTIM ∨ k = Reg.TIM_FAILOVER_CNT → stickyAddr bTIM ≠ k := by rintro k (rfl | rfl) <;> decide
  rw [bit_of_regs (halFailover_regs s), inc, bit_put_other _ _ _ _ (by decide) (.inl (h _ (.inr rfl))), raise,
    bit_put_other _ _ _ _ (by decide) (.inl (h _ (.inl rfl))), putBit, bit_put_other _ _ _ _ (by decide) (.inl (h _ (.inl rfl)))]

theorem halFailover_tim (s : Dev) :
    s.halFailover.tim = { s.tim with hand := (s.dist40 : Int) - (if s.halFailover.activeB then s.tim.accB else s.tim.accA : Nat) } := by
  rw [activeB, bit_of_regs (halFailover_regs s)]
  unfold halFailover activeB
  dsimp only
  simp only [inc, raise, putBit, put_tim]

/-- The handover difference makes up for the change of Halyard: distributed time takes no step (R36). -/
theorem halFailover_dist40 (s : Dev) : s.halFailover.dist40 = s.dist40 := by
  rw [dist40_eq, halFailover_tim]
  cases s.halFailover.activeB <;> simp

/-! ### A comparison (R35, R37) -/

/-- One Halyard is rejected, B kept or A: the event, and the failover where the kept one is the standby (R35, R36). -/
def reject (s : Dev) (keepB : Bool) : Dev :=
  let u := s.fault bTIM (if keepB then 0 else 1)
  let u := if keepB ≠ u.activeB then u.halFailover else u
  { u with tim := { u.tim with rejected := true, loadDue := true, good := 0 } }

theorem netEstimate_none {s : Dev} (h : s.tim.syncAt = none) : s.netEstimate = none := by simp [netEstimate, h]

theorem keepsB_lockB {s : Dev} (h : s.netEstimate = none) : s.keepsB false true = true := by simp [keepsB, h]

theorem reject_standby {s : Dev} (ha : s.activeB = false) :
    s.reject true = { (s.fault bTIM 0).halFailover with tim := { (s.fault bTIM 0).halFailover.tim with rejected := true, loadDue := true, good := 0 } } := by
  have hf : (s.fault bTIM 0).activeB = s.activeB := bit_fault _ _ _ _ (by unfold faultWords; decide)
  have hx : (if true ≠ (s.fault bTIM 0).activeB then (s.fault bTIM 0).halFailover else s.fault bTIM 0) = (s.fault bTIM 0).halFailover := by
    rw [hf, ha]
    rfl
  unfold reject
  dsimp only
  rw [if_pos rfl, hx]

/-- Halyards that differ, with no estimate to tell by: one is rejected (R35). -/
theorem halyardComparison_of_apart {s : Dev} (la lb : Bool) (hc : s.tim.counting = true) (hp : s.pwr.phase ≠ .hold) (hl : s.tim.loadDue = false)
    (hd : 8 * 2 ^ 40 < |(s.tim.accA : Int) - s.tim.accB|) (hs : s.tim.syncAt = none) :
    s.halyardComparison la lb = s.halDiff.reject (if s.halDiff.tim.rejected then s.halDiff.activeB else s.halDiff.keepsB la lb) := by
  have hn : s.halDiff.netEstimate = none := netEstimate_none hs
  unfold halyardComparison
  rw [if_neg (by simp [hc, hp])]
  simp only [reload_of_not_due hl]
  refine (if_neg (not_le.mpr hd)).trans ?_
  change Dev.when _ (match s.halDiff.netEstimate with | some _ => _ | none => false) _ = _
  rw [hn]
  rfl


/-- With none rejected, Halyard A active and only B's timebase in lock, A is the one rejected. -/
theorem halyardComparison_rejectsA {s : Dev} (hc : s.tim.counting = true) (hp : s.pwr.phase ≠ .hold) (hl : s.tim.loadDue = false)
    (hd : 8 * 2 ^ 40 < |(s.tim.accA : Int) - s.tim.accB|) (hr : s.tim.rejected = false) (hs : s.tim.syncAt = none) :
    s.halyardComparison false true = s.halDiff.reject true := by
  rw [halyardComparison_of_apart _ _ hc hp hl hd hs, halDiff_tim, hr, if_neg (by decide), keepsB_lockB (netEstimate_none (s := s.halDiff) hs)]

/-! ### Local copies (R38) -/

theorem copyCheck_off {s : Dev} {d : Int} (h : 4 * 65536 < |d|) : s.copyCheck d = ((s.inc Reg.TIM_COPY_ERR.COUNT).fault bTIM 4).raise bTIM 14 :=
  if_neg (not_le.mpr h)

theorem copyCheck_within {s : Dev} {d : Int} (h : |d| ≤ 4 * 65536) : s.copyCheck d = s := if_pos h

end Dev

theorem exec_copyCheck (b : Fin 28) (d : Int) (s : State) :
    exec (.copyCheck b d) s = devStep (·.atBlock bTIM fun u => u.when (u.blockOn b) (·.copyCheck d)) s := rfl

theorem halyardComparison_agree_answers (s : State) (la lb : Bool) (hb : s.dev.blockOn bTIM = true) (hc : s.dev.tim.counting = true)
    (hp : s.dev.pwr.phase ≠ .hold) (hl : s.dev.tim.loadDue = false) (hd : |(s.dev.tim.accA : Int) - s.dev.tim.accB| ≤ 8 * 2 ^ 40) :
    Answers (.halyardComparison la lb) s fun t => t.dev.getS Reg.TIM_HAL_DIFF.DIFF = ((s.dev.tim.accA : Int) - s.dev.tim.accB).tdiv (2 ^ 40)
      ∧ t.dev.now = s.dev.now ∧ (∀ k, k ≠ Reg.TIM_HAL_DIFF → t.dev.word k = s.dev.word k) ∧ s.sameMem t := by
  obtain ⟨hregs, hdist⟩ := Dev.halyardComparison_agree_facts (s := s.dev.fresh) la lb hc hp hl hd
  refine answers_atBlock rfl hb ⟨?_, ?_, fun k hk => ?_, rfl, rfl⟩
  · rw [Dev.getS_settle, Dev.getS, Dev.get_of_regs hregs]
    exact Dev.halDiff_diff (s := s.dev.fresh) hd
  · rw [Dev.now_settle, Dev.now, hdist]
    rfl
  · rw [Dev.word_settle, Dev.word_of_regs hregs, Dev.halDiff_word _ hk, Dev.word_fresh]

theorem halyardComparison_failover_answers (s : State) (hb : s.dev.blockOn bTIM = true) (hc : s.dev.tim.counting = true)
    (hp : s.dev.pwr.phase ≠ .hold) (hl : s.dev.tim.loadDue = false) (hd : 8 * 2 ^ 40 < |(s.dev.tim.accA : Int) - s.dev.tim.accB|)
    (hr : s.dev.tim.rejected = false) (hs : s.dev.tim.syncAt = none) (ha : s.dev.activeB = false) :
    Answers (.halyardComparison false true) s fun t => t.dev.bit (stickyBit bTIM 0) = true ∧ t.dev.activeB = true
      ∧ t.dev.get Reg.TIM_FAILOVER_CNT.COUNT = (s.dev.get Reg.TIM_FAILOVER_CNT.COUNT + 1) % 2 ^ 32 ∧ t.dev.dist40 = s.dev.dist40
      ∧ t.dev.tim.rejected = true ∧ t.dev.tim.loadDue = true ∧ s.sameMem t := by
  have hact : s.dev.fresh.halDiff.activeB = false := (Dev.halDiff_activeB _).trans ha
  have hfa : (s.dev.fresh.halDiff.fault bTIM 0).activeB = false :=
    (Dev.bit_fault _ _ _ _ (by unfold Dev.faultWords; decide)).trans hact
  have htim : (s.dev.fresh.halDiff.fault bTIM 0).tim = s.dev.tim := by rw [(Dev.fault_only _ _ _).2]; rfl
  refine answers_atBlock rfl hb ?_
  rw [Dev.halyardComparison_rejectsA (s := s.dev.fresh) hc hp hl hd hr hs, Dev.reject_standby hact]
  have hregs : ∀ (u : Dev) (x : Tim), ({ u with tim := x } : Dev).regs = u.regs := fun _ _ => rfl
  refine ⟨?_, ?_, ?_, ?_, ?_, ?_, rfl, rfl⟩
  · rw [Dev.bit_settle, Dev.bit_of_regs (hregs _ _), Dev.halFailover_sticky, Dev.fault_sticky _ _ _ (by decide) (by decide)]
  · rw [Dev.activeB_settle, Dev.activeB, Dev.bit_of_regs (hregs _ _)]
    exact (Dev.halFailover_activeB _).trans (by rw [hfa]; rfl)
  · rw [Dev.get_settle, Dev.get_of_regs (hregs _ _), Dev.halFailover_count, Dev.get_fault _ _ _ _ (by unfold Dev.faultWords; decide), Dev.halDiff,
      Dev.get_put_other _ _ _ _ (by decide) (by decide), Dev.get_fresh]
  · rw [Dev.dist40_settle]
    have hmark : ∀ u : Dev, ({ u with tim := { u.tim with rejected := true, loadDue := true, good := 0 } } : Dev).dist40 = u.dist40 :=
      fun u => Dev.dist40_congr rfl rfl rfl rfl
    rw [hmark, Dev.halFailover_dist40]
    exact Dev.dist40_congr (hfa.trans ha.symm) (by rw [htim]) (by rw [htim]) (by rw [htim])
  · rw [Dev.settle_tim]
  · rw [Dev.settle_tim]

theorem copyCheck_off_answers (s : State) (b : Fin 28) (d : Int) (hb : s.dev.blockOn bTIM = true) (ho : s.dev.blockOn b = true) (hd : 4 * 65536 < |d|) :
    Answers (.copyCheck b d) s fun t => t.dev.get Reg.TIM_COPY_ERR.COUNT = (s.dev.get Reg.TIM_COPY_ERR.COUNT + 1) % 2 ^ 32
      ∧ t.dev.bit (stickyBit bTIM 4) = true ∧ t.dev.bit (statusBit bTIM 14) = true
      ∧ s.dev.onlyWordsAndFaults (fun k => k = Reg.TIM_COPY_ERR ∨ k = statusAddr bTIM ∨ Dev.faultWords bTIM k) t.dev ∧ s.sameMem t := by
  have honly : Dev.FaultOnly (fun k => k = Reg.TIM_COPY_ERR ∨ k = statusAddr bTIM ∨ Dev.faultWords bTIM k) s.dev.fresh
      (((s.dev.fresh.inc Reg.TIM_COPY_ERR.COUNT).fault bTIM 4).raise bTIM 14) :=
    ((Dev.FaultOnly.inc _ _ _ (.inl rfl)).trans ((Dev.fault_only _ bTIM 4).mono fun _ h => .inr (.inr h))).trans
      (Dev.FaultOnly.put _ _ _ _ (.inr (.inl rfl)))
  refine answers_atBlock (exec_copyCheck b d s) hb ?_
  rw [show s.dev.fresh.blockOn b = true from ho, Dev.when_true, Dev.copyCheck_off hd]
  refine ⟨?_, ?_, ?_, honly.settled _, rfl, rfl⟩
  · rw [Dev.get_settle, Dev.raise, Dev.get_put_other _ _ _ _ (by decide) (by decide), Dev.get_fault _ _ _ _ (by unfold Dev.faultWords; decide), Dev.inc,
      Dev.get_put_same _ _ _ (by decide), Dev.get_fresh]
    rfl
  · rw [Dev.bit_settle, Dev.raise, Dev.bit_put_other _ _ _ _ (by decide) (by decide), Dev.fault_sticky _ _ _ (by decide) (by decide)]
  · rw [Dev.bit_settle, Dev.raise, Dev.bit_put_same _ _ _ (by decide) rfl]
    rfl

theorem copyCheck_within_answers (s : State) (b : Fin 28) (d : Int) (hd : |d| ≤ 4 * 65536) :
    Answers (.copyCheck b d) s fun t => s.dev.onlyWords (fun _ => False) t.dev ∧ s.sameMem t := by
  have hid : ∀ u : Dev, (u.atBlock bTIM fun u => u.when (u.blockOn b) (·.copyCheck d)) = u := fun u => by
    have hw : ∀ c v, Dev.when v c (·.copyCheck d) = v := fun c v => by
      cases c
      · rfl
      · exact Dev.copyCheck_within hd
    simp only [Dev.atBlock, hw]
    cases u.blockOn bTIM <;> rfl
  refine answers_devStep (exec_copyCheck b d s) ?_
  rw [hid]
  exact ⟨(Dev.WordOnly.refl _ _).settled _, rfl, rfl⟩

theorem timebasePllUnlock_answers (s : State) (hb : s.dev.blockOn bTIM = true) :
    Answers .timebasePllUnlock s fun t => t.dev.bit (stickyBit bTIM 5) = true ∧ s.dev.onlyWordsAndFaults (Dev.faultWords bTIM) t.dev ∧ s.sameMem t := by
  refine answers_atBlock rfl hb ⟨?_, (Dev.fault_only _ bTIM 5).settled _, rfl, rfl⟩
  rw [Dev.bit_settle, Dev.fault_sticky _ _ _ (by decide) (by decide)]

/-- Settles O19: the failover keeps distributed time because the handover difference takes up the change of Halyard. -/
theorem halyards : Obligations.Halyards :=
  ⟨halyardComparison_agree_answers, halyardComparison_failover_answers, copyCheck_off_answers, copyCheck_within_answers, timebasePllUnlock_answers⟩

end Sys2Proof.Machine
end

section
/-! SUPPORT. A Sync that the servo takes (R28–R31, R40, R41, R428): the change of slave port leaves what the servo measures with, and the servo acts on the offset measured. -/

namespace Sys2Proof.Machine

namespace Dev

/-! ### The stamp latency of a port stands beside the words that a renegotiation changes (R40, R82, R405) -/

theorem lat_put {p : Nat} (s : Dev) {f : Fld} (v : Nat) (h : f.addr < 0x1240000) : (s.put f v).word (Reg.TIM_LAT p) = s.word (Reg.TIM_LAT p) :=
  word_put_other _ _ _ _ (by simp only [Reg.TIM_LAT]; omega)

theorem lat_dropLate (s : Dev) {p : Nat} (e : QEnt) (h4 : 4 ≤ p) (h8 : p < 8) : (s.dropLate p e).word (Reg.TIM_LAT p) = s.word (Reg.TIM_LAT p) := by
  refine (dropLate_only s p e).1 _ ?_
  rintro ((h | h) | ⟨x, h | h⟩ | h | h | h) <;>
    simp only [Reg.TIM_LAT, Reg.PRT_TX_CNT, Reg.PRT_HALF_TX, Reg.STM_CNT, Reg.STM_CTX_STAT, Reg.FRM_BANK_STATE] at h <;> omega

theorem lat_fault (s : Dev) {p : Nat} (n : Nat) (h8 : p < 8) : (s.fault bGTE n).word (Reg.TIM_LAT p) = s.word (Reg.TIM_LAT p) := by
  refine (fault_only s bGTE n).1 _ ?_
  have hw : ∀ k, faultWords bGTE k → k < 0x1240000 := by
    rintro k (rfl | rfl | rfl | rfl | rfl) <;> decide
  intro h
  have := hw _ h
  simp only [Reg.TIM_LAT] at this
  omega

theorem lat_abandonHold (s : Dev) {p : Nat} (h4 : 4 ≤ p) (h8 : p < 8) : (s.abandonHold p).word (Reg.TIM_LAT p) = s.word (Reg.TIM_LAT p) := by
  unfold abandonHold
  split
  · rfl
  · rw [lat_fault _ _ h8, lat_dropLate _ _ h4 h8]
    rfl

theorem blockBase_bPRT {p : Nat} (h8 : p < 8) : blockBase (bPRT p) = 0x10000 * (4 + p) := by
  rw [blockBase, if_pos (show 4 + p < 16 by omega)]

theorem lat_dropLink (s : Dev) {p : Nat} (h4 : 4 ≤ p) (h8 : p < 8) : (s.dropLink p).word (Reg.TIM_LAT p) = s.word (Reg.TIM_LAT p) := by
  have ha : statusAddr (bPRT p) < 0x1240000 := by rw [statusAddr, blockBase_bPRT h8]; omega
  unfold dropLink
  dsimp only
  split
  · rw [lat_abandonHold _ h4 h8, raise, lat_put _ _ ha, lat_put _ _ ha]
    rfl
  · rfl

theorem lat_reneg (s : Dev) {p : Nat} (h4 : 4 ≤ p) (h8 : p < 8) : (s.reneg p).word (Reg.TIM_LAT p) = s.word (Reg.TIM_LAT p) := by
  have ha : statusAddr (bPRT p) < 0x1240000 := by rw [statusAddr, blockBase_bPRT h8]; omega
  have hq : ((s.quietDrop p).restartAn p (s.get (Reg.PRT_MODE.SPEED_MAX p))).word (Reg.TIM_LAT p) = s.word (Reg.TIM_LAT p) := by
    have hq1 : s.quietDrop p = s.dropLink p := by
      have : Nat.blt p 4 = false := Bool.eq_false_iff.mpr (by rw [Ne, Nat.blt_eq]; omega)
      simp [quietDrop, this]
    rw [hq1, ← lat_dropLink s h4 h8, ← lat_put (s.dropLink p) (f := prtBit p 3) 1 ha]
    rfl
  unfold reneg atBlock
  cases s.blockOn (bPRT p)
  · rfl
  · rw [when_true, if_neg (by omega), hq]

theorem lat_slaveDsClear (s : Dev) {p : Nat} (h8 : p < 8) : (s.slaveDsClear p).word (Reg.TIM_LAT p) = s.word (Reg.TIM_LAT p) := by
  unfold slaveDsClear
  split
  · next h =>
    have ha : (Reg.PRT_DS.DS_EN p).addr < 0x1240000 := by simp only [Reg.PRT_DS.DS_EN]; omega
    cases hc : Nat.blt (s.rate p) (s.get (Reg.PRT_MODE.SPEED_MAX p))
    · rw [when_false, lat_put _ _ ha]
    · rw [when_true, lat_reneg _ h.1 h8, lat_put _ _ ha]
  · rfl

/-! ### The change of slave port (R31, R41) -/

/-- What the servo measures with, beside the source and the grandmaster it follows: the words of the root and the latency of port `p`, the state and the active Halyard. -/
def MeasuresAs (p : Nat) (s t : Dev) : Prop :=
  (∀ k, k < 0x30000 ∨ k = Reg.TIM_LAT p → k ≠ statusAddr bTIM → k ≠ Reg.TIM_SERVO → t.word k = s.word k)
    ∧ t.servo = s.servo ∧ t.activeB = s.activeB
    ∧ t.tim = { s.tim with ring := t.tim.ring, slaves := t.tim.slaves, gm := t.tim.gm, syncs := t.tim.syncs }

theorem MeasuresAs.refl (p : Nat) (s : Dev) : MeasuresAs p s s := ⟨fun _ _ _ _ => rfl, rfl, rfl, rfl⟩

theorem MeasuresAs.trans {p : Nat} {a b c : Dev} (h : MeasuresAs p a b) (k : MeasuresAs p b c) : MeasuresAs p a c := by
  obtain ⟨hw, hs, hb, ht⟩ := h
  obtain ⟨kw, ks, kb, kt⟩ := k
  exact ⟨fun j h1 h2 h3 => (kw j h1 h2 h3).trans (hw j h1 h2 h3), ks.trans hs, kb.trans hb, by rw [kt, ht]⟩

theorem measuresAs_raise (p : Nat) (s : Dev) {n : Nat} (h1 : n < 32) (h3 : n ≠ 3) : MeasuresAs p s (s.raise bTIM n) :=
  ⟨fun _ _ h _ => word_put_other _ _ _ _ h, get_put_other _ _ _ _ (by simp only [statusBit]; omega) (.inl (show Reg.TIM_SERVO ≠ statusAddr bTIM by decide)),
    bit_put_other _ _ _ _ (by simp only [statusBit]; omega) (by simp only [statusBit]; omega), rfl⟩

theorem measuresAs_when (p : Nat) (s : Dev) (c : Bool) {f : Dev → Dev} (h : MeasuresAs p s (f s)) : MeasuresAs p s (s.when c f) := by
  cases c
  · exact MeasuresAs.refl p s
  · exact h

/-- The source, the slave ports, the grandmaster and the count of Sync messages are the servo's own. -/
theorem measuresAs_setTim (p : Nat) (s : Dev) (x : Tim) (h : x = { s.tim with ring := x.ring, slaves := x.slaves, gm := x.gm, syncs := x.syncs }) :
    MeasuresAs p s { s with tim := x } := ⟨fun _ _ _ _ => rfl, rfl, rfl, h⟩

theorem measuresAs_slaveDsClear (s : Dev) {p : Nat} (h8 : p < 8) : MeasuresAs p s (s.slaveDsClear p) := by
  have hr := slaveDsClear_root s p
  have hw : ∀ k < 0x30000, (s.slaveDsClear p).word k = s.word k := fun k hk => word_of_root hr hk
  refine ⟨fun k hk _ _ => ?_, ?_, ?_, by rw [tim_of_root hr]⟩
  · rcases hk with hk | rfl
    · exact hw k hk
    · exact lat_slaveDsClear s h8
  · rw [servo, servo, get, get, hw _ (by decide)]
  · rw [activeB, activeB, bit, bit, get, get, hw _ (by decide)]

theorem measuresAs_setSlave (p : Nat) (s : Dev) (src : Nat) (q : Option Nat) : MeasuresAs p s (s.setSlave src q) := measuresAs_setTim p s _ rfl

/-- The slave port shown, and the Sync messages counted anew (R29, R31). -/
def slaveShown (s : Dev) (new : Nat) : Dev := { s.put Reg.TIM_SERVO.SLAVE_PORT new with tim := { s.tim with syncs := 0 } }

theorem measuresAs_slaveShown (p : Nat) (s : Dev) (new : Nat) : MeasuresAs p s (s.slaveShown new) := by
  have hr : (s.slaveShown new).regs = (s.put Reg.TIM_SERVO.SLAVE_PORT new).regs := rfl
  refine ⟨fun k _ _ h => ?_, ?_, ?_, rfl⟩
  · rw [word_of_regs hr, word_put_other _ _ _ _ h]
  · rw [servo, servo, get_of_regs hr, get_put_other _ _ _ _ (by decide) (by decide)]
  · rw [activeB, activeB, bit_of_regs hr, bit_put_other _ _ _ _ (by decide) (by decide)]

/-- A change from one port to another is told as one of the grandmaster or one of the ring (R31). -/
def slaveNotice (s : Dev) (new : Nat) (alone : Bool) : Dev :=
  if alone && s.get Reg.TIM_SERVO.SLAVE_PORT != 0xFF && new != 0xFF then s.freeWord.2.raise bTIM (if s.freeWord.1 % 2 = 0 then 11 else 13) else s

theorem measuresAs_slaveNotice (p : Nat) (s : Dev) (new : Nat) (alone : Bool) : MeasuresAs p s (s.slaveNotice new alone) := by
  have hf : MeasuresAs p s s.freeWord.2 := ⟨fun _ _ _ _ => rfl, rfl, rfl, rfl⟩
  unfold slaveNotice
  split
  · refine hf.trans (measuresAs_raise p _ ?_ ?_) <;> split <;> decide
  · exact MeasuresAs.refl p s

theorem showSlave_eq (s : Dev) (q : Option Nat) (alone : Bool) :
    s.showSlave q alone = if s.get Reg.TIM_SERVO.SLAVE_PORT = q.getD 0xFF then s else
      match q with
      | some p => ((s.slaveNotice (q.getD 0xFF) alone).slaveShown (q.getD 0xFF)).slaveDsClear p
      | none => (s.slaveNotice (q.getD 0xFF) alone).slaveShown (q.getD 0xFF) := rfl

theorem measuresAs_showSlave (s : Dev) {p : Nat} (alone : Bool) (h8 : p < 8) : MeasuresAs p s (s.showSlave (some p) alone) := by
  rw [showSlave_eq]
  split
  · exact MeasuresAs.refl p s
  · exact ((measuresAs_slaveNotice p s _ _).trans (measuresAs_slaveShown p _ _)).trans (measuresAs_slaveDsClear _ h8)

theorem measuresAs_takeGm (p : Nat) (s : Dev) (gm : Nat) : MeasuresAs p s (s.takeGm gm) := by
  unfold takeGm
  split
  · exact MeasuresAs.refl p s
  · exact (measuresAs_when p s _ (measuresAs_raise p s (by decide) (by decide))).trans (measuresAs_setTim p _ _ rfl)

theorem takeGm_gm (s : Dev) (gm : Nat) : (s.takeGm gm).tim.gm = gm := by
  unfold takeGm
  split
  · assumption
  · rfl

/-! ### What the servo reads follows (R30, R40, R428) -/

section
variable {p : Nat} {s t : Dev} (h : MeasuresAs p s t)
include h

theorem MeasuresAs.word {k : Nat} (hk : k < 0x30000 ∨ k = Reg.TIM_LAT p) (h1 : k ≠ statusAddr bTIM) (h2 : k ≠ Reg.TIM_SERVO) : t.word k = s.word k :=
  h.1 k hk h1 h2

theorem MeasuresAs.servo_eq : t.servo = s.servo := h.2.1
theorem MeasuresAs.tim_eq : t.tim = { s.tim with ring := t.tim.ring, slaves := t.tim.slaves, gm := t.tim.gm, syncs := t.tim.syncs } := h.2.2.2

theorem MeasuresAs.servoEn_eq : t.servoEn = s.servoEn := by
  rw [servoEn, servoEn, bit, bit, get, get, h.word (.inl (by decide)) (by decide) (by decide)]

theorem MeasuresAs.loopFreeze_eq : t.loopFreeze = s.loopFreeze := by
  rw [loopFreeze, loopFreeze, bit, bit, get, get, h.word (.inl (by decide)) (by decide) (by decide)]

theorem MeasuresAs.cfg_eq : t.word Reg.TIM_CFG = s.word Reg.TIM_CFG := h.word (.inl (by decide)) (by decide) (by decide)

theorem MeasuresAs.stepThr_eq : t.stepThr = s.stepThr := by
  have hc : t.word Reg.TIM_CFG.STEP_THR.addr = s.word Reg.TIM_CFG.STEP_THR.addr := h.cfg_eq
  rw [stepThr, stepThr, get, get, hc]

theorem MeasuresAs.servoBw_eq : t.servoBw = s.servoBw := by
  have hc : t.word Reg.TIM_CFG.SERVO_BW.addr = s.word Reg.TIM_CFG.SERVO_BW.addr := h.cfg_eq
  rw [servoBw, servoBw, get, get, hc]

theorem MeasuresAs.latency_eq : t.get (Reg.TIM_LAT.ING_LAT p) = s.get (Reg.TIM_LAT.ING_LAT p) := by
  have hl : t.word (Reg.TIM_LAT.ING_LAT p).addr = s.word (Reg.TIM_LAT.ING_LAT p).addr :=
    h.word (.inr rfl) (by simp only [Reg.TIM_LAT.ING_LAT, show statusAddr bTIM = 0x20008 from rfl]; omega)
      (by simp only [Reg.TIM_LAT.ING_LAT, Reg.TIM_SERVO]; omega)
  rw [get, get, hl]

theorem MeasuresAs.dist40_eq : t.dist40 = s.dist40 := dist40_congr h.2.2.1 (by rw [h.tim_eq]) (by rw [h.tim_eq]) (by rw [h.tim_eq])

theorem MeasuresAs.stepless_eq : t.stepless = s.stepless := by rw [stepless, stepless, h.dist40_eq, h.tim_eq]

theorem MeasuresAs.linkDelay_eq (q : Nat) : t.linkDelay q = s.linkDelay q := by rw [linkDelay, linkDelay, h.tim_eq]

theorem MeasuresAs.ingressStamp_eq (since : Nat) : t.ingressStamp p since = s.ingressStamp p since := by
  rw [ingressStamp, ingressStamp, now, now, h.dist40_eq, h.latency_eq]

end

/-! ### The measurement (R30, R40) -/

/-- The servo follows port `p` and grandmaster `gm` (R29, R31, R41). -/
def follow (s : Dev) (p gm : Nat) : Dev :=
  let u := s.when (s.tim.ring.isSome && s.tim.ring != some (sourceOf p)) (·.raise bTIM 13)
  let u := { u with tim := { u.tim with ring := some (sourceOf p) } }
  ((u.setSlave (sourceOf p) (some p)).showSlave (some p) (decide (s.tim.ring = some (sourceOf p)) && s.tim.gm == gm)).takeGm gm

theorem measuresAs_follow (s : Dev) {p : Nat} (gm : Nat) (h8 : p < 8) : MeasuresAs p s (s.follow p gm) := by
  have hraise := measuresAs_when p s (s.tim.ring.isSome && s.tim.ring != some (sourceOf p)) (f := (·.raise bTIM 13))
    (measuresAs_raise p s (by decide) (by decide))
  exact (((hraise.trans (measuresAs_setTim p _ _ rfl)).trans (measuresAs_setSlave p _ _ _)).trans (measuresAs_showSlave _ _ h8)).trans
    (measuresAs_takeGm p _ gm)

/-- Receive stamp of a frame that started `since` ago, in stepless time (R346, R428). -/
def receivedAt (s : Dev) (p since : Nat) : Int := s.stepless - s.get (Reg.TIM_LAT.ING_LAT p) * 2 ^ 40 - since * 2 ^ 24

/-- The master's time of a Sync at port `p`. -/
def masterTime (s : Dev) (p origin : Nat) (corr : Int) : Int := (origin : Int) + corr + s.linkDelay p

/-- The offset measured, and the time of the Sync kept (R30, R35, R40). -/
def measured (s : Dev) (p origin : Nat) (corr logIvl : Int) (since : Nat) : Dev :=
  { s with tim := { s.tim with
    theta := (s.masterTime p origin corr - s.ingressStamp p since) * 2 ^ 24, applied := 0, est := s.masterTime p origin corr * 2 ^ 24
    syncAt := some (s.receivedAt p since), syncLog := logIvl } }

/-- The time since the Sync before, 0 after none. -/
def sinceSync (s : Dev) (p since : Nat) : Int :=
  match s.tim.syncAt with
  | some t => s.receivedAt p since - t
  | none => 0

/-- An accepted Sync is followed, measured and given to the servo. -/
theorem syncReceived_accepted {s : Dev} {p : Nat} (gm origin : Nat) (corr logIvl : Int) (since : Nat) (hg : s.isGrave bTIM = false)
    (hc : s.tim.counting = true) (hs : sourceOf p = s.wantedSource) (hm : s.mayFollow p = true) (hw : s.rxWrapped p = false) :
    s.syncReceived p gm origin corr logIvl since
      = ((s.follow p gm).measured p origin corr logIvl since).servoSync p ((s.follow p gm).sinceSync p since) :=
  if_neg (by simp [hg, hc, hs, hm, hw])

/-- With nothing applied since, the offset is the one measured. -/
theorem offsetNow_measured (s : Dev) (p origin : Nat) (corr logIvl : Int) (since : Nat) :
    (s.measured p origin corr logIvl since).offsetNow = (s.masterTime p origin corr - s.ingressStamp p since) * 2 ^ 24 := by
  generalize hx : (s.masterTime p origin corr - s.ingressStamp p since) * 2 ^ 24 = x
  have ht : (s.measured p origin corr logIvl since).tim.theta = x := hx
  have ha : (s.measured p origin corr logIvl since).tim.applied = 0 := rfl
  rw [offsetNow, ht, ha]
  split <;> omega

/-! ### The servo at a Sync (R428, R429) -/

theorem servoSync_of_free {s : Dev} (p : Nat) (delta : Int) (he : s.servoEn = true) (h : s.servo = servoFree) :
    s.servoSync p delta = { s.setServo servoAcquiring with tim := { s.tim with syncs := 1 } } := by
  unfold servoSync
  rw [if_neg (by simp [he])]
  exact if_pos h

theorem servoSync_of_locked {s : Dev} (p : Nat) (delta : Int) (he : s.servoEn = true) (h : s.servo = servoLocked) (ho : |s.offsetNow| < s.stepThr) :
    s.servoSync p delta = s.servoLaw delta := by
  unfold servoSync
  simp only [he, h]
  exact if_neg (not_le.mpr ho)

/-- RATE by the control law, before the clamp (R428). -/
def lawRate (s : Dev) (delta : Int) : Int :=
  (2 * (s.tim.integ + s.servoInteg s.tim.theta delta + s.servoProp s.tim.theta) + 2 ^ 24 * 1000000000) / (2 ^ 25 * 1000000000)

theorem servoLaw_eq {s : Dev} (delta : Int) (h : s.loopFreeze = false) :
    ∃ i, s.servoLaw delta = ({ s with tim := { s.tim with integ := i } } : Dev).setRate (max (-rateLimit) (min rateLimit (s.lawRate delta))) := by
  unfold servoLaw
  rw [h]
  exact ⟨_, rfl⟩

theorem servoLaw_rate {s : Dev} (delta : Int) (h : s.loopFreeze = false) :
    (s.servoLaw delta).getS Reg.TIM_RATE.RATE = max (-rateLimit) (min rateLimit (s.lawRate delta)) := by
  obtain ⟨i, he⟩ := servoLaw_eq delta h
  rw [he, setRate_rate]
  simp only [rateLimit]
  omega

theorem servoLaw_servo {s : Dev} (delta : Int) (h : s.loopFreeze = false) : (s.servoLaw delta).servo = s.servo := by
  obtain ⟨i, he⟩ := servoLaw_eq delta h
  rw [he, servo, servo, get, get, setRate_word _ _ (by decide)]
  rfl

theorem servoLaw_theta {s : Dev} (delta : Int) (h : s.loopFreeze = false) : (s.servoLaw delta).tim.theta = s.tim.theta := by
  obtain ⟨i, he⟩ := servoLaw_eq delta h
  obtain ⟨w, hw⟩ := setRate_eq ({ s with tim := { s.tim with integ := i } } : Dev) (max (-rateLimit) (min rateLimit (s.lawRate delta)))
  rw [he, hw]

theorem servoInteg_congr {s t : Dev} (h : t.servoBw = s.servoBw) (theta delta : Int) : t.servoInteg theta delta = s.servoInteg theta delta := by
  rw [servoInteg, servoInteg, h]

theorem servoProp_congr {s t : Dev} (h : t.servoBw = s.servoBw) (theta : Int) : t.servoProp theta = s.servoProp theta := by
  rw [servoProp, servoProp, h]

section
variable {p : Nat} {s t : Dev} (h : MeasuresAs p s t)
include h

theorem MeasuresAs.receivedAt_eq (since : Nat) : t.receivedAt p since = s.receivedAt p since := by
  rw [receivedAt, receivedAt, h.stepless_eq, h.latency_eq]

theorem MeasuresAs.theta_eq (origin : Nat) (corr logIvl : Int) (since : Nat) :
    (t.measured p origin corr logIvl since).tim.theta = ((origin : Int) + corr + s.linkDelay p - s.ingressStamp p since) * 2 ^ 24 := by
  rw [← h.linkDelay_eq p, ← h.ingressStamp_eq since]
  rfl

theorem MeasuresAs.offset_eq (origin : Nat) (corr logIvl : Int) (since : Nat) :
    (t.measured p origin corr logIvl since).offsetNow = ((origin : Int) + corr + s.linkDelay p - s.ingressStamp p since) * 2 ^ 24 := by
  rw [offsetNow_measured, ← h.linkDelay_eq p, ← h.ingressStamp_eq since]
  rfl

theorem MeasuresAs.sinceSync_eq {t0 : Int} (since : Nat) (h0 : s.tim.syncAt = some t0) : t.sinceSync p since = s.receivedAt p since - t0 := by
  have ht : t.tim.syncAt = some t0 := by rw [h.tim_eq, h0]
  rw [sinceSync, ht, ← h.receivedAt_eq since]

/-- The law reads what the servo measured with before it took the Sync. -/
theorem MeasuresAs.lawRate_eq (origin : Nat) (corr logIvl : Int) (since : Nat) (delta : Int) {theta : Int}
    (hθ : theta = ((origin : Int) + corr + s.linkDelay p - s.ingressStamp p since) * 2 ^ 24) :
    (t.measured p origin corr logIvl since).lawRate delta
      = (2 * (s.tim.integ + s.servoInteg theta delta + s.servoProp theta) + 2 ^ 24 * 1000000000) / (2 ^ 25 * 1000000000) := by
  have hb : (t.measured p origin corr logIvl since).servoBw = s.servoBw := h.servoBw_eq
  have hi : (t.measured p origin corr logIvl since).tim.integ = s.tim.integ := by
    show t.tim.integ = s.tim.integ
    rw [h.tim_eq]
  rw [lawRate, h.theta_eq, servoInteg_congr hb, servoProp_congr hb, hi, ← hθ]

end

end Dev

theorem exec_syncReceived (a : Arrival) (gm : BitVec 64) (origin : Nat) (corr logIvl : Int) (s : State) :
    exec (.syncReceived a gm origin corr logIvl) s
      = devStep (·.atBlock bTIM (·.syncReceived a.port gm.toNat origin corr logIvl a.since)) s := rfl

/-- Settles O17: the change of slave port leaves what the servo measures with; the offset is then the one measured, and the state decides. -/
theorem syncReceived : Obligations.SyncReceived := by
  intro s p gm origin corr logIvl since theta hb hg hc hs hm hw he hθ
  have hacc := Dev.syncReceived_accepted (s := s.dev.fresh) gm.toNat origin corr logIvl since hg hc hs hm hw
  have hf := Dev.measuresAs_follow s.dev.fresh gm.toNat p.isLt
  generalize hu : s.dev.fresh.follow p gm.toNat = u at hacc hf
  have hen : (u.measured p origin corr logIvl since).servoEn = true := hf.servoEn_eq.trans he
  have hth : (u.measured p origin corr logIvl since).tim.theta = theta := (hf.theta_eq origin corr logIvl since).trans hθ.symm
  refine ⟨fun hfree => ?_, fun t0 y hlock hfr h0 hsmall hy => ?_⟩
  · refine answers_atBlock (exec_syncReceived _ _ _ _ _ s) hb ?_
    rw [hacc, Dev.servoSync_of_free _ _ hen (hf.servo_eq.trans hfree)]
    refine ⟨?_, ?_, ?_, ?_, rfl, rfl⟩
    · rw [Dev.settle_tim]
      exact hth
    · rw [Dev.servo_settle]
      exact Dev.setServo_servo (u.measured p origin corr logIvl since) (by decide)
    · rw [Dev.settle_tim]
      exact congrArg some (hf.receivedAt_eq since)
    · rw [Dev.settle_tim, ← Dev.takeGm_gm _ gm.toNat]
      exact congrArg (·.tim.gm) hu.symm
  · have hoff : |(u.measured p origin corr logIvl since).offsetNow| < (u.measured p origin corr logIvl since).stepThr := by
      rw [hf.offset_eq]
      exact hθ ▸ hsmall.trans_eq hf.stepThr_eq.symm
    have hfr' : (u.measured p origin corr logIvl since).loopFreeze = false := hf.loopFreeze_eq.trans hfr
    refine answers_atBlock (exec_syncReceived _ _ _ _ _ s) hb ?_
    rw [hacc, Dev.servoSync_of_locked _ _ hen (hf.servo_eq.trans hlock) hoff]
    refine ⟨?_, ?_, ?_, rfl, rfl⟩
    · rw [Dev.settle_tim, Dev.servoLaw_theta _ hfr', hth]
    · rw [Dev.servo_settle, Dev.servoLaw_servo _ hfr']
      exact hf.servo_eq.trans hlock
    · rw [Dev.getS_settle, Dev.servoLaw_rate _ hfr', hf.lawRate_eq _ _ _ _ _ hθ, hf.sinceSync_eq since h0, hy]
      rfl

end Sys2Proof.Machine
end

section
/-! SUPPORT. PTP messages (R31, R39, R40, R112, R180): what a received one leaves for the servo, and how one is queued. -/

namespace Sys2Proof.Machine

namespace Dev

/-! ### A message received (R31, R39) -/

theorem ptpReceipt_tim (s : Dev) (p type since : Nat) : ∃ x, s.ptpReceipt p type since = { s with tim := { s.tim with followUp := x } } := by
  unfold ptpReceipt keep
  split
  · exact ⟨_, rfl⟩
  · exact ⟨s.tim.followUp, rfl⟩

/-- A measured delay is kept for the port. -/
def setDelay (s : Dev) (p d : Nat) : Dev := { s with tim := { s.tim with delay := Tab.set (fun _ => 0) s.tim.delay p (d + 1) } }

theorem setDelay_linkDelay (s : Dev) (p d : Nat) : (s.setDelay p d).linkDelay p = d := by
  have h : Tab.get (fun _ => 0) (s.setDelay p d).tim.delay p = d + 1 := Tab.get_set_same _ _ _ _
  rw [linkDelay, h, Nat.add_sub_cancel]

theorem ptpReceived_delay {s : Dev} {p : Nat} (type d since : Nat) (hr : s.ptpRole p ≠ 0) (hg : s.isGrave bTIM = false) (hw : s.rxWrapped p = false) :
    s.ptpReceived p type none (some d) since = (s.ptpReceipt p type since).setDelay p d :=
  if_neg (by simp [hr, hg, hw])

theorem ptpReceived_bmca {s : Dev} {p : Nat} (type gm masters since : Nat) (slave : Option Nat) (hr : s.ptpRole p ≠ 0) (hg : s.isGrave bTIM = false)
    (hw : s.rxWrapped p = false) (hb : s.bmcaOn p = true) :
    s.ptpReceived p type (some (gm, slave, masters)) none since = (s.ptpReceipt p type since).bmcaOutcome p gm slave masters := by
  obtain ⟨x, hx⟩ := ptpReceipt_tim s p type since
  have hb' : (s.ptpReceipt p type since).bmcaOn p = true := by
    rw [hx]
    exact hb
  refine (if_neg (by simp [hr, hg, hw])).trans ?_
  exact if_pos hb'

/-! ### No slave port (R31) -/

theorem takeGm_word (s : Dev) (gm : Nat) {k : Nat} (h : k ≠ statusAddr bTIM) : (s.takeGm gm).word k = s.word k := by
  unfold takeGm
  split
  · rfl
  · cases hc : s.tim.gm != 0
    · rfl
    · exact word_put_other s (statusBit bTIM 11) 1 k h

theorem takeGm_slaves (s : Dev) (gm : Nat) : (s.takeGm gm).tim.slaves = s.tim.slaves := by
  unfold takeGm
  split
  · rfl
  · cases s.tim.gm != 0
    · rfl
    · rfl

theorem showSlave_none_slaves (s : Dev) (alone : Bool) : (s.showSlave none alone).tim.slaves = s.tim.slaves := by
  rw [showSlave_eq]
  split
  · rfl
  · show (s.slaveNotice 0xFF alone).tim.slaves = s.tim.slaves
    unfold slaveNotice
    split <;> rfl

theorem showSlave_none_port (s : Dev) (alone : Bool) : (s.showSlave none alone).get Reg.TIM_SERVO.SLAVE_PORT = 0xFF := by
  rw [showSlave_eq]
  split
  · assumption
  · exact get_put_same _ Reg.TIM_SERVO.SLAVE_PORT 0xFF (by decide)

theorem setSlave_none_slaveOf (s : Dev) (src : Nat) : (s.setSlave src none).slaveOf src = none := by
  have h : Tab.get (fun _ => 0) (s.setSlave src none).tim.slaves src = 0 := Tab.get_set_same _ _ _ _
  rw [slaveOf, h]
  rfl

/-- The ports of a source in a master role are those the outcome names. -/
def setMasters (s : Dev) (src masters : Nat) : Dev :=
  { s with tim := { s.tim with
    masters := (s.tim.masters &&& (255 - (List.range 8).foldl (fun m q => if sourceOf q = src then m + 2 ^ q else m) 0))
      ||| (masters &&& (List.range 8).foldl (fun m q => if sourceOf q = src then m + 2 ^ q else m) 0) } }

/-- Without a slave port for the source it follows the servo is the master (R31, log entry 19). -/
theorem bmcaOutcome_none {s : Dev} {p : Nat} (gm masters : Nat) (h : sourceOf p = s.tim.ring.getD s.wantedSource) :
    s.bmcaOutcome p gm none masters
      = ((((s.setSlave (sourceOf p) none).setMasters (sourceOf p) masters).showSlave none (s.tim.gm == gm)).takeGm gm).setServo servoMaster := by
  have hs : ((s.setSlave (sourceOf p) none).setMasters (sourceOf p) masters).tim.ring.getD
      ((s.setSlave (sourceOf p) none).setMasters (sourceOf p) masters).wantedSource = sourceOf p := h.symm
  exact if_neg (not_not.mpr hs.symm)

/-! ### A message queued (R39, R99, R112, R180) -/

theorem length_patch {l v : List Octet} {o : Nat} (h : o + v.length ≤ l.length) : (patch l o v).length = l.length := by
  simp only [patch, List.length_append, List.length_take, List.length_drop]
  omega

theorem octetsBE_length (n x : Nat) : (octetsBE n x).length = n := by
  induction n with
  | zero => rfl
  | succ n ih => rw [octetsBE, List.length_cons, ih]

/-- The direction bit of a ring tag keeps the length (R157, R180). -/
theorem length_leavingBy (s : Dev) (l : List Octet) (west : Bool) : (s.leavingBy l west).length = l.length := by
  unfold leavingBy ringTag
  by_cases h : fieldBE l 12 2 = s.get Reg.SHD_CFG.ETYPE ∧ 18 ≤ l.length
  · rw [if_pos h]
    exact length_patch (by rw [octetsBE_length]; omega)
  · rw [if_neg h]
    rfl

/-- A copy that a window can carry comes to the end of its class queue (R120). -/
theorem queueCopy_queue {s : Dev} {p c : Nat} {e : QEnt} (h : s.neverCarried p c (frameLen e.data) = false) :
    (s.queueCopy p c e).classQueue p c = s.classQueue p c ++ [{ e with queuedAt := s.up }] := by
  unfold queueCopy
  rw [h, if_neg (by decide)]
  exact Tab.get_set_same _ _ _ _

/-- The port that sends a frame queued at port `p` of a ring, wrapped or not (R180). -/
theorem queueRing_eq {s : Dev} {p q c : Nat} (e : QEnt) (hq : q = if s.wrapped p = true then otherPort p else p) (hw : s.wrapped q = false) :
    s.queueRing p c e = s.queueCopy q c { e with data := s.leavingBy e.data (q % 2 == 0) } := by
  unfold queueRing
  cases hp : s.wrapped p
  · rw [hp, if_neg (by decide)] at hq
    subst hq
    rw [if_neg (by decide)]
  · rw [hp, if_pos rfl] at hq
    subst hq
    rw [if_pos rfl]
    dsimp only
    rw [hw, if_neg (by decide)]

/-- The state in which a PTP message is queued: its frame placed, its time of sending kept (R39, R99). -/
def ptpPlaced (s : Dev) (p kind : Nat) (msg : List Octet) (sh : Bool) : Dev :=
  let u := (s.placeFrame .device sh (s.ptpData p msg) 1 8).2
  { u with tim := { u.tim with sentAt := Tab.set (fun _ => 0) u.tim.sentAt (8 * kind + p) (u.up + 1) } }

theorem ptpPlaced_eq (s : Dev) (p kind : Nat) (msg : List Octet) (sh : Bool) :
    ∃ x y z, s.ptpPlaced p kind msg sh = { s with frames := x, bankNext := y, locker := z, tim := { s.tim with sentAt := Tab.set (fun _ => 0) s.tim.sentAt (8 * kind + p) (s.up + 1) } } := ⟨_, _, _, rfl⟩

/-- The message as it is queued. -/
def ptpEntry (s : Dev) (p : Nat) (msg : List Octet) (sh : Bool) (fix : Fixup) : QEnt :=
  { desc := (s.placeFrame .device sh (s.ptpData p msg) 1 8).1, data := s.ptpData p msg, fix := fix }

theorem ptpQueue_eq {s : Dev} {p kind : Nat} {msg : List Octet} {sh : Bool} (fix : Fixup)
    (ha : s.allocCheck .device (frameLen (s.ptpData p msg)) = .ok sh) :
    s.ptpQueue p kind msg fix = if p < 4 then (s.ptpPlaced p kind msg sh).queueRing p (s.ptpClass p) (s.ptpEntry p msg sh fix)
      else (s.ptpPlaced p kind msg sh).queueCopy p (s.ptpClass p) (s.ptpEntry p msg sh fix) := by
  have hd : s.allocDevice .device (s.ptpData p msg) 1 = some (s.placeFrame .device sh (s.ptpData p msg) 1 8) := by rw [allocDevice, ha]
  unfold ptpQueue
  dsimp only
  rw [hd]
  rfl

/-- Whether a window carries a copy does not depend on the frames and on the times of sending. -/
theorem ptpPlaced_neverCarried (s : Dev) (p kind : Nat) (msg : List Octet) (sh : Bool) (q c len : Nat) :
    (s.ptpPlaced p kind msg sh).neverCarried q c len = s.neverCarried q c len := by
  obtain ⟨x, y, z, h⟩ := ptpPlaced_eq s p kind msg sh
  rw [h]
  rfl

theorem ptpPlaced_tim (s : Dev) (p kind : Nat) (msg : List Octet) (sh : Bool) :
    Tab.get (fun _ => 0) (s.ptpPlaced p kind msg sh).tim.sentAt (8 * kind + p) = s.up + 1 := Tab.get_set_same _ _ _ _

/-- A message leaves by its port, or, where a ring port is wrapped and its other is not, by the other (R180). -/
theorem ptpQueue_queue {s : Dev} {p q kind : Nat} {msg : List Octet} {sh : Bool} (fix : Fixup)
    (ha : s.allocCheck .device (frameLen (s.ptpData p msg)) = .ok sh) (hq : q = if p < 4 ∧ s.wrapped p = true then otherPort p else p)
    (hw : p < 4 → s.wrapped q = false) (hn : s.neverCarried q (s.ptpClass p) (frameLen (s.ptpData p msg)) = false) :
    ∃ e : QEnt, e.data = (if p < 4 then s.leavingBy (s.ptpData p msg) (q % 2 == 0) else s.ptpData p msg)
      ∧ (s.ptpQueue p kind msg fix).classQueue q (s.ptpClass p) = s.classQueue q (s.ptpClass p) ++ [e] := by
  have hcq : (s.ptpPlaced p kind msg sh).classQueue q (s.ptpClass p) = s.classQueue q (s.ptpClass p) := by
    obtain ⟨x, y, z, h⟩ := ptpPlaced_eq s p kind msg sh
    rw [h]
    rfl
  have hdata : (s.ptpEntry p msg sh fix).data = s.ptpData p msg := rfl
  rw [ptpQueue_eq fix ha]
  by_cases hp : p < 4
  · rw [if_pos hp, if_pos hp]
    have hl : (s.ptpPlaced p kind msg sh).leavingBy (s.ptpData p msg) (q % 2 == 0) = s.leavingBy (s.ptpData p msg) (q % 2 == 0) := by
      obtain ⟨x, y, z, h⟩ := ptpPlaced_eq s p kind msg sh
      rw [h]
      rfl
    have hq' : q = if (s.ptpPlaced p kind msg sh).wrapped p = true then otherPort p else p := by rw [hq]; simp only [hp, true_and]; rfl
    rw [queueRing_eq (s.ptpEntry p msg sh fix) hq' (hw hp), queueCopy_queue]
    · refine ⟨_, ?_, congrArg (· ++ [_]) hcq⟩
      dsimp only
      rw [hdata, hl]
    · rw [ptpPlaced_neverCarried, frameLen, length_leavingBy]
      exact hn
  · have hqp : q = p := by rw [hq, if_neg (by omega)]
    subst hqp
    rw [if_neg hp, if_neg hp, queueCopy_queue]
    · exact ⟨_, rfl, congrArg (· ++ [_]) hcq⟩
    · rw [ptpPlaced_neverCarried]
      exact hn

theorem ptpQueue_sentAt {s : Dev} {p kind : Nat} {msg : List Octet} {sh : Bool} (fix : Fixup)
    (ha : s.allocCheck .device (frameLen (s.ptpData p msg)) = .ok sh) :
    Tab.get (fun _ => 0) (s.ptpQueue p kind msg fix).tim.sentAt (8 * kind + p) = s.up + 1 := by
  rw [ptpQueue_eq fix ha, ← ptpPlaced_tim s p kind msg sh]
  split
  · rw [tim_of_root (queueRing_root _ _ _ _)]
  · rw [tim_of_root (queueCopy_root _ _ _ _)]

/-- A path delay request that is due, where the delay is measured peer to peer, is queued (R39). -/
theorem ptpSend_delayRequest {s : Dev} {p : Nat} (msg : List Octet) (hr : s.ptpRole p ≠ 0) (hb : s.blockOn (bPRT p) = true)
    (he : s.bit (Reg.TIM_PORT_CFG.DELAY_E2E p) = false ∨ p < 4) (hd : s.ptpDue p 3 = true) : s.ptpSend p 3 msg = s.ptpQueue p 3 msg .none := by
  have h2 : (s.bit (Reg.TIM_PORT_CFG.DELAY_E2E p) && Nat.ble 4 p) = false := by
    rcases he with h | h
    · rw [h, Bool.false_and]
    · have hle : Nat.ble 4 p = false := Bool.eq_false_iff.mpr (by rw [Ne, Nat.ble_eq]; omega)
      rw [hle, Bool.and_false]
  unfold ptpSend
  rw [h2, hd]
  simp [hr, hb]

end Dev

theorem exec_ptpMessageReceived (a : Arrival) (type : BitVec 4) (bmca : Option (BitVec 64 × Option (Fin 8) × BitVec 8)) (delay : Option Nat) (s : State) :
    exec (.ptpMessageReceived a type bmca delay) s = devStep (·.atBlock bTIM
      (·.ptpReceived a.port type.toNat (bmca.map fun x => (x.1.toNat, x.2.1.map (·.val), x.2.2.toNat)) delay a.since)) s := rfl

theorem exec_ptpMessageSend (p kind : Fin 8) (msg : List Octet) (s : State) :
    exec (.ptpMessageSend p kind msg) s = devStep (·.atBlock bTIM (·.ptpSend p kind msg)) s := rfl

theorem ptpMessageReceived_delay_answers (s : State) (p : Fin 8) (type : BitVec 4) (d since : Nat) (hb : s.dev.blockOn bTIM = true)
    (hg : s.dev.isGrave bTIM = false) (hr : s.dev.ptpRole p ≠ 0) (hw : s.dev.rxWrapped p = false) :
    Answers (.ptpMessageReceived ⟨p, since⟩ type none (some d)) s fun t =>
      t.dev.linkDelay p = d ∧ (∀ k, t.dev.word k = s.dev.word k) ∧ s.sameMem t := by
  obtain ⟨x, hx⟩ := Dev.ptpReceipt_tim s.dev.fresh p type.toNat since
  refine answers_atBlock (exec_ptpMessageReceived _ _ _ _ s) hb ?_
  rw [Option.map_none, Dev.ptpReceived_delay (s := s.dev.fresh) _ _ _ hr hg hw]
  refine ⟨?_, fun k => ?_, rfl, rfl⟩
  · rw [Dev.linkDelay, Dev.settle_tim]
    exact Dev.setDelay_linkDelay _ _ _
  · rw [Dev.word_settle, hx]
    rfl

theorem ptpMessageReceived_master_answers (s : State) (p : Fin 8) (type : BitVec 4) (gm : BitVec 64) (m : BitVec 8) (since : Nat)
    (hb : s.dev.blockOn bTIM = true) (hg : s.dev.isGrave bTIM = false) (hr : s.dev.ptpRole p ≠ 0) (hw : s.dev.rxWrapped p = false)
    (ho : s.dev.bmcaOn p = true) (hs : Dev.sourceOf p = s.dev.tim.ring.getD s.dev.wantedSource) :
    Answers (.ptpMessageReceived ⟨p, since⟩ type (some (gm, none, m)) none) s fun t => t.dev.servo = Dev.servoMaster ∧ t.dev.tim.gm = gm.toNat
      ∧ t.dev.slaveOf (Dev.sourceOf p) = none ∧ t.dev.get Reg.TIM_SERVO.SLAVE_PORT = 0xFF ∧ s.sameMem t := by
  obtain ⟨x, hx⟩ := Dev.ptpReceipt_tim s.dev.fresh p type.toNat since
  have hs' : Dev.sourceOf p = (s.dev.fresh.ptpReceipt p type.toNat since).tim.ring.getD (s.dev.fresh.ptpReceipt p type.toNat since).wantedSource := by
    rw [hx]
    exact hs
  refine answers_atBlock (exec_ptpMessageReceived _ _ _ _ s) hb ?_
  rw [Option.map_some, Dev.ptpReceived_bmca (s := s.dev.fresh) _ _ _ _ _ hr hg hw ho, Option.map_none, Dev.bmcaOutcome_none _ _ hs']
  refine ⟨?_, ?_, ?_, ?_, rfl, rfl⟩
  · rw [Dev.servo_settle, Dev.setServo_servo _ (by decide)]
  · rw [Dev.settle_tim, Dev.setServo, Dev.put_tim, Dev.takeGm_gm]
  · rw [Dev.slaveOf, Dev.settle_tim, Dev.setServo, Dev.put_tim, Dev.takeGm_slaves, Dev.showSlave_none_slaves]
    exact Dev.setSlave_none_slaveOf _ _
  · rw [Dev.get_settle, Dev.setServo, Dev.get_put_other _ _ _ _ (by decide) (by decide), Dev.get, Dev.takeGm_word _ _ (by decide)]
    exact Dev.showSlave_none_port _ _

theorem ptpMessageSend_answers (s : State) (p : Fin 8) (msg : List Octet) (sh : Bool) (q : Nat) (hb : s.dev.blockOn bTIM = true)
    (hp : s.dev.blockOn (bPRT p) = true) (hr : s.dev.ptpRole p ≠ 0) (he : s.dev.bit (Reg.TIM_PORT_CFG.DELAY_E2E p) = false ∨ p.val < 4)
    (hd : s.dev.ptpDue p 3 = true) (ha : s.dev.allocCheck .device (frameLen (s.dev.ptpData p msg)) = .ok sh)
    (hq : q = (if p.val < 4 ∧ s.dev.wrapped p = true then Dev.otherPort p else p)) (hw : p.val < 4 → s.dev.wrapped q = false)
    (hn : s.dev.neverCarried q (s.dev.ptpClass p) (frameLen (s.dev.ptpData p msg)) = false) :
    Answers (.ptpMessageSend p 3 msg) s fun t =>
      (∃ e : QEnt, e.data = (if p.val < 4 then s.dev.leavingBy (s.dev.ptpData p msg) (q % 2 == 0) else s.dev.ptpData p msg)
        ∧ t.dev.classQueue q (s.dev.ptpClass p) = s.dev.classQueue q (s.dev.ptpClass p) ++ [e])
      ∧ Tab.get (fun _ => 0) t.dev.tim.sentAt (24 + p) = s.dev.up + 1 ∧ s.sameMem t := by
  obtain ⟨e, hdata, hqueue⟩ := Dev.ptpQueue_queue (s := s.dev.fresh) (kind := 3) .none ha hq hw hn
  refine answers_atBlock (exec_ptpMessageSend p 3 msg s) hb ?_
  rw [show ((3 : Fin 8) : Nat) = 3 from rfl, Dev.ptpSend_delayRequest (s := s.dev.fresh) msg hr hp he hd]
  refine ⟨⟨e, hdata, ?_⟩, ?_, rfl, rfl⟩
  · rw [Dev.classQueue, Dev.settle_classQ]
    exact hqueue
  · rw [Dev.settle_tim]
    exact Dev.ptpQueue_sentAt (s := s.dev.fresh) (kind := 3) .none ha

/-- Settles O20: neither the place of the message's frame nor its time of sending bears on the window that carries it. -/
theorem ptpMessages : Obligations.PtpMessages :=
  ⟨ptpMessageReceived_delay_answers, ptpMessageReceived_master_answers, ptpMessageSend_answers⟩

end Sys2Proof.Machine
end

section
/-! SUPPORT. The start-up sequence (R296, R357, R368, R375, R377, R378): what each step's end sets, and the fault that stops it. -/

namespace Sys2Proof.Machine

/-- A number of `n` octets fits them. -/
theorem numBE_lt (l : List Octet) : numBE l < 256 ^ l.length := by
  induction l using List.reverseRecOn with
  | nil => decide
  | append_singleton l o ih =>
    have ho : o.toNat < 256 := o.isLt
    have hs : numBE (l ++ [o]) = numBE l * 256 + o.toNat := by simp [numBE]
    rw [hs, List.length_append, List.length_singleton, Nat.pow_succ]
    omega

theorem fieldBE_lt (l : List Octet) (o n : Nat) : fieldBE l o n < 256 ^ n :=
  (numBE_lt _).trans_le (Nat.pow_le_pow_right (by decide) (List.length_take_le _ _))

namespace Dev

/-! ### The start (R368, R375) -/

/-- The bits of domains 32i to 32i + 31. -/
def domWord (f : Nat → Bool) (i : Nat) : Nat := (List.range 32).foldl (fun a b => if Nat.blt (32 * i + b) 80 && f (32 * i + b) then a + 2 ^ b else a) 0

theorem setDoms_get (s : Dev) (f : Nat → Bool) {i : Nat} (hi : i < 3) : (s.setDoms f).get (Reg.PWR_DOM_ON.DOM i) = domWord f i % 2 ^ 32 := by
  have he : s.setDoms f = ((s.put (Reg.PWR_DOM_ON.DOM 0) (domWord f 0)).put (Reg.PWR_DOM_ON.DOM 1) (domWord f 1)).put (Reg.PWR_DOM_ON.DOM 2) (domWord f 2) := rfl
  rw [he]
  interval_cases i
  · rw [get_put_other _ _ _ _ (by decide) (by decide), get_put_other _ _ _ _ (by decide) (by decide), get_put_same _ _ _ (by decide)]
    rfl
  · rw [get_put_other _ _ _ _ (by decide) (by decide), get_put_same _ _ _ (by decide)]
    rfl
  · rw [get_put_same _ _ _ (by decide)]
    rfl

theorem setDoms_all (s : Dev) {d : Nat} (hd : d < 80) : (s.setDoms fun _ => true).domOn d = true := by
  have h : ∀ d < 80, (domWord (fun _ => true) (d / 32) % 2 ^ 32).testBit (d % 32) = true := by decide
  rw [domOn, setDoms_get _ _ (by omega), h d hd]

theorem setDoms_word (s : Dev) (f : Nat → Bool) {k : Nat} (h : ∀ i < 3, k ≠ Reg.PWR_DOM_ON i) : (s.setDoms f).word k = s.word k :=
  (word_put_other _ (Reg.PWR_DOM_ON.DOM 2) _ _ (h 2 (by decide))).trans
    ((word_put_other _ (Reg.PWR_DOM_ON.DOM 1) _ _ (h 1 (by decide))).trans (word_put_other _ (Reg.PWR_DOM_ON.DOM 0) _ _ (h 0 (by decide))))

/-- The registers of a start: on the wake from Deep Hold its cause, every domain on, step 4. -/
def startWords (s : Dev) (deep : Bool) : Dev := ((s.when deep (·.put Reg.PWR_WAKE_CAUSE.RESET_CAUSE 3)).setDoms fun _ => true).startStep 4

theorem startBegin_eq {s : Dev} (h : s.pwr.phase = .off ∨ s.pwr.phase = .waking 3) :
    s.startBegin = { s.startWords (decide (s.pwr.phase = .waking 3)) with pwr := { s.pwr with phase := .starting, startAt := s.up } } := by
  unfold startBegin
  rw [if_neg (by rcases h with h | h <;> simp [h])]
  cases hd : decide (s.pwr.phase = .waking 3) <;> rfl

@[simp] theorem startStep_step (s : Dev) {n : Nat} (h : n < 256) : (s.startStep n).get Reg.GLB_BOOT.STEP = n :=
  (get_put_same s Reg.GLB_BOOT.STEP n (by decide)).trans (Nat.mod_eq_of_lt h)

theorem startStep_word (s : Dev) (n : Nat) {k : Nat} (h : k ≠ Reg.GLB_BOOT) : (s.startStep n).word k = s.word k := word_put_other _ _ _ _ h

theorem startWords_domOn (s : Dev) (deep : Bool) {d : Nat} (hd : d < 80) : (s.startWords deep).domOn d = true := by
  have ha : (Reg.PWR_DOM_ON.DOM (d / 32)).addr ≠ Reg.GLB_BOOT := by simp only [Reg.PWR_DOM_ON.DOM, Reg.GLB_BOOT]; omega
  rw [domOn, get, startWords, startStep_word _ _ ha]
  exact setDoms_all _ hd

theorem startWords_cause (s : Dev) : (s.startWords true).get Reg.PWR_WAKE_CAUSE.RESET_CAUSE = 3 := by
  rw [get, startWords, startStep_word _ _ (by decide), setDoms_word _ _ (by decide)]
  exact get_put_same s Reg.PWR_WAKE_CAUSE.RESET_CAUSE 3 (by decide)

/-! ### A step that fails (R377) -/

theorem startFail_step (s : Dev) (code unit : Nat) :
    ((s.put Reg.GLB_BOOT.CODE code).put Reg.GLB_BOOT.UNIT unit).get Reg.GLB_BOOT.STEP = s.get Reg.GLB_BOOT.STEP := by
  rw [get_put_other _ _ _ _ (by decide) (by decide), get_put_other _ _ _ _ (by decide) (by decide)]

/-- Aside an image of BOOTSEL 2 a failure stops the sequence. -/
theorem startFail_stops {s : Dev} (code unit : Nat) (h : s.bootsel < 2 ∨ s.get Reg.GLB_BOOT.STEP < 10) :
    s.startFail code unit = { ((s.put Reg.GLB_BOOT.CODE code).put Reg.GLB_BOOT.UNIT unit).put (statusBit bGLB 1) 1 with
      pwr := { s.pwr with phase := .stopped } } := by
  have hb : ((s.put Reg.GLB_BOOT.CODE code).put Reg.GLB_BOOT.UNIT unit).bootsel = s.bootsel := by
    rw [bootsel, bootsel, get_put_other _ _ _ _ (by decide) (by decide), get_put_other _ _ _ _ (by decide) (by decide)]
  refine if_neg ?_
  rw [hb, startFail_step]
  omega

theorem startFail_facts {s : Dev} (code unit : Nat) (h : s.bootsel < 2 ∨ s.get Reg.GLB_BOOT.STEP < 10) :
    (s.startFail code unit).get Reg.GLB_BOOT.CODE = code % 2 ^ 16 ∧ (s.startFail code unit).get Reg.GLB_BOOT.UNIT = unit % 256
      ∧ (s.startFail code unit).bit (statusBit bGLB 1) = true ∧ (s.startFail code unit).pwr = { s.pwr with phase := .stopped } := by
  have hr : ({ ((s.put Reg.GLB_BOOT.CODE code).put Reg.GLB_BOOT.UNIT unit).put (statusBit bGLB 1) 1 with pwr := { s.pwr with phase := .stopped } } : Dev).regs
      = (((s.put Reg.GLB_BOOT.CODE code).put Reg.GLB_BOOT.UNIT unit).put (statusBit bGLB 1) 1).regs := rfl
  rw [startFail_stops code unit h]
  refine ⟨?_, ?_, ?_, rfl⟩
  · rw [get_of_regs hr, get_put_other _ _ _ _ (by decide) (by decide), get_put_other _ _ _ _ (by decide) (by decide), get_put_same _ _ _ (by decide)]
    rfl
  · rw [get_of_regs hr, get_put_other _ _ _ _ (by decide) (by decide), get_put_same _ _ _ (by decide)]
    rfl
  · rw [bit_of_regs hr, bit_put_same _ _ _ (by decide) rfl]
    rfl

/-! ### Step 4: straps and fuses (R357, R364, R377) -/

/-- The words that the straps and fuses set. -/
def fuseWords (s : Dev) (sel : Nat) (testen factory locked : Bool) : Dev :=
  (((((s.put Reg.GLB_STRAP.BOOTSEL sel).putBit Reg.GLB_STRAP.TESTEN testen).putBit Reg.GLB_STRAP.FACTORY_FUSE factory).putBit (statusBit bGLB 2)
    (testen && !factory)).putBit Reg.STA_INJECT.AVAIL (testen && !factory)).putBit (statusBit bAUT 4) locked

/-- What a field's write leaves in the registers depends on the registers alone. -/
theorem put_regs_congr {s t : Dev} (h : t.regs = s.regs) (f : Fld) (v : Nat) : (t.put f v).regs = (s.put f v).regs := by
  simp only [put, setWord, word, h]

/-- The straps and the master key. -/
def fusesKeyed (s : Dev) (sel : Nat) (testen factory : Bool) (key : Option (BitVec 128)) : Dev :=
  { s.fuseWords sel testen factory key.isNone with pwr := { s.pwr with masterKey := key } }

theorem fusesKeyed_regs (s : Dev) (sel : Nat) (testen factory : Bool) (key : Option (BitVec 128)) :
    (s.fusesKeyed sel testen factory key).regs = (s.fuseWords sel testen factory key.isNone).regs := rfl

/-- The straps, the master key, and the first level of FAULT_N where the monitor has taken none. -/
def fusesLatched (s : Dev) (sel : Nat) (testen factory lineLow : Bool) (key : Option (BitVec 128)) : Dev :=
  if s.pwr.startAt < s.fline.since then s.fusesKeyed sel testen factory key
  else { (s.fusesKeyed sel testen factory key).putBit Reg.STA_FLINE.SEEN_LOW lineLow with fline := { s.fline with since := s.pwr.startAt + 1000 } }

theorem fusesLoaded_good (s : Dev) (sel : Nat) (testen factory lineLow : Bool) (key : Option (BitVec 128)) :
    s.fusesLoaded sel testen true factory lineLow key = (s.fusesLatched sel testen factory lineLow key).startStep 5 := by
  unfold fusesLoaded fusesLatched fusesKeyed fuseWords
  exact if_pos rfl

theorem fusesLoaded_bad (s : Dev) (sel : Nat) (testen factory lineLow : Bool) (key : Option (BitVec 128)) :
    s.fusesLoaded sel testen false factory lineLow key = ((s.fusesLatched sel testen factory lineLow none).graveFault bAUT 1).startFail 0x0401 0 := by
  unfold fusesLoaded fusesLatched fusesKeyed fuseWords
  exact if_neg (by decide)

section
variable (s : Dev) (sel : Nat) (te fac low : Bool) (key : Option (BitVec 128)) (locked : Bool)

theorem fusesLatched_regs : (s.fusesLatched sel te fac low key).regs = (if s.pwr.startAt < s.fline.since then s.fuseWords sel te fac key.isNone
    else (s.fuseWords sel te fac key.isNone).putBit Reg.STA_FLINE.SEEN_LOW low).regs := by
  unfold fusesLatched
  split
  · exact fusesKeyed_regs s sel te fac key
  · exact put_regs_congr (fusesKeyed_regs s sel te fac key) _ _

theorem fusesLatched_pwr : (s.fusesLatched sel te fac low key).pwr = { s.pwr with masterKey := key } := by
  unfold fusesLatched
  split
  · rfl
  · rfl

/-- The level of FAULT_N stands in a word of its own. -/
theorem fusesLatched_word {k : Nat} (h : k ≠ Reg.STA_FLINE) : (s.fusesLatched sel te fac low key).word k = (s.fuseWords sel te fac key.isNone).word k := by
  rw [word_of_regs (fusesLatched_regs s sel te fac low key)]
  split
  · rfl
  · exact word_put_other _ _ _ _ h

theorem fusesLatched_seenLow : (s.fusesLatched sel te fac low key).bit Reg.STA_FLINE.SEEN_LOW
    = if s.pwr.startAt < s.fline.since then s.bit Reg.STA_FLINE.SEEN_LOW else low := by
  have hw : (s.fuseWords sel te fac key.isNone).bit Reg.STA_FLINE.SEEN_LOW = s.bit Reg.STA_FLINE.SEEN_LOW := by
    simp (disch := decide) only [fuseWords, putBit, bit_put_other]
  rw [bit_of_regs (fusesLatched_regs s sel te fac low key)]
  split
  · exact hw
  · rw [putBit, bit_put_same _ _ _ (by decide) rfl]
    cases low <;> rfl

theorem fuseWords_bootsel : (s.fuseWords sel te fac locked).get Reg.GLB_STRAP.BOOTSEL = sel % 4 := by
  simp (disch := decide) only [fuseWords, putBit, get_put_other, get_put_same]
  rfl

theorem fuseWords_testen : (s.fuseWords sel te fac locked).bit Reg.GLB_STRAP.TESTEN = te := by
  simp (disch := decide) only [fuseWords, putBit, bit_put_other, bit_put_same]
  cases te <;> rfl

theorem fuseWords_factory : (s.fuseWords sel te fac locked).bit Reg.GLB_STRAP.FACTORY_FUSE = fac := by
  simp (disch := decide) only [fuseWords, putBit, bit_put_other, bit_put_same]
  cases fac <;> rfl

theorem fuseWords_testMode : (s.fuseWords sel te fac locked).bit (statusBit bGLB 2) = (te && !fac) := by
  simp (disch := decide) only [fuseWords, putBit, bit_put_other, bit_put_same]
  cases te && !fac <;> rfl

theorem fuseWords_locked : (s.fuseWords sel te fac locked).bit (statusBit bAUT 4) = locked := by
  simp (disch := decide) only [fuseWords, putBit, bit_put_same]
  cases locked <;> rfl

theorem fuseWords_step : (s.fuseWords sel te fac locked).get Reg.GLB_BOOT.STEP = s.get Reg.GLB_BOOT.STEP := by
  simp (disch := decide) only [fuseWords, putBit, get_put_other]

end

/-! ### Bad fuses (R353, R377) -/

/-- The words of the root and the master key, which the end of step 4 has set, outlast the fault of AUT. -/
def KeepsStart (s t : Dev) : Prop := (∀ k < 0x30000, t.word k = s.word k) ∧ t.pwr.masterKey = s.pwr.masterKey

theorem KeepsStart.trans {a b c : Dev} (h : KeepsStart a b) (k : KeepsStart b c) : KeepsStart a c :=
  ⟨fun j hj => (k.1 j hj).trans (h.1 j hj), k.2.trans h.2⟩

theorem keepsStart_of_root {s t : Dev} (h : t.root = s.root) : KeepsStart s t := ⟨fun _ hk => word_of_root h hk, by rw [pwr_of_root h]⟩

theorem keepsStart_inEntry {s t : Dev} (h : t.root = s.root) (b : Bool) : KeepsStart s { t with pwr := { t.pwr with graveInEntry := b } } := by
  obtain ⟨hw, hk⟩ := keepsStart_of_root h
  exact ⟨hw, hk⟩

theorem graveNew_aut (s : Dev) : ((graveReach bAUT).filter fun x => !s.isGrave x) = if s.isGrave bAUT then [] else [bAUT] := by
  have hr : graveReach bAUT = [bAUT] := rfl
  cases h : s.isGrave bAUT <;> simp [hr, h]

/-- AUT has no output to bring to a safe value (R353). -/
theorem graveSafe_aut (old s : Dev) : graveSafe old s bAUT = s := rfl

theorem graveLog_aut (s : Dev) (n : Nat) : s.graveLog bAUT (some n) = s.logStage 1 bAUT n 3 (s.word Reg.STA_GRAVE).toNat := rfl

/-- AUT becomes GRAVE: FAULT_N, the log and the notice lie beyond the root. -/
theorem becomeGrave_aut (s : Dev) (n : Nat) : KeepsStart s (s.becomeGrave bAUT n) := by
  have hown : (s.put ⟨Reg.STA_GRAVE_OWN, bAUT, 1⟩ 1).root = s.root := put_root s 1 (by decide)
  have hset : ∀ u : Dev, (((u.put ⟨Reg.STA_GRAVE, bAUT, 1⟩ 1).put Reg.STA_FLINE.DRIVING 1)).root = u.root := fun u =>
    (put_root _ 1 (by decide)).trans (put_root u 1 (by decide))
  unfold becomeGrave
  dsimp only
  rw [graveNew_aut]
  cases s.isGrave bAUT
  · rw [if_neg (by decide), if_neg (by decide)]
    simp only [List.foldl_cons, List.foldl_nil, if_true, graveSafe_aut, graveLog_aut]
    refine keepsStart_inEntry ?_ _
    rw [notice_root, logStage_root, hset, hown]
  · exact keepsStart_of_root hown

theorem graveFault_aut (s : Dev) (n : Nat) : KeepsStart s (s.graveFault bAUT n) := by
  have hf : KeepsStart s (s.fault bAUT n) := keepsStart_of_root (fault_root s n (by decide))
  unfold graveFault
  dsimp only
  split
  · exact hf.trans (becomeGrave_aut _ n)
  · exact hf

/-- With bad fuses the sequence stops with code 0x0401 and no master key (R377). -/
theorem fusesLoaded_bad_facts {s : Dev} (sel : Nat) (te fac low : Bool) (key : Option (BitVec 128)) (h : s.get Reg.GLB_BOOT.STEP = 4) :
    (s.fusesLoaded sel te false fac low key).get Reg.GLB_BOOT.CODE = 0x0401 ∧ (s.fusesLoaded sel te false fac low key).bit (statusBit bGLB 1) = true
      ∧ (s.fusesLoaded sel te false fac low key).pwr.phase = .stopped ∧ (s.fusesLoaded sel te false fac low key).pwr.masterKey = none := by
  obtain ⟨hw, hk⟩ := graveFault_aut (s.fusesLatched sel te fac low none) 1
  have hstep : ((s.fusesLatched sel te fac low none).graveFault bAUT 1).get Reg.GLB_BOOT.STEP = 4 := by
    rw [get, hw _ (by decide), fusesLatched_word _ _ _ _ _ _ (by decide), ← get, fuseWords_step, h]
  obtain ⟨hcode, -, hstop, hpwr⟩ := startFail_facts (s := (s.fusesLatched sel te fac low none).graveFault bAUT 1) 0x0401 0 (.inr (by omega))
  rw [fusesLoaded_bad]
  refine ⟨hcode, hstop, ?_, ?_⟩
  · rw [hpwr]
  · rw [hpwr]
    exact hk.trans (by rw [fusesLatched_pwr])

/-! ### The steps that pass (R24, R374, R377, R378) -/

/-- A BOOT_ID is 64 bits of the free values (log entry 5). -/
theorem drawBootId_regs (s : Dev) : s.drawBootId.regs = ((s.put Reg.GLB_BOOT_ID_LO.BOOT_ID (Config.bootId s.freeCount).toNat).put Reg.GLB_BOOT_ID_HI.BOOT_ID
    ((Config.bootId s.freeCount).toNat / 2 ^ 32)).regs := rfl

theorem drawBootId_lo (s : Dev) : s.drawBootId.get Reg.GLB_BOOT_ID_LO.BOOT_ID = (Config.bootId s.freeCount).toNat % 2 ^ 32 := by
  rw [get_of_regs (drawBootId_regs s), get_put_other _ _ _ _ (by decide) (by decide), get_put_same _ _ _ (by decide)]
  rfl

theorem drawBootId_hi (s : Dev) : s.drawBootId.get Reg.GLB_BOOT_ID_HI.BOOT_ID = (Config.bootId s.freeCount).toNat / 2 ^ 32 := by
  have hlt : (Config.bootId s.freeCount).toNat < 2 ^ 64 := (Config.bootId s.freeCount).isLt
  rw [get_of_regs (drawBootId_regs s), get_put_same _ _ _ (by decide)]
  exact Nat.mod_eq_of_lt (by simp only [Reg.GLB_BOOT_ID_HI.BOOT_ID]; omega)

theorem dramTrained_ready {s : Dev} (h0 : s.chState 0 = chReady) (h1 : s.chState 1 = chReady) :
    s.dramTrained = if s.bootsel = 2 then s.put (statusBit bGLB 3) 1 else s.drawBootId.startStep 10 := by
  unfold dramTrained
  rw [h0, h1]
  rfl

theorem pllsLocked_step (s : Dev) : s.pllsLocked.get Reg.GLB_BOOT.STEP = 6 := by
  unfold pllsLocked
  exact startStep_step _ (by decide)

theorem pllsLocked_counting (s : Dev) : s.pllsLocked.tim.counting = true := rfl

theorem pllsLocked_fromZero {s : Dev} (h : s.pwr.fromHold = false) : s.pllsLocked.tim.accA = 0 ∧ s.pllsLocked.tim.accB = 0 := by
  unfold pllsLocked
  rw [h]
  exact ⟨rfl, rfl⟩

theorem finalCommit_empty {s : Dev} (h : s.dct.image = []) : s.finalCommit = s.domTidy.startStep 12 := by
  unfold finalCommit
  rw [h]

/-- The registers of READY. -/
def readyWords (s : Dev) : Dev :=
  (((s.put (statusBit bGLB 0) 1).put Reg.GLB_BOOT_TIME.US (min 0xFFFFFFFF ((s.up - s.pwr.startAt) / 1000))).put Reg.PWR_STATE.STATE 0).when
    s.pwr.fromHold (·.raise bPWR 0)

theorem startReady_regs (s : Dev) : s.startReady.regs = s.readyWords.regs := rfl

theorem startReady_phase (s : Dev) : s.startReady.pwr.phase = .run := rfl

theorem readyWords_get (s : Dev) {f : Fld} (h : f.addr ≠ statusAddr bPWR) :
    s.readyWords.get f = (((s.put (statusBit bGLB 0) 1).put Reg.GLB_BOOT_TIME.US (min 0xFFFFFFFF ((s.up - s.pwr.startAt) / 1000))).put
      Reg.PWR_STATE.STATE 0).get f := by
  unfold readyWords
  cases s.pwr.fromHold
  · rfl
  · exact get_put_other _ (statusBit bPWR 0) f 1 (by decide) (.inl h)

theorem startReady_facts (s : Dev) : s.startReady.bit (statusBit bGLB 0) = true ∧ s.startReady.get Reg.PWR_STATE.STATE = 0
    ∧ s.startReady.get Reg.GLB_BOOT_TIME.US = min 0xFFFFFFFF ((s.up - s.pwr.startAt) / 1000) := by
  have hg : ∀ f : Fld, f.addr ≠ statusAddr bPWR → s.startReady.get f = (((s.put (statusBit bGLB 0) 1).put Reg.GLB_BOOT_TIME.US
      (min 0xFFFFFFFF ((s.up - s.pwr.startAt) / 1000))).put Reg.PWR_STATE.STATE 0).get f := fun f hf =>
    (get_of_regs (startReady_regs s) f).trans (readyWords_get s hf)
  refine ⟨?_, ?_, ?_⟩
  · rw [bit, hg _ (by decide), get_put_other _ _ _ _ (by decide) (by decide), get_put_other _ _ _ _ (by decide) (by decide), get_put_same _ _ _ (by decide)]
    rfl
  · rw [hg _ (by decide), get_put_same _ _ _ (by decide)]
    rfl
  · rw [hg _ (by decide), get_put_other _ _ _ _ (by decide) (by decide), get_put_same _ _ _ (by decide)]
    exact Nat.mod_eq_of_lt (by simp only [Reg.GLB_BOOT_TIME.US]; omega)

/-! ### Which step ends (R377) -/

section
variable {s : Dev} (m : Memory) (hp : s.pwr.phase = .starting) (hw : s.bit (statusBit bGLB 3) = false)
include hp hw

theorem not_idle : ¬ (s.pwr.phase ≠ .starting ∨ s.bit (statusBit bGLB 3) = true) := by simp [hp, hw]

theorem stepComplete_pass : s.stepComplete m .pass = s.stepPasses m := if_neg (not_idle hp hw)

theorem stepComplete_fail (second : Bool) (unit : BitVec 8) : s.stepComplete m (.fail second unit) = s.stepFails second unit.toNat := if_neg (not_idle hp hw)

theorem stepComplete_fuses (sel : BitVec 2) (te ok fac low : Bool) (key : Option (BitVec 128)) (h : s.get Reg.GLB_BOOT.STEP = 4) :
    s.stepComplete m (.fuses sel te ok fac low key) = s.fusesLoaded sel.toNat te ok fac low key := (if_neg (not_idle hp hw)).trans (if_pos h)

theorem stepComplete_flash (a b : List Octet) (h : s.get Reg.GLB_BOOT.STEP = 10) (hb : s.bootsel < 2) :
    s.stepComplete m (.flash a b) = s.imageLoad [(0, a), (1, b)] := (if_neg (not_idle hp hw)).trans (if_pos ⟨h, hb⟩)

end

/-- The steps of PLLs and self-tests fail with their number and unit. -/
theorem stepFails_eq {s : Dev} (second : Bool) (unit : Nat) (h : s.get Reg.GLB_BOOT.STEP = 6 ∨ s.get Reg.GLB_BOOT.STEP = 7) :
    s.stepFails second unit = s.startFail (s.get Reg.GLB_BOOT.STEP * 256 + 1) unit := by
  unfold stepFails
  rcases h with h | h
  · rw [h]
    rfl
  · rw [h]
    rfl

/-! ### The image (R296, R378) -/

theorem imageLoad_bad {s : Dev} {copies : List (Nat × List Octet)} {code unit : Nat} (hg : s.isGrave bAUT = false)
    (h : imagePick s.pwr.masterKey none copies = .bad code unit) : s.imageLoad copies = s.startFail code unit := by
  unfold imageLoad
  rw [hg, h]
  rfl

/-- The copy chosen and its identity are shown. -/
def imageShown (s : Dev) (copy : Nat) (img : List Octet) : Dev := (s.put Reg.GLB_STRAP.IMG_COPY copy).put Reg.AUT_IMAGE_ID.ID (fieldBE img 12 4)

theorem imageLoad_good {s : Dev} {copies : List (Nat × List Octet)} {n : Nat} {img : List Octet} (hg : s.isGrave bAUT = false)
    (h : imagePick s.pwr.masterKey none copies = .good n img) : s.imageLoad copies = (s.imageShown n img).recordsApply img (recordsOf img) := by
  unfold imageLoad
  rw [hg, h]
  rfl

/-- One record, a COMMIT for this device, is left for step 11. -/
theorem recordsApply_commit {s : Dev} {img r : List Octet} (hv : fieldBE r 0 1 = 1) (ho : fieldBE r 1 1 % 128 = 5)
    (ha : fieldBE img 5 1 % 2 = 1 ∨ fieldBE img 6 2 = s.get Reg.AUT_CFG.DEV_ADDR) :
    s.recordsApply img [r] = (s.modDct fun d => { d with image := [r] }).startStep 11 := by
  have hop : (s.recordReq r).op = 5 := ho
  unfold recordsApply
  rw [if_neg (by simp [hop, hv]), if_neg (by omega)]

/-! ### BOOT_GO (R378) -/

theorem bootGo_eq {s : Dev} (h : s.bit (statusBit bGLB 3) = true) :
    s.bootGo = (((((s.when (s.get Reg.GLB_BOOT.STEP == 9) (·.drawBootId)).put (statusBit bGLB 3) 0).put Reg.GLB_BOOT_CTL.GO 1).put Reg.GLB_BOOT.CODE 0).put
      Reg.GLB_BOOT.UNIT 0).put Reg.GLB_BOOT.STEP 10 := if_neg (not_not.mpr h)

theorem bootGo_facts {s : Dev} (h : s.bit (statusBit bGLB 3) = true) :
    s.bootGo.get Reg.GLB_BOOT.STEP = 10 ∧ s.bootGo.bit Reg.GLB_BOOT_CTL.GO = true ∧ s.bootGo.bit (statusBit bGLB 3) = false
      ∧ s.bootGo.get Reg.GLB_BOOT.CODE = 0 ∧ s.bootGo.get Reg.GLB_BOOT.UNIT = 0 ∧ s.bootGo.get Reg.GLB_BOOT_ID_LO.BOOT_ID
        = (if s.get Reg.GLB_BOOT.STEP = 9 then (Config.bootId s.freeCount).toNat % 2 ^ 32 else s.get Reg.GLB_BOOT_ID_LO.BOOT_ID) := by
  rw [bootGo_eq h]
  generalize hu : s.when (s.get Reg.GLB_BOOT.STEP == 9) (·.drawBootId) = u
  have hid : u.get Reg.GLB_BOOT_ID_LO.BOOT_ID
      = if s.get Reg.GLB_BOOT.STEP = 9 then (Config.bootId s.freeCount).toNat % 2 ^ 32 else s.get Reg.GLB_BOOT_ID_LO.BOOT_ID := by
    rw [← hu]
    by_cases h9 : s.get Reg.GLB_BOOT.STEP = 9
    · rw [if_pos h9, beq_iff_eq.mpr h9, when_true, drawBootId_lo]
    · rw [if_neg h9, beq_eq_false_iff_ne.mpr h9, when_false]
  refine ⟨?_, ?_, ?_, ?_, ?_, ?_⟩
  · exact get_put_same _ Reg.GLB_BOOT.STEP 10 (by decide)
  · simp (disch := decide) only [bit_put_other, bit_put_same]
    rfl
  · simp (disch := decide) only [bit_put_other, bit_put_same]
    rfl
  · simp (disch := decide) only [get_put_other, get_put_same]
    rfl
  · simp (disch := decide) only [get_put_other, get_put_same]
    rfl
  · simp (disch := decide) only [get_put_other]
    exact hid

end Dev

theorem exec_startupStepComplete (res : StepEnd) (s : State) :
    exec (.startupStepComplete res) s = devStep (fun d => d.stepComplete s.dram res) s := rfl

theorem exec_bootGo (s : State) : exec .bootGo s = devStep (fun d => d.hostGate bGLB Reg.GLB_BOOT_CTL 0x80000000 (·.bootGo)) s := rfl

theorem startupBegin_answers (s : State) (h : s.dev.pwr.phase = .off ∨ s.dev.pwr.phase = .waking 3) :
    Answers .startupBegin s fun t => t.dev.pwr.phase = .starting ∧ t.dev.get Reg.GLB_BOOT.STEP = 4
      ∧ (∀ d < 80, t.dev.domOn d = true) ∧ t.dev.pwr.startAt = s.dev.up ∧ (s.dev.pwr.phase = .waking 3 → t.dev.get Reg.PWR_WAKE_CAUSE.RESET_CAUSE = 3)
      ∧ s.sameMem t := by
  have hregs : s.dev.fresh.startBegin.regs = (s.dev.fresh.startWords (decide (s.dev.pwr.phase = .waking 3))).regs := by
    rw [Dev.startBegin_eq (s := s.dev.fresh) h]
    rfl
  have hpwr : s.dev.fresh.startBegin.pwr = { s.dev.pwr with phase := .starting, startAt := s.dev.up } := by
    rw [Dev.startBegin_eq (s := s.dev.fresh) h]
    rfl
  refine answers_devStep (f := (·.startBegin)) rfl ⟨?_, ?_, fun d hd => ?_, ?_, fun h3 => ?_, rfl, rfl⟩
  · rw [Dev.settle_pwr, hpwr]
  · rw [Dev.get_settle, Dev.get_of_regs hregs]
    exact Dev.startStep_step _ (by decide)
  · rw [Dev.domOn, Dev.get_settle, Dev.get_of_regs hregs]
    exact Dev.startWords_domOn _ _ hd
  · rw [Dev.settle_pwr, hpwr]
  · rw [Dev.get_settle, Dev.get_of_regs hregs, h3]
    exact Dev.startWords_cause _

section
variable {s : State} (hp : s.dev.pwr.phase = .starting) (hw : s.dev.bit (statusBit bGLB 3) = false)
include hp hw

theorem fuses_good_answers (sel : BitVec 2) (te fac low : Bool) (key : Option (BitVec 128)) (h : s.dev.get Reg.GLB_BOOT.STEP = 4) :
    Answers (.startupStepComplete (.fuses sel te true fac low key)) s (fun t => t.dev.get Reg.GLB_BOOT.STEP = 5 ∧ t.dev.get Reg.GLB_STRAP.BOOTSEL = sel.toNat
      ∧ t.dev.bit Reg.GLB_STRAP.TESTEN = te ∧ t.dev.bit Reg.GLB_STRAP.FACTORY_FUSE = fac ∧ t.dev.pwr.masterKey = key ∧ t.dev.bit (statusBit bAUT 4) = key.isNone
      ∧ t.dev.bit (statusBit bGLB 2) = (te && !fac)
      ∧ t.dev.bit Reg.STA_FLINE.SEEN_LOW = (if s.dev.pwr.startAt < s.dev.fline.since then s.dev.bit Reg.STA_FLINE.SEEN_LOW else low) ∧ s.sameMem t) := by
  have hword : ∀ k, k ≠ Reg.GLB_BOOT → k ≠ Reg.STA_FLINE → ((s.dev.fresh.fusesLatched sel.toNat te fac low key).startStep 5).word k
      = (s.dev.fresh.fuseWords sel.toNat te fac key.isNone).word k := fun k h1 h2 =>
    (Dev.startStep_word _ _ h1).trans (Dev.fusesLatched_word _ _ _ _ _ _ h2)
  refine answers_devStep (exec_startupStepComplete _ s) ?_
  rw [Dev.stepComplete_fuses (s := s.dev.fresh) _ hp hw _ _ _ _ _ _ h, Dev.fusesLoaded_good]
  refine ⟨?_, ?_, ?_, ?_, ?_, ?_, ?_, ?_, rfl, rfl⟩
  · rw [Dev.get_settle, Dev.startStep_step _ (by decide)]
  · rw [Dev.get_settle, Dev.get, hword _ (by decide) (by decide)]
    exact (Dev.fuseWords_bootsel _ _ _ _ _).trans (Nat.mod_eq_of_lt sel.isLt)
  · rw [Dev.bit_settle, Dev.bit, Dev.get, hword _ (by decide) (by decide)]
    exact Dev.fuseWords_testen _ _ _ _ _
  · rw [Dev.bit_settle, Dev.bit, Dev.get, hword _ (by decide) (by decide)]
    exact Dev.fuseWords_factory _ _ _ _ _
  · rw [Dev.settle_pwr, Dev.startStep, Dev.put_pwr, Dev.fusesLatched_pwr]
  · rw [Dev.bit_settle, Dev.bit, Dev.get, hword _ (by decide) (by decide)]
    exact Dev.fuseWords_locked _ _ _ _ _
  · rw [Dev.bit_settle, Dev.bit, Dev.get, hword _ (by decide) (by decide)]
    exact Dev.fuseWords_testMode _ _ _ _ _
  · rw [Dev.bit_settle, Dev.bit, Dev.get, Dev.startStep_word _ _ (by decide)]
    exact Dev.fusesLatched_seenLow _ _ _ _ _ _

theorem fuses_bad_answers (sel : BitVec 2) (te fac low : Bool) (key : Option (BitVec 128)) (h : s.dev.get Reg.GLB_BOOT.STEP = 4) :
    Answers (.startupStepComplete (.fuses sel te false fac low key)) s fun t => t.dev.get Reg.GLB_BOOT.CODE = 0x0401 ∧ t.dev.bit (statusBit bGLB 1) = true
      ∧ t.dev.pwr.phase = .stopped ∧ t.dev.pwr.masterKey = none ∧ s.sameMem t := by
  obtain ⟨hcode, hstop, hphase, hkey⟩ := Dev.fusesLoaded_bad_facts (s := s.dev.fresh) sel.toNat te fac low key h
  refine answers_devStep (exec_startupStepComplete _ s) ?_
  rw [Dev.stepComplete_fuses (s := s.dev.fresh) _ hp hw _ _ _ _ _ _ h]
  refine ⟨?_, ?_, ?_, ?_, rfl, rfl⟩
  · rw [Dev.get_settle, hcode]
  · rw [Dev.bit_settle, hstop]
  · rw [Dev.settle_pwr, hphase]
  · rw [Dev.settle_pwr, hkey]

/-- A step that passes answers the device after its end. -/
theorem answers_pass {P : State → Prop} (h : P { s with dev := Dev.settle s.dev.fresh (s.dev.fresh.stepPasses s.dram) }) :
    Answers (.startupStepComplete .pass) s P :=
  answers_devStep (exec_startupStepComplete _ s) (by rwa [Dev.stepComplete_pass (s := s.dev.fresh) _ hp hw])

theorem pass_plls_answers (h : s.dev.get Reg.GLB_BOOT.STEP = 5) :
    Answers (.startupStepComplete .pass) s fun t => t.dev.get Reg.GLB_BOOT.STEP = 6 ∧ t.dev.tim.counting = true
      ∧ (s.dev.pwr.fromHold = false → t.dev.tim.accA = 0 ∧ t.dev.tim.accB = 0) ∧ s.sameMem t := by
  have he : s.dev.fresh.stepPasses s.dram = s.dev.fresh.pllsLocked := by
    rw [Dev.stepPasses, Dev.get_fresh, h]
    rfl
  refine answers_pass hp hw ⟨?_, ?_, fun hf => ?_, rfl, rfl⟩
  · rw [Dev.get_settle, he, Dev.pllsLocked_step]
  · rw [Dev.settle_tim, he, Dev.pllsLocked_counting]
  · rw [Dev.settle_tim, he]
    exact Dev.pllsLocked_fromZero hf

theorem pass_tests_answers (h : s.dev.get Reg.GLB_BOOT.STEP = 6) :
    Answers (.startupStepComplete .pass) s fun t => t.dev.get Reg.GLB_BOOT.STEP = 7 ∧ s.dev.onlyWords (fun k => k = Reg.GLB_BOOT) t.dev ∧ s.sameMem t := by
  have he : s.dev.fresh.stepPasses s.dram = s.dev.fresh.startStep 7 := by
    rw [Dev.stepPasses, Dev.get_fresh, h]
    rfl
  refine answers_pass hp hw ?_
  rw [he]
  exact ⟨(Dev.get_settle _ _ _).trans (Dev.startStep_step _ (by decide)), (Dev.WordOnly.put (· = Reg.GLB_BOOT) _ Reg.GLB_BOOT.STEP 7 rfl).settled _, rfl, rfl⟩

theorem fail_answers (sec : Bool) (u : BitVec 8) (h : s.dev.get Reg.GLB_BOOT.STEP = 6 ∨ s.dev.get Reg.GLB_BOOT.STEP = 7) :
    Answers (.startupStepComplete (.fail sec u)) s fun t => t.dev.get Reg.GLB_BOOT.CODE = s.dev.get Reg.GLB_BOOT.STEP * 256 + 1
      ∧ t.dev.get Reg.GLB_BOOT.UNIT = u.toNat ∧ t.dev.bit (statusBit bGLB 1) = true ∧ t.dev.pwr.phase = .stopped ∧ s.sameMem t := by
  obtain ⟨hcode, hunit, hstop, hpwr⟩ := Dev.startFail_facts (s := s.dev.fresh) (s.dev.get Reg.GLB_BOOT.STEP * 256 + 1) u.toNat
    (.inr (by rw [Dev.get_fresh]; omega))
  refine answers_devStep (exec_startupStepComplete _ s) ?_
  rw [Dev.stepComplete_fail (s := s.dev.fresh) _ hp hw, Dev.stepFails_eq (s := s.dev.fresh) _ _ h, Dev.get_fresh]
  refine ⟨?_, ?_, ?_, ?_, rfl, rfl⟩
  · rw [Dev.get_settle, hcode]
    exact Nat.mod_eq_of_lt (by omega)
  · rw [Dev.get_settle, hunit]
    exact Nat.mod_eq_of_lt u.isLt
  · rw [Dev.bit_settle, hstop]
  · rw [Dev.settle_pwr, hpwr]

theorem pass_trained_answers (h : s.dev.get Reg.GLB_BOOT.STEP = 9) (h0 : s.dev.chState 0 = chReady) (h1 : s.dev.chState 1 = chReady) :
    Answers (.startupStepComplete .pass) s fun t =>
      (if s.dev.bootsel = 2 then t.dev.bit (statusBit bGLB 3) = true ∧ t.dev.get Reg.GLB_BOOT.STEP = 9
        else t.dev.get Reg.GLB_BOOT.STEP = 10 ∧ t.dev.get Reg.GLB_BOOT_ID_LO.BOOT_ID = (Config.bootId s.dev.freeCount).toNat % 2 ^ 32
          ∧ t.dev.get Reg.GLB_BOOT_ID_HI.BOOT_ID = (Config.bootId s.dev.freeCount).toNat / 2 ^ 32) ∧ s.sameMem t := by
  have he : s.dev.fresh.stepPasses s.dram
      = if s.dev.bootsel = 2 then s.dev.fresh.put (statusBit bGLB 3) 1 else s.dev.fresh.drawBootId.startStep 10 := by
    rw [Dev.stepPasses, Dev.get_fresh, h]
    exact Dev.dramTrained_ready (s := s.dev.fresh) h0 h1
  refine answers_pass hp hw ?_
  rw [he]
  refine ⟨?_, rfl, rfl⟩
  by_cases hb : s.dev.bootsel = 2
  · rw [if_pos hb, if_pos hb, Dev.bit_settle, Dev.get_settle, Dev.bit_put_same _ _ _ (by decide) rfl, Dev.get_put_other _ _ _ _ (by decide) (by decide)]
    exact ⟨rfl, h⟩
  · rw [if_neg hb, if_neg hb, Dev.get_settle, Dev.get_settle, Dev.get_settle]
    refine ⟨Dev.startStep_step _ (by decide), ?_, ?_⟩
    · rw [Dev.get, Dev.startStep_word _ _ (by decide)]
      exact Dev.drawBootId_lo s.dev.fresh
    · rw [Dev.get, Dev.startStep_word _ _ (by decide)]
      exact Dev.drawBootId_hi s.dev.fresh

theorem pass_noImage_answers (h : s.dev.get Reg.GLB_BOOT.STEP = 10) (hb : s.dev.bootsel = 3) :
    Answers (.startupStepComplete .pass) s fun t => t.dev.get Reg.GLB_BOOT.STEP = 11 ∧ s.sameMem t := by
  have he : s.dev.fresh.stepPasses s.dram = s.dev.fresh.startStep 11 := by
    rw [Dev.stepPasses, Dev.get_fresh, h]
    exact if_pos hb
  refine answers_pass hp hw ⟨?_, rfl, rfl⟩
  rw [Dev.get_settle, he, Dev.startStep_step _ (by decide)]

theorem pass_noCommit_answers (h : s.dev.get Reg.GLB_BOOT.STEP = 11) (hi : s.dev.dct.image = []) :
    Answers (.startupStepComplete .pass) s fun t => t.dev.get Reg.GLB_BOOT.STEP = 12 ∧ s.sameMem t := by
  have he : s.dev.fresh.stepPasses s.dram = s.dev.fresh.domTidy.startStep 12 := by
    rw [Dev.stepPasses, Dev.get_fresh, h]
    exact Dev.finalCommit_empty (s := s.dev.fresh) hi
  refine answers_pass hp hw ⟨?_, rfl, rfl⟩
  rw [Dev.get_settle, he, Dev.startStep_step _ (by decide)]

theorem pass_ready_answers (h : s.dev.get Reg.GLB_BOOT.STEP = 12) :
    Answers (.startupStepComplete .pass) s fun t => t.dev.bit (statusBit bGLB 0) = true ∧ t.dev.pwr.phase = .run ∧ t.dev.get Reg.PWR_STATE.STATE = 0
      ∧ t.dev.get Reg.GLB_BOOT_TIME.US = min 0xFFFFFFFF ((s.dev.up - s.dev.pwr.startAt) / 1000) ∧ s.sameMem t := by
  have he : s.dev.fresh.stepPasses s.dram = s.dev.fresh.startReady := by
    rw [Dev.stepPasses, Dev.get_fresh, h]
    rfl
  obtain ⟨hready, hstate, hus⟩ := Dev.startReady_facts s.dev.fresh
  refine answers_pass hp hw ?_
  rw [he]
  refine ⟨?_, ?_, ?_, ?_, rfl, rfl⟩
  · rw [Dev.bit_settle, hready]
  · rw [Dev.settle_pwr, Dev.startReady_phase]
  · rw [Dev.get_settle, hstate]
  · rw [Dev.get_settle, hus]
    rfl

theorem flash_bad_answers (a b : List Octet) (h : s.dev.get Reg.GLB_BOOT.STEP = 10) (hb : s.dev.bootsel < 2) (hg : s.dev.isGrave bAUT = false)
    (code unit : Nat) (hi : imagePick s.dev.pwr.masterKey none [(0, a), (1, b)] = .bad code unit) :
    Answers (.startupStepComplete (.flash a b)) s fun t => t.dev.get Reg.GLB_BOOT.CODE = code % 2 ^ 16 ∧ t.dev.get Reg.GLB_BOOT.UNIT = unit % 256
      ∧ t.dev.bit (statusBit bGLB 1) = true ∧ t.dev.pwr.phase = .stopped ∧ s.sameMem t := by
  obtain ⟨hcode, hunit, hstop, hpwr⟩ := Dev.startFail_facts (s := s.dev.fresh) code unit (.inl hb)
  refine answers_devStep (exec_startupStepComplete _ s) ?_
  rw [Dev.stepComplete_flash (s := s.dev.fresh) _ hp hw _ _ h hb, Dev.imageLoad_bad (s := s.dev.fresh) hg hi]
  refine ⟨?_, ?_, ?_, ?_, rfl, rfl⟩
  · rw [Dev.get_settle, hcode]
  · rw [Dev.get_settle, hunit]
  · rw [Dev.bit_settle, hstop]
  · rw [Dev.settle_pwr, hpwr]

theorem flash_good_answers (a b : List Octet) (h : s.dev.get Reg.GLB_BOOT.STEP = 10) (hb : s.dev.bootsel < 2) (hg : s.dev.isGrave bAUT = false)
    (n : Nat) (img r : List Octet) (hi : imagePick s.dev.pwr.masterKey none [(0, a), (1, b)] = .good n img) (hr : recordsOf img = [r])
    (hv : fieldBE r 0 1 = 1) (ho : fieldBE r 1 1 % 128 = 5) (ha : fieldBE img 5 1 % 2 = 1 ∨ fieldBE img 6 2 = s.dev.get Reg.AUT_CFG.DEV_ADDR) :
    Answers (.startupStepComplete (.flash a b)) s fun t => t.dev.get Reg.GLB_BOOT.STEP = 11 ∧ t.dev.get Reg.GLB_STRAP.IMG_COPY = n % 2
      ∧ t.dev.get Reg.AUT_IMAGE_ID.ID = fieldBE img 12 4 ∧ t.dev.dct.image = [r] ∧ s.sameMem t := by
  have haddr : (s.dev.fresh.imageShown n img).get Reg.AUT_CFG.DEV_ADDR = s.dev.get Reg.AUT_CFG.DEV_ADDR := by
    rw [Dev.imageShown, Dev.get_put_other _ _ _ _ (by decide) (by decide), Dev.get_put_other _ _ _ _ (by decide) (by decide), Dev.get_fresh]
  have hmod : ∀ (u : Dev) (f : Dct → Dct), (u.modDct f).regs = u.regs := fun _ _ => rfl
  refine answers_devStep (exec_startupStepComplete _ s) ?_
  rw [Dev.stepComplete_flash (s := s.dev.fresh) _ hp hw _ _ h hb, Dev.imageLoad_good (s := s.dev.fresh) hg hi, hr,
    Dev.recordsApply_commit hv ho (haddr.symm ▸ ha)]
  refine ⟨?_, ?_, ?_, ?_, rfl, rfl⟩
  · rw [Dev.get_settle, Dev.startStep_step _ (by decide)]
  · rw [Dev.get_settle, Dev.get, Dev.startStep_word _ _ (by decide), ← Dev.get, Dev.get_of_regs (hmod _ _), Dev.imageShown,
      Dev.get_put_other _ _ _ _ (by decide) (by decide), Dev.get_put_same _ _ _ (by decide)]
    rfl
  · rw [Dev.get_settle, Dev.get, Dev.startStep_word _ _ (by decide), ← Dev.get, Dev.get_of_regs (hmod _ _), Dev.imageShown,
      Dev.get_put_same _ _ _ (by decide)]
    exact Nat.mod_eq_of_lt (fieldBE_lt img 12 4)
  · rw [Dev.settle_dct]
    rfl

end

theorem bootGo_answers (s : State) (hb : s.dev.blockOn bGLB = true) (hr : s.dev.hostRefused Reg.GLB_BOOT_CTL = false)
    (hw : s.dev.bit (statusBit bGLB 3) = true) :
    Answers .bootGo s fun t => t.dev.get Reg.GLB_BOOT.STEP = 10 ∧ t.dev.bit Reg.GLB_BOOT_CTL.GO = true ∧ t.dev.bit (statusBit bGLB 3) = false
      ∧ t.dev.get Reg.GLB_BOOT.CODE = 0 ∧ t.dev.get Reg.GLB_BOOT.UNIT = 0 ∧ t.dev.get Reg.GLB_BOOT_ID_LO.BOOT_ID
        = (if s.dev.get Reg.GLB_BOOT.STEP = 9 then (Config.bootId s.dev.freeCount).toNat % 2 ^ 32 else s.dev.get Reg.GLB_BOOT_ID_LO.BOOT_ID) ∧ s.sameMem t := by
  obtain ⟨hstep, hgo, hwait, hcode, hunit, hid⟩ := Dev.bootGo_facts (s := s.dev.fresh) hw
  refine answers_hostGate (exec_bootGo s) hb hr ?_
  simp only [Dev.get_settle, Dev.bit_settle]
  exact ⟨hstep, hgo, hwait, hcode, hunit, hid, rfl, rfl⟩

/-- A word of the host's image goes to the lowest ready channel (R378). -/
theorem imageWord_eq {s : State} {b : Nat} (v : Word) (hp : s.dev.pwr.phase = .starting) (hb : s.dev.bootsel = 2) (hi : s.dev.imageBase = some b) :
    s.imageWord v = { s with
      dev := s.dev.put Reg.GLB_IMG_ADDR.INDEX (s.dev.get Reg.GLB_IMG_ADDR.INDEX + 1)
      dram := s.dram.putRun (b + 4 * s.dev.get Reg.GLB_IMG_ADDR.INDEX) (octetsBE 4 v.toNat) } := by
  unfold State.imageWord
  dsimp only
  rw [hi]
  exact if_neg (by simp [hp, hb])

theorem imageWordWrite_answers (s : State) (v : Word) (b : Nat) (hp : s.dev.pwr.phase = .starting) (hb : s.dev.bootsel = 2)
    (hi : s.dev.imageBase = some b) :
    Answers (.imageWordWrite v) s fun t => t.dram = s.dram.putRun (b + 4 * s.dev.get Reg.GLB_IMG_ADDR.INDEX) (octetsBE 4 v.toNat) ∧ t.host = s.host
      ∧ t.dev.get Reg.GLB_IMG_ADDR.INDEX = (s.dev.get Reg.GLB_IMG_ADDR.INDEX + 1) % 2 ^ 21 ∧ s.dev.onlyWords (fun k => k = Reg.GLB_IMG_ADDR) t.dev := by
  have he := imageWord_eq (s := { s with dev := s.dev.fresh }) v hp hb hi
  refine ⟨_, rfl, ?_⟩
  dsimp only
  rw [he]
  refine ⟨rfl, rfl, ?_, (Dev.WordOnly.put (· = Reg.GLB_IMG_ADDR) _ Reg.GLB_IMG_ADDR.INDEX _ rfl).settled _⟩
  rw [Dev.get_settle, Dev.get_put_same _ _ _ (by decide)]
  rfl

/-- Settles O50: step by step, each end through what it sets. -/
theorem startUp : Obligations.StartUp :=
  ⟨startupBegin_answers,
    fun _ hp hw => ⟨fun sel te fac low key h => ⟨fuses_good_answers hp hw sel te fac low key h, fuses_bad_answers hp hw sel te fac low key h⟩,
      pass_plls_answers hp hw, pass_tests_answers hp hw, fail_answers hp hw, pass_trained_answers hp hw, pass_noImage_answers hp hw,
      pass_noCommit_answers hp hw, pass_ready_answers hp hw,
      fun a b h hb hg => ⟨flash_bad_answers hp hw a b h hb hg, flash_good_answers hp hw a b h hb hg⟩⟩,
    bootGo_answers, imageWordWrite_answers⟩

end Sys2Proof.Machine
end

section
/-! SUPPORT. The transmitter (R88, R89, R106, R113, R119, R122–R124): how a frame starts, ends, is pre-empted and is abandoned. -/

namespace Sys2Proof.Machine

namespace Dev

/-! ### Ports -/

/-- A change of a port notes the instants at which its transmitter becomes idle and ceases to be, and is else the one asked for (R76). -/
theorem modPort_port (s : Dev) (p : Nat) (f : Port → Port) :
    ∃ i b, (s.modPort p f).port p = { f (s.port p) with idleAt := i, busyAt := b } := by
  rw [modPort, setPort, port, Tab.get_set_same]
  split
  · exact ⟨_, _, rfl⟩
  · exact ⟨_, _, rfl⟩
  · exact ⟨(f (s.port p)).idleAt, (f (s.port p)).busyAt, rfl⟩

theorem modPort_line (s : Dev) (p : Nat) (f : Port → Port) : ((s.modPort p f).port p).line = (f (s.port p)).line := by
  obtain ⟨i, b, h⟩ := modPort_port s p f
  rw [h]

theorem modPort_hold (s : Dev) (p : Nat) (f : Port → Port) : ((s.modPort p f).port p).hold = (f (s.port p)).hold := by
  obtain ⟨i, b, h⟩ := modPort_port s p f
  rw [h]

@[simp] theorem port_settle (old s : Dev) (p : Nat) : (settle old s).port p = s.port p := by simp [port]
@[simp] theorem classQueue_settle (old s : Dev) (p c : Nat) : (settle old s).classQueue p c = s.classQueue p c := by simp [classQueue]

/-! ### A frame starts (R113) -/

/-- What starts with a frame: its octets may take a time, which the timebase's store may keep, and a free value may be drawn (R42, R165). -/
theorem applyFix_facts (s : Dev) (p : Nat) (e : QEnt) : ∃ x n, (s.applyFix p e).2 = { s with freeCount := n, tim := { s.tim with followUp := x } }
    ∧ (s.applyFix p e).1.desc = e.desc ∧ (e.fix = .none → (s.applyFix p e).1 = e) := by
  unfold applyFix
  cases hf : e.fix with
  | none => exact ⟨s.tim.followUp, s.freeCount, rfl, rfl, fun _ => rfl⟩
  | origin o => exact ⟨s.tim.followUp, s.freeCount, rfl, rfl, nofun⟩
  | residence o t0 => exact ⟨s.tim.followUp, s.freeCount, rfl, rfl, nofun⟩
  | sync o t0 d => exact ⟨s.tim.followUp, _, rfl, rfl, nofun⟩
  | twoStep k t0 d => exact ⟨_, _, rfl, rfl, nofun⟩
  | followUp k o => exact ⟨_, s.freeCount, rfl, rfl, nofun⟩
  | keepStamp k => exact ⟨_, s.freeCount, rfl, rfl, nofun⟩
  | ptpOrigin => exact ⟨s.tim.followUp, s.freeCount, rfl, rfl, nofun⟩

/-- A frame is on the line (R40, R124). -/
def onLine (s : Dev) (p c : Nat) (e : QEnt) (pre cont : Bool) (fcnt : Nat) : Dev :=
  (s.setFrame e.desc { s.frameOf e.desc with started := true }).modPort p fun x => { x with
    line := some { ent := e, cls := c, start := s.egressStamp p, pre := pre, fcnt := fcnt }
    frameCnt := if pre && !cont then (x.frameCnt + 1) % 4 else x.frameCnt }

theorem onLine_line (s : Dev) (p c : Nat) (e : QEnt) (pre cont : Bool) (fcnt : Nat) :
    ((s.onLine p c e pre cont fcnt).port p).line = some { ent := e, cls := c, start := s.egressStamp p, pre := pre, fcnt := fcnt } := modPort_line _ _ _

theorem onLine_hold (s : Dev) (p c : Nat) (e : QEnt) (pre cont : Bool) (fcnt : Nat) : ((s.onLine p c e pre cont fcnt).port p).hold = (s.port p).hold :=
  modPort_hold _ _ _

/-- A new frame leaves its queue. -/
theorem transmitStart_new {s : Dev} {p c : Nat} {e : QEnt} (hb : s.blockOn (bPRT p) = true) (hl : (s.port p).line = none) (hm : (s.port p).mpTill ≤ s.up)
    (hh : (s.port p).hold = none) (hs : s.selectClass p = some c) (he : s.headOf p c = some e) (h0 : e.sent = 0) :
    ∃ n, s.transmitStart p
      = ((((s.creditSync p c).setClassQueue p c ((s.classQueue p c).erase e)).applyFix p e).2).onLine p c
          ((((s.creditSync p c).setClassQueue p c ((s.classQueue p c).erase e)).applyFix p e).1) (s.preemptActive p && !s.isExpress p c) false n := by
  have hc : s.candidate p c = some e := by rw [candidate, hh]; exact he
  unfold transmitStart
  rw [atBlock_on _ _ _ hb, if_neg (by simp [hl, hm]), hs]
  dsimp only
  rw [hc]
  dsimp only
  rw [h0, hh]
  exact ⟨_, rfl⟩

/-- A pre-empted frame goes on. -/
theorem transmitStart_continues {s : Dev} {p : Nat} {h : TxHold} (hb : s.blockOn (bPRT p) = true) (hl : (s.port p).line = none)
    (hm : (s.port p).mpTill ≤ s.up) (hh : (s.port p).hold = some h) (hs : s.selectClass p = some h.cls) (h0 : 0 < h.ent.sent) :
    s.transmitStart p = ((s.creditSync p h.cls).modPort p fun x => { x with hold := none }).onLine p h.cls h.ent
      (s.preemptActive p && !s.isExpress p h.cls) true h.fcnt := by
  have hc : s.candidate p h.cls = some h.ent := by rw [candidate, hh]; exact if_pos rfl
  have hcont : Nat.blt 0 h.ent.sent = true := Nat.blt_eq.mpr h0
  unfold transmitStart
  rw [atBlock_on _ _ _ hb, if_neg (by simp [hl, hm]), hs]
  dsimp only
  rw [hc]
  dsimp only
  rw [hcont, hh]
  rfl

end Dev

theorem exec_frameTransmitStart (p : Fin 8) (s : State) : exec (.frameTransmitStart p) s = devStep (·.transmitStart p) s := rfl

theorem frameTransmitStart_new_answers (s : State) (p : Fin 8) (c : Nat) (e : QEnt) (hb : s.dev.blockOn (bPRT p) = true) (hl : (s.dev.port p).line = none)
    (hm : (s.dev.port p).mpTill ≤ s.dev.up) (hh : (s.dev.port p).hold = none) (hs : s.dev.selectClass p = some c) (he : s.dev.headOf p c = some e)
    (h0 : e.sent = 0) :
    Answers (.frameTransmitStart p) s fun t =>
      (∃ l, (t.dev.port p).line = some l ∧ l.cls = c ∧ l.ent.desc = e.desc ∧ l.start = s.dev.egressStamp p ∧ (e.fix = .none → l.ent = e))
        ∧ t.dev.classQueue p c = (s.dev.classQueue p c).erase e ∧ (∀ k, t.dev.word k = s.dev.word k) ∧ s.sameMem t := by
  obtain ⟨n, hstart⟩ := Dev.transmitStart_new (s := s.dev.fresh) hb hl hm hh hs he h0
  obtain ⟨x, k, hdev, hdesc, hsame⟩ :=
    Dev.applyFix_facts ((s.dev.fresh.creditSync p c).setClassQueue p c ((s.dev.fresh.classQueue p c).erase e)) p e
  rw [hdev] at hstart
  refine answers_devStep (exec_frameTransmitStart p s) ?_
  rw [hstart]
  refine ⟨⟨_, (congrArg Port.line (Dev.port_settle _ _ _)).trans (Dev.onLine_line _ _ _ _ _ _ _), rfl, hdesc, rfl, hsame⟩, ?_, fun k => ?_, rfl, rfl⟩
  · rw [Dev.classQueue_settle]
    exact Tab.get_set_same _ _ _ _
  · rw [Dev.word_settle]
    rfl

theorem frameTransmitStart_continues_answers (s : State) (p : Fin 8) (h : TxHold) (hb : s.dev.blockOn (bPRT p) = true) (hl : (s.dev.port p).line = none)
    (hm : (s.dev.port p).mpTill ≤ s.dev.up) (hh : (s.dev.port p).hold = some h) (hs : s.dev.selectClass p = some h.cls) (h0 : 0 < h.ent.sent) :
    Answers (.frameTransmitStart p) s fun t =>
      (t.dev.port p).line = some { ent := h.ent, cls := h.cls, start := s.dev.egressStamp p, pre := s.dev.preemptActive p && !s.dev.isExpress p h.cls, fcnt := h.fcnt }
        ∧ (t.dev.port p).hold = none ∧ t.dev.classQ = s.dev.classQ ∧ (∀ k, t.dev.word k = s.dev.word k) ∧ s.sameMem t := by
  have hstart := Dev.transmitStart_continues (s := s.dev.fresh) hb hl hm hh hs h0
  refine answers_devStep (exec_frameTransmitStart p s) ?_
  rw [hstart]
  refine ⟨?_, ?_, ?_, fun k => ?_, rfl, rfl⟩
  · rw [Dev.port_settle, Dev.onLine_line]
    rfl
  · rw [Dev.port_settle, Dev.onLine_hold, Dev.modPort_hold]
  · rw [Dev.settle_classQ]
    rfl
  · rw [Dev.word_settle]
    rfl

end Sys2Proof.Machine
end

section
/-! SUPPORT. The end of a frame, of a fragment and of a held frame (R88–R90, R106, R122–R124). -/

namespace Sys2Proof.Machine

namespace Dev

/-! ### Counters of a port (R90) -/

theorem incTx_count (s : Dev) (p i : Nat) (hi : i < 32) :
    (s.incTx p i).get (Reg.PRT_TX_CNT.COUNT p i) = (s.get (Reg.PRT_TX_CNT.COUNT p i) + 1) % 2 ^ 32 := by
  have hw : WordOnly (· = Reg.PRT_HALF_TX p) (s.inc (Reg.PRT_TX_CNT.COUNT p i)) (s.incTx p i) :=
    WordOnly.when _ (WordOnly.put _ _ ⟨Reg.PRT_HALF_TX p, i, 1⟩ _ rfl)
  have ha : (Reg.PRT_TX_CNT.COUNT p i).addr ≠ Reg.PRT_HALF_TX p := by simp only [Reg.PRT_TX_CNT.COUNT, Reg.PRT_HALF_TX]; omega
  rw [get, hw.1 _ ha]
  exact get_put_same s (Reg.PRT_TX_CNT.COUNT p i) _ (by decide : 0 + 32 ≤ 32)

/-- Counter `j` of port `p` and the count of corrected granules are other words than those of counter `i`. -/
theorem incTx_count_other (s : Dev) (p : Nat) {i j : Nat} (h : i ≠ j) :
    (s.incTx p i).get (Reg.PRT_TX_CNT.COUNT p j) = s.get (Reg.PRT_TX_CNT.COUNT p j) := by
  rw [get, get, (incTx_only s p i).1]
  simp only [Reg.PRT_TX_CNT.COUNT, Reg.PRT_TX_CNT, Reg.PRT_HALF_TX]
  omega

/-- The counters of the ports lie below the windows from the Reef's on. -/
theorem incTx_word (s : Dev) {p i k : Nat} (hp : p < 8) (hi : i < 64) (hk : 0xC0000 ≤ k) : (s.incTx p i).word k = s.word k := by
  refine (incTx_only s p i).1 k ?_
  simp only [Reg.PRT_TX_CNT, Reg.PRT_HALF_TX]
  omega

theorem sizeBin_lt (n : Nat) : sizeBin n < 9 := by
  unfold sizeBin
  split_ifs <;> decide

theorem addrCounter_bounds (da : Nat) : 9 ≤ addrCounter da ∧ addrCounter da < 12 := by
  unfold addrCounter
  split_ifs <;> decide

theorem ite_incTx (c : Prop) [Decidable c] (s : Dev) (p i : Nat) : (if c then s.incTx p i else s) = s.when (decide c) (·.incTx p i) := by
  by_cases h : c
  · rw [if_pos h, decide_eq_true h, when_true]
  · rw [if_neg h, decide_eq_false h, when_false]

/-- A frame sent well counts in its size and address counters, that of VLAN frames and that of its MAC (R90). -/
theorem countGood_eq (s : Dev) (p : Nat) (ring : Bool) (l : List Octet) (pre : Bool) :
    ∃ v : Bool, s.countGood (fun s i => s.incTx p i) ring l pre
      = (((s.incTx p (sizeBin (frameLen l))).incTx p (addrCounter (fieldBE l 0 6))).when v (·.incTx p 12)).incTx p (if pre then 14 else 13) := by
  unfold countGood
  dsimp only
  rw [ite_incTx]
  exact ⟨_, rfl⟩

theorem countGood_size (s : Dev) (p : Nat) (ring : Bool) (l : List Octet) (pre : Bool) :
    (s.countGood (fun s i => s.incTx p i) ring l pre).get (Reg.PRT_TX_CNT.COUNT p (sizeBin (frameLen l)))
      = (s.get (Reg.PRT_TX_CNT.COUNT p (sizeBin (frameLen l))) + 1) % 2 ^ 32 := by
  obtain ⟨v, h⟩ := countGood_eq s p ring l pre
  have hb := sizeBin_lt (frameLen l)
  have ha := addrCounter_bounds (fieldBE l 0 6)
  have hw : ∀ u : Dev, (u.when v (·.incTx p 12)).get (Reg.PRT_TX_CNT.COUNT p (sizeBin (frameLen l))) = u.get (Reg.PRT_TX_CNT.COUNT p (sizeBin (frameLen l))) :=
    fun u => by
      cases v
      · rfl
      · exact incTx_count_other u p (by omega)
  rw [h, incTx_count_other _ p (by split <;> omega), hw, incTx_count_other _ p (by omega), incTx_count _ _ _ (by omega)]

/-- Beside the registers nothing changes; below the Locker's window the port's own alone. -/
theorem countGood_only (s : Dev) {p : Nat} (ring : Bool) (l : List Octet) (pre : Bool) (hp : p < 8) :
    WordOnly (· < 0xC0000) s (s.countGood (fun s i => s.incTx p i) ring l pre) := by
  obtain ⟨v, h⟩ := countGood_eq s p ring l pre
  have ha := addrCounter_bounds (fieldBE l 0 6)
  have hi : ∀ (u : Dev) (i : Nat), i < 64 → WordOnly (· < 0xC0000) u (u.incTx p i) := fun u i h64 =>
    ⟨fun k hk => incTx_word u hp h64 (not_lt.mp hk), (incTx_only u p i).2⟩
  rw [h]
  exact (((hi _ _ ((sizeBin_lt _).trans (by decide))).trans (hi _ _ (by omega))).trans (WordOnly.when _ (hi _ _ (by decide)))).trans
    (hi _ _ (by split <;> decide))

/-! ### A bank with a bad granule (R101, R252) -/

theorem evacBegin_only (s : Dev) (k cause : Nat) : LockerOnly bankWords s (s.evacBegin k cause) := by
  unfold evacBegin
  dsimp only
  split
  · exact LockerOnly.refl _ s
  · split
    · exact evacStart_only s k cause
    · split
      · exact setLocker_only _ s _ _ _
      · split
        · exact setLocker_only _ s _ _ _
        · exact LockerOnly.refl _ s

theorem bankFault_only (s : Dev) (k : Nat) : LockerOnly bankWords s (s.bankFault k) :=
  (setLocker_only _ s _ _ _).trans (evacBegin_only _ k causeFault)

/-! ### The end of a frame (R89, R106) -/

/-- The line is free, the octets counted for the port's rate. -/
def lineFreed (s : Dev) (p : Nat) (l : TxLine) : Dev :=
  (s.creditSync p l.cls).modPort p fun x => { x with line := none, txMs := x.txMs + (frameLen l.ent.data - l.ent.sent) + 20 }

theorem lineFreed_line (s : Dev) (p : Nat) (l : TxLine) : ((s.lineFreed p l).port p).line = none := modPort_line _ _ _

/-- Corrected granules and the end of a continuation are counted (R106, R124). -/
def endCounted (s : Dev) (p corr : Nat) (l : TxLine) : Dev :=
  ((s.lineFreed p l).when (Nat.blt 0 corr) fun s => (s.incBy Reg.FRM_ECC_CORR.COUNT corr).raise bFRM 4).when (Nat.blt 0 l.ent.sent) (·.incTx p 15)

theorem endCounted_only (s : Dev) (p corr : Nat) (l : TxLine) :
    WordOnly (fun k => (k = Reg.FRM_ECC_CORR ∨ k = statusAddr bFRM) ∨ k = Reg.PRT_TX_CNT p 15 ∨ k = Reg.PRT_HALF_TX p) (s.lineFreed p l)
      (s.endCounted p corr l) :=
  (WordOnly.when _ ((WordOnly.put _ _ Reg.FRM_ECC_CORR.COUNT _ (.inl (.inl rfl))).trans (WordOnly.put _ _ (statusBit bFRM 4) _ (.inl (.inr rfl))))).trans
    (WordOnly.when _ ((incTx_only _ p 15).mono fun _ h => .inr h))

theorem endCounted_count (s : Dev) {p i : Nat} (corr : Nat) (l : TxLine) (hi : i < 15) :
    (s.endCounted p corr l).get (Reg.PRT_TX_CNT.COUNT p i) = s.get (Reg.PRT_TX_CNT.COUNT p i) := by
  have hw := (endCounted_only s p corr l).1 (Reg.PRT_TX_CNT.COUNT p i).addr
    (by simp only [Reg.PRT_TX_CNT.COUNT, Reg.PRT_TX_CNT, Reg.PRT_HALF_TX, Reg.FRM_ECC_CORR, show statusAddr bFRM = 0xC0008 from rfl]; omega)
  rw [get, hw]
  rfl

theorem endCounted_corrected (s : Dev) {p : Nat} (corr : Nat) (l : TxLine) (hp : p < 8) :
    (s.endCounted p corr l).get Reg.FRM_ECC_CORR.COUNT = (s.get Reg.FRM_ECC_CORR.COUNT + corr) % 2 ^ 32 := by
  have hsent : ∀ u : Dev, (u.when (Nat.blt 0 l.ent.sent) (·.incTx p 15)).get Reg.FRM_ECC_CORR.COUNT = u.get Reg.FRM_ECC_CORR.COUNT := fun u => by
    cases Nat.blt 0 l.ent.sent
    · rfl
    · rw [when_true, get, get, incTx_word u hp (by decide) (by decide)]
  have hlt : s.get Reg.FRM_ECC_CORR.COUNT < 2 ^ 32 := Nat.mod_lt _ (by decide)
  have hfreed : (s.lineFreed p l).get Reg.FRM_ECC_CORR.COUNT = s.get Reg.FRM_ECC_CORR.COUNT := rfl
  rw [endCounted, hsent]
  rcases Nat.eq_zero_or_pos corr with rfl | hc
  · rw [show Nat.blt 0 0 = false from rfl, when_false, hfreed, Nat.add_zero, Nat.mod_eq_of_lt hlt]
  · rw [Nat.blt_eq.mpr hc, when_true, raise, get_put_other _ _ _ _ (by decide) (by decide), incBy, get_put_same _ _ _ (by decide), hfreed]
    rfl

/-- A frame whose granules are good is sent, counted and traced, and its copy released. -/
def sentGood (s : Dev) (p : Nat) (l : TxLine) : Dev := (s.countGood (fun s i => s.incTx p i) (Nat.blt p 4) l.ent.data l.pre).emit (.frame p (l.ent.data.drop l.ent.sent) false)

theorem transmitEnd_good {s : Dev} {p : Nat} (corr : Nat) {l : TxLine} (hb : s.blockOn (bPRT p) = true) (hl : (s.port p).line = some l) :
    ∃ a b, s.transmitEnd p corr none
      = (((s.endCounted p corr l).sentGood p l).traceAt (stampOf l.start) 0 p p a b).releaseCopy l.ent.desc := by
  unfold transmitEnd
  rw [atBlock_on _ _ _ hb, hl]
  exact ⟨_, _, rfl⟩

/-- A frame with a bad granule: the event, the counts, the granule out of use. -/
def sentBad (s : Dev) (p g : Nat) (l : TxLine) : Dev :=
  let u := (((s.inc Reg.FRM_ECC_UNCORR.COUNT).raise bFRM 4).fault bFRM 0)
  let v := (u.incTx p 17).setFrame l.ent.desc { u.frameOf l.ent.desc with bad := g :: (u.frameOf l.ent.desc).bad.filter (· != g) }
  (v.bankFault (g / 2048)).emit (.frame p (l.ent.data.drop l.ent.sent) true)

theorem transmitEnd_bad {s : Dev} {p : Nat} (corr : Nat) {i g : Nat} {l : TxLine} (hb : s.blockOn (bPRT p) = true) (hl : (s.port p).line = some l)
    (hg : (s.frameOf l.ent.desc).granules[i]? = some g) :
    s.transmitEnd p corr (some i) = ((s.endCounted p corr l).sentBad p g l).releaseCopy l.ent.desc := by
  have hg' : (some i).bind (fun i => ((s.endCounted p corr l).frameOf l.ent.desc).granules[i]?) = some g := by
    rw [frameOf, (endCounted_only s p corr l).2]
    exact hg
  unfold transmitEnd
  rw [atBlock_on _ _ _ hb, hl]
  change (match (some i).bind (fun i => ((s.endCounted p corr l).frameOf l.ent.desc).granules[i]?) with
    | some g => ((s.endCounted p corr l).sentBad p g l).releaseCopy l.ent.desc
    | none => _) = _
  rw [hg']

/-- After the frame's octets are out, its trace record and the release of its copy leave port and counters. -/
theorem released_only (s : Dev) (st src inst m a b d : Nat) : LockerOnly (fun k => faultWords bTRC k ∨ bankWords k) s
    ((s.traceAt st src inst m a b).releaseCopy d) :=
  ((traceAt_only s st src inst m a b).toLocker.mono fun _ h => .inl h).trans ((releaseCopy_only _ d).mono fun _ h => .inr h)

/-- Neither the trace's words nor the banks' are counters. -/
theorem ne_of_count {k : Nat} (h : k < 0xC0000 ∨ k = Reg.FRM_ECC_CORR) : ¬ (faultWords bTRC k ∨ bankWords k) := by
  have hf : ∀ k, faultWords bTRC k → 0x280000 ≤ k := by
    rintro k (rfl | rfl | rfl | rfl | rfl) <;> decide
  rintro (h1 | h1)
  · have := hf _ h1
    simp only [Reg.FRM_ECC_CORR] at h
    omega
  · simp only [bankWords, Reg.FRM_BANK_STATE, Reg.FRM_ECC_CORR] at h h1
    omega

theorem sentGood_word (s : Dev) {p k : Nat} (l : TxLine) (hp : p < 8) (hk : 0xC0000 ≤ k) : (s.sentGood p l).word k = s.word k :=
  (countGood_only s (Nat.blt p 4) l.ent.data l.pre hp).1 k (not_lt.mpr hk)

theorem transmitEnd_good_facts {s : Dev} {p : Nat} (corr : Nat) {l : TxLine} (hp : p < 8) (hb : s.blockOn (bPRT p) = true)
    (hl : (s.port p).line = some l) :
    ((s.transmitEnd p corr none).port p).line = none ∧ Output.frame p (l.ent.data.drop l.ent.sent) false ∈ (s.transmitEnd p corr none).out
      ∧ (s.transmitEnd p corr none).get (Reg.PRT_TX_CNT.COUNT p (sizeBin (frameLen l.ent.data)))
        = (s.get (Reg.PRT_TX_CNT.COUNT p (sizeBin (frameLen l.ent.data))) + 1) % 2 ^ 32
      ∧ (s.transmitEnd p corr none).get Reg.FRM_ECC_CORR.COUNT = (s.get Reg.FRM_ECC_CORR.COUNT + corr) % 2 ^ 32 := by
  obtain ⟨a, b, he⟩ := transmitEnd_good corr hb hl
  have hrel := released_only ((s.endCounted p corr l).sentGood p l) (stampOf l.start) 0 p p a b l.ent.desc
  have hgood := countGood_only (s.endCounted p corr l) (Nat.blt p 4) l.ent.data l.pre hp
  have hbin := sizeBin_lt (frameLen l.ent.data)
  rw [he]
  refine ⟨?_, ?_, ?_, ?_⟩
  · rw [hrel.port_eq]
    refine (congrArg Port.line (hgood.port_eq p)).trans ?_
    rw [(endCounted_only s p corr l).port_eq, lineFreed_line]
  · rw [hrel.out_eq]
    exact List.mem_append_right _ (List.mem_singleton_self _)
  · rw [hrel.get_eq (ne_of_count (.inl (by simp only [Reg.PRT_TX_CNT.COUNT]; omega)))]
    refine (countGood_size (s.endCounted p corr l) p (Nat.blt p 4) l.ent.data l.pre).trans ?_
    rw [endCounted_count s corr l (by omega)]
  · rw [hrel.get_eq (ne_of_count (.inr rfl)), get, sentGood_word _ l hp (by decide)]
    exact endCounted_corrected s corr l hp

/-- The event of a bad granule outlasts what is done with the granule and its bank. -/
theorem sentBad_only (s : Dev) {p : Nat} (g : Nat) (l : TxLine) :
    ∃ u, LockerOnly (faultWords bFRM) (((s.inc Reg.FRM_ECC_UNCORR.COUNT).raise bFRM 4)) u ∧ u.bit (stickyBit bFRM 0) = true
      ∧ ∃ v, LockerOnly (fun k => (k = Reg.PRT_TX_CNT p 17 ∨ k = Reg.PRT_HALF_TX p) ∨ bankWords k) u v
        ∧ s.sentBad p g l = v.emit (.frame p (l.ent.data.drop l.ent.sent) true) :=
  ⟨_, (fault_only _ bFRM 0).toLocker, fault_sticky _ bFRM 0 (by decide) (by decide), _,
    (((incTx_only _ p 17).toFault.toLocker.trans (setLocker_only _ _ _ _ _)).mono fun _ h => .inl h).trans
      ((bankFault_only _ (g / 2048)).mono fun _ h => .inr h), rfl⟩

theorem transmitEnd_bad_facts {s : Dev} {p : Nat} (corr : Nat) {i g : Nat} {l : TxLine} (hb : s.blockOn (bPRT p) = true)
    (hl : (s.port p).line = some l) (hg : (s.frameOf l.ent.desc).granules[i]? = some g) :
    ((s.transmitEnd p corr (some i)).port p).line = none ∧ Output.frame p (l.ent.data.drop l.ent.sent) true ∈ (s.transmitEnd p corr (some i)).out
      ∧ (s.transmitEnd p corr (some i)).bit (stickyBit bFRM 0) = true := by
  obtain ⟨u, hu, hsticky, v, hv, he⟩ := sentBad_only (s.endCounted p corr l) (p := p) g l
  have hrel := releaseCopy_only (v.emit (.frame p (l.ent.data.drop l.ent.sent) true)) l.ent.desc
  have ha : stickyAddr bFRM = 0xC0020 := rfl
  rw [transmitEnd_bad corr hb hl hg, he]
  refine ⟨?_, ?_, ?_⟩
  · rw [hrel.port_eq]
    refine (congrArg Port.line (hv.port_eq p)).trans ?_
    rw [hu.port_eq]
    refine (congrArg Port.line ((endCounted_only s p corr l).port_eq p)).trans ?_
    exact lineFreed_line s p l
  · rw [hrel.out_eq]
    exact List.mem_append_right _ (List.mem_singleton_self _)
  · rw [hrel.bit_eq (by simp only [bankWords, stickyBit, ha, Reg.FRM_BANK_STATE]; omega), bit_emit,
      hv.bit_eq (by simp only [bankWords, stickyBit, ha, Reg.FRM_BANK_STATE, Reg.PRT_TX_CNT, Reg.PRT_HALF_TX]; omega), hsticky]

/-! ### A fragment ends (R122–R124) -/

/-- The end of a fragment that continues one counts. -/
def fragmentCounted (s : Dev) (p : Nat) (l : TxLine) : Dev := (s.creditSync p l.cls).when (Nat.blt 0 l.ent.sent) (·.incTx p 15)

theorem fragmentCounted_only (s : Dev) (p : Nat) (l : TxLine) :
    WordOnly (fun k => k = Reg.PRT_TX_CNT p 15 ∨ k = Reg.PRT_HALF_TX p) (s.creditSync p l.cls) (s.fragmentCounted p l) := WordOnly.when _ (incTx_only _ p 15)

/-- The fragment goes out and the frame awaits its continuation. -/
def fragmentHeld (s : Dev) (p sent : Nat) (l : TxLine) : Dev :=
  ((s.fragmentCounted p l).emit (.fragment p l.fcnt ((l.ent.data.take sent).drop l.ent.sent))).modPort p fun x => { x with
    line := none, txMs := x.txMs + (sent - l.ent.sent) + 24
    hold := some { ent := { l.ent with sent := sent }, cls := l.cls, endedAt := (s.fragmentCounted p l).smooth, fcnt := l.fcnt } }

theorem fragmentEnd_at {s : Dev} {p sent k : Nat} {l : TxLine} (hb : s.blockOn (bPRT p) = true) (hl : (s.port p).line = some l) (hpre : l.pre = true)
    (hk : s.firstBoundary p l.ent.sent (frameLen l.ent.data) = some k) (h1 : k ≤ sent) (h2 : sent + 64 ≤ frameLen l.ent.data)
    (he : s.closeBoundary p l = some sent ∨ s.expressBoundary p l k sent = true)
    (ht : s.lineStart p l + s.octetsTime p (sent - l.ent.sent + 24) ≤ s.now + 65536) : s.fragmentEnd p sent = s.fragmentHeld p sent l := by
  have hok : (decide (s.closeBoundary p l = some sent) || s.expressBoundary p l k sent) = true := by simpa using he
  unfold fragmentEnd
  rw [atBlock_on _ _ _ hb, hl]
  dsimp only
  rw [hpre, hk]
  dsimp only
  rw [if_neg (by simp only [Nat.ble_eq.mpr h1, Nat.ble_eq.mpr h2, Nat.ble_eq.mpr ht, hok]; decide)]
  rfl

theorem fragmentCounted_smooth (s : Dev) {p : Nat} (l : TxLine) (hp : p < 8) : (s.fragmentCounted p l).smooth = s.smooth := by
  have ho := fragmentCounted_only s p l
  have ha : (s.fragmentCounted p l).activeB = s.activeB := by
    rw [activeB, bit, get, ho.1 (statusBit bTIM 3).addr (by
      simp only [statusBit, show statusAddr bTIM = 0x20008 from rfl, Reg.PRT_TX_CNT, Reg.PRT_HALF_TX]; omega)]
    rfl
  have ht : (s.fragmentCounted p l).tim = s.tim := by rw [ho.2]; rfl
  rw [smooth, smooth, stepless, stepless, dist40_congr ha (by rw [ht]) (by rw [ht]) (by rw [ht]), ht]

/-! ### A held frame is abandoned (R124) -/

theorem holdAbandon_late {s : Dev} {p : Nat} {h : TxHold} (hb : s.blockOn (bPRT p) = true) (hh : (s.port p).hold = some h)
    (ht : h.endedAt + (if s.bit (Reg.GTE_PORT_CTL.GATE_EN p) then (s.schedule p (s.gclActive p)).cycle else 1000000 : Nat) * 65536 < s.smooth) :
    s.holdAbandon p = s.abandonHold p := by
  unfold holdAbandon
  rw [atBlock_on _ _ _ hb, hh]
  refine if_neg ?_
  push_cast at ht ⊢
  omega

theorem abandonHold_eq {s : Dev} {p : Nat} {h : TxHold} (hh : (s.port p).hold = some h) :
    s.abandonHold p = ((s.modPort p fun x => { x with hold := none }).dropLate p h.ent).fault bGTE 2 := by
  unfold abandonHold
  rw [hh]

theorem dropLate_count (s : Dev) {p : Nat} (e : QEnt) (hp : p < 8) :
    (s.dropLate p e).get (Reg.PRT_TX_CNT.COUNT p 17) = (s.get (Reg.PRT_TX_CNT.COUNT p 17) + 1) % 2 ^ 32 := by
  rw [(dropLate_counted s p e).get_eq, incTx_count _ _ _ (by decide)]
  rintro (⟨x, h | h⟩ | h) <;>
    simp only [bankWords, Reg.PRT_TX_CNT.COUNT, Reg.STM_CNT, Reg.STM_CTX_STAT, Reg.FRM_BANK_STATE] at h <;> omega

theorem abandonHold_facts {s : Dev} {p : Nat} {h : TxHold} (hp : p < 8) (hh : (s.port p).hold = some h) :
    ((s.abandonHold p).port p).hold = none ∧ (s.abandonHold p).bit (stickyBit bGTE 2) = true
      ∧ (s.abandonHold p).get (Reg.PRT_TX_CNT.COUNT p 17) = (s.get (Reg.PRT_TX_CNT.COUNT p 17) + 1) % 2 ^ 32 := by
  have hf := (fault_only ((s.modPort p fun x => { x with hold := none }).dropLate p h.ent) bGTE 2).toLocker
  have ha : ∀ k, faultWords bGTE k → 0xC0000 ≤ k := by
    rintro k (rfl | rfl | rfl | rfl | rfl) <;> decide
  rw [abandonHold_eq hh]
  refine ⟨?_, fault_sticky _ bGTE 2 (by decide) (by decide), ?_⟩
  · rw [hf.port_eq, (dropLate_only _ _ _).port_eq, modPort_hold]
  · rw [hf.get_eq fun h => ?_, dropLate_count _ _ hp]
    · rfl
    · have := ha _ h
      simp only [Reg.PRT_TX_CNT.COUNT] at this
      omega

end Dev

theorem exec_frameTransmitEnd (p : Fin 8) (corr : Nat) (bad : Option Nat) (s : State) :
    exec (.frameTransmitEnd p corr bad) s = devStep (·.transmitEnd p corr bad) s := rfl
theorem exec_preemptFragmentEnd (p : Fin 8) (sent : Nat) (s : State) : exec (.preemptFragmentEnd p sent) s = devStep (·.fragmentEnd p sent) s := rfl
theorem exec_holdAbandon (p : Fin 8) (s : State) : exec (.holdAbandon p) s = devStep (·.holdAbandon p) s := rfl

theorem frameTransmitEnd_good_answers (s : State) (p : Fin 8) (corr : Nat) (l : TxLine) (hb : s.dev.blockOn (bPRT p) = true)
    (hl : (s.dev.port p).line = some l) :
    Answers (.frameTransmitEnd p corr none) s fun t => (t.dev.port p).line = none ∧ Output.frame p (l.ent.data.drop l.ent.sent) false ∈ t.dev.out
      ∧ t.dev.get (Reg.PRT_TX_CNT.COUNT p (sizeBin (frameLen l.ent.data))) = (s.dev.get (Reg.PRT_TX_CNT.COUNT p (sizeBin (frameLen l.ent.data))) + 1) % 2 ^ 32
      ∧ t.dev.get Reg.FRM_ECC_CORR.COUNT = (s.dev.get Reg.FRM_ECC_CORR.COUNT + corr) % 2 ^ 32 ∧ s.sameMem t := by
  obtain ⟨hline, hout, hcount, hcorr⟩ := Dev.transmitEnd_good_facts (s := s.dev.fresh) corr p.isLt hb hl
  refine answers_devStep (exec_frameTransmitEnd p corr none s) ⟨?_, Dev.mem_settle_out _ _ _ hout, ?_, ?_, rfl, rfl⟩
  · rw [Dev.port_settle, hline]
  · rw [Dev.get_settle, hcount, Dev.get_fresh]
  · rw [Dev.get_settle, hcorr, Dev.get_fresh]

theorem frameTransmitEnd_bad_answers (s : State) (p : Fin 8) (corr i g : Nat) (l : TxLine) (hb : s.dev.blockOn (bPRT p) = true)
    (hl : (s.dev.port p).line = some l) (hg : (s.dev.frameOf l.ent.desc).granules[i]? = some g) :
    Answers (.frameTransmitEnd p corr (some i)) s fun t => (t.dev.port p).line = none ∧ Output.frame p (l.ent.data.drop l.ent.sent) true ∈ t.dev.out
      ∧ t.dev.bit (stickyBit bFRM 0) = true ∧ s.sameMem t := by
  obtain ⟨hline, hout, hsticky⟩ := Dev.transmitEnd_bad_facts (s := s.dev.fresh) corr hb hl hg
  refine answers_devStep (exec_frameTransmitEnd p corr (some i) s) ⟨?_, Dev.mem_settle_out _ _ _ hout, ?_, rfl, rfl⟩
  · rw [Dev.port_settle, hline]
  · rw [Dev.bit_settle, hsticky]

theorem preemptFragmentEnd_answers (s : State) (p : Fin 8) (sent k : Nat) (l : TxLine) (hb : s.dev.blockOn (bPRT p) = true)
    (hl : (s.dev.port p).line = some l) (hpre : l.pre = true) (hk : s.dev.firstBoundary p l.ent.sent (frameLen l.ent.data) = some k) (h1 : k ≤ sent)
    (h2 : sent + 64 ≤ frameLen l.ent.data) (he : s.dev.closeBoundary p l = some sent ∨ s.dev.expressBoundary p l k sent = true)
    (ht : s.dev.lineStart p l + s.dev.octetsTime p (sent - l.ent.sent + 24) ≤ s.dev.now + 65536) :
    Answers (.preemptFragmentEnd p sent) s fun t => (t.dev.port p).line = none
      ∧ (t.dev.port p).hold = some { ent := { l.ent with sent := sent }, cls := l.cls, endedAt := s.dev.smooth, fcnt := l.fcnt }
      ∧ Output.fragment p l.fcnt ((l.ent.data.take sent).drop l.ent.sent) ∈ t.dev.out
      ∧ (∀ k, k ≠ Reg.PRT_TX_CNT p 15 → k ≠ Reg.PRT_HALF_TX p → t.dev.word k = s.dev.word k) ∧ s.sameMem t := by
  have hend := Dev.fragmentEnd_at (s := s.dev.fresh) hb hl hpre hk h1 h2 he ht
  refine answers_devStep (exec_preemptFragmentEnd p sent s) ?_
  rw [hend]
  refine ⟨?_, ?_, Dev.mem_settle_out _ _ _ ?_, fun k h15 hhalf => ?_, rfl, rfl⟩
  · rw [Dev.port_settle, Dev.fragmentHeld, Dev.modPort_line]
  · rw [Dev.port_settle, Dev.fragmentHeld, Dev.modPort_hold, Dev.fragmentCounted_smooth _ l p.isLt]
    rfl
  · exact List.mem_append_right _ (List.mem_singleton_self _)
  · rw [Dev.word_settle]
    exact (Dev.fragmentCounted_only s.dev.fresh p l).1 k (not_or.mpr ⟨h15, hhalf⟩)

theorem holdAbandon_answers (s : State) (p : Fin 8) (h : TxHold) (hb : s.dev.blockOn (bPRT p) = true) (hh : (s.dev.port p).hold = some h)
    (ht : h.endedAt + (if s.dev.bit (Reg.GTE_PORT_CTL.GATE_EN p) then (s.dev.schedule p (s.dev.gclActive p)).cycle else 1000000 : Nat) * 65536 < s.dev.smooth) :
    Answers (.holdAbandon p) s fun t => (t.dev.port p).hold = none ∧ t.dev.bit (stickyBit bGTE 2) = true
      ∧ t.dev.get (Reg.PRT_TX_CNT.COUNT p 17) = (s.dev.get (Reg.PRT_TX_CNT.COUNT p 17) + 1) % 2 ^ 32 ∧ s.sameMem t := by
  obtain ⟨hhold, hsticky, hcount⟩ := Dev.abandonHold_facts (s := s.dev.fresh) p.isLt hh
  refine answers_devStep (exec_holdAbandon p s) ?_
  rw [Dev.holdAbandon_late (s := s.dev.fresh) hb hh ht]
  refine ⟨?_, ?_, ?_, rfl, rfl⟩
  · rw [Dev.port_settle, hhold]
  · rw [Dev.bit_settle, hsticky]
  · rw [Dev.get_settle, hcount, Dev.get_fresh]

/-- Settles O29: what follows a frame's last octet, its counters, trace and release, leaves its port's line free. -/
theorem frameTransmit : Obligations.FrameTransmit :=
  ⟨frameTransmitStart_new_answers, frameTransmitStart_continues_answers, frameTransmitEnd_good_answers, frameTransmitEnd_bad_answers,
    preemptFragmentEnd_answers, holdAbandon_answers⟩

end Sys2Proof.Machine
end

section
/-! SUPPORT. What the consumers of an angle domain leave alone (R51, R58, R59): the domains themselves, every word below the ports' windows, the Spindle's among them, and STA_GRAVE. One lemma per operation that a domain lost or taken up again, a mark, a boundary, a jump or a payload passes through, as the frame of the root has one for its own words. -/

namespace Sys2Proof.Machine

namespace Dev

/-- A word that the consumers of an angle domain may change. -/
def beyond (k : Nat) : Bool := Nat.ble 0x40000 k && k != Reg.STA_GRAVE

theorem beyond_iff {k : Nat} : beyond k = true ↔ 0x40000 ≤ k ∧ k ≠ 0x2E011C := by
  simp [beyond, Reg.STA_GRAVE]

/-- The Spindle as an observation: the angle domains, and the words that their consumers leave alone. -/
def spindle (s : Dev) : Tab AngDom × (Nat → Word) := (s.angs, fun k => if beyond k then 0 else s.word k)

theorem angs_of_spindle {s t : Dev} (h : t.spindle = s.spindle) : t.angs = s.angs := congrArg (·.1) h

theorem ang_of_spindle {s t : Dev} (h : t.spindle = s.spindle) (n : Nat) : t.ang n = s.ang n := by rw [ang, ang, angs_of_spindle h]

theorem word_of_spindle {s t : Dev} (h : t.spindle = s.spindle) {k : Nat} (hk : beyond k = false) : t.word k = s.word k := by
  have hw := congrFun (congrArg (·.2) h) k
  simpa [spindle, hk] using hw

theorem get_of_spindle {s t : Dev} (h : t.spindle = s.spindle) {f : Fld} (hk : beyond f.addr = false) : t.get f = s.get f := by
  rw [get, get, word_of_spindle h hk]

theorem spindle_of_words {s t : Dev} (hw : ∀ k, beyond k = false → t.word k = s.word k) (ha : t.angs = s.angs) : t.spindle = s.spindle := by
  have hf : (fun k => if beyond k then 0 else t.word k) = fun k => if beyond k then 0 else s.word k :=
    funext fun k => ite_congr rfl (fun _ => rfl) fun hk => hw k (by simpa using hk)
  simp only [spindle, ha, hf]

theorem spindle_of_regs {s t : Dev} (hr : t.regs = s.regs) (ha : t.angs = s.angs) : t.spindle = s.spindle :=
  spindle_of_words (fun _ _ => word_of_regs hr _) ha

/-- A frame of registers, fault units, log and trace whose words the consumers may change keeps the Spindle. -/
theorem FaultOnly.spindle {K : Nat → Prop} {s t : Dev} (h : FaultOnly K s t) (hK : ∀ k, K k → beyond k = true) : t.spindle = s.spindle := by
  obtain ⟨hw, he⟩ := h
  refine spindle_of_words (fun k hk => hw k fun hK' => ?_) (by rw [he])
  simp [hK k hK'] at hk

/-! ### Registers and control flow -/

@[simp] theorem setWord_spindle (s : Dev) {k : Nat} (w : Word) (h : beyond k = true) : (s.setWord k w).spindle = s.spindle :=
  (WordOnly.setWord (· = k) s k w rfl).toFault.spindle fun _ hk => hk ▸ h

@[simp] theorem put_spindle (s : Dev) {f : Fld} (v : Nat) (h : beyond f.addr = true) : (s.put f v).spindle = s.spindle := setWord_spindle s _ h
@[simp] theorem inc_spindle (s : Dev) {f : Fld} (h : beyond f.addr = true) : (s.inc f).spindle = s.spindle := put_spindle s _ h
@[simp] theorem incBy_spindle (s : Dev) {f : Fld} (n : Nat) (h : beyond f.addr = true) : (s.incBy f n).spindle = s.spindle := put_spindle s _ h
@[simp] theorem putBit_spindle (s : Dev) {f : Fld} (b : Bool) (h : beyond f.addr = true) : (s.putBit f b).spindle = s.spindle := put_spindle s _ h
@[simp] theorem raise_spindle (s : Dev) {b : Nat} (n : Nat) (h : beyond (statusAddr b) = true) : (s.raise b n).spindle = s.spindle := put_spindle s 1 h

@[simp] theorem when_spindle (s : Dev) (c : Bool) {f : Dev → Dev} (h : ∀ s, (f s).spindle = s.spindle) : (s.when c f).spindle = s.spindle := by
  cases c
  · rfl
  · exact h s

@[simp] theorem ite_spindle (c : Prop) [Decidable c] (s t : Dev) : (if c then s else t).spindle = if c then s.spindle else t.spindle :=
  apply_ite spindle c s t

/-- What each step of a fold over the elements of a list keeps, the fold keeps. -/
theorem foldl_keeps {α β : Type} (F : Dev → β) (l : List α) {f : Dev → α → Dev} (h : ∀ x ∈ l, ∀ s, F (f s x) = F s) (s : Dev) :
    F (l.foldl f s) = F s := by
  induction l generalizing s with
  | nil => rfl
  | cons x l ih => exact (ih (fun y hy => h y (.tail _ hy)) _).trans (h x (.head _) s)

@[simp] theorem foldl_spindle {α : Type} (l : List α) {f : Dev → α → Dev} (h : ∀ s x, (f s x).spindle = s.spindle) (s : Dev) :
    (l.foldl f s).spindle = s.spindle := foldl_keeps spindle l (fun x _ s => h s x) s

/-! ### The stores of the consumers -/

@[simp] theorem modCell_spindle (s : Dev) (c : Nat) (f : Cell → Cell) : (s.modCell c f).spindle = s.spindle := spindle_of_regs rfl rfl
@[simp] theorem setCell_spindle (s : Dev) (c : Nat) (x : Cell) : (s.setCell c x).spindle = s.spindle := spindle_of_regs rfl rfl
@[simp] theorem modChk_spindle (s : Dev) (k : Nat) (f : ChkPort → ChkPort) : (s.modChk k f).spindle = s.spindle := spindle_of_regs rfl rfl
@[simp] theorem modChan_spindle (s : Dev) (n : Nat) (f : Chan → Chan) : (s.modChan n f).spindle = s.spindle := spindle_of_regs rfl rfl
@[simp] theorem modPin_spindle (s : Dev) (p : Nat) (f : Pin → Pin) : (s.modPin p f).spindle = s.spindle := spindle_of_regs rfl rfl
@[simp] theorem setFrame_spindle (s : Dev) (d : Nat) (x : Frame) : (s.setFrame d x).spindle = s.spindle := spindle_of_regs rfl rfl
@[simp] theorem setCtx_spindle (s : Dev) (x : Nat) (c : Ctx) : (s.setCtx x c).spindle = s.spindle := spindle_of_regs rfl rfl
@[simp] theorem setSlotWaits_spindle (s : Dev) (r : Nat) (l : List SlotWait) : (s.setSlotWaits r l).spindle = s.spindle := spindle_of_regs rfl rfl

/-! ### Events, log, trace and statistics -/

@[simp] theorem fault_spindle (s : Dev) {b : Nat} (n : Nat) (h : beyond (stickyAddr b) = true) : (s.fault b n).spindle = s.spindle := by
  refine (fault_only s b n).spindle fun k hk => ?_
  rcases hk with rfl | rfl | rfl | rfl | rfl
  · exact h
  all_goals decide

@[simp] theorem logStage_spindle (s : Dev) (k b n c d : Nat) : (s.logStage k b n c d).spindle = s.spindle :=
  (logStage_only s k b n c d).spindle fun _ hk => hk ▸ (by decide)

@[simp] theorem trace_spindle (s : Dev) (src inst m a b : Nat) : (s.trace src inst m a b).spindle = s.spindle := by
  refine (traceAt_only s _ src inst m a b).spindle fun k hk => ?_
  rcases hk with rfl | rfl | rfl | rfl | rfl
  all_goals decide

@[simp] theorem incTx_spindle (s : Dev) (p : Nat) {i : Nat} (hi : i < 64) : (s.incTx p i).spindle = s.spindle := by
  refine (incTx_only s p i).toFault.spindle fun k hk => beyond_iff.mpr ?_
  rcases hk with rfl | rfl
  · simp only [Reg.PRT_TX_CNT]; omega
  · simp only [Reg.PRT_HALF_TX]; omega

/-- Of the words of a context's counters only the eighth can stand where STA_GRAVE does, and no counter has that number (R150). -/
@[simp] theorem incCtx_spindle (s : Dev) (x : Nat) {i : Nat} (hi : i % 16 ≠ 7) : (s.incCtx x i).spindle = s.spindle := by
  refine (incCtx_only s x i).toFault.spindle fun k hk => beyond_iff.mpr ?_
  rcases hk with rfl | rfl
  · simp only [Reg.STM_CNT]; omega
  · simp only [Reg.STM_CTX_STAT]; omega

/-! ### Copies of frames -/

@[simp] theorem plcMove_spindle (s : Dev) (kind cause to' frm item : Nat) : (s.plcMove kind cause to' frm item).spindle = s.spindle := by
  simp +decide [plcMove]

@[simp] theorem evacCheck_spindle (s : Dev) : s.evacCheck.spindle = s.spindle := by
  unfold evacCheck
  split
  · rfl
  · split
    · rfl
    · simp +decide
      rfl

@[simp] theorem rechoose_spindle (s : Dev) (l : List Nat) : (s.rechoose l).spindle = s.spindle := by
  have h : ∀ o, beyond (Reg.PLC_OWNER_BANKS.BANKS o).addr = true := fun o => beyond_iff.mpr (by simp only [Reg.PLC_OWNER_BANKS.BANKS]; omega)
  simp [rechoose, h]

@[simp] theorem evacStart_spindle (s : Dev) (k cause : Nat) : (s.evacStart k cause).spindle = s.spindle := by
  simp +decide [evacStart, rebank]
  rfl

@[simp] theorem evacNext_spindle (s : Dev) : s.evacNext.spindle = s.spindle := by
  unfold evacNext
  split
  · rfl
  · split
    · rw [evacStart_spindle]
      rfl
    · rfl

@[simp] theorem releaseCopy_spindle (s : Dev) (d : Nat) : (s.releaseCopy d).spindle = s.spindle := by
  simp only [releaseCopy, ite_spindle, setFrame_spindle, evacNext_spindle, evacCheck_spindle]
  exact ite_self _

@[simp] theorem dropNeverCarried_spindle (s : Dev) (p : Nat) (e : QEnt) : (s.dropNeverCarried p e).spindle = s.spindle := by
  unfold dropNeverCarried
  split <;> simp

@[simp] theorem queueCopy_spindle (s : Dev) (p c : Nat) (e : QEnt) : (s.queueCopy p c e).spindle = s.spindle := by
  unfold queueCopy
  split
  · exact dropNeverCarried_spindle s p e
  · rfl

@[simp] theorem queueRing_spindle (s : Dev) (p c : Nat) (e : QEnt) : (s.queueRing p c e).spindle = s.spindle := by
  have h : ∀ r, beyond (Reg.SHD_PASS_LATE.COUNT r).addr = true := fun r => beyond_iff.mpr (by simp only [Reg.SHD_PASS_LATE.COUNT]; omega)
  simp [queueRing, h]

@[simp] theorem sendOwn_spindle (s : Dev) (p prio : Nat) (slot : Bool) (e : QEnt) : (s.sendOwn p prio slot e).spindle = s.spindle := by
  simp [sendOwn]

@[simp] theorem placeFrame_spindle (s : Dev) (o : Owner) (shared : Bool) (data : List Octet) (copies ingress : Nat) :
    (s.placeFrame o shared data copies ingress).2.spindle = s.spindle := by
  refine Eq.trans (b := (s.stageCopy ingress).spindle) rfl ?_
  unfold stageCopy
  split <;> rfl

/-! ### Streams -/

@[simp] theorem lastEvt_spindle (s : Dev) (kind x : Nat) : (s.lastEvt kind x).spindle = s.spindle := by simp +decide [lastEvt]

@[simp] theorem refuseRef_spindle (s : Dev) (x g : Nat) : (s.refuseRef x g).spindle = s.spindle := by simp +decide [refuseRef]

@[simp] theorem refuseSend_spindle (s : Dev) (x : Nat) : (s.refuseSend x).spindle = s.spindle := by simp +decide [refuseSend]

@[simp] theorem assignSlot_spindle (s : Dev) (r from' : Nat) (w : SlotWait) : (s.assignSlot r from' w).spindle = s.spindle := by
  simp +decide [assignSlot]

@[simp] theorem releaseFrame_spindle (s : Dev) (x : Nat) (h : Held) : (s.releaseFrame x h).spindle = s.spindle := by
  have hq : beyond (Reg.STM_SEQ.SEQ x).addr = true := beyond_iff.mpr (by simp only [Reg.STM_SEQ.SEQ]; omega)
  have hl : ∀ (s : Dev) (m : Memory), ({ s with locker := m } : Dev).spindle = s.spindle := fun _ _ => rfl
  simp [releaseFrame, hq, hl]

@[simp] theorem dropTooLong_spindle (n : Nat) (s : Dev) (x : Nat) : (s.dropTooLong x n).spindle = s.spindle := by
  induction n generalizing s with
  | zero => rfl
  | succ n ih =>
    unfold dropTooLong
    split
    · split_ifs
      · simp [ih]
      · rfl
    · rfl

@[simp] theorem handover_spindle (s : Dev) (x gen : Nat) (data : List Octet) (ready : Option Nat) :
    (s.handover x gen data ready).2.spindle = s.spindle := by
  unfold handover
  dsimp only
  split
  · exact refuseRef_spindle s x gen
  · split
    · exact refuseSend_spindle s x
    · split
      · simp [apply_ite Prod.snd]
      · simp

@[simp] theorem payloadFrame_spindle (s : Dev) (l : List Octet) : (s.payloadFrame l).2.spindle = s.spindle := rfl

/-! ### Chuck -/

@[simp] theorem cmdLate_spindle (s : Dev) (k : Nat) : (s.cmdLate k).spindle = s.spindle := by
  have h : beyond (Reg.SMP_CMD_LATE.COUNT k).addr = true := beyond_iff.mpr (by simp only [Reg.SMP_CMD_LATE.COUNT]; omega)
  simp +decide [cmdLate, h]

@[simp] theorem chkSafe_spindle (s : Dev) (k : Nat) : (s.chkSafe k).spindle = s.spindle := by simp [chkSafe]

@[simp] theorem cmdPush_spindle (s : Dev) (k : Nat) (e : CmdEnt) : (s.cmdPush k e).spindle = s.spindle := by
  have h : beyond (Reg.SMP_CMD_OVF.COUNT k).addr = true := beyond_iff.mpr (by simp only [Reg.SMP_CMD_OVF.COUNT]; omega)
  unfold cmdPush
  dsimp only
  split
  · rfl
  · split
    · simp +decide [h]
    · split
      · simp
      · simp
      · split
        · split <;> simp
        · simp

@[simp] theorem chanDue_spindle (s : Dev) (n : Nat) (follow : Bool) : (s.chanDue n follow).spindle = s.spindle := by
  have h : beyond (Reg.SMP_TRIG_OVF.COUNT (n / 16)).addr = true := beyond_iff.mpr (by simp only [Reg.SMP_TRIG_OVF.COUNT]; omega)
  simp +decide [chanDue, trigOvf, h]

@[simp] theorem chanDrop_spindle (s : Dev) (n : Nat) : (s.chanDrop n).spindle = s.spindle := by simp [chanDrop]

@[simp] theorem chkDomLost_spindle (s : Dev) (d : Nat) : (s.chkDomLost d).spindle = s.spindle := by
  unfold chkDomLost
  dsimp only
  refine (foldl_spindle _ (fun s k => ?_) _).trans (foldl_spindle _ (fun s n => by simp) s)
  split
  · rfl
  · split <;> simp

@[simp] theorem chkDomBack_spindle (s : Dev) (d : Nat) : (s.chkDomBack d).spindle = s.spindle := by simp [chkDomBack]

@[simp] theorem chkBoundary_spindle (s : Dev) (d : Nat) (a : Int) : (s.chkBoundary d a).spindle = s.spindle := by simp [chkBoundary]

@[simp] theorem chkMark_spindle (s : Dev) (d i : Nat) : (s.chkMark d i).spindle = s.spindle := by simp [chkMark]

/-! ### Scribe -/

@[simp] theorem pinShow_spindle (old s : Dev) (p : Nat) : (pinShow old s p).spindle = s.spindle := by
  unfold pinShow
  dsimp only
  split_ifs
  · rfl
  · split <;> rfl

theorem atPin_spindle (s : Dev) (p : Nat) {f : Dev → Dev} (h : (f s).spindle = s.spindle) : (s.atPin p f).spindle = s.spindle := by
  rw [atPin, pinShow_spindle, h]

@[simp] theorem edgeLate_spindle (s : Dev) (p : Nat) : (s.edgeLate p).spindle = s.spindle := by
  have h : beyond (Reg.SCR_LATE.COUNT p).addr = true := beyond_iff.mpr (by simp only [Reg.SCR_LATE.COUNT]; omega)
  simp +decide [edgeLate, h]

@[simp] theorem edgeApply_spindle (s : Dev) (p : Nat) (level : Bool) : (s.edgeApply p level).spindle = s.spindle := by
  have h : beyond (Reg.SCR_PIN_STAT.LEVEL p).addr = true := beyond_iff.mpr (by simp only [Reg.SCR_PIN_STAT.LEVEL]; omega)
  unfold edgeApply
  rw [atPin_spindle]
  rw [modPin_spindle, putBit_spindle s level h]

@[simp] theorem pinEnterSafe_spindle (s : Dev) (p : Nat) (dom : Option Nat) : (s.pinEnterSafe p dom).spindle = s.spindle := by
  have h : (s.atPin p fun s => s.modPin p fun x => { x with queue := [], safeDom := dom, driven := false }).spindle = s.spindle := atPin_spindle s p rfl
  simp +decide [pinEnterSafe, h]

@[simp] theorem edgeHead_spindle (n : Nat) (s : Dev) (p : Nat) : (edgeHead n s p).spindle = s.spindle := by
  induction n generalizing s with
  | zero => rfl
  | succ n ih =>
    unfold edgeHead
    split
    · rfl
    · dsimp only
      split
      · rfl
      · simp [ih]
      · split
        · split <;> simp [ih]
        · simp [ih]

@[simp] theorem edgePush_spindle (s : Dev) {p : Nat} (hp : p < 32) (e : Edge) : (s.edgePush p e).spindle = s.spindle := by
  have h : beyond (Reg.SCR_OVF.COUNT p).addr = true := beyond_iff.mpr (by simp only [Reg.SCR_OVF.COUNT]; omega)
  simp +decide [edgePush, h]

@[simp] theorem scrDomLost_spindle (s : Dev) (d : Nat) : (s.scrDomLost d).spindle = s.spindle := by
  unfold scrDomLost
  refine foldl_spindle _ (fun s p => ?_) s
  split <;> simp

@[simp] theorem scrDomBack_spindle (s : Dev) (d : Nat) : (s.scrDomBack d).spindle = s.spindle := by
  unfold scrDomBack
  refine foldl_spindle _ (fun s p => ?_) s
  dsimp only
  split <;> simp

/-! ### The Lathe -/

@[simp] theorem celRequest_spindle (s : Dev) (c : Nat) (angle trig : Bool) : (s.celRequest c angle trig).spindle = s.spindle := by
  have h : beyond (Reg.CEL_TRIG_OVF.COUNT c).addr = true := beyond_iff.mpr (by simp only [Reg.CEL_TRIG_OVF.COUNT]; omega)
  unfold celRequest
  dsimp only
  split
  · rfl
  · split <;> simp [h]

@[simp] theorem celEvent_spindle (s : Dev) (c src : Nat) (v : Int) (ref : Option (Nat × Nat)) : (s.celEvent c src v ref).spindle = s.spindle := by
  have hu : beyond (Reg.CEL_EVT_UNBOUND.COUNT c).addr = true := beyond_iff.mpr (by simp only [Reg.CEL_EVT_UNBOUND.COUNT]; omega)
  have ho : beyond (Reg.CEL_EVT_OVF.COUNT c).addr = true := beyond_iff.mpr (by simp only [Reg.CEL_EVT_OVF.COUNT]; omega)
  unfold celEvent
  dsimp only
  split
  · rfl
  · split
    · simp [hu]
    · split
      · simp +decide [ho]
      · simp [celQueueRequest]

@[simp] theorem imageWrite_spindle (s : Dev) {f : Nat} (hf : f < 64) (o : Nat) (l : List Octet) : (s.imageWrite f o l).spindle = s.spindle := by
  induction l generalizing s o with
  | nil => rfl
  | cons v l ih =>
    unfold imageWrite
    split
    · have h : beyond (Reg.CEL_PAYLOAD f (o / 4)) = true := beyond_iff.mpr (by simp only [Reg.CEL_PAYLOAD]; omega)
      rw [ih, imageOctet, put_spindle s _ h]
    · rfl

@[simp] theorem formatSend_spindle (s : Dev) (f ready : Nat) : (s.formatSend f ready).spindle = s.spindle := by simp [formatSend]

@[simp] theorem celObjectWrite_spindle (s : Dev) (x sub : Nat) (v : List Octet) : (s.celObjectWrite x sub v).spindle = s.spindle := by
  simp +decide [celObjectWrite, pendingBit]
  rfl

theorem outEffect_spindle (s : Dev) (c b : Nat) {o : CelOut} (ho : o.out < 8) (t : Target) : (s.outEffect c b o t).spindle = s.spindle := by
  have h : beyond (Reg.CEL_OUT_VAL.VALUE c o.out).addr = true := beyond_iff.mpr (by simp only [Reg.CEL_OUT_VAL.VALUE]; omega)
  have h32 : ∀ n, n % 32 < 32 := fun n => Nat.mod_lt _ (by decide)
  have h64 : ∀ n, n % 64 < 64 := fun n => Nat.mod_lt _ (by decide)
  unfold outEffect
  dsimp only
  split
  · simp [h, h64]
  · simp [h]
  · simp [h, h32]
  · split <;> simp [h]
  · simp [h]
  · simp [h]

theorem handOn_spindle (s : Dev) (c b : Nat) {outs : List CelOut} (ho : ∀ o ∈ outs, o.out < 8) (ready : Nat) :
    (s.handOn c b outs ready).spindle = s.spindle := by
  have h : beyond (Reg.CEL_LATE.COUNT c).addr = true := beyond_iff.mpr (by simp only [Reg.CEL_LATE.COUNT]; omega)
  unfold handOn
  dsimp only
  refine (foldl_spindle _ (fun s f => formatSend_spindle s f ready) _).trans (foldl_keeps spindle _ (fun o hm s => ?_) s)
  split
  · exact outEffect_spindle s c b (ho o hm) _
  · exact inc_spindle s h

@[simp] theorem safeOutputs_spindle (s : Dev) (c : Nat) : (s.safeOutputs c).spindle = s.spindle := by
  unfold safeOutputs
  dsimp only
  rw [raise_spindle _ _ (by decide)]
  split
  · rfl
  · refine handOn_spindle s c _ (fun o ho => ?_) _
    simp only [List.mem_map, List.mem_filter, List.mem_range] at ho
    obtain ⟨i, ⟨hi, -⟩, rfl⟩ := ho
    exact hi

@[simp] theorem celSafeCheck_spindle (s : Dev) (c : Nat) : (s.celSafeCheck c).spindle = s.spindle := by
  have h : ∀ (s : Dev) (st : Nat), (s.setCelState c st).spindle = s.spindle := fun s st =>
    put_spindle s st (beyond_iff.mpr (by simp only [Reg.CEL_STAT.STATE]; omega))
  simp [celSafeCheck, h]

theorem beyond_celLate (c : Nat) : beyond (Reg.CEL_LATE.COUNT c).addr = true := beyond_iff.mpr (by simp only [Reg.CEL_LATE.COUNT]; omega)

@[simp] theorem celDomLost_spindle (s : Dev) (d : Nat) : (s.celDomLost d).spindle = s.spindle := by simp [celDomLost, beyond_celLate]

@[simp] theorem celDomBack_spindle (s : Dev) (d : Nat) : (s.celDomBack d).spindle = s.spindle := by simp [celDomBack, beyond_celLate]

@[simp] theorem celMark_spindle (s : Dev) (d i : Nat) : (s.celMark d i).spindle = s.spindle := by simp [celMark]

@[simp] theorem celBoundary_spindle (s : Dev) (d : Nat) : (s.celBoundary d).spindle = s.spindle := by simp [celBoundary]

/-! ### Jumps of the published angle (R51) -/

/-- The registers and the angle domains, which a jump leaves alone: it acts on queued work. -/
def tables (s : Dev) : Tab Word × Tab AngDom := (s.regs, s.angs)

@[simp] theorem chkJump_tables (s : Dev) (n : Nat) (a : Int) : (s.chkJump n a).tables = s.tables := by
  unfold chkJump
  refine foldl_keeps tables _ (fun k _ s => ?_) s
  split <;> rfl

@[simp] theorem scrJump_tables (s : Dev) (n : Nat) (a : Int) : (s.scrJump n a).tables = s.tables := by
  unfold scrJump
  refine foldl_keeps tables _ (fun p _ s => ?_) s
  split <;> rfl

theorem angJump_tables (s : Dev) (n : Nat) (a : Int) : (s.angJump n a).tables = s.tables := by
  simp only [angJump, apply_ite tables, chkJump_tables, scrJump_tables, ite_self]

theorem angJump_regs (s : Dev) (n : Nat) (a : Int) : (s.angJump n a).regs = s.regs := congrArg (·.1) (angJump_tables s n a)
theorem angJump_angs (s : Dev) (n : Nat) (a : Int) : (s.angJump n a).angs = s.angs := congrArg (·.2) (angJump_tables s n a)

@[simp] theorem angJump_spindle (s : Dev) (n : Nat) (a : Int) : (s.angJump n a).spindle = s.spindle :=
  spindle_of_regs (angJump_regs s n a) (angJump_angs s n a)

end Dev

end Sys2Proof.Machine
end

section
/-! SUPPORT. The states of an angle domain (R47, R53, R54, R57, R65, R66): what entering a state changes, and what a condition or a command that makes the domain INVALID leaves. -/

namespace Sys2Proof.Machine

namespace Dev

/-! ### The store of the domains -/

@[simp] theorem ang_setAng (s : Dev) (n : Nat) (x : AngDom) : (s.setAng n x).ang n = x := Tab.get_set_same _ _ _ _
@[simp] theorem ang_modAng (s : Dev) (n : Nat) (f : AngDom → AngDom) : (s.modAng n f).ang n = f (s.ang n) := ang_setAng s n _
@[simp] theorem ang_put (s : Dev) (f : Fld) (v n : Nat) : (s.put f v).ang n = s.ang n := rfl
@[simp] theorem ang_settle (old s : Dev) (n : Nat) : (settle old s).ang n = s.ang n := by simp [ang]

@[simp] theorem word_modAng (s : Dev) (n : Nat) (f : AngDom → AngDom) (k : Nat) : (s.modAng n f).word k = s.word k := rfl
@[simp] theorem get_modAng (s : Dev) (n : Nat) (g : AngDom → AngDom) (f : Fld) : (s.modAng n g).get f = s.get f := rfl
@[simp] theorem angState_settle (old s : Dev) (n : Nat) : (settle old s).angState n = s.angState n := get_settle ..

/-! ### Words of the Spindle (R405) -/

theorem statusAddr_ang : statusAddr bANG = 0x30008 := rfl
theorem stickyAddr_ang : stickyAddr bANG = 0x30020 := rfl

/-- The registers of the domains and their marks lie beyond the header, STA_GRAVE beyond the whole window: an event of ANG touches none of them. -/
theorem not_faultWords_ang {k : Nat} (h : 0x30200 ≤ k ∧ k < 0x40000 ∨ k = Reg.STA_GRAVE) : ¬ faultWords bANG k := by
  simp only [faultWords, stickyAddr_ang, Reg.STA_GRAVE, Reg.STA_LOG_LOST, Reg.TRC_LOST, show stickyAddr bTRC = 0x2F0020 from rfl,
    show statusAddr bTRC = 0x2F0008 from rfl] at h ⊢
  omega

theorem not_beyond {k : Nat} (h : k < 0x40000 ∨ k = Reg.STA_GRAVE) : beyond k = false := by
  rw [← Bool.not_eq_true, beyond_iff]
  simp only [Reg.STA_GRAVE] at h
  omega

/-! ### Entering a state (R58) -/

/-- A domain in state `st`, its published angle settled and its bit of ANG_STATUS following, before its consumers learn of it. -/
def angEnter (s : Dev) (n st : Nat) : Dev :=
  ((s.angSettle n).put (Reg.ANG_STATE.STATE n) st).putBit (statusBit bANG n) (((s.angSettle n).put (Reg.ANG_STATE.STATE n) st).angOk n)

theorem angState_put (s : Dev) (n st : Nat) : (s.put (Reg.ANG_STATE.STATE n) st).angState n = st % 8 := get_put_same s _ st (by decide : 16 + 3 ≤ 32)

/-- A change of state that does not pass between running and not running reaches no consumer. -/
theorem setAngState_quiet {s : Dev} {n st : Nat} (h : s.angOk n = (st % 8 == angValid || st % 8 == angCoasting)) : s.setAngState n st = s.angEnter n st := by
  have hn : ((s.angSettle n).put (Reg.ANG_STATE.STATE n) st).angOk n = s.angOk n := by rw [h, angOk, angState_put]
  unfold setAngState
  dsimp only
  rw [hn, if_neg (by simp), if_neg (by simp), ← hn]
  rfl

/-- Whatever its consumers do then, the Spindle is as the domain entered its state. -/
theorem setAngState_spindle (s : Dev) (n st : Nat) : (s.setAngState n st).spindle = (s.angEnter n st).spindle := by
  unfold setAngState
  dsimp only
  split
  · simp only [celDomLost_spindle, chkDomLost_spindle, scrDomLost_spindle]
    rfl
  · split
    · simp only [celDomBack_spindle, chkDomBack_spindle, scrDomBack_spindle]
      rfl
    · rfl

theorem angEnter_word (s : Dev) (n st : Nat) {k : Nat} (h1 : k ≠ Reg.ANG_STATE n) (h2 : k ≠ statusAddr bANG) : (s.angEnter n st).word k = s.word k := by
  rw [angEnter, putBit, word_put_other _ _ _ _ h2, word_put_other _ _ _ _ h1]
  rfl

/-- Of ANG_STATE only the bits of STATE change. -/
theorem angEnter_get (s : Dev) (n st : Nat) {f : Fld} (h1 : f.addr ≠ Reg.ANG_STATE n ∨ f.lo + f.w ≤ 16 ∨ 19 ≤ f.lo) (h2 : f.addr ≠ statusAddr bANG) :
    (s.angEnter n st).get f = s.get f := by
  rw [angEnter, putBit, get_put_addr _ _ _ _ h2, get_put_other _ _ _ _ (by decide : 16 + 3 ≤ 32) h1]
  rfl

theorem state_ne_status (n : Nat) : (Reg.ANG_STATE.STATE n).addr ≠ statusAddr bANG := by
  simp only [Reg.ANG_STATE.STATE, statusAddr_ang]
  omega

theorem angEnter_state (s : Dev) (n st : Nat) : (s.angEnter n st).angState n = st % 8 := by
  rw [angState, angEnter, putBit, get_put_addr _ _ _ _ (state_ne_status n)]
  exact angState_put _ n st

/-- Of ANG_STATUS only the domain's running bit changes. -/
theorem angEnter_status (s : Dev) {n m : Nat} (st : Nat) (hn : n < 8) (hm : m ≠ n) :
    (s.angEnter n st).bit (statusBit bANG m) = s.bit (statusBit bANG m) := by
  rw [angEnter, putBit, bit_put_other _ _ _ _ (by simp only [statusBit]; omega) (by simp only [statusBit]; omega),
    bit_put_other _ _ _ _ (by decide : 16 + 3 ≤ 32) (.inl (state_ne_status n).symm)]
  rfl

theorem angEnter_ang (s : Dev) (n st : Nat) : (s.angEnter n st).ang n = { s.ang n with pub := s.pubAngle n } := by
  rw [angEnter, putBit, ang_put, ang_put, angSettle, ang_modAng]

/-! ### A fall to INVALID (R57, R65, R66) -/

/-- Where the word of a domain's state stands. -/
theorem angState_window {n : Nat} (hn : n < 8) : 0x30200 ≤ Reg.ANG_STATE n ∧ Reg.ANG_STATE n < 0x40000 := by
  simp only [Reg.ANG_STATE]
  omega

/-- The words that a fall to INVALID leaves: those of the domains but ANG_STATE of this one, and STA_GRAVE. -/
def fallKeeps (n k : Nat) : Prop := (0x30200 ≤ k ∧ k < 0x40000 ∨ k = Reg.STA_GRAVE) ∧ k ≠ Reg.ANG_STATE n

section
variable {n : Nat} (hn : n < 8)
include hn

theorem angFall_reason (s : Dev) (reason : Nat) : (s.angFall n reason).get (Reg.ANG_STATE.REASON n) = reason % 16 := by
  rw [angFall, get_fault _ _ _ _ (not_faultWords_ang (.inl (angState_window hn))), raise, get_put_addr _ _ _ _ (state_ne_status n)]
  exact get_put_same _ _ _ (by decide : 24 + 4 ≤ 32)

theorem angFall_state (s : Dev) (reason : Nat) : (s.angFall n reason).angState n = angInvalid := by
  rw [angState, angFall, get_fault _ _ _ _ (not_faultWords_ang (.inl (angState_window hn))), raise, get_put_addr _ _ _ _ (state_ne_status n),
    get_put_other _ _ _ _ (by decide : 24 + 4 ≤ 32) (.inr (.inl (by decide : 16 + 3 ≤ 24))),
    get_of_spindle (setAngState_spindle _ n angInvalid) (not_beyond (.inl (angState_window hn).2))]
  exact angEnter_state _ n angInvalid

theorem angFall_event (s : Dev) (reason : Nat) :
    (s.angFall n reason).bit (statusBit bANG (8 + n)) = true ∧ (s.angFall n reason).bit (stickyBit bANG n) = true := by
  have hs : ¬ faultWords bANG (statusAddr bANG) := by unfold faultWords; decide
  refine ⟨?_, fault_sticky _ bANG n (by decide) (by omega)⟩
  rw [angFall, bit_fault _ _ _ _ hs, raise, bit_put_same _ _ _ (by simp only [statusBit]; omega) rfl]
  rfl

end

theorem angFall_word (s : Dev) {n : Nat} (reason : Nat) {k : Nat} (hk : fallKeeps n k) : (s.angFall n reason).word k = s.word k := by
  obtain ⟨hw, hne⟩ := hk
  have hst : k ≠ statusAddr bANG := by
    simp only [statusAddr_ang, Reg.STA_GRAVE] at hw ⊢
    omega
  rw [angFall, (fault_only _ bANG n).1 k (not_faultWords_ang hw), raise, word_put_other _ _ _ _ hst, word_put_other _ _ _ _ hne,
    word_of_spindle (setAngState_spindle _ n angInvalid) (not_beyond (hw.imp_left And.right)), angEnter_word _ _ _ hne hst, word_modAng]

theorem angFall_shadow (s : Dev) (n reason : Nat) :
    ((s.angFall n reason).ang n).shadow = if s.angTracked n then some (s.get (Reg.ANG_STATE.POSITION n)) else (s.ang n).shadow := by
  have hf : ∀ s : Dev, (s.fault bANG n).ang n = s.ang n := fun s => by rw [ang, (fault_only s bANG n).2]; rfl
  rw [angFall, hf, raise, ang_put, ang_put, ang_of_spindle (setAngState_spindle _ n angInvalid), angEnter_ang, ang_modAng]

/-- A condition, in a core clock without a RESYNC or PHASE_FLIP of the domain (R65). -/
theorem angInvalidate_eq {s : Dev} {n : Nat} (reason : Nat) (h : (s.ang n).cmdAt ≠ some s.up) : s.angInvalidate n reason = s.angFall n reason := if_neg h

end Dev

end Sys2Proof.Machine
end

section
/-! SUPPORT. An accepted edge of a VALID tooth domain (R48, R50, R51, R53, R61). -/

namespace Sys2Proof.Machine

namespace Dev

theorem get_of_word {s t : Dev} {f : Fld} (h : t.word f.addr = s.word f.addr) : t.get f = s.get f := by rw [get, get, h]

/-- The tooth angle rests on ANG_SRC, ANG_TOOTH and the phase offset in force (R48, R57). -/
theorem toothAngle_congr {s t : Dev} {n : Nat} (hs : t.word (Reg.ANG_SRC n) = s.word (Reg.ANG_SRC n)) (ht : t.word (Reg.ANG_TOOTH n) = s.word (Reg.ANG_TOOTH n))
    (ho : (t.ang n).ofs = (s.ang n).ofs) (c : Int) (p : Nat) : t.toothAngle n c p = s.toothAngle n c p := by
  have hk : t.get (Reg.ANG_SRC.KIND n) = s.get (Reg.ANG_SRC.KIND n) := get_of_word hs
  have he : t.get (Reg.ANG_SRC.EDGE n) = s.get (Reg.ANG_SRC.EDGE n) := get_of_word hs
  have hr : t.get (Reg.ANG_SRC.REVS2 n) = s.get (Reg.ANG_SRC.REVS2 n) := get_of_word hs
  have hn : t.get (Reg.ANG_TOOTH.TEETH n) = s.get (Reg.ANG_TOOTH.TEETH n) := get_of_word ht
  rw [toothAngle, toothAngle, angP, angP, angRev, angRev, angMains, angMains, angTeeth, angTeeth, bit, bit, hk, he, hr, hn, ho]

/-! ### Settling the published angle leaves the position and the pattern (R51, R53) -/

@[simp] theorem ang_angSettle (s : Dev) (n : Nat) : (s.angSettle n).ang n = { s.ang n with pub := s.pubAngle n } := by rw [angSettle, ang_modAng]
@[simp] theorem get_angSettle (s : Dev) (n : Nat) (f : Fld) : (s.angSettle n).get f = s.get f := rfl
@[simp] theorem angState_angSettle (s : Dev) (n : Nat) : (s.angSettle n).angState n = s.angState n := rfl
@[simp] theorem angMains_angSettle (s : Dev) (n : Nat) : (s.angSettle n).angMains n = s.angMains n := rfl
@[simp] theorem angMissing_angSettle (s : Dev) (n : Nat) : (s.angSettle n).angMissing n = s.angMissing n := rfl
@[simp] theorem angRev_angSettle (s : Dev) (n : Nat) : (s.angSettle n).angRev n = s.angRev n := rfl
@[simp] theorem posNext_angSettle (s : Dev) (n p : Nat) : (s.angSettle n).posNext n p = s.posNext n p := rfl
@[simp] theorem isGap_angSettle (s : Dev) (n iv : Nat) : (s.angSettle n).isGap n iv = s.isGap n iv := by simp only [isGap, ang_angSettle, get_angSettle]
@[simp] theorem sinceEdge_angSettle (s : Dev) (n : Nat) (se : Int) : (s.angSettle n).sinceEdge n se = s.sinceEdge n se := by
  simp only [sinceEdge, ang_angSettle]

theorem bwAdapt_word (s : Dev) (n iv sp : Nat) {k : Nat} (hk : k ≠ Reg.ANG_TRACK n) : (s.bwAdapt n iv sp).word k = s.word k := by
  have hput : ∀ v, (s.put (Reg.ANG_TRACK.BW_NOW n) v).word k = s.word k := fun v => word_put_other s _ v k hk
  simp only [bwAdapt, apply_ite (fun d : Dev => d.word k), word_modAng, hput, ite_self]

theorem bwAdapt_ofs (s : Dev) (n iv sp : Nat) : ((s.bwAdapt n iv sp).ang n).ofs = (s.ang n).ofs := by
  simp only [bwAdapt, apply_ite (fun d : Dev => (d.ang n).ofs), ang_modAng, ang_put, ite_self]

/-- The tracking loop changes no word but ANG_TRACK, and not the phase offset. -/
theorem angTrack_word (s : Dev) (n iv sp : Nat) (adapt : Bool) {k : Nat} (hk : k ≠ Reg.ANG_TRACK n) : (s.angTrack n iv sp adapt).word k = s.word k := by
  cases adapt
  · rfl
  · exact bwAdapt_word s n iv sp hk

theorem angTrack_ofs (s : Dev) (n iv sp : Nat) (adapt : Bool) : ((s.angTrack n iv sp adapt).ang n).ofs = (s.ang n).ofs := by
  unfold angTrack
  dsimp only
  rw [ang_modAng]
  cases adapt
  · rfl
  · exact bwAdapt_ofs s n iv sp

/-- A record for publication touches the waiting records alone. -/
theorem angRecord_tables (s : Dev) (n : Nat) : (s.angRecord n).regs = s.regs ∧ ∃ r d, (s.angRecord n).ang n = { s.ang n with recs := r, pubDiv := d } := by
  unfold angRecord
  dsimp only
  split
  · exact ⟨rfl, _, _, rfl⟩
  · split
    · exact ⟨rfl, _, _, ang_setAng s n _⟩
    · exact ⟨rfl, _, _, ang_setAng s n _⟩

/-- The loop has taken the interval that edge `se` ends, where it is not empty. -/
def edgeTracked (s : Dev) (n : Nat) (se : Int) : Dev :=
  if (s.sinceEdge n se).getD 0 = 0 then s.angSettle n
  else (s.angSettle n).angTrack n ((s.sinceEdge n se).getD 0) (s.posNext n (s.get (Reg.ANG_STATE.POSITION n))).2.1 true

/-- An edge at the next position has been taken: the internal angle restarts there, and the published angle holds where it has gone beyond. -/
def edgeTaken (s : Dev) (n : Nat) (se : Int) : Dev :=
  let next := s.posNext n (s.get (Reg.ANG_STATE.POSITION n))
  ((((s.edgeTracked n se).angAt n next.1 ((s.ang n).cyc + next.2.2) se).modAng n fun y =>
    { y with pub := max (s.pubAngle n) y.base, index := false, good := false }).angJump n (s.pubAngle n)).angRecord n

/-- An edge whose interval is a gap where the pattern expects one, and only there, is taken. -/
theorem forwardEdge_taken {s : Dev} {n last : Nat} {se : Int} (hv : s.angState n = angValid) (hk : s.get (Reg.ANG_SRC.KIND n) = 1) (hm : s.angMissing n ≠ 0)
    (hl : (s.ang n).lastIv = some last)
    (hgap : s.isGap n ((s.sinceEdge n se).getD 0) = decide (s.get (Reg.ANG_STATE.POSITION n) / s.angRev n
      < (s.get (Reg.ANG_STATE.POSITION n) + (s.posNext n (s.get (Reg.ANG_STATE.POSITION n))).2.1) / s.angRev n)) :
    s.forwardEdge n se = s.edgeTaken n se := by
  have hb : ∀ a b, Nat.blt a b = decide (a < b) := fun a b => by rw [Bool.eq_iff_iff]; simp
  have hmains : s.angMains n = false := by simp [angMains, hk]
  have hval : (s.angState n == angCoasting) = false := by rw [hv]; rfl
  unfold forwardEdge
  dsimp only
  simp only [sinceEdge_angSettle, isGap_angSettle, angState_angSettle, angMains_angSettle, angMissing_angSettle, posNext_angSettle, angRev_angSettle,
    get_angSettle, ang_angSettle, hval, hmains, hl, hgap, hb, hm, ne_eq, not_false_eq_true, Option.isSome_some, Bool.true_and, bne_self_eq_false,
    Bool.false_eq_true, if_false, if_true, false_and]
  rfl

/-- A wide enough pulse of a VALID tooth domain without a sense of direction is a forward edge. -/
theorem acceptedEdge_forward {s : Dev} {n width : Nat} (cam : Bool) (hg : s.isGrave bANG = false) (hv : s.angState n = angValid)
    (hk : s.get (Reg.ANG_SRC.KIND n) = 1) (hd : s.get (Reg.ANG_SRC.DIR_MODE n) = 0) (hw : s.get (Reg.ANG_SRC.FILT n) * 10 ≤ width) :
    s.acceptedEdge n false cam width = s.forwardEdge n s.edgeTime := by
  unfold acceptedEdge
  dsimp only
  simp [hg, hv, hk, hd, hw]

theorem edgeTracked_word (s : Dev) (n : Nat) (se : Int) {k : Nat} (hk : k ≠ Reg.ANG_TRACK n) : (s.edgeTracked n se).word k = s.word k := by
  unfold edgeTracked
  split
  · rfl
  · exact angTrack_word (s.angSettle n) n _ _ true hk

theorem edgeTracked_ofs (s : Dev) (n : Nat) (se : Int) : ((s.edgeTracked n se).ang n).ofs = (s.ang n).ofs := by
  unfold edgeTracked
  split
  · rw [ang_angSettle]
  · rw [angTrack_ofs, ang_angSettle]

/-- The registers of a domain that takes an edge are those of the tracking loop with the new position. -/
theorem edgeTaken_regs (s : Dev) (n : Nat) (se : Int) :
    (s.edgeTaken n se).regs = ((s.edgeTracked n se).put (Reg.ANG_STATE.POSITION n) (s.posNext n (s.get (Reg.ANG_STATE.POSITION n))).1).regs := by
  rw [edgeTaken, (angRecord_tables _ n).1, angJump_regs]
  rfl

theorem edgeTaken_word (s : Dev) (n : Nat) (se : Int) {k : Nat} (h1 : k ≠ Reg.ANG_STATE n) (h2 : k ≠ Reg.ANG_TRACK n) :
    (s.edgeTaken n se).word k = s.word k := by
  rw [word_of_regs (edgeTaken_regs s n se), word_put_other _ _ _ _ h1, edgeTracked_word s n se h2]

theorem edgeTaken_state (s : Dev) (n : Nat) (se : Int) : (s.edgeTaken n se).angState n = s.angState n := by
  rw [angState, get_of_regs (edgeTaken_regs s n se), get_put_other _ _ _ _ (by decide : 0 + 11 ≤ 32) (.inr (.inr (by decide : 0 + 11 ≤ 16)))]
  refine get_of_word (edgeTracked_word s n se ?_)
  simp only [Reg.ANG_STATE.STATE, Reg.ANG_TRACK]
  omega

theorem edgeTaken_position (s : Dev) (n : Nat) (se : Int) :
    (s.edgeTaken n se).get (Reg.ANG_STATE.POSITION n) = (s.posNext n (s.get (Reg.ANG_STATE.POSITION n))).1 % 2 ^ 11 := by
  rw [get_of_regs (edgeTaken_regs s n se)]
  exact get_put_same _ _ _ (by decide : 0 + 11 ≤ 32)

/-- The angles of a domain that takes an edge (R48, R51). -/
theorem edgeTaken_ang (s : Dev) (n : Nat) (se : Int) :
    let next := s.posNext n (s.get (Reg.ANG_STATE.POSITION n))
    let x := (s.edgeTaken n se).ang n
    x.cyc = (s.ang n).cyc + next.2.2 ∧ x.base = s.toothAngle n x.cyc next.1 ∧ x.edgeAt = some se ∧ s.pubAngle n ≤ x.pub := by
  intro next x
  have hangle : ((s.edgeTracked n se).put (Reg.ANG_STATE.POSITION n) next.1).toothAngle n ((s.ang n).cyc + next.2.2) next.1
      = s.toothAngle n ((s.ang n).cyc + next.2.2) next.1 := by
    refine toothAngle_congr ?_ ?_ (by rw [ang_put, edgeTracked_ofs]) _ _
    · rw [word_put_other _ _ _ _ (by simp only [Reg.ANG_STATE.POSITION, Reg.ANG_SRC]; omega),
        edgeTracked_word s n se (by simp only [Reg.ANG_SRC, Reg.ANG_TRACK]; omega)]
    · rw [word_put_other _ _ _ _ (by simp only [Reg.ANG_STATE.POSITION, Reg.ANG_TOOTH]; omega),
        edgeTracked_word s n se (by simp only [Reg.ANG_TOOTH, Reg.ANG_TRACK]; omega)]
  obtain ⟨r, d, hx⟩ := (angRecord_tables ((((s.edgeTracked n se).angAt n next.1 ((s.ang n).cyc + next.2.2) se).modAng n fun y =>
    { y with pub := max (s.pubAngle n) y.base, index := false, good := false }).angJump n (s.pubAngle n)) n).2
  have hj : ∀ d : Dev, (d.angJump n (s.pubAngle n)).ang n = d.ang n := fun d => by rw [ang, ang, angJump_angs]
  rw [hj, ang_modAng, angAt, ang_modAng] at hx
  have hx' : x = _ := hx
  rw [hx']
  exact ⟨rfl, hangle, rfl, le_max_left _ _⟩

end Dev

theorem exec_acceptedEdge (n : Fin 8) (index cam : Bool) (width : Nat) (s : State) :
    exec (.acceptedEdge n index cam width) s = devStep (·.atBlock bANG (·.acceptedEdge n index cam width)) s := rfl

theorem acceptedEdge_answers (s : State) (n : Fin 8) (cam : Bool) (width last : Nat) (hb : s.dev.blockOn bANG = true) (hg : s.dev.isGrave bANG = false)
    (hv : s.dev.angState n = angValid) (hk : s.dev.get (Reg.ANG_SRC.KIND n) = 1) (hd : s.dev.get (Reg.ANG_SRC.DIR_MODE n) = 0)
    (hw : s.dev.get (Reg.ANG_SRC.FILT n) * 10 ≤ width) (hm : s.dev.angMissing n ≠ 0) (hl : (s.dev.ang n).lastIv = some last)
    (hgap : s.dev.isGap n ((s.dev.sinceEdge n s.dev.edgeTime).getD 0) = decide (s.dev.get (Reg.ANG_STATE.POSITION n) / s.dev.angRev n
      < (s.dev.get (Reg.ANG_STATE.POSITION n) + (s.dev.posNext n (s.dev.get (Reg.ANG_STATE.POSITION n))).2.1) / s.dev.angRev n)) :
    Answers (.acceptedEdge n false cam width) s fun t =>
      t.dev.angState n = angValid ∧ t.dev.get (Reg.ANG_STATE.POSITION n) = (s.dev.posNext n (s.dev.get (Reg.ANG_STATE.POSITION n))).1 % 2 ^ 11
        ∧ (t.dev.ang n).cyc = (s.dev.ang n).cyc + (s.dev.posNext n (s.dev.get (Reg.ANG_STATE.POSITION n))).2.2
        ∧ (t.dev.ang n).base = s.dev.toothAngle n (t.dev.ang n).cyc (s.dev.posNext n (s.dev.get (Reg.ANG_STATE.POSITION n))).1
        ∧ (t.dev.ang n).edgeAt = some s.dev.edgeTime ∧ s.dev.pubAngle n ≤ (t.dev.ang n).pub
        ∧ (∀ k, k ≠ Reg.ANG_STATE n → k ≠ Reg.ANG_TRACK n → t.dev.word k = s.dev.word k) ∧ s.sameMem t := by
  refine answers_atBlock (exec_acceptedEdge n false cam width s) hb ?_
  rw [Dev.acceptedEdge_forward (s := s.dev.fresh) cam hg hv hk hd hw, Dev.forwardEdge_taken (s := s.dev.fresh) (se := s.dev.fresh.edgeTime) hv hk hm hl hgap]
  obtain ⟨hcyc, hbase, hedge, hpub⟩ := s.dev.fresh.edgeTaken_ang n s.dev.fresh.edgeTime
  refine ⟨?_, ?_, ?_, ?_, ?_, ?_, fun k h1 h2 => ?_, rfl, rfl⟩
  · rw [Dev.angState_settle, Dev.edgeTaken_state]
    exact hv
  · rw [Dev.get_settle, Dev.edgeTaken_position]
    rfl
  · rw [Dev.ang_settle, hcyc]
    rfl
  · rw [Dev.ang_settle, hbase]
    rfl
  · rw [Dev.ang_settle, hedge]
    rfl
  · rw [Dev.ang_settle]
    exact hpub
  · rw [Dev.word_settle, Dev.edgeTaken_word _ _ _ h1 h2]
    rfl

end Sys2Proof.Machine
end

section
/-! SUPPORT. Missing teeth, coasting and the time-out of a remote domain (R53, R63, R65, R66). -/

namespace Sys2Proof.Machine

namespace Dev

/-! ### Coasting (R53, R63) -/

/-- The domain begins to coast, counted. -/
def coastEntered (s : Dev) (n : Nat) : Dev := (s.angEnter n angCoasting).inc (Reg.ANG_COAST_CNT.COUNT n)

theorem setAngState_coasting {s : Dev} {n : Nat} (h : s.angOk n = true) : s.setAngState n angCoasting = s.angEnter n angCoasting :=
  setAngState_quiet (by rw [h]; rfl)

theorem angOk_of_valid {s : Dev} {n : Nat} (h : s.angState n = angValid) : s.angOk n = true := by rw [angOk, h]; rfl

theorem coastEntered_state (s : Dev) (n : Nat) : (s.coastEntered n).angState n = angCoasting := by
  rw [angState, coastEntered, inc, get_put_addr _ _ _ _ (by simp only [Reg.ANG_STATE.STATE, Reg.ANG_COAST_CNT.COUNT]; omega)]
  exact angEnter_state s n angCoasting

theorem coastEntered_count (s : Dev) (n : Nat) :
    (s.coastEntered n).get (Reg.ANG_COAST_CNT.COUNT n) = (s.get (Reg.ANG_COAST_CNT.COUNT n) + 1) % 2 ^ 32 := by
  rw [coastEntered, inc, get_put_same _ _ _ (by decide : 0 + 32 ≤ 32), angEnter_get]
  · rfl
  · simp only [Reg.ANG_COAST_CNT.COUNT, Reg.ANG_STATE]; omega
  · simp only [Reg.ANG_COAST_CNT.COUNT, statusAddr_ang]; omega

theorem coastEntered_word (s : Dev) {n k : Nat} (h1 : k ≠ Reg.ANG_STATE n) (h2 : k ≠ Reg.ANG_COAST_CNT n) (h3 : k ≠ statusAddr bANG) :
    (s.coastEntered n).word k = s.word k := by
  rw [coastEntered, inc, word_put_other _ _ _ _ h2, angEnter_word s n angCoasting h1 h3]

theorem coastEntered_ang (s : Dev) (n : Nat) : (s.coastEntered n).ang n = { s.ang n with pub := s.pubAngle n } := by
  rw [coastEntered, inc, ang_put, angEnter_ang]

/-- The domain after one more missing tooth: a VALID one coasts (R53). -/
def toothDeclared (s : Dev) (n : Nat) : Dev :=
  let t := s.setAng n { s.ang n with declared := (s.ang n).declared + 1 }
  if s.angState n = angValid then t.coastEntered n else t

/-- The time of the next missing tooth has come (R53). -/
def toothDue (s : Dev) (n : Nat) : Prop :=
  (8 * ((s.ang n).declared + (s.posNext n (s.get (Reg.ANG_STATE.POSITION n))).2.1) + s.get (Reg.ANG_TOOTH.MISS n)) * (s.ang n).th.1
    ≤ (s.stepless - (s.ang n).edgeAt.getD s.stepless).toNat * 8 * (s.ang n).th.2

theorem toothDeclared_keeps (s : Dev) (n : Nat) : (s.toothDeclared n).get (Reg.ANG_SRC.COAST_TEETH n) = s.get (Reg.ANG_SRC.COAST_TEETH n)
    ∧ ((s.toothDeclared n).ang n).cmdAt = (s.ang n).cmdAt ∧ (s.toothDeclared n).up = s.up := by
  unfold toothDeclared
  dsimp only
  split
  · refine ⟨?_, by rw [coastEntered_ang, ang_setAng], rfl⟩
    rw [get, coastEntered_word]
    · rfl
    · simp only [Reg.ANG_SRC.COAST_TEETH, Reg.ANG_STATE]; omega
    · simp only [Reg.ANG_SRC.COAST_TEETH, Reg.ANG_COAST_CNT]; omega
    · simp only [Reg.ANG_SRC.COAST_TEETH, statusAddr_ang]; omega
  · exact ⟨rfl, by rw [ang_setAng], rfl⟩

theorem missingTooth_due {s : Dev} {n : Nat} (hok : s.angOk n = true) (hk : s.get (Reg.ANG_SRC.KIND n) = 1) (hth : (s.ang n).th.1 ≠ 0) (hdue : s.toothDue n) :
    s.missingTooth n = if max 1 (s.get (Reg.ANG_SRC.COAST_TEETH n)) ≤ (s.ang n).declared + 1 then (s.toothDeclared n).angInvalidate n 1 else s.toothDeclared n := by
  have hd : Nat.ble _ _ = true := Nat.ble_eq.mpr hdue
  have hs : (if (s.setAng n { s.ang n with declared := (s.ang n).declared + 1 }).angState n = angValid then
      ((s.setAng n { s.ang n with declared := (s.ang n).declared + 1 }).setAngState n angCoasting).inc (Reg.ANG_COAST_CNT.COUNT n)
      else s.setAng n { s.ang n with declared := (s.ang n).declared + 1 }) = s.toothDeclared n := by
    rw [setAngState_coasting (show (s.setAng n _).angOk n = true from hok)]
    rfl
  unfold missingTooth
  dsimp only
  rw [if_neg (by simp [hok, hk, hth, hd]), hs, (toothDeclared_keeps s n).1]

theorem missingTooth_coasts {s : Dev} {n : Nat} (hk : s.get (Reg.ANG_SRC.KIND n) = 1) (hth : (s.ang n).th.1 ≠ 0) (hdue : s.toothDue n)
    (hv : s.angState n = angValid) (hmore : (s.ang n).declared + 1 < s.get (Reg.ANG_SRC.COAST_TEETH n)) :
    s.missingTooth n = (s.setAng n { s.ang n with declared := (s.ang n).declared + 1 }).coastEntered n := by
  rw [missingTooth_due (angOk_of_valid hv) hk hth hdue, if_neg (by omega)]
  exact if_pos hv

theorem missingTooth_last {s : Dev} {n : Nat} (hk : s.get (Reg.ANG_SRC.KIND n) = 1) (hth : (s.ang n).th.1 ≠ 0) (hdue : s.toothDue n)
    (hok : s.angOk n = true) (hc : (s.ang n).cmdAt ≠ some s.up) (hlast : s.get (Reg.ANG_SRC.COAST_TEETH n) ≤ (s.ang n).declared + 1) :
    s.missingTooth n = (s.toothDeclared n).angFall n 1 := by
  obtain ⟨-, hcmd, hup⟩ := toothDeclared_keeps s n
  rw [missingTooth_due hok hk hth hdue, if_pos (by omega), angInvalidate_eq 1 (by rwa [hcmd, hup])]

theorem remoteCoasting_due {s : Dev} {n : Nat} (hk : s.get (Reg.ANG_SRC.KIND n) = 3) (hv : s.angState n = angValid) (hi : (s.ang n).payIvl ≠ 0)
    (ht : 3 * (s.ang n).payIvl ≤ 2 * (s.up - (s.ang n).payAt.getD s.up)) : s.remoteCoasting n = s.coastEntered n := by
  unfold remoteCoasting
  dsimp only
  rw [if_pos ⟨hk, hv, hi, ht⟩, setAngState_coasting (angOk_of_valid hv)]
  rfl

theorem remoteTimeout_due {s : Dev} {n : Nat} (hk : s.get (Reg.ANG_SRC.KIND n) = 3) (ho : s.angState n ≠ angOff) (hi : s.angState n ≠ angInvalid)
    (hc : (s.ang n).cmdAt ≠ some s.up) (ht : max 1 (s.get (Reg.ANG_REMOTE.TIMEOUT n)) * 1000 ≤ s.up - (s.ang n).payAt.getD (s.ang n).searchAt) :
    s.remoteTimeout n = s.angFall n 4 := by
  unfold remoteTimeout
  dsimp only
  rw [if_pos ⟨hk, ho, hi, ht⟩, angInvalidate_eq 4 hc]

end Dev

theorem exec_missingTooth (n : Fin 8) (s : State) : exec (.missingTooth n) s = devStep (·.atBlock bANG (·.missingTooth n)) s := rfl
theorem exec_remoteCoasting (n : Fin 8) (s : State) : exec (.remoteCoasting n) s = devStep (·.atBlock bANG (·.remoteCoasting n)) s := rfl
theorem exec_remoteTimeout (n : Fin 8) (s : State) : exec (.remoteTimeout n) s = devStep (·.atBlock bANG (·.remoteTimeout n)) s := rfl

/-- What a fall to INVALID shows at the end of the command. -/
theorem angFall_settled (old s : Dev) (n : Fin 8) {reason : Nat} (hr : reason < 16) :
    (Dev.settle old (s.angFall n reason)).get (Reg.ANG_STATE.REASON n) = reason
      ∧ (Dev.settle old (s.angFall n reason)).bit (statusBit bANG (8 + n)) = true ∧ (Dev.settle old (s.angFall n reason)).bit (stickyBit bANG n) = true := by
  obtain ⟨hst, hsk⟩ := s.angFall_event n.isLt reason
  refine ⟨?_, by rw [Dev.bit_settle, hst], by rw [Dev.bit_settle, hsk]⟩
  rw [Dev.get_settle, s.angFall_reason n.isLt, Nat.mod_eq_of_lt hr]

/-- What the entry to COASTING shows at the end of the command. -/
theorem coastEntered_settled (old s : Dev) (n : Nat) :
    (Dev.settle old (s.coastEntered n)).angState n = angCoasting
      ∧ (Dev.settle old (s.coastEntered n)).get (Reg.ANG_COAST_CNT.COUNT n) = (s.get (Reg.ANG_COAST_CNT.COUNT n) + 1) % 2 ^ 32
      ∧ ∀ k, k ≠ Reg.ANG_STATE n → k ≠ Reg.ANG_COAST_CNT n → k ≠ statusAddr bANG → (Dev.settle old (s.coastEntered n)).word k = s.word k := by
  refine ⟨?_, ?_, fun k h1 h2 h3 => ?_⟩
  · rw [Dev.angState_settle, Dev.coastEntered_state]
  · rw [Dev.get_settle, Dev.coastEntered_count]
  · rw [Dev.word_settle, Dev.coastEntered_word s h1 h2 h3]

section
variable (s : State) (n : Fin 8) (hb : s.dev.blockOn bANG = true)
include hb

theorem missingTooth_coasts_answers (hk : s.dev.get (Reg.ANG_SRC.KIND n) = 1) (hth : (s.dev.ang n).th.1 ≠ 0) (hdue : s.dev.toothDue n)
    (hv : s.dev.angState n = angValid) (hmore : (s.dev.ang n).declared + 1 < s.dev.get (Reg.ANG_SRC.COAST_TEETH n)) :
    Answers (.missingTooth n) s fun t => t.dev.angState n = angCoasting
      ∧ t.dev.get (Reg.ANG_COAST_CNT.COUNT n) = (s.dev.get (Reg.ANG_COAST_CNT.COUNT n) + 1) % 2 ^ 32 ∧ (t.dev.ang n).declared = (s.dev.ang n).declared + 1
      ∧ (∀ k, k ≠ Reg.ANG_STATE n → k ≠ Reg.ANG_COAST_CNT n → k ≠ statusAddr bANG → t.dev.word k = s.dev.word k) ∧ s.sameMem t := by
  refine answers_atBlock (exec_missingTooth n s) hb ?_
  rw [Dev.missingTooth_coasts (s := s.dev.fresh) hk hth hdue hv hmore]
  obtain ⟨hst, hcnt, hwords⟩ := coastEntered_settled s.dev.fresh (s.dev.fresh.setAng n { s.dev.fresh.ang n with declared := (s.dev.fresh.ang n).declared + 1 }) n
  refine ⟨hst, hcnt, ?_, hwords, rfl, rfl⟩
  rw [Dev.ang_settle, Dev.coastEntered_ang, Dev.ang_setAng]
  rfl

theorem missingTooth_last_answers (hk : s.dev.get (Reg.ANG_SRC.KIND n) = 1) (hth : (s.dev.ang n).th.1 ≠ 0) (hdue : s.dev.toothDue n)
    (hok : s.dev.angOk n = true) (hc : (s.dev.ang n).cmdAt ≠ some s.dev.up) (hlast : s.dev.get (Reg.ANG_SRC.COAST_TEETH n) ≤ (s.dev.ang n).declared + 1) :
    Answers (.missingTooth n) s fun t => t.dev.get (Reg.ANG_STATE.REASON n) = 1 ∧ t.dev.bit (statusBit bANG (8 + n)) = true
      ∧ t.dev.bit (stickyBit bANG n) = true ∧ s.sameMem t := by
  refine answers_atBlock (exec_missingTooth n s) hb ?_
  rw [Dev.missingTooth_last (s := s.dev.fresh) hk hth hdue hok hc hlast]
  obtain ⟨hr, hst, hsk⟩ := angFall_settled s.dev.fresh (s.dev.fresh.toothDeclared n) n (reason := 1) (by decide)
  exact ⟨hr, hst, hsk, rfl, rfl⟩

theorem remoteCoasting_answers (hk : s.dev.get (Reg.ANG_SRC.KIND n) = 3) (hv : s.dev.angState n = angValid) (hi : (s.dev.ang n).payIvl ≠ 0)
    (ht : 3 * (s.dev.ang n).payIvl ≤ 2 * (s.dev.up - (s.dev.ang n).payAt.getD s.dev.up)) :
    Answers (.remoteCoasting n) s fun t => t.dev.angState n = angCoasting
      ∧ t.dev.get (Reg.ANG_COAST_CNT.COUNT n) = (s.dev.get (Reg.ANG_COAST_CNT.COUNT n) + 1) % 2 ^ 32
      ∧ (∀ k, k ≠ Reg.ANG_STATE n → k ≠ Reg.ANG_COAST_CNT n → k ≠ statusAddr bANG → t.dev.word k = s.dev.word k) ∧ s.sameMem t := by
  refine answers_atBlock (exec_remoteCoasting n s) hb ?_
  rw [Dev.remoteCoasting_due (s := s.dev.fresh) hk hv hi ht]
  obtain ⟨hst, hcnt, hwords⟩ := coastEntered_settled s.dev.fresh s.dev.fresh n
  exact ⟨hst, hcnt, hwords, rfl, rfl⟩

theorem remoteTimeout_answers (hk : s.dev.get (Reg.ANG_SRC.KIND n) = 3) (ho : s.dev.angState n ≠ angOff) (hi : s.dev.angState n ≠ angInvalid)
    (hc : (s.dev.ang n).cmdAt ≠ some s.dev.up)
    (ht : max 1 (s.dev.get (Reg.ANG_REMOTE.TIMEOUT n)) * 1000 ≤ s.dev.up - (s.dev.ang n).payAt.getD (s.dev.ang n).searchAt) :
    Answers (.remoteTimeout n) s fun t => t.dev.get (Reg.ANG_STATE.REASON n) = 4 ∧ t.dev.bit (statusBit bANG (8 + n)) = true
      ∧ t.dev.bit (stickyBit bANG n) = true ∧ s.sameMem t := by
  refine answers_atBlock (exec_remoteTimeout n s) hb ?_
  rw [Dev.remoteTimeout_due (s := s.dev.fresh) hk ho hi hc ht]
  obtain ⟨hr, hst, hsk⟩ := angFall_settled s.dev.fresh s.dev.fresh n (reason := 4) (by decide)
  exact ⟨hr, hst, hsk, rfl, rfl⟩

end

/-- Settles O21: an edge that is taken, and the three ways a domain leaves VALID for want of edges or payloads. -/
theorem angleTracking : Obligations.AngleTracking :=
  ⟨fun s n cam width last hb hg hv hk hd hw hm hl hgap => acceptedEdge_answers s n cam width last hb hg hv hk hd hw hm hl hgap,
    fun s n hb hk hth hdue =>
      ⟨fun hv hmore => missingTooth_coasts_answers s n hb hk hth hdue hv hmore,
        fun hok hc hlast => missingTooth_last_answers s n hb hk hth hdue hok hc hlast⟩,
    remoteCoasting_answers, remoteTimeout_answers⟩

end Sys2Proof.Machine
end

section
/-! SUPPORT. Configuration writes and commands of an angle domain (R47, R54, R57, R65, R66). -/

namespace Sys2Proof.Machine

namespace Dev

/-! ### INVALID, then SEARCH or OFF -/

/-- From INVALID the domain enters OFF or SEARCH without reaching a consumer. -/
theorem setAngState_of_invalid {s : Dev} {n : Nat} (hs : s.angState n = angInvalid) {st : Nat} (h : st = angOff ∨ st = angSearch) :
    s.setAngState n st = s.angEnter n st := by
  refine setAngState_quiet ?_
  rcases h with rfl | rfl <;> rw [angOk, hs] <;> rfl

/-- A new search from INVALID: the domain enters SEARCH, with its tracking cleared (R47). -/
theorem angToSearch_enters {s : Dev} {n : Nat} (hg : s.isGrave bANG = false) (hs : s.angState n = angInvalid) :
    ∃ u : Dev, u.regs = s.regs ∧ s.angToSearch n = u.angEnter n angSearch := by
  unfold angToSearch
  dsimp only
  rw [if_neg (by rw [hg]; decide), setAngState_of_invalid (by exact hs) (.inr rfl)]
  exact ⟨s.modAng n _, rfl, rfl⟩

/-- What a domain shows as it enters `st`, given the registers before. -/
theorem angEnter_shows {s u : Dev} {n : Nat} (hn : n < 8) (hu : u.regs = s.regs) (st : Nat) :
    (u.angEnter n st).angState n = st % 8 ∧ (u.angEnter n st).get (Reg.ANG_STATE.REASON n) = s.get (Reg.ANG_STATE.REASON n)
      ∧ (u.angEnter n st).bit (statusBit bANG (8 + n)) = s.bit (statusBit bANG (8 + n)) ∧ (u.angEnter n st).bit (stickyBit bANG n) = s.bit (stickyBit bANG n) := by
  refine ⟨angEnter_state u n st, ?_, ?_, ?_⟩
  · rw [angEnter_get u n st (f := Reg.ANG_STATE.REASON n) (.inr (.inr (by decide : 19 ≤ 24))) (state_ne_status n), get_of_regs hu]
  · rw [angEnter_status u st hn (by omega), bit_of_regs hu]
  · rw [bit, angEnter_get u n st (.inl ?_) (by decide : stickyAddr bANG ≠ statusAddr bANG), get_of_regs hu, bit]
    simp only [stickyBit, stickyAddr_ang, Reg.ANG_STATE]
    omega

/-- STA_GRAVE decides which blocks are GRAVE. -/
theorem isGrave_of_word {s t : Dev} (h : t.word Reg.STA_GRAVE = s.word Reg.STA_GRAVE) (b : Nat) : t.isGrave b = s.isGrave b := by rw [isGrave, isGrave, h]

theorem fallKeeps_grave (n : Nat) : fallKeeps n Reg.STA_GRAVE := ⟨.inr rfl, by simp only [Reg.STA_GRAVE, Reg.ANG_STATE]; omega⟩

/-! ### Writes of ANG_SRC and ANG_TOOTH (R47) -/

theorem word_writeFields_other (s : Dev) (b : Nat) {k j : Nat} (v : Word) (h : j ≠ k) : (s.writeFields b k v).word j = s.word j :=
  (onlyWords_writeFields s b k v).1 j h

/-- The configuration words of a domain stand in its own registers, apart from its state. -/
theorem cfgKey_window {n key : Nat} (hn : n < 8) (hkey : key = Reg.ANG_SRC n ∨ key = Reg.ANG_TOOTH n) :
    fallKeeps n key ∧ key ≠ statusAddr bANG ∧ key ≠ stickyAddr bANG ∧ key ≠ Reg.STA_GRAVE := by
  simp only [fallKeeps, Reg.ANG_SRC, Reg.ANG_TOOTH, Reg.ANG_STATE, Reg.STA_GRAVE, statusAddr_ang, stickyAddr_ang] at hkey ⊢
  omega

/-- The registers after a configuration write of a domain that is not OFF, before it enters SEARCH or OFF. -/
def cfgWritten (s : Dev) (n key : Nat) (v : Word) : Dev := (s.angFall n 8).writeFields bANG key v

theorem cfgWritten_word_other (s : Dev) {n key k : Nat} (v : Word) (hk : k ≠ key) : (s.cfgWritten n key v).word k = (s.angFall n 8).word k :=
  word_writeFields_other _ _ v hk

section
variable {s : Dev} {n key : Nat} (v : Word) (hn : n < 8) (hkey : key = Reg.ANG_SRC n ∨ key = Reg.ANG_TOOTH n)
include hn hkey

theorem cfgWritten_key : (s.cfgWritten n key v).word key = s.written bANG key v := by
  rw [cfgWritten, word_writeFields, written, written, angFall_word s 8 (cfgKey_window hn hkey).1]

theorem cfgWritten_state : (s.cfgWritten n key v).angState n = angInvalid ∧ (s.cfgWritten n key v).get (Reg.ANG_STATE.REASON n) = 8 := by
  have hne : Reg.ANG_STATE n ≠ key := (cfgKey_window hn hkey).1.2.symm
  constructor
  · rw [angState, get_of_word (f := Reg.ANG_STATE.STATE n) (cfgWritten_word_other s v hne)]
    exact angFall_state hn s 8
  · rw [get_of_word (f := Reg.ANG_STATE.REASON n) (cfgWritten_word_other s v hne)]
    exact angFall_reason hn s 8

theorem cfgWritten_event : (s.cfgWritten n key v).bit (statusBit bANG (8 + n)) = true ∧ (s.cfgWritten n key v).bit (stickyBit bANG n) = true := by
  obtain ⟨-, hst, hsk, -⟩ := cfgKey_window hn hkey
  obtain ⟨h1, h2⟩ := angFall_event hn s 8
  constructor
  · rw [← h1, bit, bit, get_of_word (f := statusBit bANG (8 + n)) (cfgWritten_word_other s v hst.symm)]
  · rw [← h2, bit, bit, get_of_word (f := stickyBit bANG n) (cfgWritten_word_other s v hsk.symm)]

/-- A configuration write of a domain that is not OFF ends in SEARCH, or in OFF where KIND is 0. -/
theorem angCfgWrite_enters (ho : s.angState n ≠ angOff) (hc : (s.ang n).cmdAt ≠ some s.up) (hg : s.isGrave bANG = false) :
    ∃ u : Dev, u.regs = (s.cfgWritten n key v).regs
      ∧ s.angCfgWrite n key v = u.angEnter n (if (s.cfgWritten n key v).get (Reg.ANG_SRC.KIND n) = 0 then angOff else angSearch) := by
  have hoff : (s.angState n == angOff) = false := by simpa using ho
  have hgrave : (s.cfgWritten n key v).isGrave bANG = false := by
    rw [isGrave_of_word (cfgWritten_word_other s v (cfgKey_window hn hkey).2.2.2.symm), isGrave_of_word (angFall_word s 8 (fallKeeps_grave n)), hg]
  have hstate := (cfgWritten_state (s := s) v hn hkey).1
  obtain ⟨w, hw, he⟩ : ∃ w : Dev, w.regs = (s.cfgWritten n key v).regs ∧ s.angCfgWrite n key v
      = if w.get (Reg.ANG_SRC.KIND n) = 0 then w.setAngState n angOff else w.angToSearch n := by
    refine ⟨((s.angFall n 8).modAng n fun x => { x with payAt := none, payIvl := 0 }).writeFields bANG key v, rfl, ?_⟩
    unfold angCfgWrite
    simp only [hoff, angInvalidate_eq 8 hc, Bool.false_eq_true, if_false, false_and]
  have hws : w.angState n = angInvalid := by rw [angState, get_of_regs hw]; exact hstate
  rw [get_of_regs hw] at he
  rw [he]
  split
  · exact ⟨w, hw, setAngState_of_invalid hws (.inl rfl)⟩
  · obtain ⟨u, hu, hsearch⟩ := angToSearch_enters (by rwa [isGrave_of_word (word_of_regs hw _)]) hws
    exact ⟨u, hu.trans hw, hsearch⟩

theorem angCfgWrite_shows (ho : s.angState n ≠ angOff) (hc : (s.ang n).cmdAt ≠ some s.up) (hg : s.isGrave bANG = false) :
    (s.angCfgWrite n key v).word key = s.written bANG key v
      ∧ (s.angCfgWrite n key v).angState n = (if (s.angCfgWrite n key v).get (Reg.ANG_SRC.KIND n) = 0 then angOff else angSearch)
      ∧ (s.angCfgWrite n key v).get (Reg.ANG_STATE.REASON n) = 8
      ∧ (s.angCfgWrite n key v).bit (statusBit bANG (8 + n)) = true ∧ (s.angCfgWrite n key v).bit (stickyBit bANG n) = true
      ∧ (key ≠ Reg.ANG_SRC n → (s.angCfgWrite n key v).get (Reg.ANG_SRC.KIND n) = s.get (Reg.ANG_SRC.KIND n)) := by
  obtain ⟨hkeep, hst, -, -⟩ := cfgKey_window hn hkey
  obtain ⟨hsrc, hsrcst, -, -⟩ := cfgKey_window hn (.inl rfl : Reg.ANG_SRC n = Reg.ANG_SRC n ∨ _)
  obtain ⟨u, hu, he⟩ := angCfgWrite_enters v hn hkey ho hc hg
  have hkind : (s.angCfgWrite n key v).get (Reg.ANG_SRC.KIND n) = (s.cfgWritten n key v).get (Reg.ANG_SRC.KIND n) := by
    rw [he, get_of_word (f := Reg.ANG_SRC.KIND n) (angEnter_word u n _ hsrc.2 hsrcst), get_of_regs hu]
  obtain ⟨h1, h2, h3, h4⟩ := angEnter_shows hn hu (if (s.cfgWritten n key v).get (Reg.ANG_SRC.KIND n) = 0 then angOff else angSearch)
  rw [hkind, he]
  refine ⟨?_, ?_, ?_, ?_, ?_, fun hne => ?_⟩
  · rw [angEnter_word u n _ hkeep.2 hst, word_of_regs hu, cfgWritten_key v hn hkey]
  · rw [h1]
    split <;> rfl
  · rw [h2, (cfgWritten_state v hn hkey).2]
  · rw [h3, (cfgWritten_event v hn hkey).1]
  · rw [h4, (cfgWritten_event v hn hkey).2]
  · rw [get_of_word (f := Reg.ANG_SRC.KIND n) (cfgWritten_word_other s v hne.symm), get_of_word (f := Reg.ANG_SRC.KIND n) (angFall_word s 8 hsrc)]

end

/-- A domain that is OFF only stores a write of ANG_TOOTH. -/
theorem angCfgWrite_off {s : Dev} {n : Nat} (v : Word) (ho : s.angState n = angOff) :
    s.angCfgWrite n (Reg.ANG_TOOTH n) v = s.writeFields bANG (Reg.ANG_TOOTH n) v := by
  have hne : Reg.ANG_TOOTH n ≠ Reg.ANG_SRC n := by
    simp only [Reg.ANG_TOOTH, Reg.ANG_SRC]
    omega
  unfold angCfgWrite
  simp [ho, hne]

end Dev

theorem exec_angSrcWrite (n : Fin 8) (v : Word) (s : State) :
    exec (.angSrcWrite n v) s = devStep (fun d => d.hostGate bANG (Reg.ANG_SRC n) v (·.angCfgWrite n (Reg.ANG_SRC n) v)) s := rfl
theorem exec_angToothWrite (n : Fin 8) (v : Word) (s : State) :
    exec (.angToothWrite n v) s = devStep (fun d => d.hostGate bANG (Reg.ANG_TOOTH n) v (·.angCfgWrite n (Reg.ANG_TOOTH n) v)) s := rfl

theorem angSrcWrite_answers (s : State) (n : Fin 8) (v : Word) (hb : s.dev.blockOn bANG = true) (hg : s.dev.isGrave bANG = false)
    (hr : s.dev.hostRefused (Reg.ANG_SRC n) = false) (ho : s.dev.angState n ≠ angOff) (hc : (s.dev.ang n).cmdAt ≠ some s.dev.up) :
    Answers (.angSrcWrite n v) s fun t => t.dev.word (Reg.ANG_SRC n) = BitVec.ofNat 32 (accessWrite (masksOf bANG (Reg.ANG_SRC n)) (s.dev.word (Reg.ANG_SRC n)).toNat v.toNat)
      ∧ t.dev.angState n = (if t.dev.get (Reg.ANG_SRC.KIND n) = 0 then angOff else angSearch)
      ∧ t.dev.get (Reg.ANG_STATE.REASON n) = 8 ∧ t.dev.bit (statusBit bANG (8 + n)) = true ∧ t.dev.bit (stickyBit bANG n) = true ∧ s.sameMem t := by
  refine answers_hostGate (exec_angSrcWrite n v s) hb hr ?_
  obtain ⟨hword, hstate, hreason, hst, hsk, -⟩ := Dev.angCfgWrite_shows (s := s.dev.fresh) v n.isLt (.inl rfl) ho hc hg
  refine ⟨?_, ?_, ?_, ?_, ?_, rfl, rfl⟩
  · rw [Dev.word_settle, hword]
    rfl
  · rw [Dev.angState_settle, Dev.get_settle, hstate]
  · rw [Dev.get_settle, hreason]
  · rw [Dev.bit_settle, hst]
  · rw [Dev.bit_settle, hsk]

theorem angToothWrite_off_answers (s : State) (n : Fin 8) (v : Word) (hb : s.dev.blockOn bANG = true)
    (hr : s.dev.hostRefused (Reg.ANG_TOOTH n) = false) (ho : s.dev.angState n = angOff) :
    Answers (.angToothWrite n v) s fun t => t.dev.word (Reg.ANG_TOOTH n) = BitVec.ofNat 32 (accessWrite (masksOf bANG (Reg.ANG_TOOTH n)) (s.dev.word (Reg.ANG_TOOTH n)).toNat v.toNat)
      ∧ s.dev.onlyWords (· = Reg.ANG_TOOTH n) t.dev ∧ s.sameMem t := by
  refine answers_hostGate (exec_angToothWrite n v s) hb hr ?_
  rw [Dev.angCfgWrite_off (s := s.dev.fresh) v ho]
  refine ⟨?_, Dev.onlyWords_settled (Dev.onlyWords_writeFields _ _ _ v) _, rfl, rfl⟩
  rw [Dev.word_settle, Dev.word_writeFields]
  rfl

theorem angToothWrite_answers (s : State) (n : Fin 8) (v : Word) (hb : s.dev.blockOn bANG = true) (hg : s.dev.isGrave bANG = false)
    (hr : s.dev.hostRefused (Reg.ANG_TOOTH n) = false) (ho : s.dev.angState n ≠ angOff) (hc : (s.dev.ang n).cmdAt ≠ some s.dev.up)
    (hk : s.dev.get (Reg.ANG_SRC.KIND n) ≠ 0) :
    Answers (.angToothWrite n v) s fun t => t.dev.word (Reg.ANG_TOOTH n) = BitVec.ofNat 32 (accessWrite (masksOf bANG (Reg.ANG_TOOTH n)) (s.dev.word (Reg.ANG_TOOTH n)).toNat v.toNat)
      ∧ t.dev.angState n = angSearch ∧ t.dev.get (Reg.ANG_STATE.REASON n) = 8 ∧ s.sameMem t := by
  refine answers_hostGate (exec_angToothWrite n v s) hb hr ?_
  obtain ⟨hword, hstate, hreason, -, -, hkind⟩ := Dev.angCfgWrite_shows (s := s.dev.fresh) v n.isLt (.inr rfl) ho hc hg
  rw [hkind (by simp only [Reg.ANG_TOOTH, Reg.ANG_SRC]; omega), if_neg (by exact hk)] at hstate
  refine ⟨?_, ?_, ?_, rfl, rfl⟩
  · rw [Dev.word_settle, hword]
    rfl
  · rw [Dev.angState_settle, hstate]
  · rw [Dev.get_settle, hreason]

end Sys2Proof.Machine
end

section
/-! SUPPORT. RESYNC and PHASE_FLIP (R54, R57, R65). -/

namespace Sys2Proof.Machine

namespace Dev

/-- No condition has made the domain INVALID in this core clock (R65). -/
def fallsAnew (s : Dev) (n : Nat) : Prop := s.angState n ≠ angInvalid ∨ (s.ang n).invAt ≠ some s.up

/-- A command where a condition has done so: REASON alone changes. -/
theorem angCommand_again {s : Dev} {n : Nat} (reason : Nat) (h : ¬ s.fallsAnew n) :
    s.angCommand n reason = (s.modAng n fun x => { x with cmdAt := some s.up }).put (Reg.ANG_STATE.REASON n) reason := by
  obtain ⟨hs, hi⟩ := not_or.mp h
  exact if_pos ⟨not_not.mp hs, by rw [ang_modAng]; exact not_not.mp hi⟩

theorem angCommand_anew {s : Dev} {n : Nat} (reason : Nat) (h : s.fallsAnew n) :
    s.angCommand n reason = (s.modAng n fun x => { x with cmdAt := some s.up }).angFall n reason := by
  refine if_neg fun hc => ?_
  obtain ⟨hs, hi⟩ := hc
  rw [ang_modAng] at hi
  exact h.elim (fun hne => hne hs) fun hne => hne hi

/-- PHASE_FLIP adds the flip that waits to what the command leaves. -/
theorem angFlip_eq {s : Dev} {n : Nat} (ho : s.angState n ≠ angOff) :
    s.angFlip n = (s.angCommand n 3).when (!(s.angCommand n 3).bit (Reg.ANG_SRC.CAM_EN n)) (·.modAng n fun x => { x with flip := true }) := if_neg ho

theorem angFlip_regs {s : Dev} {n : Nat} (ho : s.angState n ≠ angOff) : (s.angFlip n).regs = (s.angCommand n 3).regs := by
  rw [angFlip_eq ho]
  unfold when
  split <;> rfl

theorem angFlip_shadow {s : Dev} {n : Nat} (ho : s.angState n ≠ angOff) : ((s.angFlip n).ang n).shadow = ((s.angCommand n 3).ang n).shadow := by
  rw [angFlip_eq ho]
  unfold when
  split
  · rw [ang_modAng]
  · rfl

section
variable {n : Nat} (hn : n < 8)
include hn

/-- After a command the domain is INVALID for the command's reason, and its configuration stands. -/
theorem angCommand_shows (s : Dev) (reason : Nat) : (s.angCommand n reason).angState n = angInvalid
    ∧ (s.angCommand n reason).get (Reg.ANG_STATE.REASON n) = reason % 16 ∧ ∀ k, fallKeeps n k → (s.angCommand n reason).word k = s.word k := by
  by_cases h : s.fallsAnew n
  · rw [angCommand_anew reason h]
    exact ⟨angFall_state hn _ reason, angFall_reason hn _ reason, fun k hk => angFall_word _ reason hk⟩
  · rw [angCommand_again reason h]
    refine ⟨?_, get_put_same _ _ _ (by decide : 24 + 4 ≤ 32), fun k hk => word_put_other _ _ _ _ hk.2⟩
    rw [angState, get_put_other _ _ _ _ (by decide : 24 + 4 ≤ 32) (.inr (.inl (by decide : 16 + 3 ≤ 24)))]
    exact not_not.mp (not_or.mp h).1

/-- Where no condition came first, the command sets INVALID_EVT and records the event, and the position is counted on (R57, R65). -/
theorem angCommand_event {s : Dev} (reason : Nat) (h : s.fallsAnew n) :
    ((s.angCommand n reason).ang n).shadow = (if s.angTracked n then some (s.get (Reg.ANG_STATE.POSITION n)) else (s.ang n).shadow)
      ∧ (s.angCommand n reason).bit (statusBit bANG (8 + n)) = true ∧ (s.angCommand n reason).bit (stickyBit bANG n) = true := by
  rw [angCommand_anew reason h]
  refine ⟨?_, angFall_event hn _ reason⟩
  rw [angFall_shadow, ang_modAng]
  rfl

theorem angResync_shows {s : Dev} (hg : s.isGrave bANG = false) (ho : s.angState n ≠ angOff) : (s.angResync n).angState n = angSearch
    ∧ (s.angResync n).get (Reg.ANG_STATE.REASON n) = 7
    ∧ (s.fallsAnew n → (s.angResync n).bit (statusBit bANG (8 + n)) = true ∧ (s.angResync n).bit (stickyBit bANG n) = true) := by
  obtain ⟨hs, hr, hw⟩ := angCommand_shows hn s 7
  obtain ⟨u, hu, he⟩ := angToSearch_enters (by rwa [isGrave_of_word (hw _ (fallKeeps_grave n))]) hs
  obtain ⟨h1, h2, h3, h4⟩ := angEnter_shows hn hu angSearch
  have hres : s.angResync n = u.angEnter n angSearch := (if_neg ho).trans he
  rw [hres, h1, h2, h3, h4, hr]
  exact ⟨rfl, rfl, fun h => (angCommand_event hn 7 h).2⟩

theorem angFlip_flip {s : Dev} (ho : s.angState n ≠ angOff) (hc : s.bit (Reg.ANG_SRC.CAM_EN n) = false) : ((s.angFlip n).ang n).flip = true := by
  have hb : (s.angCommand n 3).bit (Reg.ANG_SRC.CAM_EN n) = false := by
    rw [← hc, bit, bit, get_of_word ((angCommand_shows hn s 3).2.2 _ (cfgKey_window hn (.inl rfl)).1)]
  rw [angFlip_eq ho, hb, Bool.not_false, when_true, ang_modAng]

end

end Dev

theorem exec_resync (n : Fin 8) (s : State) : exec (.resync n) s = devStep (fun d => d.hostGate bANG (Reg.ANG_CMD n) 1 (·.angResync n)) s := rfl
theorem exec_phaseFlip (n : Fin 8) (s : State) : exec (.phaseFlip n) s = devStep (fun d => d.hostGate bANG (Reg.ANG_CMD n) 2 (·.angFlip n)) s := rfl

section
variable (s : State) (n : Fin 8) (hb : s.dev.blockOn bANG = true) (hr : s.dev.hostRefused (Reg.ANG_CMD n) = false)
include hb hr

theorem resync_answers (hg : s.dev.isGrave bANG = false) (ho : s.dev.angState n ≠ angOff) :
    Answers (.resync n) s fun t => t.dev.angState n = angSearch ∧ t.dev.get (Reg.ANG_STATE.REASON n) = 7
      ∧ (s.dev.angState n ≠ angInvalid ∨ (s.dev.ang n).invAt ≠ some s.dev.up → t.dev.bit (statusBit bANG (8 + n)) = true ∧ t.dev.bit (stickyBit bANG n) = true)
      ∧ s.sameMem t := by
  refine answers_hostGate (exec_resync n s) hb hr ?_
  obtain ⟨hs, hw, he⟩ := Dev.angResync_shows (s := s.dev.fresh) n.isLt hg ho
  refine ⟨?_, ?_, fun h => ?_, rfl, rfl⟩
  · rw [Dev.angState_settle, hs]
  · rw [Dev.get_settle, hw]
  · rw [Dev.bit_settle, Dev.bit_settle]
    exact he h

theorem resync_off_answers (ho : s.dev.angState n = angOff) : Answers (.resync n) s fun t => s.dev.onlyWords (fun _ => False) t.dev ∧ s.sameMem t := by
  refine answers_hostGate (exec_resync n s) hb hr ?_
  rw [show s.dev.fresh.angResync n = s.dev.fresh from if_pos ho]
  exact ⟨(Dev.WordOnly.refl _ _).settled _, rfl, rfl⟩

theorem phaseFlip_answers (ho : s.dev.angState n ≠ angOff) :
    Answers (.phaseFlip n) s fun t => t.dev.angState n = angInvalid ∧ t.dev.get (Reg.ANG_STATE.REASON n) = 3
      ∧ (s.dev.bit (Reg.ANG_SRC.CAM_EN n) = false → (t.dev.ang n).flip = true)
      ∧ (s.dev.angState n ≠ angInvalid ∨ (s.dev.ang n).invAt ≠ some s.dev.up →
          (t.dev.ang n).shadow = (if s.dev.angTracked n then some (s.dev.get (Reg.ANG_STATE.POSITION n)) else (s.dev.ang n).shadow)
            ∧ t.dev.bit (statusBit bANG (8 + n)) = true ∧ t.dev.bit (stickyBit bANG n) = true) ∧ s.sameMem t := by
  refine answers_hostGate (exec_phaseFlip n s) hb hr ?_
  obtain ⟨hs, hw, -⟩ := Dev.angCommand_shows n.isLt s.dev.fresh 3
  have hregs := Dev.angFlip_regs (s := s.dev.fresh) ho
  refine ⟨?_, ?_, fun hc => ?_, fun h => ?_, rfl, rfl⟩
  · rw [Dev.angState_settle, Dev.angState, Dev.get_of_regs hregs]
    exact hs
  · rw [Dev.get_settle, Dev.get_of_regs hregs, hw]
  · rw [Dev.ang_settle, Dev.angFlip_flip (s := s.dev.fresh) n.isLt ho hc]
  · obtain ⟨hshadow, hst, hsk⟩ := Dev.angCommand_event (s := s.dev.fresh) n.isLt 3 h
    rw [Dev.ang_settle, Dev.angFlip_shadow (s := s.dev.fresh) ho, Dev.bit_settle, Dev.bit_settle, Dev.bit_of_regs hregs, Dev.bit_of_regs hregs]
    exact ⟨hshadow, hst, hsk⟩

theorem phaseFlip_off_answers (ho : s.dev.angState n = angOff) :
    Answers (.phaseFlip n) s fun t => s.dev.onlyWords (fun _ => False) t.dev ∧ s.sameMem t := by
  refine answers_hostGate (exec_phaseFlip n s) hb hr ?_
  rw [show s.dev.fresh.angFlip n = s.dev.fresh from if_pos ho]
  exact ⟨(Dev.WordOnly.refl _ _).settled _, rfl, rfl⟩

end

/-- Settles O22: every write and command but those of a domain that is OFF passes through a fall to INVALID. -/
theorem angleCommands : Obligations.AngleCommands :=
  ⟨angSrcWrite_answers,
    fun s n v hb hg hr => ⟨angToothWrite_off_answers s n v hb hr, angToothWrite_answers s n v hb hg hr⟩,
    fun s n hb hg hr => ⟨resync_answers s n hb hr hg, resync_off_answers s n hb hr⟩,
    fun s n hb hr => ⟨phaseFlip_answers s n hb hr, phaseFlip_off_answers s n hb hr⟩⟩

end Sys2Proof.Machine
end

section
/-! SUPPORT. Marks, angle-cycle boundaries and publication (R52, R57, R59, R61, R62). -/

namespace Sys2Proof.Machine

namespace Dev

/-! ### Marks (R59) -/

theorem markCtlWrite_swap (s : Dev) (n : Nat) :
    s.markCtlWrite n 1 = (s.writeFields bANG (Reg.ANG_MARK_CTL n) 1).put (Reg.ANG_MARK_CTL.SWAP_PEND n) 1 := by
  rw [markCtlWrite, if_pos (by decide)]

theorem markCtlWrite_swap_only (s : Dev) (n : Nat) : s.onlyWords (· = Reg.ANG_MARK_CTL n) (s.markCtlWrite n 1) := by
  rw [markCtlWrite_swap]
  exact onlyWords_trans (onlyWords_writeFields s _ _ _) (WordOnly.put (· = Reg.ANG_MARK_CTL n) _ (Reg.ANG_MARK_CTL.SWAP_PEND n) 1 rfl).onlyWords

/-- The domain after mark `i` at angle `a` has fired, before its subscribers learn of it. -/
def markFired (s : Dev) (n : Nat) (a : Int) (i : Nat) : Dev := (s.angSettle n).modAng n fun x => { x with markAt := a, markIx := i + 1 }

theorem markEvent_fires {s : Dev} {n i : Nat} {a : Int} (hok : s.angOk n = true) (hm : s.nextMark n = some (a, i)) (ha : a ≤ s.pubAngle n) :
    (s.markEvent n).spindle = (s.markFired n a i).spindle := by
  unfold markEvent
  rw [if_neg (by rw [hok]; decide), hm]
  dsimp only
  rw [if_pos ha, celMark_spindle, chkMark_spindle]
  rfl

theorem markFired_ang (s : Dev) (n : Nat) (a : Int) (i : Nat) :
    (s.markFired n a i).ang n = { s.ang n with pub := s.pubAngle n, markAt := a, markIx := i + 1 } := by
  rw [markFired, ang_modAng, ang_angSettle]

/-- The words of the Spindle and the cycle of the last boundary taken. -/
def cycleView (n : Nat) (s : Dev) : (Nat → Word) × Int := (s.spindle.2, (s.ang n).bcyc)

theorem cycleView_of_spindle {s t : Dev} (h : t.spindle = s.spindle) (n : Nat) : cycleView n t = cycleView n s := by
  rw [cycleView, cycleView, h, ang_of_spindle h]

theorem bcyc_of_cycleView {s t : Dev} {n : Nat} (h : cycleView n t = cycleView n s) : (t.ang n).bcyc = (s.ang n).bcyc := congrArg (·.2) h

theorem get_of_cycleView {s t : Dev} {n : Nat} (h : cycleView n t = cycleView n s) {f : Fld} (hf : beyond f.addr = false) : t.get f = s.get f := by
  refine get_of_word ?_
  have hw := congrFun (congrArg (·.1) h) f.addr
  simpa [cycleView, spindle, hf] using hw

/-- A mark leaves the words of the Spindle and the running cycle. -/
theorem markEvent_cycleView (s : Dev) (n : Nat) : cycleView n (s.markEvent n) = cycleView n s := by
  by_cases hok : s.angOk n = true
  · cases hm : s.nextMark n with
    | none => simp only [markEvent, hok, hm, not_true, if_false]
    | some m =>
      by_cases ha : m.1 ≤ s.pubAngle n
      · rw [cycleView_of_spindle (markEvent_fires hok hm ha), cycleView, markFired_ang]
        rfl
      · simp only [markEvent, hok, hm, not_true, if_false, if_neg ha]
  · rw [markEvent, if_pos hok]

/-! ### Boundaries (R52, R57, R59) -/

/-- A waiting swap of the mark banks takes effect. -/
def swapBanks (s : Dev) (n : Nat) : Dev :=
  if s.bit (Reg.ANG_MARK_CTL.SWAP_PEND n) then
    (s.put (Reg.ANG_MARK_CTL.ACTIVE n) (1 - s.get (Reg.ANG_MARK_CTL.ACTIVE n))).put (Reg.ANG_MARK_CTL.SWAP_PEND n) 0
  else s

theorem swapBanks_active (s : Dev) (n : Nat) : (s.swapBanks n).get (Reg.ANG_MARK_CTL.ACTIVE n)
    = if s.bit (Reg.ANG_MARK_CTL.SWAP_PEND n) then 1 - s.get (Reg.ANG_MARK_CTL.ACTIVE n) else s.get (Reg.ANG_MARK_CTL.ACTIVE n) := by
  unfold swapBanks
  split
  · rw [get_put_other _ _ _ _ (by decide : 4 + 1 ≤ 32) (.inr (.inl (by decide : 1 + 1 ≤ 4))), get_put_same _ _ _ (by decide : 1 + 1 ≤ 32)]
    exact Nat.mod_eq_of_lt (Nat.lt_of_le_of_lt (Nat.sub_le 1 _) (by decide : 1 < 2 ^ 1))
  · rfl

theorem swapBanks_pend (s : Dev) (n : Nat) : (s.swapBanks n).bit (Reg.ANG_MARK_CTL.SWAP_PEND n) = false := by
  unfold swapBanks
  split
  · rw [bit_put_same _ _ _ (by decide : 4 + 1 ≤ 32) rfl]
    rfl
  · next h => exact Bool.eq_false_of_not_eq_true h

theorem swapBanks_bcyc (s : Dev) (n : Nat) : ((s.swapBanks n).ang n).bcyc = (s.ang n).bcyc := by
  unfold swapBanks
  split <;> rfl

/-- The domain goes into its next cycle, whose marks are all to come. -/
def cycleBegun (s : Dev) (n : Nat) : Dev :=
  let s := s.angSettle n
  let c := (s.ang n).bcyc + 1
  s.modAng n fun x => { x with bcyc := c, boundAt := some s.up, markAt := c * cycleUnits - 1, markIx := 257 }

theorem cycleBegun_bcyc (s : Dev) (n : Nat) : ((s.cycleBegun n).ang n).bcyc = (s.ang n).bcyc + 1 := by
  unfold cycleBegun
  dsimp only
  rw [ang_modAng, ang_angSettle]

theorem cycleBegun_get (s : Dev) (n : Nat) (f : Fld) : (s.cycleBegun n).get f = s.get f := rfl

/-- The marks of the running cycle that have been reached have fired. -/
def marksFired (s : Dev) (n : Nat) : Dev := (List.range 256).foldl (fun s _ => s.markEvent n) s

theorem marksFired_cycleView (s : Dev) (n : Nat) : cycleView n (s.marksFired n) = cycleView n s :=
  foldl_keeps (cycleView n) _ (fun _ _ s => markEvent_cycleView s n) s

/-- A boundary begins the next cycle and swaps the banks; the phase offset and the subscribers change nothing of that. -/
theorem cycleBoundary_cycleView {s : Dev} {n : Nat} (hok : s.angOk n = true) (hc : (s.ang n).bcyc < s.pubAngle n / cycleUnits) :
    cycleView n (s.cycleBoundary n) = cycleView n (((s.marksFired n).cycleBegun n).swapBanks n) := by
  have hphase : ∀ (u : Dev) (ofs : Nat) (a : Int), cycleView n
      (if u.get (Reg.ANG_SRC.KIND n) = 3 then u else (u.modAng n fun x => { x with ofs := ofs, base := x.base + (ofs : Int) - x.ofs }).angJump n a)
        = cycleView n u := by
    intro u ofs a
    split
    · rfl
    · rw [cycleView_of_spindle (angJump_spindle _ n a), cycleView, ang_modAng]
      rfl
  unfold cycleBoundary
  rw [if_neg (by simp [hok, hc])]
  dsimp only
  rw [cycleView_of_spindle (celBoundary_spindle _ n), cycleView_of_spindle (chkBoundary_spindle _ n _), hphase]
  rfl

/-- What a boundary shows (R52, R59). -/
theorem cycleBoundary_shows {s : Dev} {n : Nat} (hn : n < 8) (hok : s.angOk n = true) (hc : (s.ang n).bcyc < s.pubAngle n / cycleUnits) :
    ((s.cycleBoundary n).ang n).bcyc = (s.ang n).bcyc + 1
      ∧ (s.cycleBoundary n).get (Reg.ANG_MARK_CTL.ACTIVE n)
          = (if s.bit (Reg.ANG_MARK_CTL.SWAP_PEND n) then 1 - s.get (Reg.ANG_MARK_CTL.ACTIVE n) else s.get (Reg.ANG_MARK_CTL.ACTIVE n))
      ∧ (s.cycleBoundary n).bit (Reg.ANG_MARK_CTL.SWAP_PEND n) = false := by
  have hctl : beyond (Reg.ANG_MARK_CTL n) = false := not_beyond (.inl (by simp only [Reg.ANG_MARK_CTL]; omega))
  have hview := cycleBoundary_cycleView hok hc
  have hmarks : ∀ f : Fld, beyond f.addr = false → ((s.marksFired n).cycleBegun n).get f = s.get f := fun f hf =>
    (cycleBegun_get _ n f).trans (get_of_cycleView (marksFired_cycleView s n) hf)
  refine ⟨?_, ?_, ?_⟩
  · rw [bcyc_of_cycleView hview, swapBanks_bcyc, cycleBegun_bcyc, bcyc_of_cycleView (marksFired_cycleView s n)]
  · rw [get_of_cycleView hview (f := Reg.ANG_MARK_CTL.ACTIVE n) hctl, swapBanks_active, bit, bit, hmarks (Reg.ANG_MARK_CTL.SWAP_PEND n) hctl,
      hmarks (Reg.ANG_MARK_CTL.ACTIVE n) hctl]
  · rw [bit, get_of_cycleView hview (f := Reg.ANG_MARK_CTL.SWAP_PEND n) hctl]
    exact swapBanks_pend _ n

/-! ### Publication (R61, R62) -/

/-- The domain with its waiting records handed over, those beyond MAX_REC counted. -/
def recordsTaken (s : Dev) (n : Nat) : Dev :=
  (s.setAng n { s.ang n with recs := [], pubSeq := ((s.ang n).pubSeq + 1) % 65536 }).incBy (Reg.ANG_PUB_OVF.COUNT n)
    ((s.ang n).recs.length - max 1 (min (s.get (Reg.ANG_PUB.MAX_REC n)) 32))

/-- The stream context that carries a payload leaves the Spindle. -/
theorem anglePayload_spindle {s : Dev} {n : Nat} (h : s.bit (Reg.ANG_PUB.EN n) = true) : (s.anglePayload n).spindle = (s.recordsTaken n).spindle := by
  have hmax : (if s.get (Reg.ANG_PUB.MAX_REC n) = 0 then 1 else min (s.get (Reg.ANG_PUB.MAX_REC n)) 32) = max 1 (min (s.get (Reg.ANG_PUB.MAX_REC n)) 32) := by
    split <;> omega
  unfold anglePayload
  rw [if_neg (by rw [h]; decide)]
  dsimp only
  rw [handover_spindle, payloadFrame_spindle, hmax]
  rfl

theorem recordsTaken_ang (s : Dev) (n : Nat) : (s.recordsTaken n).ang n = { s.ang n with recs := [], pubSeq := ((s.ang n).pubSeq + 1) % 65536 } := by
  rw [recordsTaken, incBy, ang_put, ang_setAng]

theorem recordsTaken_count (s : Dev) (n : Nat) : (s.recordsTaken n).get (Reg.ANG_PUB_OVF.COUNT n)
    = (s.get (Reg.ANG_PUB_OVF.COUNT n) + ((s.ang n).recs.length - max 1 (min (s.get (Reg.ANG_PUB.MAX_REC n)) 32))) % 2 ^ 32 :=
  get_put_same _ _ _ (by decide : 0 + 32 ≤ 32)

end Dev

theorem exec_markSwap (n : Fin 8) (s : State) : exec (.markSwap n) s = devStep (fun d => d.hostGate bANG (Reg.ANG_MARK_CTL n) 1 (·.markCtlWrite n 1)) s := rfl
theorem exec_markEvent (n : Fin 8) (s : State) : exec (.markEvent n) s = devStep (·.atBlock bANG (·.markEvent n)) s := rfl
theorem exec_angleCycleBoundary (n : Fin 8) (s : State) : exec (.angleCycleBoundary n) s = devStep (·.atBlock bANG (·.cycleBoundary n)) s := rfl
theorem exec_anglePayloadSend (n : Fin 8) (s : State) : exec (.anglePayloadSend n) s = devStep (·.atBlock bANG (·.anglePayload n)) s := rfl

section
variable (s : State) (n : Fin 8)

theorem markSwap_answers (hb : s.dev.blockOn bANG = true) (hr : s.dev.hostRefused (Reg.ANG_MARK_CTL n) = false) :
    Answers (.markSwap n) s fun t => t.dev.bit (Reg.ANG_MARK_CTL.SWAP_PEND n) = true ∧ s.dev.onlyWords (· = Reg.ANG_MARK_CTL n) t.dev ∧ s.sameMem t := by
  refine answers_hostGate (exec_markSwap n s) hb hr ⟨?_, Dev.onlyWords_settled (Dev.markCtlWrite_swap_only _ _) _, rfl, rfl⟩
  rw [Dev.bit_settle, Dev.markCtlWrite_swap, Dev.bit_put_same _ _ _ (by decide : 4 + 1 ≤ 32) rfl]
  rfl

theorem markEvent_answers (a : Int) (i : Nat) (hb : s.dev.blockOn bANG = true) (hok : s.dev.angOk n = true) (hm : s.dev.nextMark n = some (a, i))
    (ha : a ≤ s.dev.pubAngle n) :
    Answers (.markEvent n) s fun t => (t.dev.ang n).markAt = a ∧ (t.dev.ang n).markIx = i + 1 ∧ (t.dev.ang n).pub = s.dev.pubAngle n ∧ s.sameMem t := by
  refine answers_atBlock (exec_markEvent n s) hb ?_
  have hang := Dev.ang_of_spindle (Dev.markEvent_fires (s := s.dev.fresh) hok hm ha) n
  rw [Dev.markFired_ang] at hang
  rw [Dev.ang_settle, hang]
  exact ⟨rfl, rfl, rfl, rfl, rfl⟩

theorem angleCycleBoundary_answers (hb : s.dev.blockOn bANG = true) (hok : s.dev.angOk n = true) (hc : (s.dev.ang n).bcyc < s.dev.pubAngle n / cycleUnits) :
    Answers (.angleCycleBoundary n) s fun t => (t.dev.ang n).bcyc = (s.dev.ang n).bcyc + 1
      ∧ t.dev.get (Reg.ANG_MARK_CTL.ACTIVE n) = (if s.dev.bit (Reg.ANG_MARK_CTL.SWAP_PEND n) then 1 - s.dev.get (Reg.ANG_MARK_CTL.ACTIVE n) else s.dev.get (Reg.ANG_MARK_CTL.ACTIVE n))
      ∧ t.dev.bit (Reg.ANG_MARK_CTL.SWAP_PEND n) = false ∧ s.sameMem t := by
  refine answers_atBlock (exec_angleCycleBoundary n s) hb ?_
  obtain ⟨hcyc, hactive, hpend⟩ := Dev.cycleBoundary_shows (s := s.dev.fresh) n.isLt hok hc
  refine ⟨?_, ?_, ?_, rfl, rfl⟩
  · rw [Dev.ang_settle, hcyc]
    rfl
  · rw [Dev.get_settle, hactive]
    rfl
  · rw [Dev.bit_settle, hpend]

theorem anglePayloadSend_answers (hb : s.dev.blockOn bANG = true) (hen : s.dev.bit (Reg.ANG_PUB.EN n) = true) :
    Answers (.anglePayloadSend n) s fun t => (t.dev.ang n).recs = [] ∧ (t.dev.ang n).pubSeq = ((s.dev.ang n).pubSeq + 1) % 65536
      ∧ t.dev.get (Reg.ANG_PUB_OVF.COUNT n) = (s.dev.get (Reg.ANG_PUB_OVF.COUNT n)
          + ((s.dev.ang n).recs.length - max 1 (min (s.dev.get (Reg.ANG_PUB.MAX_REC n)) 32))) % 2 ^ 32 ∧ s.sameMem t := by
  refine answers_atBlock (exec_anglePayloadSend n s) hb ?_
  have hspin := Dev.anglePayload_spindle (s := s.dev.fresh) hen
  have hang := Dev.ang_of_spindle hspin n
  rw [Dev.recordsTaken_ang] at hang
  rw [Dev.ang_settle, hang]
  refine ⟨rfl, rfl, ?_, rfl, rfl⟩
  rw [Dev.get_settle, Dev.get_of_spindle hspin (Dev.not_beyond (.inl (by simp only [Reg.ANG_PUB_OVF.COUNT]; omega))), Dev.recordsTaken_count]
  rfl

theorem anglePayloadSend_off_answers (hb : s.dev.blockOn bANG = true) (hen : s.dev.bit (Reg.ANG_PUB.EN n) = false) :
    Answers (.anglePayloadSend n) s fun t => s.dev.onlyWords (fun _ => False) t.dev ∧ s.sameMem t := by
  refine answers_atBlock (exec_anglePayloadSend n s) hb ?_
  rw [show s.dev.fresh.anglePayload n = s.dev.fresh from if_pos (by rw [Dev.bit_fresh, hen]; decide)]
  exact ⟨(Dev.WordOnly.refl _ _).settled _, rfl, rfl⟩

end

/-- Settles O23: the subscribers of a mark or a boundary and the carrier of a payload leave the domain as it was. -/
theorem angleMarks : Obligations.AngleMarks :=
  ⟨markSwap_answers, fun s n a i hb hok hm ha => markEvent_answers s n a i hb hok hm ha, angleCycleBoundary_answers,
    fun s n hb => ⟨anglePayloadSend_answers s n hb, anglePayloadSend_off_answers s n hb⟩⟩

end Sys2Proof.Machine
end

section
/-! SUPPORT. The store and the words of a port: what a change of the one leaves of the other, and the addresses of the port's window (R92, R405). -/

namespace Sys2Proof.Machine

namespace Dev

/-! ### The store of a port -/

@[simp] theorem word_modPort (s : Dev) (p : Nat) (f : Port → Port) (k : Nat) : (s.modPort p f).word k = s.word k := rfl
@[simp] theorem get_modPort (s : Dev) (p : Nat) (f : Port → Port) (g : Fld) : (s.modPort p f).get g = s.get g := rfl
@[simp] theorem bit_modPort (s : Dev) (p : Nat) (f : Port → Port) (g : Fld) : (s.modPort p f).bit g = s.bit g := rfl
@[simp] theorem port_put (s : Dev) (f : Fld) (v p : Nat) : (s.put f v).port p = s.port p := rfl
@[simp] theorem port_inc (s : Dev) (f : Fld) (p : Nat) : (s.inc f).port p = s.port p := rfl
@[simp] theorem port_raise (s : Dev) (b n p : Nat) : (s.raise b n).port p = s.port p := rfl
@[simp] theorem port_fresh (s : Dev) (p : Nat) : s.fresh.port p = s.port p := rfl

/-- What a change of a port makes of anything but the two instants that it notes by itself (R76). -/
theorem modPort_reads {α : Type} (s : Dev) (p : Nat) (f : Port → Port) (g : Port → α)
    (hg : ∀ x i b, g { x with idleAt := i, busyAt := b } = g x) : g ((s.modPort p f).port p) = g (f (s.port p)) := by
  obtain ⟨i, b, h⟩ := modPort_port s p f
  rw [h, hg]

/-- What a change that does not concern it leaves of a port's store. -/
theorem modPort_keeps {α : Type} (s : Dev) (p : Nat) (f : Port → Port) (g : Port → α)
    (hg : ∀ x i b, g { x with idleAt := i, busyAt := b } = g x) (hf : ∀ x, g (f x) = g x) : g ((s.modPort p f).port p) = g (s.port p) :=
  (modPort_reads s p f g hg).trans (hf _)

theorem port_when {s : Dev} {f : Dev → Dev} {p : Nat} (c : Bool) (h : (f s).port p = s.port p) : (s.when c f).port p = s.port p := by
  cases c
  · rfl
  · exact h

/-! ### Status bits -/

/-- A one-bit field of a status word after it is written, and another one of the same word. -/
@[simp] theorem bit_put_statusBit (s : Dev) (b n v : Nat) (hn : n < 32) : (s.put (statusBit b n) v).bit (statusBit b n) = (v % 2 == 1) :=
  bit_put_same s _ v (Nat.succ_le_of_lt hn) rfl

theorem bit_put_statusBit_ne (s : Dev) (b v : Nat) {n m : Nat} (hn : n < 32) (h : m ≠ n) : (s.put (statusBit b n) v).bit (statusBit b m) = s.bit (statusBit b m) :=
  bit_put_other s _ _ v (Nat.succ_le_of_lt hn) (.inr (show m + 1 ≤ n ∨ n + 1 ≤ m by omega))

theorem bit_of_word {s t : Dev} {f : Fld} (h : t.word f.addr = s.word f.addr) : t.bit f = s.bit f := by rw [bit, bit, get_of_word h]

theorem word_when {s : Dev} {f : Dev → Dev} {k : Nat} (c : Bool) (h : (f s).word k = s.word k) : (s.when c f).word k = s.word k := by
  cases c
  · rfl
  · exact h

theorem bit_put_addr (s : Dev) {f g : Fld} (v : Nat) (h : g.addr ≠ f.addr) : (s.put f v).bit g = s.bit g := by
  rw [bit, bit, get_put_addr s f g v h]

/-- A counter that fills its word counts one, and wraps (R90). -/
theorem get_inc_same (s : Dev) {f : Fld} (h : f.lo = 0) (hw : f.w = 32) : (s.inc f).get f = (s.get f + 1) % 2 ^ 32 := by
  rw [inc, get_put_same s f _ (by omega), hw]

/-! ### Addresses -/

theorem statusAddr_bPRT {p : Nat} (h8 : p < 8) : statusAddr (bPRT p) = 0x40008 + 0x10000 * p := by
  rw [statusAddr, blockBase_bPRT h8]
  omega

theorem stickyAddr_bPRT {p : Nat} (h8 : p < 8) : stickyAddr (bPRT p) = 0x40020 + 0x10000 * p := by
  rw [stickyAddr, blockBase_bPRT h8]
  omega

end Dev

end Sys2Proof.Machine
end

section
/-! SUPPORT. The fall of a link (R70, R83, R124, R129): what it sets of its port, and what it leaves alone. -/

namespace Sys2Proof.Machine

namespace Dev

/-! ### What a held frame that is abandoned leaves alone (R124) -/

/-- The words of the ports' windows that no drop of a late frame at port `p` changes. -/
def linkWord (p k : Nat) : Prop := k < 0xC0000 ∧ k ≠ Reg.PRT_TX_CNT p 17 ∧ k ≠ Reg.PRT_HALF_TX p

theorem not_dropWords {j k : Nat} (h : k < 0xC0000) : ¬ dropWords j k := by
  rintro (⟨x, h1 | h1⟩ | h1)
  · simp only [Reg.STM_CNT] at h1; omega
  · simp only [Reg.STM_CTX_STAT] at h1; omega
  · simp only [bankWords, Reg.FRM_BANK_STATE] at h1; omega

theorem word_dropLate (s : Dev) {p k : Nat} (e : QEnt) (h : linkWord p k) : (s.dropLate p e).word k = s.word k := by
  obtain ⟨hk, hcnt, hhalf⟩ := h
  exact (dropLate_only s p e).1 k fun h => h.elim (fun h => h.elim hcnt hhalf) (not_dropWords hk)

theorem not_faultWords_bGTE {k : Nat} (h : k < 0xC0000) : ¬ faultWords bGTE k := by
  have hw : ∀ k, faultWords bGTE k → 0xC0000 ≤ k := by
    rintro k (rfl | rfl | rfl | rfl | rfl) <;> decide
  intro hk
  have := hw k hk
  omega

theorem word_abandonHold (s : Dev) {p k : Nat} (h : linkWord p k) : (s.abandonHold p).word k = s.word k := by
  unfold abandonHold
  split
  · rfl
  · rw [(fault_only _ bGTE 2).1 k (not_faultWords_bGTE h.1), word_dropLate _ _ h, word_modPort]

/-- Of the port's store an abandoned frame changes the frame that waits, and the instants that follow it. -/
theorem abandonHold_port (s : Dev) (p : Nat) : ∃ x i b, (s.abandonHold p).port p = { s.port p with hold := x, idleAt := i, busyAt := b } := by
  unfold abandonHold
  split
  · exact ⟨(s.port p).hold, (s.port p).idleAt, (s.port p).busyAt, rfl⟩
  · rw [(fault_only _ bGTE 2).toLocker.port_eq, (dropLate_only _ _ _).port_eq]
    obtain ⟨i, b, h⟩ := modPort_port s p fun x => { x with hold := none }
    exact ⟨none, i, b, h⟩

/-! ### The fall of LINK_UP (R70) -/

theorem dropLink_up_eq {s : Dev} {p : Nat} (h : s.linkUp p = true) :
    s.dropLink p = ((((s.modPort p fun x => { x with lockAt := none, cutDue := x.cutDue || s.linkUp p }).put (prtBit p 1) 0).raise (bPRT p) 4).abandonHold p) :=
  if_pos h

theorem dropLink_down_eq {s : Dev} {p : Nat} (h : s.linkUp p = false) :
    s.dropLink p = s.modPort p fun x => { x with lockAt := none, cutDue := x.cutDue || s.linkUp p } :=
  if_neg (by rw [Bool.not_eq_true]; exact h)

theorem word_dropLink (s : Dev) {p k : Nat} (h : linkWord p k) (hs : k ≠ statusAddr (bPRT p)) : (s.dropLink p).word k = s.word k := by
  cases hu : s.linkUp p
  · rw [dropLink_down_eq hu, word_modPort]
  · rw [dropLink_up_eq hu, word_abandonHold _ h, raise, word_put_other _ _ _ _ hs, word_put_other _ _ _ _ hs, word_modPort]

theorem get_dropLink (s : Dev) {p : Nat} {f : Fld} (h : linkWord p f.addr) (hs : f.addr ≠ statusAddr (bPRT p)) : (s.dropLink p).get f = s.get f :=
  get_of_word (word_dropLink s h hs)

theorem linkWord_status {p : Nat} (h8 : p < 8) : linkWord p (statusAddr (bPRT p)) := by
  rw [linkWord, statusAddr_bPRT h8]
  simp only [Reg.PRT_TX_CNT, Reg.PRT_HALF_TX]
  omega

theorem bit_abandonHold_status (s : Dev) {p : Nat} (n : Nat) (h8 : p < 8) : (s.abandonHold p).bit (prtBit p n) = s.bit (prtBit p n) := by
  exact bit_of_word (word_abandonHold s (linkWord_status h8))

theorem dropLink_linkUp (s : Dev) {p : Nat} (h8 : p < 8) : (s.dropLink p).linkUp p = false := by
  cases hu : s.linkUp p
  · rw [dropLink_down_eq hu]
    exact hu
  · rw [dropLink_up_eq hu, linkUp, bit_abandonHold_status _ _ h8]
    exact (bit_put_statusBit_ne _ _ _ (by decide) (by decide)).trans (bit_put_statusBit _ _ _ _ (by decide))

/-- A link that was up shows LINK_CHANGE after its fall. -/
theorem dropLink_linkChange {s : Dev} {p : Nat} (h8 : p < 8) (hu : s.linkUp p = true) : (s.dropLink p).bit (prtBit p 4) = true := by
  rw [dropLink_up_eq hu, bit_abandonHold_status _ _ h8]
  exact bit_put_statusBit _ _ _ _ (by decide)

/-- Of the port's store the fall of a link changes the lock, the frame in reception and the one that waits. -/
theorem dropLink_port (s : Dev) (p : Nat) :
    ∃ c x i b, (s.dropLink p).port p = { s.port p with lockAt := none, cutDue := c, hold := x, idleAt := i, busyAt := b } := by
  obtain ⟨i, b, hm⟩ := modPort_port s p fun x => { x with lockAt := none, cutDue := x.cutDue || s.linkUp p }
  cases hu : s.linkUp p
  · rw [dropLink_down_eq hu]
    exact ⟨_, (s.port p).hold, i, b, hm⟩
  · rw [dropLink_up_eq hu]
    obtain ⟨x, i', b', ha⟩ := abandonHold_port
      (((s.modPort p fun x => { x with lockAt := none, cutDue := x.cutDue || s.linkUp p }).put (prtBit p 1) 0).raise (bPRT p) 4) p
    exact ⟨_, x, i', b', by rw [ha, port_raise, port_put, hm]⟩

/-! ### A break shown to the Shroud (R178, R183) -/

@[simp] theorem word_modSide (s : Dev) (p : Nat) (f : Side → Side) (k : Nat) : (s.modSide p f).word k = s.word k := rfl
@[simp] theorem port_modSide (s : Dev) (p : Nat) (f : Side → Side) (q : Nat) : (s.modSide p f).port q = s.port q := rfl

/-- The loss of a link ends READY and the proposal (R183). -/
def readyEnded (s : Dev) (p : Nat) : Dev :=
  (s.modSide p fun d => { d with cleanAt := none, proposal := none, partnerReady := false, partnerOkAt := none }).put (readyFld p) 0

/-- What the Shroud makes of a break: READY may end, and the port's side may note it (R178, R183). -/
theorem detectBreak_cases (s : Dev) (p code : Nat) :
    ∃ u, (u = s ∨ u = s.readyEnded p) ∧ (s.detectBreak p code = u ∨ ∃ f, s.detectBreak p code = u.modSide p f) := by
  refine ⟨s.when (code == 1) (·.readyEnded p), ?_, (Decidable.em _).imp (fun h => if_pos h) fun h => ⟨_, if_neg h⟩⟩
  cases code == 1
  · exact .inl rfl
  · exact .inr rfl

/-- Beside the rings a break that the Shroud is told of changes SHD_STATE alone. -/
theorem word_detectBreak (s : Dev) {p k : Nat} (code : Nat) (h : k < 0xC0000) : (s.detectBreak p code).word k = s.word k := by
  have hr : (s.readyEnded p).word k = s.word k :=
    word_put_other _ _ _ _ (by unfold readyFld; split <;> simp only [Reg.SHD_STATE.READY_W, Reg.SHD_STATE.READY_E] <;> omega)
  obtain ⟨u, rfl | rfl, he | ⟨f, he⟩⟩ := detectBreak_cases s p code <;> rw [he]
  · exact word_modSide _ _ _ _
  · exact hr
  · exact hr

theorem port_detectBreak (s : Dev) (p q code : Nat) : (s.detectBreak p code).port q = s.port q := by
  obtain ⟨u, rfl | rfl, he | ⟨f, he⟩⟩ := detectBreak_cases s p code <;> rw [he] <;> rfl

/-- A fall that is no declared loss is, of the words below the Locker's and of the ports, the fall of the link. -/
theorem word_quietDrop (s : Dev) {p k : Nat} (h : k < 0xC0000) : (s.quietDrop p).word k = (s.dropLink p).word k := by
  unfold quietDrop
  dsimp only
  cases s.linkUp p && Nat.blt p 4
  · rfl
  · exact word_detectBreak _ 1 h

theorem bit_quietDrop (s : Dev) {p : Nat} {f : Fld} (h : f.addr < 0xC0000) : (s.quietDrop p).bit f = (s.dropLink p).bit f :=
  bit_of_word (word_quietDrop s h)

theorem quietDrop_linkUp (s : Dev) {p : Nat} (h8 : p < 8) : (s.quietDrop p).linkUp p = false :=
  (bit_quietDrop s (linkWord_status h8).1).trans (dropLink_linkUp s h8)

end Dev

end Sys2Proof.Machine
end

section
/-! SUPPORT. Port commands and management frames (R72, R83, R85, R91). -/

namespace Sys2Proof.Machine

namespace Dev

/-! ### RENEG and RECAL (R72, R83) -/

theorem restartAn_port (s : Dev) (p r : Nat) {α : Type} (g : Port → α) (hg : ∀ x i b, g { x with idleAt := i, busyAt := b } = g x) :
    g ((s.restartAn p r).port p) = g { s.port p with renegRate := r, restartDue := false } := modPort_reads _ _ _ g hg

theorem restartAn_negotiates (s : Dev) (p r : Nat) : (s.restartAn p r).bit (prtBit p 3) = true := bit_put_statusBit s (bPRT p) 3 1 (by decide)

theorem restartAn_linkUp (s : Dev) (p r : Nat) : (s.restartAn p r).linkUp p = s.linkUp p :=
  bit_put_statusBit_ne s (bPRT p) 1 (by decide : 3 < 32) (by decide : 1 ≠ 3)

theorem softRaise_soft (s : Dev) (p : Nat) : (s.softRaise p).bit (Reg.PRT_SYNTH.SOFT_REQ p) = true := by
  unfold softRaise
  split
  · assumption
  · rw [bit_modPort, bit_put_same _ _ _ (by decide : 1 + 1 ≤ 32) rfl]
    rfl

/-- A soft request changes PRT_SYNTH alone of the registers, and there its own bit. -/
theorem softRaise_word (s : Dev) {p k : Nat} (h : k ≠ Reg.PRT_SYNTH p) : (s.softRaise p).word k = s.word k := by
  unfold softRaise
  split
  · rfl
  · rw [word_modPort, word_put_other _ _ _ _ h]

theorem softRaise_tune (s : Dev) (p : Nat) : (s.softRaise p).get (Reg.PRT_SYNTH.TUNE_NOW p) = s.get (Reg.PRT_SYNTH.TUNE_NOW p) := by
  unfold softRaise
  split
  · rfl
  · rw [get_modPort, get_put_bits s (Reg.PRT_SYNTH.SOFT_REQ p) (Reg.PRT_SYNTH.TUNE_NOW p) 1 (by decide : 1 + 1 ≤ 32) rfl (.inr (by decide : 1 + 1 ≤ 16))]

theorem reneg_edge {s : Dev} {p : Nat} (hb : s.blockOn (bPRT p) = true) (h4 : 4 ≤ p) :
    s.reneg p = (s.quietDrop p).restartAn p (s.get (Reg.PRT_MODE.SPEED_MAX p)) := by
  rw [reneg, atBlock_on _ _ _ hb, if_neg (by omega)]

theorem reneg_ring {s : Dev} {p : Nat} (hb : s.blockOn (bPRT p) = true) (h4 : p < 4) : s.reneg p = s := by
  rw [reneg, atBlock_on _ _ _ hb, if_pos h4]

/-! ### CLEAR_STATS (R91) -/

theorem word_setWord (s : Dev) (k j : Nat) (w : Word) : (s.setWord k w).word j = if j = k then w else s.word j := Tab.get_set ..

/-- Words cleared one by one read 0, and no other changes. -/
theorem word_foldl_clear (a : Nat → Nat) (n : Nat) (s : Dev) (k : Nat) :
    ((List.range n).foldl (fun s i => s.setWord (a i) 0) s).word k = if ∃ i < n, k = a i then 0 else s.word k := by
  induction n with
  | zero => simp
  | succ n ih =>
    have hx : (∃ i < n + 1, k = a i) ↔ k = a n ∨ ∃ i < n, k = a i := by
      simp only [Nat.lt_succ_iff_lt_or_eq, or_and_right, exists_or, exists_eq_left, or_comm]
    rw [List.range_succ, List.foldl_concat, word_setWord, ih, if_congr hx rfl rfl]
    by_cases hk : k = a n
    · rw [if_pos hk, if_pos (.inl hk)]
    · rw [if_neg hk]
      exact if_congr (or_iff_right hk).symm rfl rfl

theorem WordOnly.foldl {α : Type} {K : Nat → Prop} (l : List α) {f : Dev → α → Dev} (h : ∀ x ∈ l, ∀ s, WordOnly K s (f s x)) (s : Dev) :
    WordOnly K s (l.foldl f s) := by
  induction l generalizing s with
  | nil => exact WordOnly.refl K s
  | cons x l ih => exact (h x (.head _) s).trans (ih (fun y hy => h y (.tail _ hy)) _)

/-- The words that CLEAR_STATS clears at port `p` (R91). -/
def statWords (p k : Nat) : Prop :=
  (∃ i < 22, k = Reg.PRT_RX_CNT p i) ∨ (∃ i < 18, k = Reg.PRT_TX_CNT p i) ∨ k = Reg.PRT_HALF_RX p ∨ k = Reg.PRT_HALF_TX p

/-- CLEAR_STATS at a port whose block is on. -/
def statsCleared (s : Dev) (p : Nat) : Dev :=
  let s := (List.range 22).foldl (fun s i => s.setWord (Reg.PRT_RX_CNT p i) 0) s
  let s := (List.range 18).foldl (fun s i => s.setWord (Reg.PRT_TX_CNT p i) 0) s
  (s.setWord (Reg.PRT_HALF_RX p) 0).setWord (Reg.PRT_HALF_TX p) 0

theorem clearStats_eq {s : Dev} {p : Nat} (hb : s.blockOn (bPRT p) = true) : s.clearStats p = s.statsCleared p := atBlock_on s _ _ hb

theorem word_statsCleared {s : Dev} {p k : Nat} (h : statWords p k) : (s.statsCleared p).word k = 0 := by
  simp only [statsCleared, word_setWord, word_foldl_clear]
  rcases h with h | h | h | h <;> simp [h]

theorem statsCleared_only (s : Dev) (p : Nat) : WordOnly (statWords p) s (s.statsCleared p) :=
  (((WordOnly.foldl _ fun i hi s => WordOnly.setWord _ s _ _ (.inl ⟨i, List.mem_range.mp hi, rfl⟩)) s).trans
    ((WordOnly.foldl _ fun i hi s => WordOnly.setWord _ s _ _ (.inr (.inl ⟨i, List.mem_range.mp hi, rfl⟩))) _)).trans
    ((WordOnly.setWord _ _ _ _ (.inr (.inr (.inl rfl)))).trans (WordOnly.setWord _ _ _ _ (.inr (.inr (.inr rfl)))))

/-! ### Management frames (R85) -/

/-- START is written 1 and reads 1 (R85). -/
theorem writeFields_start (s : Dev) (p : Fin 8) {v : Word} (hv : wbit v 31 = true) :
    (s.writeFields (bPRT p) (Reg.PRT_MDIO p) v).bit (Reg.PRT_MDIO.START p) = true := by
  have hm : ∀ p : Fin 8, (masksOf (bPRT p) (Reg.PRT_MDIO p)).w1s.testBit 31 = true := by decide
  have hset : (s.written (bPRT p) (Reg.PRT_MDIO p) v).toNat.testBit 31 = true := by
    have hv' : v.toNat.testBit 31 = true := hv
    rw [written_toNat]
    simp only [accessWrite, Nat.testBit_or, Nat.testBit_and, hm, hv', Bool.and_true, Bool.or_true]
  have hw : (s.writeFields (bPRT p) (Reg.PRT_MDIO p) v).bit (Reg.PRT_MDIO.START p)
      = ((s.written (bPRT p) (Reg.PRT_MDIO p) v).toNat / 2 ^ 31 % 2 ^ 1 == 1) :=
    congrArg (fun w : Word => w.toNat / 2 ^ 31 % 2 ^ 1 == 1) (word_writeFields _ _ _ _)
  rw [hw, beq_iff_eq, pow_one]
  rwa [Nat.testBit_eq_decide_div_mod_eq, decide_eq_true_eq] at hset

/-- A command on an idle bus goes out at once. -/
theorem mdioQueue_idle {s : Dev} (h : s.mdio = []) (p w : Nat) (own : Bool) :
    s.mdioQueue p w own = { s with mdio := [(p, w, own)] }.emit (.mdio p (s.mdioFrame p w)) := by
  unfold mdioQueue
  simp [h]

/-- The management frame is of the command and of the port's PHY options (R85). -/
theorem mdioFrame_writeFields (s : Dev) (p w : Nat) (v : Word) :
    (s.writeFields (bPRT p) (Reg.PRT_MDIO p) v).mdioFrame p w = s.mdioFrame p w := by
  have hw : (s.writeFields (bPRT p) (Reg.PRT_MDIO p) v).word (Reg.PRT_PHY p) = s.word (Reg.PRT_PHY p) :=
    word_writeFields_other _ _ _ (by simp only [Reg.PRT_PHY, Reg.PRT_MDIO]; omega)
  rw [mdioFrame, mdioFrame, bit_of_word (f := Reg.PRT_PHY.CL45 p) hw, get_of_word (f := Reg.PRT_PHY.PHY_ADDR p) hw]

theorem mdioCommand_busy {s : Dev} {p : Nat} (v : Word) (h : s.bit (Reg.PRT_MDIO.START p) = true) : s.mdioCommand p v = s := if_pos h

theorem mdioCommand_idle {s : Dev} {p : Nat} {v : Word} (h : s.bit (Reg.PRT_MDIO.START p) = false) (hv : wbit v 31 = true) (hm : s.mdio = []) :
    s.mdioCommand p v = { s.writeFields (bPRT p) (Reg.PRT_MDIO p) v with mdio := [(p, v.toNat, false)] }.emit (.mdio p (s.mdioFrame p v.toNat)) := by
  unfold mdioCommand
  rw [if_neg (by rw [h]; decide)]
  dsimp only
  rw [hv, when_true, mdioQueue_idle (s := s.writeFields (bPRT p) (Reg.PRT_MDIO p) v) hm, mdioFrame_writeFields]

/-- The bit and the result of a finished command of the host (R85). -/
def mdioShown (s : Dev) (p data w : Nat) : Dev :=
  ((s.when (w / 2 ^ 29 % 4 == 2 || (w / 2 ^ 29 % 4 == 3 && s.bit (Reg.PRT_PHY.CL45 p))) (·.put (Reg.PRT_MDIO.DATA p) data)).put
    (Reg.PRT_MDIO.START p) 0).raise (bPRT p) 9

/-- The next command that waits goes out. -/
def mdioNext (s : Dev) : Dev :=
  match s.mdio with
  | [] => s
  | (q, w, _) :: _ => s.emit (.mdio q (s.mdioFrame q w))

theorem mdioNext_cases (s : Dev) : s.mdioNext = s ∨ ∃ o, s.mdioNext = s.emit o := by
  unfold mdioNext
  split
  · exact .inl rfl
  · exact .inr ⟨_, rfl⟩

theorem word_mdioNext (s : Dev) (k : Nat) : s.mdioNext.word k = s.word k := by
  obtain h | ⟨o, h⟩ := mdioNext_cases s <;> rw [h]
  exact word_emit s o k

theorem mdio_mdioNext (s : Dev) : s.mdioNext.mdio = s.mdio := by
  obtain h | ⟨o, h⟩ := mdioNext_cases s <;> rw [h]
  exact emit_mdio s o

theorem mdioShown_mdio (s : Dev) (p data w : Nat) : (s.mdioShown p data w).mdio = s.mdio := by
  unfold mdioShown
  cases w / 2 ^ 29 % 4 == 2 || (w / 2 ^ 29 % 4 == 3 && s.bit (Reg.PRT_PHY.CL45 p)) <;> rfl

theorem mdioDone_host {s : Dev} {p w : Nat} (data : Nat) {rest : List (Nat × Nat × Bool)} (hb : s.blockOn (bPRT p) = true) (hm : s.mdio = (p, w, false) :: rest) :
    s.mdioDone p data = (mdioShown { s with mdio := rest } p data w).mdioNext := by
  unfold mdioDone mdioNext
  rw [hm, mdioShown_mdio]
  dsimp only
  rw [if_neg (not_not.mpr rfl), show ({ s with mdio := rest } : Dev).blockOn (bPRT p) = true from hb]
  rfl

theorem mdioShown_word (s : Dev) {p k : Nat} (data w : Nat) (h1 : k ≠ Reg.PRT_MDIO p) (h2 : k ≠ statusAddr (bPRT p)) :
    (s.mdioShown p data w).word k = s.word k := by
  unfold mdioShown
  rw [raise, word_put_other _ _ _ _ h2, word_put_other _ _ _ _ h1, word_when]
  exact word_put_other _ _ _ _ h1

theorem mdioShown_done (s : Dev) (p data w : Nat) : (s.mdioShown p data w).bit (prtBit p 9) = true := bit_put_statusBit _ _ _ _ (by decide)

theorem mdio_ne_status {p : Nat} (h8 : p < 8) : Reg.PRT_MDIO p ≠ statusAddr (bPRT p) := by
  rw [statusAddr_bPRT h8, Reg.PRT_MDIO]
  omega

theorem mdioShown_start (s : Dev) {p : Nat} (data w : Nat) (h8 : p < 8) : (s.mdioShown p data w).bit (Reg.PRT_MDIO.START p) = false := by
  unfold mdioShown
  rw [raise, bit_put_addr _ _ (mdio_ne_status h8), bit_put_same _ _ _ (by decide : 31 + 1 ≤ 32) rfl]
  rfl

theorem mdioShown_data (s : Dev) {p : Nat} (data : BitVec 16) (w : Nat) (h8 : p < 8) :
    (s.mdioShown p data.toNat w).get (Reg.PRT_MDIO.DATA p)
      = if w / 2 ^ 29 % 4 = 2 ∨ (w / 2 ^ 29 % 4 = 3 ∧ s.bit (Reg.PRT_PHY.CL45 p) = true) then data.toNat else s.get (Reg.PRT_MDIO.DATA p) := by
  have hc : (w / 2 ^ 29 % 4 == 2 || (w / 2 ^ 29 % 4 == 3 && s.bit (Reg.PRT_PHY.CL45 p))) = true
      ↔ (w / 2 ^ 29 % 4 = 2 ∨ (w / 2 ^ 29 % 4 = 3 ∧ s.bit (Reg.PRT_PHY.CL45 p) = true)) := by simp
  unfold mdioShown
  rw [raise, get_put_addr _ _ _ _ (mdio_ne_status h8),
    get_put_bits _ (Reg.PRT_MDIO.START p) (Reg.PRT_MDIO.DATA p) _ (by decide : 31 + 1 ≤ 32) rfl (.inl (by decide : 0 + 16 ≤ 31)), ← if_congr hc rfl rfl]
  cases w / 2 ^ 29 % 4 == 2 || (w / 2 ^ 29 % 4 == 3 && s.bit (Reg.PRT_PHY.CL45 p))
  · rfl
  · rw [when_true, get_put_same _ _ _ (by decide : 0 + 16 ≤ 32)]
    exact Nat.mod_eq_of_lt data.isLt

end Dev

theorem exec_reneg (p : Fin 8) (s : State) : exec (.reneg p) s = devStep (fun d => d.hostGate (bPRT p) (Reg.PRT_CMD p) 2 (·.reneg p)) s := rfl
theorem exec_recal (p : Fin 8) (s : State) : exec (.recal p) s = devStep (fun d => d.hostGate (bPRT p) (Reg.PRT_CMD p) 1 (·.recalCmd p)) s := rfl
theorem exec_clearStats (p : Fin 8) (s : State) :
    exec (.clearStats p) s = devStep (fun d => d.hostGate (bPRT p) (Reg.PRT_CMD p) 4 (·.clearStats p)) s := rfl
theorem exec_mdioCommand (p : Fin 8) (v : Word) (s : State) :
    exec (.mdioCommand p v) s = devStep (fun d => d.hostGate (bPRT p) (Reg.PRT_MDIO p) v (·.mdioCommand p v)) s := rfl
theorem exec_mdioDone (p : Fin 8) (data : BitVec 16) (s : State) : exec (.mdioDone p data) s = devStep (·.mdioDone p data.toNat) s := rfl

/-- The end of a command that changed nothing. -/
theorem onlyWords_settle_fresh (s : Dev) (K : Nat → Prop) : s.onlyWords K (Dev.settle s.fresh s.fresh) :=
  Dev.WordOnly.settled (Dev.WordOnly.refl K s.fresh) _

section
variable {s : State} {p : Fin 8} (hb : s.dev.blockOn (bPRT p) = true) (hr : s.dev.hostRefused (Reg.PRT_CMD p) = false)
include hb hr

theorem reneg_edge_answers (h4 : 4 ≤ p.val) : Answers (.reneg p) s fun t => t.dev.linkUp p = false ∧ t.dev.bit (Dev.prtBit p 3) = true
    ∧ (t.dev.port p).renegRate = s.dev.get (Reg.PRT_MODE.SPEED_MAX p) ∧ s.sameMem t := by
  refine answers_hostGate (exec_reneg p s) hb hr ?_
  rw [Dev.reneg_edge (s := s.dev.fresh) hb h4]
  refine ⟨?_, ?_, ?_, rfl, rfl⟩
  · rw [Dev.linkUp, Dev.bit_settle]
    exact (Dev.restartAn_linkUp _ _ _).trans (Dev.quietDrop_linkUp _ p.isLt)
  · rw [Dev.bit_settle, Dev.restartAn_negotiates]
  · rw [Dev.port_settle, Dev.restartAn_port _ _ _ (·.renegRate) fun _ _ _ => rfl]
    rfl

theorem reneg_ring_answers (h4 : p.val < 4) : Answers (.reneg p) s fun t => s.dev.onlyWords (fun _ => False) t.dev ∧ s.sameMem t := by
  refine answers_hostGate (exec_reneg p s) hb hr ?_
  rw [Dev.reneg_ring (s := s.dev.fresh) hb h4]
  exact ⟨onlyWords_settle_fresh _ _, rfl, rfl⟩

theorem recal_answers : Answers (.recal p) s fun t => t.dev.bit (Reg.PRT_SYNTH.SOFT_REQ p) = true
    ∧ (∀ k, k ≠ Reg.PRT_SYNTH p → t.dev.word k = s.dev.word k) ∧ s.sameMem t := by
  have he : s.dev.fresh.recalCmd p = s.dev.fresh.softRaise p := Dev.atBlock_on _ _ _ hb
  refine answers_hostGate (exec_recal p s) hb hr ?_
  rw [he]
  refine ⟨?_, fun k hk => ?_, rfl, rfl⟩
  · rw [Dev.bit_settle, Dev.softRaise_soft]
  · rw [Dev.word_settle, Dev.softRaise_word _ hk, Dev.word_fresh]

theorem clearStats_answers : Answers (.clearStats p) s fun t => (∀ i < 22, t.dev.word (Reg.PRT_RX_CNT p i) = 0) ∧ (∀ i < 18, t.dev.word (Reg.PRT_TX_CNT p i) = 0)
    ∧ t.dev.word (Reg.PRT_HALF_RX p) = 0 ∧ t.dev.word (Reg.PRT_HALF_TX p) = 0 ∧ s.dev.onlyWords (Dev.statWords p) t.dev ∧ s.sameMem t := by
  have hz : ∀ k, Dev.statWords p k → (Dev.settle s.dev.fresh (s.dev.fresh.statsCleared p)).word k = 0 := fun k hk => by
    rw [Dev.word_settle, Dev.word_statsCleared hk]
  refine answers_hostGate (exec_clearStats p s) hb hr ?_
  rw [Dev.clearStats_eq (s := s.dev.fresh) hb]
  exact ⟨fun i hi => hz _ (.inl ⟨i, hi, rfl⟩), fun i hi => hz _ (.inr (.inl ⟨i, hi, rfl⟩)), hz _ (.inr (.inr (.inl rfl))), hz _ (.inr (.inr (.inr rfl))),
    (Dev.statsCleared_only _ _).settled _, rfl, rfl⟩

end

section
variable {s : State} {p : Fin 8} {v : Word} (hb : s.dev.blockOn (bPRT p) = true) (hr : s.dev.hostRefused (Reg.PRT_MDIO p) = false)
include hb hr

theorem mdioCommand_busy_answers (h : s.dev.bit (Reg.PRT_MDIO.START p) = true) :
    Answers (.mdioCommand p v) s fun t => s.dev.onlyWords (fun _ => False) t.dev ∧ s.sameMem t := by
  refine answers_hostGate (exec_mdioCommand p v s) hb hr ?_
  rw [Dev.mdioCommand_busy (s := s.dev.fresh) v h]
  exact ⟨onlyWords_settle_fresh _ _, rfl, rfl⟩

theorem mdioCommand_idle_answers (h : s.dev.bit (Reg.PRT_MDIO.START p) = false) (hv : wbit v 31 = true) (hm : s.dev.mdio = []) :
    Answers (.mdioCommand p v) s fun t => t.dev.bit (Reg.PRT_MDIO.START p) = true ∧ t.dev.mdio = [(p.val, v.toNat, false)]
      ∧ Output.mdio p (s.dev.mdioFrame p v.toNat) ∈ t.dev.out ∧ (∀ k, k ≠ Reg.PRT_MDIO p → t.dev.word k = s.dev.word k) ∧ s.sameMem t := by
  refine answers_hostGate (exec_mdioCommand p v s) hb hr ?_
  rw [Dev.mdioCommand_idle (s := s.dev.fresh) h hv hm]
  refine ⟨?_, ?_, Dev.mem_settle_out _ _ _ (List.mem_append_right _ (List.mem_singleton_self _)), fun k hk => ?_, rfl, rfl⟩
  · rw [Dev.bit_settle, Dev.bit_emit]
    exact Dev.writeFields_start _ p hv
  · rw [Dev.settle_mdio]
    rfl
  · rw [Dev.word_settle]
    exact Dev.word_writeFields_other s.dev.fresh (bPRT p) v hk

end

theorem mdioDone_answers (s : State) (p : Fin 8) (data : BitVec 16) (w : Nat) (rest : List (Nat × Nat × Bool)) (hb : s.dev.blockOn (bPRT p) = true)
    (hm : s.dev.mdio = (p.val, w, false) :: rest) :
    Answers (.mdioDone p data) s fun t => t.dev.bit (Reg.PRT_MDIO.START p) = false ∧ t.dev.bit (Dev.prtBit p 9) = true ∧ t.dev.mdio = rest
      ∧ t.dev.get (Reg.PRT_MDIO.DATA p) = (if w / 2 ^ 29 % 4 = 2 ∨ (w / 2 ^ 29 % 4 = 3 ∧ s.dev.bit (Reg.PRT_PHY.CL45 p) = true) then data.toNat else s.dev.get (Reg.PRT_MDIO.DATA p))
      ∧ (∀ k, k ≠ Reg.PRT_MDIO p → k ≠ statusAddr (bPRT p) → t.dev.word k = s.dev.word k) ∧ s.sameMem t := by
  refine answers_devStep (exec_mdioDone p data s) ?_
  rw [Dev.mdioDone_host (s := s.dev.fresh) data.toNat hb hm]
  refine ⟨?_, ?_, ?_, ?_, fun k h1 h2 => ?_, rfl, rfl⟩
  · rw [Dev.bit_settle, Dev.bit_of_word (Dev.word_mdioNext _ _), Dev.mdioShown_start _ _ _ p.isLt]
  · rw [Dev.bit_settle, Dev.bit_of_word (Dev.word_mdioNext _ _), Dev.mdioShown_done]
  · rw [Dev.settle_mdio, Dev.mdio_mdioNext, Dev.mdioShown_mdio]
  · rw [Dev.get_settle, Dev.get_of_word (Dev.word_mdioNext _ _), Dev.mdioShown_data _ _ _ p.isLt]
    rfl
  · rw [Dev.word_settle, Dev.word_mdioNext, Dev.mdioShown_word _ _ _ h1 h2]
    rfl

/-- Settles O25: each command of PRT_CMD writes the words it names, and a management command stands in PRT_MDIO from its start to its end. CLEAR_STATS leaves PRT_WINDOW_LOST, as log entry 39 has it. -/
theorem portCommands : Obligations.PortCommands :=
  ⟨fun _ _ hb hr => ⟨reneg_edge_answers hb hr, reneg_ring_answers hb hr, recal_answers hb hr, clearStats_answers hb hr⟩,
    fun _ _ _ hb hr => ⟨mdioCommand_busy_answers hb hr, mdioCommand_idle_answers hb hr⟩, mdioDone_answers⟩

end Sys2Proof.Machine
end

section
/-! SUPPORT. Rate shifts, the PHY interrupt, the equaliser's limit and the error rate of the PCS (R71, R81, R82, R86, R93). -/

namespace Sys2Proof.Machine

namespace Dev

/-! ### Rate shifts (R81, R82) -/

theorem word_quietDrop_other (s : Dev) {p k : Nat} (h : linkWord p k) (hs : k ≠ statusAddr (bPRT p)) : (s.quietDrop p).word k = s.word k :=
  (word_quietDrop s h.1).trans (word_dropLink s h hs)

/-- A shift before its words are advertised: the link is down, auto-negotiation runs, the event bit and the count are set. -/
def shiftBegun (s : Dev) (p r : Nat) : Dev := (((s.quietDrop p).restartAn p r).raise (bPRT p) 7).inc (Reg.PRT_DS_CNT.COUNT p)

/-- The registers and the ports at an instant, which a management command that is queued leaves. -/
def portView (s : Dev) : Tab Word × Tab Port × Nat := (s.regs, s.ports, s.up)

theorem mdioQueue_portView (s : Dev) (p w : Nat) (own : Bool) : (s.mdioQueue p w own).portView = s.portView := by
  unfold mdioQueue
  dsimp only
  split <;> rfl

/-- The advertised words change neither registers nor ports. -/
theorem shiftTo_eq (s : Dev) (p r : Nat) : ∃ u : Dev, u.portView = (s.shiftBegun p r).portView
    ∧ s.shiftTo p r = u.modPort p fun x => { x with shiftAt := some u.up, belowAt := none } :=
  ⟨_, foldl_keeps portView _ (fun _ _ s => mdioQueue_portView s.freeWord.2 p _ true) (s.shiftBegun p r), rfl⟩

theorem shiftBegun_up (s : Dev) (p r : Nat) : (s.shiftBegun p r).up = s.up := by
  show (s.quietDrop p).up = s.up
  exact up_of_root (quietDrop_root s p)

section
variable (s : Dev) {p : Nat} (r : Nat) (h8 : p < 8)
include h8

theorem dsCnt_ne_status : Reg.PRT_DS_CNT p ≠ statusAddr (bPRT p) := by
  rw [statusAddr_bPRT h8, Reg.PRT_DS_CNT]
  omega

theorem bit_shiftBegun_status (n : Nat) (hn : n ≠ 7) : (s.shiftBegun p r).bit (prtBit p n) = ((s.quietDrop p).restartAn p r).bit (prtBit p n) :=
  (bit_put_addr _ _ (dsCnt_ne_status h8).symm).trans (bit_put_statusBit_ne _ _ _ (by decide) hn)

theorem shiftBegun_linkUp : (s.shiftBegun p r).linkUp p = false := by
  rw [linkUp, bit_shiftBegun_status s r h8 1 (by decide)]
  exact (restartAn_linkUp _ _ _).trans (quietDrop_linkUp s h8)

theorem shiftBegun_negotiates : (s.shiftBegun p r).bit (prtBit p 3) = true := by
  rw [bit_shiftBegun_status s r h8 3 (by decide), restartAn_negotiates]

theorem shiftBegun_downshift : (s.shiftBegun p r).bit (prtBit p 7) = true :=
  (bit_put_addr _ _ (dsCnt_ne_status h8).symm).trans (bit_put_statusBit _ _ _ _ (by decide))

theorem shiftBegun_count : (s.shiftBegun p r).get (Reg.PRT_DS_CNT.COUNT p) = (s.get (Reg.PRT_DS_CNT.COUNT p) + 1) % 2 ^ 32 := by
  have hw : (((s.quietDrop p).restartAn p r).raise (bPRT p) 7).word (Reg.PRT_DS_CNT p) = s.word (Reg.PRT_DS_CNT p) := by
    rw [raise, word_put_other _ _ _ _ (dsCnt_ne_status h8), restartAn, word_modPort, word_put_other _ _ _ _ (dsCnt_ne_status h8)]
    refine word_quietDrop_other s ?_ (dsCnt_ne_status h8)
    simp only [linkWord, Reg.PRT_DS_CNT, Reg.PRT_TX_CNT, Reg.PRT_HALF_TX]
    omega
  rw [shiftBegun, get_inc_same _ rfl rfl, get_of_word (f := Reg.PRT_DS_CNT.COUNT p) hw]

/-- What a shift leaves (R81). -/
theorem shiftTo_facts : (s.shiftTo p r).linkUp p = false ∧ (s.shiftTo p r).bit (prtBit p 3) = true ∧ ((s.shiftTo p r).port p).renegRate = r
    ∧ (s.shiftTo p r).bit (prtBit p 7) = true ∧ (s.shiftTo p r).get (Reg.PRT_DS_CNT.COUNT p) = (s.get (Reg.PRT_DS_CNT.COUNT p) + 1) % 2 ^ 32
    ∧ ((s.shiftTo p r).port p).shiftAt = some s.up := by
  obtain ⟨u, hu, he⟩ := shiftTo_eq s p r
  have hregs : u.regs = (s.shiftBegun p r).regs := congrArg (·.1) hu
  have hports : u.ports = (s.shiftBegun p r).ports := congrArg (·.2.1) hu
  have hup : u.up = s.up := (congrArg (·.2.2) hu).trans (shiftBegun_up s p r)
  have hport : u.port p = ((s.quietDrop p).restartAn p r).port p := by rw [port, hports]; rfl
  rw [he]
  refine ⟨?_, ?_, ?_, ?_, ?_, ?_⟩
  · rw [linkUp, bit_modPort, bit_of_regs hregs]
    exact shiftBegun_linkUp s r h8
  · rw [bit_modPort, bit_of_regs hregs, shiftBegun_negotiates s r h8]
  · rw [modPort_reads u p _ (·.renegRate) fun _ _ _ => rfl]
    show (u.port p).renegRate = r
    rw [hport]
    exact restartAn_port _ _ _ (·.renegRate) fun _ _ _ => rfl
  · rw [bit_modPort, bit_of_regs hregs, shiftBegun_downshift s r h8]
  · rw [get_modPort, get_of_regs hregs, shiftBegun_count s r h8]
  · rw [modPort_reads u p _ (·.shiftAt) fun _ _ _ => rfl, hup]

end

theorem downshift_eq {s : Dev} {p r t0 : Nat} (hb : s.blockOn (bPRT p) = true) (hs : s.shifts p = true) (hu : s.linkUp p = true)
    (hd : s.dwellOver p = true) (hr : s.lowerRate p = some r) (ht : (s.port p).belowAt = some t0) (h : t0 + s.dwellNs p ≤ s.up) :
    s.downshift p = s.shiftTo p r := by
  rw [downshift, atBlock_on _ _ _ hb, if_pos ⟨hs, hu, hd⟩, hr, ht]
  exact if_pos h

theorem upshift_eq {s : Dev} {p r : Nat} (hb : s.blockOn (bPRT p) = true) (hs : s.shifts p = true) (hu : s.linkUp p = true)
    (hd : s.dwellOver p = true) (hr : s.higherRate p = some r)
    (h : pct (s.get (Reg.PRT_DS.UP_PCT p)) * rateKbps (s.rate p) < 800 * max (s.port p).txLast (s.port p).rxLast) : s.upshift p = s.shiftTo p r := by
  have hm : pct (s.get (Reg.PRT_DS.UP_PCT p)) * rateKbps (s.rate p) < 800 * (s.port p).txLast
      ∨ pct (s.get (Reg.PRT_DS.UP_PCT p)) * rateKbps (s.rate p) < 800 * (s.port p).rxLast := by
    rcases max_choice (s.port p).txLast (s.port p).rxLast with he | he <;> rw [he] at h
    · exact .inl h
    · exact .inr h
  rw [upshift, atBlock_on _ _ _ hb]
  dsimp only
  rw [if_pos ⟨hs, hu, hd, hm⟩, hr]

/-! ### PHY interrupt (R86) -/

theorem phyInt_eq {s : Dev} {p : Nat} (low : Bool) (hb : s.blockOn (bPRT p) = true) :
    s.phyInt p low = (s.modPort p fun x => { x with phyLow := low }).when (low && s.bit (Reg.PRT_PHY.INT_EN p)) (·.raise (bPRT p) 10) := by
  rw [phyInt, atBlock_on _ _ _ hb, phyIntCheck, modPort_reads s p _ (·.phyLow) fun _ _ _ => rfl]
  rfl

/-! ### Equaliser and PCS (R71, R93) -/

theorem eqLimit_frozen {s : Dev} {p : Nat} (high : Bool) (hb : s.blockOn (bPRT p) = true)
    (h : s.bit (Reg.PRT_EQ.EQ_FREEZE p) = true ∨ s.bit (ctlBit (bPRT p) 16) = true) : s.eqLimit p high = s := by
  rw [eqLimit, atBlock_on _ _ _ hb]
  exact if_pos (by rw [eqFrozen, Bool.or_eq_true]; exact h)

/-- The limit as it acts: CTLE_MAX above, and below CTLE_MIN unless it is above CTLE_MAX (R93). -/
def eqBound (s : Dev) (p : Nat) (high : Bool) : Nat :=
  if high then s.get (Reg.PRT_EQ.CTLE_MAX p) else min (s.get (Reg.PRT_EQ.CTLE_MAX p)) (s.get (Reg.PRT_EQ.CTLE_MIN p))

theorem eqBound_lt (s : Dev) (p : Nat) (high : Bool) : s.eqBound p high < 2 ^ 5 := by
  have hmax : s.get (Reg.PRT_EQ.CTLE_MAX p) < 2 ^ 5 := Nat.mod_lt _ (by decide : 0 < 2 ^ 5)
  unfold eqBound
  split
  · exact hmax
  · exact (Nat.min_le_left _ _).trans_lt hmax

theorem eqLimit_free {s : Dev} {p : Nat} (high : Bool) (hb : s.blockOn (bPRT p) = true)
    (h1 : s.bit (Reg.PRT_EQ.EQ_FREEZE p) = false) (h2 : s.bit (ctlBit (bPRT p) 16) = false) :
    s.eqLimit p high = (s.put (Reg.PRT_EQ.CTLE_NOW p) (s.eqBound p high)).fault (bPRT p) 2 := by
  have hset : max (s.ctleLo p) (min (s.ctleHi p) (if high then s.ctleHi p else s.ctleLo p)) = s.eqBound p high := by
    unfold ctleLo ctleHi eqBound
    split <;> omega
  rw [eqLimit, atBlock_on _ _ _ hb, if_neg (by rw [eqFrozen, h1, h2]; decide), ctleSet, hset]

/-- The words of a port's window that a fault of the port leaves alone. -/
theorem not_faultWords_bPRT {p k : Nat} (h8 : p < 8) (h0 : 0x40000 ≤ k) (hk : k < 0xC0000) (hs : k ≠ 0x40020 + 0x10000 * p) : ¬ faultWords (bPRT p) k := by
  simp only [faultWords, stickyAddr_bPRT h8, Reg.STA_LOG_LOST, Reg.TRC_LOST, show stickyAddr bTRC = 0x2F0020 from rfl,
    show statusAddr bTRC = 0x2F0008 from rfl]
  omega

theorem not_faultWords_eq {p : Nat} (h8 : p < 8) : ¬ faultWords (bPRT p) (Reg.PRT_EQ p) := by
  apply not_faultWords_bPRT h8 <;> rw [Reg.PRT_EQ] <;> omega

end Dev

theorem exec_downshift (p : Fin 8) (s : State) : exec (.downshift p) s = devStep (·.downshift p) s := rfl
theorem exec_upshift (p : Fin 8) (s : State) : exec (.upshift p) s = devStep (·.upshift p) s := rfl
theorem exec_phyInt (p : Fin 8) (low : Bool) (s : State) : exec (.phyInt p low) s = devStep (·.phyInt p low) s := rfl
theorem exec_eqLimit (p : Fin 8) (high : Bool) (s : State) : exec (.eqLimit p high) s = devStep (·.eqLimit p high) s := rfl
theorem exec_pcsErr (p : Fin 8) (s : State) : exec (.pcsErr p) s = devStep (·.atBlock (bPRT p) (·.fault (bPRT p) 3)) s := rfl

theorem port_lt (p : Fin 8) : bPRT p < 28 := by
  show 4 + p.val < 28
  omega

/-- A command that shifts the rate of a port answers as R81 says, in either direction. -/
theorem shift_answers {c : Instr} {s : State} {p : Fin 8} {r : Nat} {f : Dev → Dev} (he : exec c s = devStep f s) (hf : f s.dev.fresh = s.dev.fresh.shiftTo p r) :
    Answers c s fun t => t.dev.linkUp p = false ∧ t.dev.bit (Dev.prtBit p 3) = true ∧ (t.dev.port p).renegRate = r ∧ t.dev.bit (Dev.prtBit p 7) = true
      ∧ t.dev.get (Reg.PRT_DS_CNT.COUNT p) = (s.dev.get (Reg.PRT_DS_CNT.COUNT p) + 1) % 2 ^ 32 ∧ (t.dev.port p).shiftAt = some s.dev.up ∧ s.sameMem t := by
  obtain ⟨hlink, hneg, hrate, hevent, hcount, hat⟩ := Dev.shiftTo_facts s.dev.fresh r p.isLt
  refine answers_devStep he ?_
  rw [hf]
  refine ⟨?_, ?_, ?_, ?_, ?_, ?_, rfl, rfl⟩
  · rw [Dev.linkUp, Dev.bit_settle]
    exact hlink
  · rw [Dev.bit_settle, hneg]
  · rw [Dev.port_settle, hrate]
  · rw [Dev.bit_settle, hevent]
  · rw [Dev.get_settle, hcount, Dev.get_fresh]
  · rw [Dev.port_settle, hat, Dev.fresh_up]

theorem phyInt_answers (s : State) (p : Fin 8) (low : Bool) (hb : s.dev.blockOn (bPRT p) = true) :
    Answers (.phyInt p low) s fun t => (t.dev.port p).phyLow = low
      ∧ t.dev.bit (Dev.prtBit p 10) = (s.dev.bit (Dev.prtBit p 10) || (low && s.dev.bit (Reg.PRT_PHY.INT_EN p)))
      ∧ (∀ k, k ≠ statusAddr (bPRT p) → t.dev.word k = s.dev.word k) ∧ s.sameMem t := by
  refine answers_devStep (exec_phyInt p low s) ?_
  rw [Dev.phyInt_eq (s := s.dev.fresh) low hb]
  refine ⟨?_, ?_, fun k hk => ?_, rfl, rfl⟩
  · rw [Dev.port_settle, Dev.port_when _ (by rfl), Dev.modPort_reads _ _ _ (·.phyLow) fun _ _ _ => rfl]
  · rw [Dev.bit_settle]
    exact Dev.bit_raise_when _ _ _ _ (by decide)
  · rw [Dev.word_settle, Dev.word_when _ (Dev.word_put_other _ _ _ _ hk), Dev.word_modPort, Dev.word_fresh]

section
variable (s : State) (p : Fin 8) (high : Bool) (hb : s.dev.blockOn (bPRT p) = true)
include hb

theorem eqLimit_frozen_answers (h : s.dev.bit (Reg.PRT_EQ.EQ_FREEZE p) = true ∨ s.dev.bit (ctlBit (bPRT p) 16) = true) :
    Answers (.eqLimit p high) s fun t => s.dev.onlyWords (fun _ => False) t.dev ∧ s.sameMem t := by
  refine answers_devStep (exec_eqLimit p high s) ?_
  rw [Dev.eqLimit_frozen (s := s.dev.fresh) high hb h]
  exact ⟨onlyWords_settle_fresh _ _, rfl, rfl⟩

theorem eqLimit_free_answers (h1 : s.dev.bit (Reg.PRT_EQ.EQ_FREEZE p) = false) (h2 : s.dev.bit (ctlBit (bPRT p) 16) = false) :
    Answers (.eqLimit p high) s fun t => t.dev.bit (stickyBit (bPRT p) 2) = true
      ∧ t.dev.get (Reg.PRT_EQ.CTLE_NOW p) = (if high then s.dev.get (Reg.PRT_EQ.CTLE_MAX p) else min (s.dev.get (Reg.PRT_EQ.CTLE_MAX p)) (s.dev.get (Reg.PRT_EQ.CTLE_MIN p)))
      ∧ s.dev.onlyWordsAndFaults (fun k => k = Reg.PRT_EQ p ∨ Dev.faultWords (bPRT p) k) t.dev ∧ s.sameMem t := by
  refine answers_devStep (exec_eqLimit p high s) ?_
  rw [Dev.eqLimit_free (s := s.dev.fresh) high hb h1 h2]
  refine ⟨?_, ?_, ?_, rfl, rfl⟩
  · rw [Dev.bit_settle, Dev.fault_sticky _ _ _ (port_lt p) (by decide)]
  · rw [Dev.get_settle, Dev.get_fault _ _ _ _ (Dev.not_faultWords_eq p.isLt), Dev.get_put_same _ _ _ (by decide : 8 + 5 ≤ 32)]
    exact Nat.mod_eq_of_lt (Dev.eqBound_lt _ _ _)
  · exact ((Dev.FaultOnly.put _ _ (Reg.PRT_EQ.CTLE_NOW p) _ (.inl rfl)).trans ((Dev.fault_only _ _ _).mono fun _ h => .inr h)).settled _

theorem pcsErr_answers : Answers (.pcsErr p) s fun t => t.dev.bit (stickyBit (bPRT p) 3) = true
    ∧ s.dev.onlyWordsAndFaults (Dev.faultWords (bPRT p)) t.dev ∧ s.sameMem t := by
  refine answers_atBlock (exec_pcsErr p s) hb ⟨?_, (Dev.fault_only _ _ _).settled _, rfl, rfl⟩
  rw [Dev.bit_settle, Dev.fault_sticky _ _ _ (port_lt p) (by decide)]

end

/-- Settles O27: both shifts are one, by the rate that the port's lists give; a limit and a PCS error are events of its own sources. -/
theorem portRates : Obligations.PortRates :=
  ⟨fun s p _ _ hb hs hu hd hr ht h => shift_answers (exec_downshift p s) (Dev.downshift_eq (s := s.dev.fresh) hb hs hu hd hr ht h),
    fun s p _ hb hs hu hd hr h => shift_answers (exec_upshift p s) (Dev.upshift_eq (s := s.dev.fresh) hb hs hu hd hr h),
    phyInt_answers, fun s p high hb => ⟨eqLimit_frozen_answers s p high hb, eqLimit_free_answers s p high hb⟩, pcsErr_answers⟩

end Sys2Proof.Machine
end

section
/-! SUPPORT. Recalibration of a port's transmit synthesiser and losses held in a quiet gap (R72, R76 to R80). -/

namespace Sys2Proof.Machine

namespace Dev

/-! ### Addresses of a port's words -/

theorem synth_ne_status {p : Nat} (h8 : p < 8) : Reg.PRT_SYNTH p ≠ statusAddr (bPRT p) := by
  rw [statusAddr_bPRT h8, Reg.PRT_SYNTH]
  omega

theorem linkWord_synth {p : Nat} (h8 : p < 8) : linkWord p (Reg.PRT_SYNTH p) := by
  simp only [linkWord, Reg.PRT_SYNTH, Reg.PRT_TX_CNT, Reg.PRT_HALF_TX]
  omega

theorem not_faultWords_synth {p : Nat} (h8 : p < 8) : ¬ faultWords (bPRT p) (Reg.PRT_SYNTH p) := by
  apply not_faultWords_bPRT h8 <;> rw [Reg.PRT_SYNTH] <;> omega

/-! ### A recalibration begins (R77) -/

theorem recalBegin_active (s : Dev) (p : Nat) : (s.recalBegin p).bit (Reg.PRT_SYNTH.RECAL_ACTIVE p) = true := by
  rw [recalBegin, bit_modPort, bit_put_same _ _ _ (by decide : 0 + 1 ≤ 32) rfl]
  rfl

theorem recalBegin_txSettled (s : Dev) {p : Nat} (h8 : p < 8) : (s.recalBegin p).txSettled p = false := by
  rw [txSettled, recalBegin, bit_modPort, bit_put_addr _ _ (synth_ne_status h8).symm, unsettle, bit_modPort]
  exact bit_put_statusBit _ _ _ _ (by decide)

theorem recalBegin_recalAt (s : Dev) (p : Nat) : ((s.recalBegin p).port p).recalAt = some s.up := modPort_reads _ _ _ (·.recalAt) fun _ _ _ => rfl

theorem recalBegin_line (s : Dev) (p : Nat) : ((s.recalBegin p).port p).line = (s.port p).line := by
  rw [recalBegin, modPort_reads _ p _ (·.line) fun _ _ _ => rfl, port_put, unsettle, modPort_reads _ p _ (·.line) fun _ _ _ => rfl, port_put]

theorem recalBegin_word (s : Dev) {p k : Nat} (h1 : k ≠ Reg.PRT_SYNTH p) (h2 : k ≠ statusAddr (bPRT p)) : (s.recalBegin p).word k = s.word k := by
  rw [recalBegin, word_modPort, word_put_other _ _ _ _ h1, unsettle, word_modPort, word_put_other _ _ _ _ h2]

theorem recalBegin_tune (s : Dev) {p : Nat} (h8 : p < 8) : (s.recalBegin p).get (Reg.PRT_SYNTH.TUNE_NOW p) = s.get (Reg.PRT_SYNTH.TUNE_NOW p) := by
  rw [recalBegin, get_modPort, get_put_bits _ (Reg.PRT_SYNTH.RECAL_ACTIVE p) (Reg.PRT_SYNTH.TUNE_NOW p) 1 (by decide : 0 + 1 ≤ 32) rfl (.inr (by decide : 0 + 1 ≤ 16)),
    unsettle, get_modPort, get_put_addr _ _ _ _ (synth_ne_status h8)]

/-! ### The frame on the line is cut (R79) -/

theorem cutLine_line (s : Dev) (p : Nat) : ((s.cutLine p).port p).line = none := by
  unfold cutLine
  split
  · assumption
  · rw [(dropLate_only _ _ _).port_eq, modPort_reads _ _ _ (·.line) fun _ _ _ => rfl]

theorem word_cutLine (s : Dev) {p k : Nat} (h : linkWord p k) : (s.cutLine p).word k = s.word k := by
  unfold cutLine
  split
  · rfl
  · exact word_dropLate _ _ h

theorem cutLine_root (s : Dev) (p : Nat) : (s.cutLine p).root = s.root := by
  unfold cutLine
  split <;> simp

/-! ### TUNE_NOW takes a position (R72, R79) -/

/-- A position outside the soft margin (R72). -/
def offMargin (s : Dev) (p tune : Nat) : Bool := Nat.blt tune (s.softMargin p) || Nat.blt (255 - s.softMargin p) tune

theorem put_tune_softMargin (s : Dev) (p tune : Nat) : (s.put (Reg.PRT_SYNTH.TUNE_NOW p) tune).softMargin p = s.softMargin p :=
  congrArg (max 1) (get_put_bits s (Reg.PRT_SYNTH.TUNE_NOW p) (Reg.PRT_SYNTH.SOFT_MARGIN p) tune (by decide : 16 + 8 ≤ 32) rfl (.inl (by decide : 8 + 8 ≤ 16)))

theorem put_tune_soft (s : Dev) (p tune : Nat) : (s.put (Reg.PRT_SYNTH.TUNE_NOW p) tune).bit (Reg.PRT_SYNTH.SOFT_REQ p) = s.bit (Reg.PRT_SYNTH.SOFT_REQ p) :=
  bit_put_other s _ _ tune (by decide : 16 + 8 ≤ 32) (.inr (.inl (by decide : 1 + 1 ≤ 16)))

theorem put_tune_now (s : Dev) (p : Nat) (tune : BitVec 8) : (s.put (Reg.PRT_SYNTH.TUNE_NOW p) tune.toNat).get (Reg.PRT_SYNTH.TUNE_NOW p) = tune.toNat := by
  rw [get_put_same _ _ _ (by decide : 16 + 8 ≤ 32)]
  exact Nat.mod_eq_of_lt tune.isLt

theorem tuneMove_within (s : Dev) (p : Nat) {tune : BitVec 8} (h0 : tune ≠ 0) (h1 : tune ≠ 255) :
    s.tuneMove p tune.toNat = (s.put (Reg.PRT_SYNTH.TUNE_NOW p) tune.toNat).when (s.offMargin p tune.toNat) (·.softRaise p) := by
  unfold tuneMove
  dsimp only
  rw [if_neg fun h => h.elim (fun h => h0 (BitVec.eq_of_toNat_eq h)) fun h => h1 (BitVec.eq_of_toNat_eq h), put_tune_softMargin]
  rfl

/-- What a position within the band leaves (R72). -/
theorem tuneMove_within_facts (s : Dev) (p : Nat) {tune : BitVec 8} (h0 : tune ≠ 0) (h1 : tune ≠ 255) :
    (s.tuneMove p tune.toNat).get (Reg.PRT_SYNTH.TUNE_NOW p) = tune.toNat
      ∧ (s.tuneMove p tune.toNat).bit (Reg.PRT_SYNTH.SOFT_REQ p) = (s.bit (Reg.PRT_SYNTH.SOFT_REQ p) || s.offMargin p tune.toNat)
      ∧ ∀ k, k ≠ Reg.PRT_SYNTH p → (s.tuneMove p tune.toNat).word k = s.word k := by
  rw [tuneMove_within s p h0 h1]
  cases s.offMargin p tune.toNat
  · rw [when_false]
    exact ⟨put_tune_now s p tune, (put_tune_soft s p _).trans (Bool.or_false _).symm, fun k hk => word_put_other _ _ _ _ hk⟩
  · rw [when_true]
    exact ⟨(softRaise_tune _ p).trans (put_tune_now s p tune), (softRaise_soft _ p).trans (Bool.or_true _).symm,
      fun k hk => (softRaise_word _ hk).trans (word_put_other _ _ _ _ hk)⟩

/-- The device after TX_PLL_UNLOCK: the loss of lock is recorded and the frame on the line is cut (R79). -/
def unlocked (s : Dev) (p tune : Nat) : Dev := ((s.put (Reg.PRT_SYNTH.TUNE_NOW p) tune).fault (bPRT p) 0).cutLine p

theorem tuneMove_end (s : Dev) (p : Nat) {tune : BitVec 8} (h : tune = 0 ∨ tune = 255) : s.tuneMove p tune.toNat = (s.unlocked p tune.toNat).recalBegin p :=
  if_pos (h.imp (fun h => h ▸ rfl) fun h => h ▸ rfl)

/-- What a position at an end of the band leaves (R72, R79). -/
theorem tuneMove_end_facts (s : Dev) {p : Nat} (h8 : p < 8) {tune : BitVec 8} (h : tune = 0 ∨ tune = 255) :
    (s.tuneMove p tune.toNat).get (Reg.PRT_SYNTH.TUNE_NOW p) = tune.toNat ∧ (s.tuneMove p tune.toNat).bit (stickyBit (bPRT p) 0) = true
      ∧ (s.tuneMove p tune.toNat).txSettled p = false ∧ (s.tuneMove p tune.toNat).bit (Reg.PRT_SYNTH.RECAL_ACTIVE p) = true
      ∧ ((s.tuneMove p tune.toNat).port p).line = none ∧ ((s.tuneMove p tune.toNat).port p).recalAt = some s.up := by
  have hup : (s.unlocked p tune.toNat).up = s.up := by
    refine up_of_root ((cutLine_root _ p).trans ((fault_root _ 0 (show 3 ≤ 4 + p by omega)).trans (put_root _ _ ?_)))
    show 0x30000 ≤ 0x40114 + 0x10000 * p
    omega
  rw [tuneMove_end s p h]
  refine ⟨?_, ?_, recalBegin_txSettled _ h8, recalBegin_active _ p, (recalBegin_line _ p).trans (cutLine_line _ p), hup ▸ recalBegin_recalAt _ p⟩
  · rw [recalBegin_tune _ h8, unlocked, get_of_word (word_cutLine _ (linkWord_synth h8)), get_fault _ _ _ _ (not_faultWords_synth h8), put_tune_now]
  · have hw : ((s.unlocked p tune.toNat).recalBegin p).word (stickyAddr (bPRT p))
        = ((s.put (Reg.PRT_SYNTH.TUNE_NOW p) tune.toNat).fault (bPRT p) 0).word (stickyAddr (bPRT p)) := by
      rw [recalBegin_word _ (by rw [stickyAddr_bPRT h8, Reg.PRT_SYNTH]; omega) (by rw [stickyAddr_bPRT h8, statusAddr_bPRT h8]; omega), unlocked, word_cutLine]
      simp only [linkWord, stickyAddr_bPRT h8, Reg.PRT_TX_CNT, Reg.PRT_HALF_TX]
      omega
    rw [bit_of_word (f := stickyBit (bPRT p) 0) hw, fault_sticky _ _ _ (show 4 + p < 28 by omega) (by decide)]

/-! ### A pending request is served (R76, R80) -/

theorem recalStart_eq {s : Dev} {p : Nat} {g : Nat × Nat} {t0 t1 : Nat} (hb : s.blockOn (bPRT p) = true) (h4 : p < 4)
    (hs : s.bit (Reg.PRT_SYNTH.SOFT_REQ p) = true) (ha : s.bit (Reg.PRT_SYNTH.RECAL_ACTIVE p) = false) (hg : s.inGap p = some g)
    (ht0 : t0 = s.up - ((s.ringSchedule (ringOf p)).phase s.now - g.1 * 65536) / 65536) (hi : s.firstIdle p t0 = some t1)
    (hu : s.up < t1 + 2) (hl : t1 - t0 + 30000 ≤ g.2 - g.1) (hr : s.ringHealthy (1 - ringOf p) = true) : s.recalStart p = s.recalBegin p := by
  have hgo : (Nat.blt s.up (t1 + 2) && Nat.ble (t1 - t0 + 30000) (g.2 - g.1) && s.ringHealthy (1 - ringOf p)) = true := by
    simp only [Bool.and_eq_true, Nat.blt_eq, Nat.ble_eq]
    exact ⟨⟨hu, hl⟩, hr⟩
  rw [recalStart, atBlock_on _ _ _ hb, if_pos ⟨h4, hs, by rw [ha]; decide⟩, hg]
  dsimp only
  rw [← ht0, hi]
  dsimp only
  rw [hgo, when_true]

theorem edgeRecalStart_eq {s : Dev} {p : Nat} (hb : s.blockOn (bPRT p) = true) (h4 : 4 ≤ p) (hs : s.bit (Reg.PRT_SYNTH.SOFT_REQ p) = true)
    (ha : s.bit (Reg.PRT_SYNTH.RECAL_ACTIVE p) = false) (hi : s.txIdle p = true)
    (hc : ∀ c < 8, s.carriesScheduled p c = true → s.closedThrough p c s.now (s.now + 40000 * 65536) = true) : s.edgeRecalStart p = s.recalBegin p := by
  have hall : ((List.range 8).all fun c => !s.carriesScheduled p c || s.closedThrough p c s.now (s.now + 40000 * 65536)) = true := by
    rw [List.all_eq_true]
    intro c hmem
    rw [Bool.or_eq_true, Bool.not_eq_true', ← Bool.not_eq_true]
    exact (Decidable.em _).symm.imp_right (hc c (List.mem_range.mp hmem))
  rw [edgeRecalStart, atBlock_on _ _ _ hb]
  exact if_pos ⟨h4, hs, by rw [ha]; decide, hi, hall⟩

/-! ### The end of a recalibration (R77) -/

/-- The words of a recalibration that has ended. -/
def recalEnded (s : Dev) (p : Nat) : Dev :=
  ((((s.tuned p).raise (bPRT p) 5).put (Reg.PRT_SYNTH.RECAL_ACTIVE p) 0).put (Reg.PRT_SYNTH.SOFT_REQ p) 0).inc (Reg.PRT_RECAL_CNT.COUNT p)

theorem recalDone_eq {s : Dev} {p : Nat} (hb : s.blockOn (bPRT p) = true) (ha : s.bit (Reg.PRT_SYNTH.RECAL_ACTIVE p) = true) :
    s.recalDone p = (s.recalEnded p).modPort p fun x => { x with recalAt := none } := by
  rw [recalDone, atBlock_on _ _ _ hb]
  exact if_neg (not_not.mpr ha)

section
variable (s : Dev) {p : Nat} (h8 : p < 8)
include h8

theorem recalCnt_ne_status : Reg.PRT_RECAL_CNT p ≠ statusAddr (bPRT p) := by
  rw [statusAddr_bPRT h8, Reg.PRT_RECAL_CNT]
  omega

theorem bit_recalEnded_status (n : Nat) : (s.recalEnded p).bit (prtBit p n) = ((s.tuned p).raise (bPRT p) 5).bit (prtBit p n) :=
  ((bit_put_addr _ _ (recalCnt_ne_status h8).symm).trans (bit_put_addr _ _ (synth_ne_status h8).symm)).trans (bit_put_addr _ _ (synth_ne_status h8).symm)

theorem recalEnded_settled : (s.recalEnded p).txSettled p = true := by
  rw [txSettled, bit_recalEnded_status s h8, raise]
  exact (bit_put_statusBit_ne _ _ _ (by decide) (by decide)).trans ((bit_put_addr _ _ (synth_ne_status h8).symm).trans (bit_put_statusBit _ _ _ _ (by decide)))

theorem recalEnded_event : (s.recalEnded p).bit (prtBit p 5) = true :=
  (bit_recalEnded_status s h8 5).trans (bit_put_statusBit _ _ _ _ (by decide))

theorem recalEnded_tune : (s.recalEnded p).get (Reg.PRT_SYNTH.TUNE_NOW p) = 128 := by
  rw [recalEnded, inc, get_put_addr _ _ _ _ (show Reg.PRT_SYNTH p ≠ Reg.PRT_RECAL_CNT p by rw [Reg.PRT_SYNTH, Reg.PRT_RECAL_CNT]; omega),
    get_put_bits _ (Reg.PRT_SYNTH.SOFT_REQ p) (Reg.PRT_SYNTH.TUNE_NOW p) 0 (by decide : 1 + 1 ≤ 32) rfl (.inr (by decide : 1 + 1 ≤ 16)),
    get_put_bits _ (Reg.PRT_SYNTH.RECAL_ACTIVE p) (Reg.PRT_SYNTH.TUNE_NOW p) 0 (by decide : 0 + 1 ≤ 32) rfl (.inr (by decide : 0 + 1 ≤ 16)),
    raise, get_put_addr _ _ _ _ (synth_ne_status h8), tuned, get_put_same _ _ _ (by decide : 16 + 8 ≤ 32)]
  rfl

theorem recalEnded_count : (s.recalEnded p).get (Reg.PRT_RECAL_CNT.COUNT p) = (s.get (Reg.PRT_RECAL_CNT.COUNT p) + 1) % 2 ^ 32 := by
  have h1 : Reg.PRT_RECAL_CNT p ≠ Reg.PRT_SYNTH p := by
    rw [Reg.PRT_SYNTH, Reg.PRT_RECAL_CNT]
    omega
  rw [recalEnded, get_inc_same _ rfl rfl, get_put_addr _ _ _ _ h1, get_put_addr _ _ _ _ h1, raise, get_put_addr _ _ _ _ (recalCnt_ne_status h8), tuned,
    get_put_addr _ _ _ _ h1, get_put_addr _ _ _ _ (recalCnt_ne_status h8)]

end

theorem recalEnded_active (s : Dev) (p : Nat) : (s.recalEnded p).bit (Reg.PRT_SYNTH.RECAL_ACTIVE p) = false := by
  rw [recalEnded, inc, bit_put_addr _ _ (show Reg.PRT_SYNTH p ≠ Reg.PRT_RECAL_CNT p by rw [Reg.PRT_SYNTH, Reg.PRT_RECAL_CNT]; omega)]
  exact (bit_put_other _ _ _ _ (by decide : 1 + 1 ≤ 32) (.inr (.inl (by decide : 0 + 1 ≤ 1)))).trans (bit_put_same _ _ _ (by decide : 0 + 1 ≤ 32) rfl)

theorem recalEnded_soft (s : Dev) (p : Nat) : (s.recalEnded p).bit (Reg.PRT_SYNTH.SOFT_REQ p) = false := by
  rw [recalEnded, inc, bit_put_addr _ _ (show Reg.PRT_SYNTH p ≠ Reg.PRT_RECAL_CNT p by rw [Reg.PRT_SYNTH, Reg.PRT_RECAL_CNT]; omega)]
  exact bit_put_same _ _ _ (by decide : 1 + 1 ≤ 32) rfl

theorem recalEnded_word (s : Dev) {p k : Nat} (h1 : k ≠ Reg.PRT_SYNTH p) (h2 : k ≠ statusAddr (bPRT p)) (h3 : k ≠ Reg.PRT_RECAL_CNT p) :
    (s.recalEnded p).word k = s.word k := by
  rw [recalEnded, inc, word_put_other _ _ _ _ h3, word_put_other _ _ _ _ h1, word_put_other _ _ _ _ h1, raise, word_put_other _ _ _ _ h2, tuned,
    word_put_other _ _ _ _ h1, word_put_other _ _ _ _ h2]

/-! ### The end of a quiet gap (R76) -/

/-- The gap that began at `t0` is already counted. -/
def gapKnown (s : Dev) (p t0 : Nat) : Bool :=
  match (s.port p).gapCounted with
  | none => false
  | some t => Nat.ble t0 (t + 1000)

/-- A soft request has been pending since the gap began, and the gap is not yet counted. -/
def gapDefers (s : Dev) (p t0 : Nat) : Bool :=
  s.bit (Reg.PRT_SYNTH.SOFT_REQ p) && !s.bit (Reg.PRT_SYNTH.RECAL_ACTIVE p) && Nat.ble (s.port p).softAt t0 && !s.gapKnown p t0

theorem quietGapEnd_eq {s : Dev} {p t0 : Nat} (hb : s.blockOn (bPRT p) = true) (h4 : p < 4) (hg : s.gapEnded p = some t0) :
    s.quietGapEnd p = (s.modPort p fun x => { x with gapCounted := some t0 }).when (s.gapDefers p t0)
      fun s => (s.inc (Reg.PRT_RECAL_DEFER.COUNT p)).raise (bPRT p) 6 := by
  rw [quietGapEnd, atBlock_on _ _ _ hb, if_pos h4, hg]
  rfl

theorem quietGapEnd_off {s : Dev} {p : Nat} (hb : s.blockOn (bPRT p) = false) : s.quietGapEnd p = s := by
  simp [quietGapEnd, atBlock, hb]

theorem recalDefer_ne_status {p : Nat} (h8 : p < 8) : Reg.PRT_RECAL_DEFER p ≠ statusAddr (bPRT p) := by
  rw [statusAddr_bPRT h8, Reg.PRT_RECAL_DEFER]
  omega

/-! ### A loss that is recorded (R68, R70) -/

/-- The fall of the link and its count. -/
def fallen (s : Dev) (p : Nat) : Dev := (s.dropLink p).inc (Reg.PRT_LINK_LOSS_CNT.COUNT p)

/-- Below the Locker's words `t` shows the fall of the link of `s`, its count and its source, however else it came from there. -/
def LossShown (s : Dev) (p : Nat) (t : Dev) : Prop :=
  ∃ u : Dev, (∀ k, u.word k = (s.fallen p).word k) ∧ ∀ k < 0xC0000, t.word k = (u.fault (bPRT p) 1).word k

theorem lossCnt_ne_status {p : Nat} (h8 : p < 8) : Reg.PRT_LINK_LOSS_CNT p ≠ statusAddr (bPRT p) := by
  rw [statusAddr_bPRT h8, Reg.PRT_LINK_LOSS_CNT]
  omega

section
variable {s t : Dev} {p : Nat} (ht : LossShown s p t) (h8 : p < 8)
include ht h8

/-- A word of the port that is not its count, its sticky word or a counter of late frames shows the fall alone. -/
theorem LossShown.word {k : Nat} (hk : linkWord p k) (h0 : 0x40000 ≤ k) (hs : k ≠ 0x40020 + 0x10000 * p) (hc : k ≠ Reg.PRT_LINK_LOSS_CNT p) :
    t.word k = (s.dropLink p).word k := by
  obtain ⟨u, hu, ht⟩ := ht
  rw [ht k hk.1, (fault_only _ _ _).1 k (not_faultWords_bPRT h8 h0 hk.1 hs), hu, fallen, inc, word_put_other _ _ _ _ hc]

theorem LossShown.bit_status (n : Nat) : t.bit (prtBit p n) = (s.dropLink p).bit (prtBit p n) :=
  bit_of_word (f := prtBit p n) (ht.word (k := statusAddr (bPRT p)) h8 (linkWord_status h8) (by rw [statusAddr_bPRT h8]; omega) (by rw [statusAddr_bPRT h8]; omega) (lossCnt_ne_status h8).symm)

theorem LossShown.linkUp : t.linkUp p = false := (ht.bit_status h8 1).trans (dropLink_linkUp s h8)

theorem LossShown.linkChange (hu : s.linkUp p = true) : t.bit (prtBit p 4) = true := (ht.bit_status h8 4).trans (dropLink_linkChange h8 hu)

theorem LossShown.sticky : t.bit (stickyBit (bPRT p) 1) = true := by
  obtain ⟨u, -, ht⟩ := ht
  have hw : stickyAddr (bPRT p) < 0xC0000 := by
    rw [stickyAddr_bPRT h8]
    omega
  rw [bit_of_word (f := stickyBit (bPRT p) 1) (ht _ hw), fault_sticky _ _ _ (show 4 + p < 28 by omega) (by decide)]

theorem LossShown.count : t.get (Reg.PRT_LINK_LOSS_CNT.COUNT p) = (s.get (Reg.PRT_LINK_LOSS_CNT.COUNT p) + 1) % 2 ^ 32 := by
  obtain ⟨u, hu, ht⟩ := ht
  have hl : linkWord p (Reg.PRT_LINK_LOSS_CNT p) := by
    simp only [linkWord, Reg.PRT_LINK_LOSS_CNT, Reg.PRT_TX_CNT, Reg.PRT_HALF_TX]
    omega
  have hf : ¬ faultWords (bPRT p) (Reg.PRT_LINK_LOSS_CNT p) := by
    apply not_faultWords_bPRT h8 <;> rw [Reg.PRT_LINK_LOSS_CNT] <;> omega
  rw [get_of_word (f := Reg.PRT_LINK_LOSS_CNT.COUNT p) (ht _ hl.1), get_fault _ _ _ _ hf, get_of_word (f := Reg.PRT_LINK_LOSS_CNT.COUNT p) (hu _), fallen,
    get_inc_same _ rfl rfl, get_dropLink s (f := Reg.PRT_LINK_LOSS_CNT.COUNT p) hl (lossCnt_ne_status h8)]

end

theorem declareLoss_shown (s : Dev) (p : Nat) : LossShown s p (s.declareLoss p) :=
  ⟨s.fallen p, fun _ => rfl, fun _ hk => word_when _ (word_detectBreak _ 1 hk)⟩

theorem declareLoss_lossAt (s : Dev) (p : Nat) : ((s.declareLoss p).port p).lossAt = (s.port p).lossAt := by
  obtain ⟨_, _, _, _, h⟩ := dropLink_port s p
  have hp : (s.declareLoss p).port p = (s.dropLink p).port p :=
    (port_when _ (port_detectBreak _ _ _ _)).trans ((fault_only _ _ _).toLocker.port_eq p)
  rw [hp, h]

/-! ### Losses held in a quiet gap (R78) -/

theorem losMasked_eq {s : Dev} {p t0 : Nat} (hb : s.blockOn (bPRT p) = true) (hl : (s.port p).lossAt = some t0) (h : s.up < t0 + 30000) :
    s.losMasked p = ((s.modPort p fun x => { x with lossAt := none }).put (prtBit p 2) 1).inc (Reg.PRT_LOS_MASKED.COUNT p) := by
  rw [losMasked, atBlock_on _ _ _ hb, hl]
  exact if_pos h

theorem maskedLossReport_eq {s : Dev} {p t0 : Nat} (hb : s.blockOn (bPRT p) = true) (hl : (s.port p).lossAt = some t0) (h : t0 + 30000 ≤ s.up) :
    s.maskedLossReport p = (s.modPort p fun x => { x with lossAt := none }).declareLoss p := by
  rw [maskedLossReport, atBlock_on _ _ _ hb, hl]
  exact if_neg (Nat.not_lt.mpr h)

theorem losMasked_ne_status {p : Nat} (h8 : p < 8) : Reg.PRT_LOS_MASKED p ≠ statusAddr (bPRT p) := by
  rw [statusAddr_bPRT h8, Reg.PRT_LOS_MASKED]
  omega

end Dev

theorem exec_softRequest (p : Fin 8) (tune : BitVec 8) (s : State) : exec (.softRequest p tune) s = devStep (·.atBlock (bPRT p) (·.tuneMove p tune.toNat)) s := rfl
theorem exec_hardRequest (p : Fin 8) (tune : BitVec 8) (s : State) : exec (.hardRequest p tune) s = devStep (·.atBlock (bPRT p) (·.tuneMove p tune.toNat)) s := rfl
theorem exec_recalibrationStart (p : Fin 8) (s : State) : exec (.recalibrationStart p) s = devStep (·.recalStart p) s := rfl
theorem exec_edgeRecalibrationStart (p : Fin 8) (s : State) : exec (.edgeRecalibrationStart p) s = devStep (·.edgeRecalStart p) s := rfl
theorem exec_recalDone (p : Fin 8) (s : State) : exec (.recalDone p) s = devStep (·.recalDone p) s := rfl
theorem exec_quietGapEnd (p : Fin 8) (s : State) : exec (.quietGapEnd p) s = devStep (·.quietGapEnd p) s := rfl
theorem exec_losMasked (p : Fin 8) (s : State) : exec (.losMasked p) s = devStep (·.losMasked p) s := rfl
theorem exec_maskedLossReport (p : Fin 8) (s : State) : exec (.maskedLossReport p) s = devStep (·.maskedLossReport p) s := rfl

section
variable {c : Instr} {s : State} {p : Fin 8}

/-- A command that moves the synthesiser within its band answers as R72 says. -/
theorem tune_within_answers {tune : BitVec 8} (he : exec c s = devStep (·.atBlock (bPRT p) (·.tuneMove p tune.toNat)) s)
    (hb : s.dev.blockOn (bPRT p) = true) (h0 : tune ≠ 0) (h1 : tune ≠ 255) :
    Answers c s fun t => t.dev.get (Reg.PRT_SYNTH.TUNE_NOW p) = tune.toNat
      ∧ t.dev.bit (Reg.PRT_SYNTH.SOFT_REQ p) = (s.dev.bit (Reg.PRT_SYNTH.SOFT_REQ p) || decide (tune.toNat < s.dev.softMargin p) || decide (255 - s.dev.softMargin p < tune.toNat))
      ∧ (∀ k, k ≠ Reg.PRT_SYNTH p → t.dev.word k = s.dev.word k) ∧ s.sameMem t := by
  obtain ⟨hnow, hsoft, hword⟩ := Dev.tuneMove_within_facts s.dev.fresh p h0 h1
  refine answers_atBlock he hb ⟨?_, ?_, fun k hk => ?_, rfl, rfl⟩
  · rw [Dev.get_settle, hnow]
  · rw [Dev.bit_settle, hsoft, Bool.or_assoc]
    congr 1
    rw [Bool.eq_iff_iff]
    simp only [Dev.offMargin, Bool.or_eq_true, Nat.blt_eq, decide_eq_true_eq]
    rfl
  · rw [Dev.word_settle, hword k hk, Dev.word_fresh]

/-- A command that moves the synthesiser to an end of its band answers as R79 says. -/
theorem tune_end_answers {tune : BitVec 8} (he : exec c s = devStep (·.atBlock (bPRT p) (·.tuneMove p tune.toNat)) s)
    (hb : s.dev.blockOn (bPRT p) = true) (h : tune = 0 ∨ tune = 255) :
    Answers c s fun t => t.dev.get (Reg.PRT_SYNTH.TUNE_NOW p) = tune.toNat ∧ t.dev.bit (stickyBit (bPRT p) 0) = true ∧ t.dev.txSettled p = false
      ∧ t.dev.bit (Reg.PRT_SYNTH.RECAL_ACTIVE p) = true ∧ (t.dev.port p).line = none ∧ (t.dev.port p).recalAt = some s.dev.up ∧ s.sameMem t := by
  obtain ⟨hnow, hsticky, htx, hactive, hline, hrecal⟩ := Dev.tuneMove_end_facts s.dev.fresh p.isLt h
  refine answers_atBlock he hb ⟨?_, ?_, ?_, ?_, ?_, ?_, rfl, rfl⟩
  · rw [Dev.get_settle, hnow]
  · rw [Dev.bit_settle, hsticky]
  · rw [Dev.txSettled, Dev.bit_settle]
    exact htx
  · rw [Dev.bit_settle, hactive]
  · rw [Dev.port_settle, hline]
  · rw [Dev.port_settle, hrecal, Dev.fresh_up]

/-- A command that starts a recalibration answers as R77 says. -/
theorem recalBegin_answers {f : Dev → Dev} (he : exec c s = devStep f s) (hf : f s.dev.fresh = s.dev.fresh.recalBegin p) :
    Answers c s fun t => t.dev.bit (Reg.PRT_SYNTH.RECAL_ACTIVE p) = true ∧ t.dev.txSettled p = false ∧ (t.dev.port p).recalAt = some s.dev.up
      ∧ (∀ k, k ≠ Reg.PRT_SYNTH p → k ≠ statusAddr (bPRT p) → t.dev.word k = s.dev.word k) ∧ s.sameMem t := by
  refine answers_devStep he ?_
  rw [hf]
  refine ⟨?_, ?_, ?_, fun k h1 h2 => ?_, rfl, rfl⟩
  · rw [Dev.bit_settle, Dev.recalBegin_active]
  · rw [Dev.txSettled, Dev.bit_settle]
    exact Dev.recalBegin_txSettled _ p.isLt
  · rw [Dev.port_settle, Dev.recalBegin_recalAt, Dev.fresh_up]
  · rw [Dev.word_settle, Dev.recalBegin_word _ h1 h2, Dev.word_fresh]

end

theorem recalDone_answers (s : State) (p : Fin 8) (hb : s.dev.blockOn (bPRT p) = true) (ha : s.dev.bit (Reg.PRT_SYNTH.RECAL_ACTIVE p) = true) :
    Answers (.recalDone p) s fun t => t.dev.txSettled p = true ∧ t.dev.bit (Dev.prtBit p 5) = true ∧ t.dev.bit (Reg.PRT_SYNTH.RECAL_ACTIVE p) = false
      ∧ t.dev.bit (Reg.PRT_SYNTH.SOFT_REQ p) = false ∧ t.dev.get (Reg.PRT_SYNTH.TUNE_NOW p) = 128
      ∧ t.dev.get (Reg.PRT_RECAL_CNT.COUNT p) = (s.dev.get (Reg.PRT_RECAL_CNT.COUNT p) + 1) % 2 ^ 32
      ∧ (∀ k, k ≠ Reg.PRT_SYNTH p → k ≠ statusAddr (bPRT p) → k ≠ Reg.PRT_RECAL_CNT p → t.dev.word k = s.dev.word k) ∧ s.sameMem t := by
  refine answers_devStep (exec_recalDone p s) ?_
  rw [Dev.recalDone_eq (s := s.dev.fresh) hb ha]
  refine ⟨?_, ?_, ?_, ?_, ?_, ?_, fun k h1 h2 h3 => ?_, rfl, rfl⟩
  · rw [Dev.txSettled, Dev.bit_settle, Dev.bit_modPort]
    exact Dev.recalEnded_settled _ p.isLt
  · rw [Dev.bit_settle, Dev.bit_modPort, Dev.recalEnded_event _ p.isLt]
  · rw [Dev.bit_settle, Dev.bit_modPort, Dev.recalEnded_active]
  · rw [Dev.bit_settle, Dev.bit_modPort, Dev.recalEnded_soft]
  · rw [Dev.get_settle, Dev.get_modPort, Dev.recalEnded_tune _ p.isLt]
  · rw [Dev.get_settle, Dev.get_modPort, Dev.recalEnded_count _ p.isLt, Dev.get_fresh]
  · rw [Dev.word_settle, Dev.word_modPort, Dev.recalEnded_word _ h1 h2 h3, Dev.word_fresh]

theorem quietGapEnd_deferred_answers (s : State) (p : Fin 8) (t0 : Nat) (hb : s.dev.blockOn (bPRT p) = true) (h4 : p.val < 4) (hg : s.dev.gapEnded p = some t0)
    (hs : s.dev.bit (Reg.PRT_SYNTH.SOFT_REQ p) = true) (ha : s.dev.bit (Reg.PRT_SYNTH.RECAL_ACTIVE p) = false) (ht : (s.dev.port p).softAt ≤ t0)
    (hc : ∀ t1, (s.dev.port p).gapCounted = some t1 → t1 + 1000 < t0) :
    Answers (.quietGapEnd p) s fun t => (t.dev.port p).gapCounted = some t0 ∧ t.dev.get (Reg.PRT_RECAL_DEFER.COUNT p) = (s.dev.get (Reg.PRT_RECAL_DEFER.COUNT p) + 1) % 2 ^ 32
      ∧ t.dev.bit (Dev.prtBit p 6) = true ∧ (∀ k, k ≠ Reg.PRT_RECAL_DEFER p → k ≠ statusAddr (bPRT p) → t.dev.word k = s.dev.word k) ∧ s.sameMem t := by
  have hknown : s.dev.fresh.gapKnown p t0 = false := by
    rw [Dev.gapKnown, Dev.port_fresh]
    split
    · rfl
    · next t1 he => exact by rw [← Bool.not_eq_true, Nat.ble_eq, Nat.not_le]; exact hc t1 he
  have hdefer : s.dev.fresh.gapDefers p t0 = true := by
    rw [Dev.gapDefers, hknown, Dev.bit_fresh, Dev.bit_fresh, hs, ha, Dev.port_fresh]
    simpa using ht
  refine answers_devStep (exec_quietGapEnd p s) ?_
  rw [Dev.quietGapEnd_eq (s := s.dev.fresh) hb h4 hg, hdefer, Dev.when_true]
  refine ⟨?_, ?_, ?_, fun k h1 h2 => ?_, rfl, rfl⟩
  · rw [Dev.port_settle, Dev.port_raise, Dev.port_inc, Dev.modPort_reads _ _ _ (·.gapCounted) fun _ _ _ => rfl]
  · rw [Dev.get_settle, Dev.raise, Dev.get_put_addr _ _ _ _ (Dev.recalDefer_ne_status p.isLt), Dev.get_inc_same _ rfl rfl, Dev.get_modPort, Dev.get_fresh]
  · rw [Dev.bit_settle]
    exact Dev.bit_put_statusBit _ _ _ _ (by decide)
  · rw [Dev.word_settle, Dev.raise, Dev.word_put_other _ _ _ _ h2, Dev.inc, Dev.word_put_other _ _ _ _ h1, Dev.word_modPort, Dev.word_fresh]

theorem quietGapEnd_counted_answers (s : State) (p : Fin 8) (t0 t1 : Nat) (h4 : p.val < 4) (hg : s.dev.gapEnded p = some t0) (hc : (s.dev.port p).gapCounted = some t1)
    (ht : t0 ≤ t1 + 1000) : Answers (.quietGapEnd p) s fun t => (∀ k, t.dev.word k = s.dev.word k) ∧ s.sameMem t := by
  have hdefer : s.dev.fresh.gapDefers p t0 = false := by
    rw [Dev.gapDefers, Dev.gapKnown, Dev.port_fresh, hc]
    simp [ht]
  refine answers_devStep (exec_quietGapEnd p s) ⟨fun k => ?_, rfl, rfl⟩
  rw [Dev.word_settle]
  cases hb : s.dev.blockOn (bPRT p)
  · rw [Dev.quietGapEnd_off (s := s.dev.fresh) hb, Dev.word_fresh]
  · rw [Dev.quietGapEnd_eq (s := s.dev.fresh) hb h4 hg, hdefer, Dev.when_false, Dev.word_modPort, Dev.word_fresh]

section
variable {s : State} {p : Fin 8} {t0 : Nat} (hb : s.dev.blockOn (bPRT p) = true) (hl : (s.dev.port p).lossAt = some t0)
include hb hl

theorem losMasked_answers (h : s.dev.up < t0 + 30000) :
    Answers (.losMasked p) s fun t => (t.dev.port p).lossAt = none ∧ t.dev.linkUp p = s.dev.linkUp p
      ∧ t.dev.get (Reg.PRT_LOS_MASKED.COUNT p) = (s.dev.get (Reg.PRT_LOS_MASKED.COUNT p) + 1) % 2 ^ 32
      ∧ (∀ k, k ≠ Reg.PRT_LOS_MASKED p → k ≠ statusAddr (bPRT p) → t.dev.word k = s.dev.word k) ∧ s.sameMem t := by
  refine answers_devStep (exec_losMasked p s) ?_
  rw [Dev.losMasked_eq (s := s.dev.fresh) hb hl h]
  refine ⟨?_, ?_, ?_, fun k h1 h2 => ?_, rfl, rfl⟩
  · rw [Dev.port_settle, Dev.port_inc, Dev.port_put, Dev.modPort_reads _ _ _ (·.lossAt) fun _ _ _ => rfl]
  · rw [Dev.linkUp, Dev.bit_settle]
    exact (Dev.bit_put_addr _ _ (Dev.losMasked_ne_status p.isLt).symm).trans (Dev.bit_put_statusBit_ne _ _ _ (by decide) (by decide))
  · rw [Dev.get_settle, Dev.get_inc_same _ rfl rfl, Dev.get_put_addr _ _ _ _ (Dev.losMasked_ne_status p.isLt), Dev.get_modPort, Dev.get_fresh]
  · rw [Dev.word_settle, Dev.inc, Dev.word_put_other _ _ _ _ h1, Dev.word_put_other _ _ _ _ h2, Dev.word_modPort, Dev.word_fresh]

theorem maskedLossReport_answers (h : t0 + 30000 ≤ s.dev.up) :
    Answers (.maskedLossReport p) s fun t => (t.dev.port p).lossAt = none ∧ t.dev.linkUp p = false ∧ t.dev.bit (stickyBit (bPRT p) 1) = true
      ∧ t.dev.get (Reg.PRT_LINK_LOSS_CNT.COUNT p) = (s.dev.get (Reg.PRT_LINK_LOSS_CNT.COUNT p) + 1) % 2 ^ 32 ∧ s.sameMem t := by
  refine answers_devStep (exec_maskedLossReport p s) ?_
  rw [Dev.maskedLossReport_eq (s := s.dev.fresh) hb hl h]
  refine ⟨?_, ?_, ?_, ?_, rfl, rfl⟩
  · rw [Dev.port_settle, Dev.declareLoss_lossAt, Dev.modPort_reads _ _ _ (·.lossAt) fun _ _ _ => rfl]
  · rw [Dev.linkUp, Dev.bit_settle]
    exact (Dev.declareLoss_shown _ _).linkUp p.isLt
  · rw [Dev.bit_settle, (Dev.declareLoss_shown _ _).sticky p.isLt]
  · rw [Dev.get_settle, (Dev.declareLoss_shown _ _).count p.isLt, Dev.get_modPort, Dev.get_fresh]

end

/-- Settles O26: both requests are one move of the synthesiser, and both starts one beginning of a recalibration; a held loss is counted or declared. -/
theorem portRecalibration : Obligations.PortRecalibration :=
  ⟨fun s p _ hb h0 h1 => ⟨tune_within_answers (exec_softRequest p _ s) hb h0 h1, tune_within_answers (exec_hardRequest p _ s) hb h0 h1⟩,
    fun s p _ hb h => ⟨tune_end_answers (exec_softRequest p _ s) hb h, tune_end_answers (exec_hardRequest p _ s) hb h⟩,
    fun s p _ _ _ hb h4 hs ha hg ht0 hi hu hl hr =>
      recalBegin_answers (exec_recalibrationStart p s) (Dev.recalStart_eq (s := s.dev.fresh) hb h4 hs ha hg ht0 hi hu hl hr),
    fun s p hb h4 hs ha hi hc => recalBegin_answers (exec_edgeRecalibrationStart p s) (Dev.edgeRecalStart_eq (s := s.dev.fresh) hb h4 hs ha hi hc),
    recalDone_answers, quietGapEnd_deferred_answers, quietGapEnd_counted_answers, fun _ _ _ hb hl => ⟨losMasked_answers hb hl, maskedLossReport_answers hb hl⟩⟩

end Sys2Proof.Machine
end

section
/-! SUPPORT. Windows of the register file: the stored words of an interval of keys, as the tables of rules, contexts, gates and slots list them (R98, R114, R131, R170). -/

namespace Sys2Proof.Machine

theorem filter_filter_keep {α : Type} {P Q : Nat × α → Bool} (t : Tab α) (h : ∀ e, P e = true → Q e = true) : (t.filter Q).filter P = t.filter P := by
  rw [List.filter_filter]
  refine List.filter_congr fun e _ => ?_
  cases hp : P e
  · rfl
  · rw [h e hp, Bool.and_true]

theorem filter_filter_drop {α : Type} {P Q : Nat × α → Bool} (t : Tab α) (h : ∀ e, P e = true → Q e = false) : (t.filter Q).filter P = [] := by
  rw [List.filter_filter, List.filter_eq_nil_iff]
  intro e _ he
  rw [Bool.and_eq_true] at he
  exact absurd (h e he.1) (by rw [he.2]; decide)

/-- What lies in an interval of keys stays as it is under a write beside the interval. -/
theorem Tab.filter_set_apart {α : Type} [DecidableEq α] (d : Nat → α) (t : Tab α) {k : Nat} (v : α) {P : Nat × α → Bool} {lo hi : Nat}
    (hP : ∀ e, P e = true → lo ≤ e.1 ∧ e.1 < hi) (h : k < lo ∨ hi ≤ k) : (Tab.set d t k v).filter P = t.filter P := by
  have hmid : (if v = d k then [] else [(k, v)]).filter P = [] := by
    have hk : ¬ P (k, v) = true := fun hp => by
      have := hP _ hp
      omega
    split
    · rfl
    · rw [List.filter_cons_of_neg hk, List.filter_nil]
  rw [Tab.set, List.filter_append, List.filter_append, hmid, List.nil_append]
  rcases h with h | h
  · rw [filter_filter_drop _ fun e he => Tab.blt_false (by have := hP e he; omega), filter_filter_keep _ fun e he => Tab.blt_true (by have := hP e he; omega), List.nil_append]
  · rw [filter_filter_keep _ fun e he => Tab.blt_true (by have := hP e he; omega), filter_filter_drop _ fun e he => Tab.blt_false (by have := hP e he; omega), List.append_nil]

theorem any_congr_mem {α : Type} {l : List α} {P Q : α → Bool} (h : ∀ x ∈ l, P x = Q x) : l.any P = l.any Q := by
  rw [Bool.eq_iff_iff, List.any_eq_true, List.any_eq_true]
  exact exists_congr fun x => and_congr_right fun hx => by rw [h x hx]

namespace Dev

/-- A key within an interval. -/
def within (lo hi k : Nat) : Bool := Nat.ble lo k && Nat.blt k hi

theorem within_iff {lo hi k : Nat} : within lo hi k = true ↔ lo ≤ k ∧ k < hi := by
  rw [within, Bool.and_eq_true, Nat.ble_eq, Nat.blt_eq]

/-- The stored words with keys in an interval. -/
def window (lo hi : Nat) (s : Dev) : Tab Word := s.regs.filter fun e => within lo hi e.1

section
variable {lo hi : Nat}

theorem window_setWord (s : Dev) {k : Nat} (w : Word) (h : k < lo ∨ hi ≤ k) : (s.setWord k w).window lo hi = s.window lo hi :=
  Tab.filter_set_apart _ _ _ (fun _ he => within_iff.mp he) h

theorem window_put (s : Dev) {f : Fld} (v : Nat) (h : f.addr < lo ∨ hi ≤ f.addr) : (s.put f v).window lo hi = s.window lo hi := window_setWord _ _ h

theorem window_when {s : Dev} {f : Dev → Dev} (c : Bool) (h : (f s).window lo hi = s.window lo hi) : (s.when c f).window lo hi = s.window lo hi := by
  cases c
  · rfl
  · exact h

/-- A list made of the stored words of an interval is made of the window. -/
theorem filter_regs (s : Dev) {P : Nat × Word → Bool} (hP : ∀ e, P e = true → lo ≤ e.1 ∧ e.1 < hi) : s.regs.filter P = (s.window lo hi).filter P :=
  (filter_filter_keep _ fun e he => within_iff.mpr (hP e he)).symm

theorem filter_regs_of_window {s t : Dev} {P : Nat × Word → Bool} (h : t.window lo hi = s.window lo hi) (hP : ∀ e, P e = true → lo ≤ e.1 ∧ e.1 < hi) :
    t.regs.filter P = s.regs.filter P := by rw [filter_regs t hP, filter_regs s hP, h]

/-- A word of the interval reads the same where the window is the same. -/
theorem word_of_window {s t : Dev} (h : t.window lo hi = s.window lo hi) {k : Nat} (h1 : lo ≤ k) (h2 : k < hi) : t.word k = s.word k := by
  have hl : ∀ u : Dev, u.word k = Tab.get resetWord (u.window lo hi) k := fun u => by
    rw [word, Tab.get, Tab.get, window, Tab.lookup_filter_keep _ k u.regs fun _ => within_iff.mpr ⟨h1, h2⟩]
  rw [hl, hl, h]

theorem get_of_window {s t : Dev} (h : t.window lo hi = s.window lo hi) {f : Fld} (h1 : lo ≤ f.addr) (h2 : f.addr < hi) : t.get f = s.get f :=
  get_of_word (word_of_window h h1 h2)

theorem bit_of_window {s t : Dev} (h : t.window lo hi = s.window lo hi) {f : Fld} (h1 : lo ≤ f.addr) (h2 : f.addr < hi) : t.bit f = s.bit f :=
  bit_of_word (word_of_window h h1 h2)

end

theorem get_lt (s : Dev) (f : Fld) : s.get f < 2 ^ f.w := Nat.mod_lt _ (Nat.two_pow_pos _)

/-- The window of the frame path, the gates, the streams and the rings (R405). -/
abbrev trafficTables (s : Dev) : Tab Word := s.window 0xC0000 0x100000

/-- The window of the gate entries and the slot tables (R405). -/
abbrev entryTables (s : Dev) : Tab Word := s.window 0x1000000 0x2000000

/-! ### Contexts and rules (R98, R137) -/

theorem mem_activeCtxs_lt {s : Dev} {x : Nat} (hx : x ∈ s.activeCtxs) : x < 512 := by
  simp only [activeCtxs, List.mem_map, List.mem_filter, Bool.and_eq_true, Nat.ble_eq, Nat.blt_eq, beq_iff_eq] at hx
  obtain ⟨e, he, rfl⟩ := hx
  omega

theorem mem_rulesOn_lt {s : Dev} {b r : Nat} (hr : r ∈ s.rulesOn b) : r < 256 := by
  simp only [rulesOn, List.mem_map, List.mem_filter, Bool.and_eq_true, Nat.ble_eq, Nat.blt_eq, beq_iff_eq] at hr
  obtain ⟨e, he, rfl⟩ := hr
  omega

theorem ruleBank_lt (s : Dev) : s.ruleBank < 2 := get_lt s Reg.FRM_RULE_CTL.ACTIVE

section
variable {s t : Dev} (h : t.trafficTables = s.trafficTables)
include h

theorem activeCtxs_of_tables : t.activeCtxs = s.activeCtxs := by
  unfold activeCtxs
  rw [filter_regs_of_window (lo := 0xC0000) (hi := 0x100000) h fun e he => ?_]
  simp only [Bool.and_eq_true, Nat.ble_eq, Nat.blt_eq] at he
  omega

theorem ruleBank_of_tables : t.ruleBank = s.ruleBank := get_of_window (lo := 0xC0000) (hi := 0x100000) h (by decide) (by decide)

theorem rulesOn_of_tables {b : Nat} (hb : b < 2) : t.rulesOn b = s.rulesOn b := by
  unfold rulesOn
  dsimp only
  rw [filter_regs_of_window (lo := 0xC0000) (hi := 0x100000) h fun e he => ?_]
  simp only [Bool.and_eq_true, Nat.ble_eq, Nat.blt_eq, Reg.FRM_RULE_A] at he
  omega

/-- A field of a context below 512 (R131). -/
theorem get_ctxWord_of_tables {f : Fld} {x a : Nat} (hx : x < 512) (ha : a < 0x20) (hf : f.addr = 0xE4000 + a + 0x20 * x) : t.get f = s.get f :=
  get_of_window (lo := 0xC0000) (hi := 0x100000) h (by omega) (by omega)

theorem isTx_of_tables {x : Nat} (hx : x < 512) : t.isTx x = s.isTx x :=
  congrArg (· == 1) (get_ctxWord_of_tables h (f := Reg.STM_CTX_CFG.DIR x) hx (by decide : 0 < 0x20) rfl)

theorem txOn_of_tables (p : Nat) : t.txOn p = s.txOn p := by
  unfold txOn
  rw [activeCtxs_of_tables h]
  refine List.filter_congr fun x hx => ?_
  have hlt := mem_activeCtxs_lt hx
  rw [isTx_of_tables h hlt, get_ctxWord_of_tables h (f := Reg.STM_CTX_CFG.EGRESS x) hlt (by decide : 0 < 0x20) rfl]

theorem reservedOn_of_tables (p : Nat) : t.reservedOn p = s.reservedOn p := by
  unfold reservedOn
  rw [txOn_of_tables h]
  refine any_congr_mem fun x hx => ?_
  rw [get_ctxWord_of_tables h (f := Reg.STM_RESV.N_S x) (mem_activeCtxs_lt (List.mem_of_mem_filter hx)) (by decide : 0xC < 0x20) rfl]

/-- The words of a rule of a bank. -/
theorem get_ruleWord_of_tables {f : Fld} {b r a : Nat} (hb : b < 2) (hr : r < 256) (ha : a < 0x10) (hf : f.addr = 0xC1000 + a + 0x1000 * b + 0x10 * r) :
    t.get f = s.get f :=
  get_of_window (lo := 0xC0000) (hi := 0x100000) h (by omega) (by omega)

theorem gatedStreamOn_of_tables {p : Nat} (h8 : p < 8) : t.gatedStreamOn p = s.gatedStreamOn p := by
  have hen : t.bit (Reg.GTE_PORT_CTL.GATE_EN p) = s.bit (Reg.GTE_PORT_CTL.GATE_EN p) := by
    refine bit_of_window (lo := 0xC0000) (hi := 0x100000) h ?_ ?_ <;> rw [Reg.GTE_PORT_CTL.GATE_EN] <;> dsimp only <;> omega
  have hb := ruleBank_lt s
  unfold gatedStreamOn
  rw [hen, txOn_of_tables h, activeCtxs_of_tables h, ruleBank_of_tables h, rulesOn_of_tables h hb]
  refine congrArg (fun b => s.bit (Reg.GTE_PORT_CTL.GATE_EN p) && (!(s.txOn p).isEmpty || b)) (any_congr_mem fun r hr => ?_)
  have hlt := mem_rulesOn_lt hr
  rw [get_ruleWord_of_tables h (f := Reg.FRM_RULE_A.ACTION s.ruleBank r) hb hlt (by decide : 0 < 0x10) rfl,
    get_ruleWord_of_tables h (f := Reg.FRM_RULE_A.PORT_MASK s.ruleBank r) hb hlt (by decide : 0 < 0x10) rfl]
  exact congrArg _ (any_congr_mem fun x hx => congrArg (!·) (isTx_of_tables h (mem_activeCtxs_lt hx)))

end

/-- A rate fits by the port's mode, its limits and the tables (R67, R68). -/
theorem rateFits_of_tables {s t : Dev} (h : t.trafficTables = s.trafficTables) {p : Nat} (h8 : p < 8) (hm : t.word (Reg.PRT_MODE p) = s.word (Reg.PRT_MODE p))
    (hd : t.word (Reg.PRT_DS p) = s.word (Reg.PRT_DS p)) (rate : Nat) : t.rateFits p rate = s.rateFits p rate := by
  have hmode : t.mode p = s.mode p := by rw [mode, mode, get_of_word (f := Reg.PRT_MODE.MODE p) hm]
  have hmax : t.get (Reg.PRT_MODE.SPEED_MAX p) = s.get (Reg.PRT_MODE.SPEED_MAX p) := get_of_word hm
  have hadm : t.admissionRate p = s.admissionRate p := by
    rw [admissionRate, admissionRate, bit_of_word (f := Reg.PRT_DS.DS_EN p) hd, get_of_word (f := Reg.PRT_DS.DS_FLOOR p) hd, hmax]
  simp only [rateFits, rateListed, hmode, hmax, hadm, reservedOn_of_tables h, gatedStreamOn_of_tables h h8]

end Dev

end Sys2Proof.Machine
end

section
/-! SUPPORT. A port's link: losses inside and outside a quiet gap, the rise of LINK_UP, reports of a rate, the mode (R67, R68, R70, R78, R84). -/

namespace Sys2Proof.Machine

namespace Dev

theorem modPort_keeps_all {α : Type} (s : Dev) (p q : Nat) (f : Port → Port) (g : Port → α)
    (hg : ∀ x i b, g { x with idleAt := i, busyAt := b } = g x) (hf : ∀ x, g (f x) = g x) : g ((s.modPort p f).port q) = g (s.port q) := by
  by_cases h : q = p
  · rw [h]
    exact modPort_keeps s p f g hg hf
  · exact congrArg g (Tab.get_set_other _ _ _ _ _ h)

/-! ### What the quiet gaps are read from (R76, R92) -/

/-- The two devices agree in all that a quiet gap is read from. -/
structure SameGaps (s t : Dev) : Prop where
  traffic : t.trafficTables = s.trafficTables
  entries : t.entryTables = s.entryTables
  bad : t.badWords = s.badWords
  now : t.now = s.now
  gating : ∀ q, (t.port q).gating = (s.port q).gating

section
variable {s t : Dev} (h : SameGaps s t)
include h

theorem SameGaps.word {k : Nat} (h1 : 0xC0000 ≤ k) (h2 : k < 0x100000) : t.word k = s.word k := word_of_window h.traffic h1 h2

theorem SameGaps.get {f : Fld} (h1 : 0xC0000 ≤ f.addr) (h2 : f.addr < 0x100000) : t.get f = s.get f := get_of_window h.traffic h1 h2

theorem SameGaps.entry {k : Nat} (h1 : 0x1000000 ≤ k) (h2 : k < 0x2000000) : t.word k = s.word k := word_of_window h.entries h1 h2

theorem SameGaps.badWord (k : Nat) : t.badWord k = s.badWord k := by rw [Dev.badWord, Dev.badWord, h.bad]

theorem SameGaps.gclEntry {p b e : Nat} (hp : p < 8) (hb : b < 2) (he : e < 1024) : t.gclEntry p b e = s.gclEntry p b e := by
  have hi : t.word (Reg.GTE_GCL_IVL p b e) = s.word (Reg.GTE_GCL_IVL p b e) := h.entry (by rw [Reg.GTE_GCL_IVL]; omega) (by rw [Reg.GTE_GCL_IVL]; omega)
  have hg : t.word (Reg.GTE_GCL_GATE p b e) = s.word (Reg.GTE_GCL_GATE p b e) := h.entry (by rw [Reg.GTE_GCL_GATE]; omega) (by rw [Reg.GTE_GCL_GATE]; omega)
  simp only [Dev.gclEntry, hi, h.badWord, get_of_word (f := Reg.GTE_GCL_GATE.GATE_STATE p b e) hg]

theorem SameGaps.schedule {p b : Nat} (hp : p < 8) (hb : b < 2) : t.schedule p b = s.schedule p b := by
  have hlen : t.get (Reg.GTE_LIST_LEN.LEN p b) = s.get (Reg.GTE_LIST_LEN.LEN p b) :=
    h.get (show 0xC0000 ≤ 0xd1044 + 0x200 * p + 0x20 * b by omega) (show 0xd1044 + 0x200 * p + 0x20 * b < 0x100000 by omega)
  have hcyc : t.word (Reg.GTE_CYCLE_TIME p b) = s.word (Reg.GTE_CYCLE_TIME p b) := h.word (by rw [Reg.GTE_CYCLE_TIME]; omega) (by rw [Reg.GTE_CYCLE_TIME]; omega)
  have hbase : t.stamp3 (Reg.GTE_BASE_LO p b) = s.stamp3 (Reg.GTE_BASE_LO p b) := by
    rw [stamp3, stamp3, Reg.GTE_BASE_LO, h.word (k := 0xd1048 + 0x200 * p + 0x20 * b) (by omega) (by omega),
      h.word (k := 0xd1048 + 0x200 * p + 0x20 * b + 4) (by omega) (by omega), h.word (k := 0xd1048 + 0x200 * p + 0x20 * b + 8) (by omega) (by omega)]
  have hent : t.gclEntries p b = s.gclEntries p b := by
    rw [gclEntries, gclEntries, hlen]
    exact List.map_congr_left fun e he => h.gclEntry hp hb (Nat.lt_of_lt_of_le (List.mem_range.mp he) (Nat.min_le_left _ _))
  rw [Dev.schedule, Dev.schedule, hcyc, hbase, hent]

theorem SameGaps.ringSchedule {r : Nat} (hr : r < 2) : t.ringSchedule r = s.ringSchedule r := by
  have hact : t.gclActive (eastPort r) = s.gclActive (eastPort r) :=
    h.get (show 0xC0000 ≤ 0xd1004 + 0x200 * (2 * r + 1) by omega) (show 0xd1004 + 0x200 * (2 * r + 1) < 0x100000 by omega)
  rw [Dev.ringSchedule, Dev.ringSchedule, hact, h.schedule (p := eastPort r) (b := s.gclActive (eastPort r)) (show 2 * r + 1 < 8 by omega) (get_lt s (Reg.GTE_GCL_CTL.ACTIVE (eastPort r)))]

theorem SameGaps.slots {r b : Nat} (hr : r < 2) (hb : b < 2) : t.slots r b = s.slots r b := by
  unfold Dev.slots
  dsimp only
  simp only [h.badWord]
  rw [filter_regs_of_window (lo := 0x1000000) (hi := 0x2000000) h.entries fun e he => ?_]
  · refine List.map_congr_left fun e he => ?_
    simp only [List.mem_filter, Bool.and_eq_true, Nat.ble_eq, Nat.blt_eq, Reg.SHD_SLOT_DESC] at he
    obtain ⟨-, ⟨⟨⟨⟨hlo, hhi⟩, -⟩, -⟩, -⟩, -⟩ := he
    rw [h.entry (k := Reg.SHD_SLOT_OFS r b _) (by rw [Reg.SHD_SLOT_OFS]; omega) (by rw [Reg.SHD_SLOT_OFS, Reg.SHD_SLOT_DESC]; omega)]
  · simp only [Bool.and_eq_true, Nat.ble_eq, Nat.blt_eq, Reg.SHD_SLOT_DESC] at he
    omega

theorem SameGaps.quietGaps {r : Nat} (hr : r < 2) : t.quietGaps r = s.quietGaps r := by
  have hen : t.bit (Reg.SHD_RING_CFG.EN r) = s.bit (Reg.SHD_RING_CFG.EN r) :=
    congrArg (· == 1) (h.get (show 0xC0000 ≤ 0xf0200 + 0x200 * r by omega) (show 0xf0200 + 0x200 * r < 0x100000 by omega))
  have hbank : t.slotBank r = s.slotBank r := h.get (show 0xC0000 ≤ 0xf020c + 0x200 * r by omega) (show 0xf020c + 0x200 * r < 0x100000 by omega)
  have hgate : t.gating (eastPort r) = s.gating (eastPort r) := by
    have hw : t.bit (Reg.GTE_PORT_CTL.GATE_EN (eastPort r)) = s.bit (Reg.GTE_PORT_CTL.GATE_EN (eastPort r)) :=
      congrArg (· == 1) (h.get (show 0xC0000 ≤ 0xd1000 + 0x200 * (2 * r + 1) by omega) (show 0xd1000 + 0x200 * (2 * r + 1) < 0x100000 by omega))
    rw [Dev.gating, Dev.gating, hw, h.gating]
  rw [Dev.quietGaps, Dev.quietGaps, hbank, h.slots (b := s.slotBank r) hr (get_lt s (Reg.SHD_STATE.ACTIVE_BANK r)), hen, hgate, h.ringSchedule hr]

theorem SameGaps.inGapOrEnd {p : Nat} (h4 : p < 4) : t.inGapOrEnd p = s.inGapOrEnd p := by
  have hr : ringOf p < 2 := by
    rw [ringOf]
    omega
  rw [Dev.inGapOrEnd, Dev.inGapOrEnd, h.ringSchedule hr, h.quietGaps hr, h.now]

end
theorem now_of_root {s t : Dev} (h : t.root = s.root) : t.now = s.now := by
  rw [now, now, dist40, dist40, bit_of_word (f := statusBit bTIM 3) (word_of_root h (by decide)), tim_of_root h]

/-! ### A condition of loss begins (R70, R78) -/

theorem scanStop_cases (s : Dev) (p : Nat) : s.scanStop p = s ∨ ∃ x, s.scanStop p = { s.put (statusBit bIST 0) 0 with ist := x } := by
  unfold scanStop
  split
  · exact .inr ⟨_, rfl⟩
  · exact .inl rfl

theorem word_scanStop (s : Dev) (p : Nat) {k : Nat} (h : k ≠ statusAddr bIST) : (s.scanStop p).word k = s.word k := by
  obtain he | ⟨x, he⟩ := scanStop_cases s p <;> rw [he]
  exact word_put_other s (statusBit bIST 0) 0 k h

theorem port_scanStop (s : Dev) (p q : Nat) : (s.scanStop p).port q = s.port q := by
  obtain he | ⟨x, he⟩ := scanStop_cases s p
  · rw [he]
  · rw [he]
    rfl

theorem scanStop_up (s : Dev) (p : Nat) : (s.scanStop p).up = s.up := by
  obtain he | ⟨x, he⟩ := scanStop_cases s p
  · rw [he]
  · rw [he]
    rfl

theorem sameGaps_scanStop (s : Dev) (p : Nat) : SameGaps s (s.scanStop p) := by
  obtain he | ⟨x, he⟩ := scanStop_cases s p <;> rw [he]
  · exact ⟨rfl, rfl, rfl, rfl, fun _ => rfl⟩
  · exact ⟨window_put s 0 (.inr (by decide)), window_put s 0 (.inl (by decide)), rfl, now_of_root (put_root s 0 (by decide) : (s.put (statusBit bIST 0) 0).root = _), fun _ => rfl⟩

theorem SameGaps.trans {a b c : Dev} (h : SameGaps a b) (k : SameGaps b c) : SameGaps a c :=
  ⟨k.traffic.trans h.traffic, k.entries.trans h.entries, k.bad.trans h.bad, k.now.trans h.now, fun q => (k.gating q).trans (h.gating q)⟩

/-- RX_LOCK falls with the signal (R93). -/
def signalLost (s : Dev) (p : Nat) (signal : Bool) : Dev := s.when signal fun s => s.put (prtBit p 2) 0

theorem word_signalLost (s : Dev) (p : Nat) (signal : Bool) {k : Nat} (h : k ≠ statusAddr (bPRT p)) : (s.signalLost p signal).word k = s.word k :=
  word_when signal (word_put_other s (prtBit p 2) 0 k h)

theorem bit_signalLost (s : Dev) (p n : Nat) (signal : Bool) (h : n ≠ 2) : (s.signalLost p signal).bit (prtBit p n) = s.bit (prtBit p n) := by
  cases signal
  · rfl
  · exact bit_put_statusBit_ne s (bPRT p) 0 (by decide) h

theorem port_signalLost (s : Dev) (p q : Nat) (signal : Bool) : (s.signalLost p signal).port q = s.port q := by cases signal <;> rfl

theorem signalLost_up (s : Dev) (p : Nat) (signal : Bool) : (s.signalLost p signal).up = s.up := by cases signal <;> rfl

theorem sameGaps_signalLost (s : Dev) {p : Nat} (signal : Bool) (h8 : p < 8) : SameGaps s (s.signalLost p signal) := by
  have ha : (prtBit p 2).addr = 0x40008 + 0x10000 * p := statusAddr_bPRT h8
  cases signal
  · exact ⟨rfl, rfl, rfl, rfl, fun _ => rfl⟩
  · exact ⟨window_put s 0 (by omega), window_put s 0 (by omega), rfl, now_of_root (put_root s 0 (by omega)), fun _ => rfl⟩

/-- The start of a condition of loss, before it is held or declared (R70). -/
def lossBegun (s : Dev) (p : Nat) (signal : Bool) : Dev :=
  ((s.signalLost p signal).scanStop p).modPort p fun x => { x with lockAt := none, condAt := some ((s.signalLost p signal).scanStop p).up }

theorem word_lossBegun (s : Dev) {p k : Nat} (signal : Bool) (h1 : k ≠ statusAddr (bPRT p)) (h2 : k ≠ statusAddr bIST) : (s.lossBegun p signal).word k = s.word k := by
  rw [lossBegun, word_modPort, word_scanStop _ _ h2, word_signalLost _ _ _ h1]

theorem ist_ne_status {p : Nat} (h8 : p < 8) : statusAddr (bPRT p) ≠ statusAddr bIST := by
  rw [statusAddr_bPRT h8, show statusAddr bIST = 0x300008 from rfl]
  omega

theorem bit_lossBegun (s : Dev) {p n : Nat} (signal : Bool) (h8 : p < 8) (h : n ≠ 2) : (s.lossBegun p signal).bit (prtBit p n) = s.bit (prtBit p n) := by
  rw [lossBegun, bit_modPort, bit_of_word (f := prtBit p n) (word_scanStop _ _ (ist_ne_status h8)), bit_signalLost _ _ _ _ h]

theorem sameGaps_lossBegun (s : Dev) {p : Nat} (signal : Bool) (h8 : p < 8) : SameGaps s (s.lossBegun p signal) := by
  refine ((sameGaps_signalLost s signal h8).trans (sameGaps_scanStop _ p)).trans ⟨rfl, rfl, rfl, rfl, fun q => ?_⟩
  exact modPort_keeps_all _ p q _ (·.gating) (fun _ _ _ => rfl) fun _ => rfl

theorem lossBegun_lossAt (s : Dev) (p : Nat) (signal : Bool) : ((s.lossBegun p signal).port p).lossAt = (s.port p).lossAt := by
  rw [lossBegun, modPort_reads _ p _ (·.lossAt) fun _ _ _ => rfl, port_scanStop, port_signalLost]

theorem lossBegun_up (s : Dev) (p : Nat) (signal : Bool) : (s.lossBegun p signal).up = s.up := (scanStop_up _ p).trans (signalLost_up s p signal)

section
variable {s : Dev} {p : Nat} (signal : Bool) (h8 : p < 8) (hb : s.blockOn (bPRT p) = true) (hu : s.linkUp p = true)
include h8 hb hu

theorem linkLoss_eq : s.linkLoss p signal =
    if p < 4 ∧ (s.lossBegun p signal).inGapOrEnd p = true then
      (s.lossBegun p signal).modPort p fun x => { x with lossAt := some (x.lossAt.getD (s.lossBegun p signal).up) }
    else (s.lossBegun p signal).declareLoss p := by
  have hup : ((s.signalLost p signal).scanStop p).linkUp p = true := (bit_lossBegun s signal h8 (by decide : 1 ≠ 2)).trans hu
  rw [linkLoss, atBlock_on _ _ _ hb]
  exact if_neg (not_not.mpr hup)

theorem linkLoss_held (h4 : p < 4) (hg : s.inGapOrEnd p = true) :
    s.linkLoss p signal = (s.lossBegun p signal).modPort p fun x => { x with lossAt := some (x.lossAt.getD (s.lossBegun p signal).up) } := by
  rw [linkLoss_eq signal h8 hb hu, if_pos ⟨h4, ((sameGaps_lossBegun s signal h8).inGapOrEnd h4).trans hg⟩]

theorem linkLoss_declared (h : 4 ≤ p ∨ s.inGapOrEnd p = false) : s.linkLoss p signal = (s.lossBegun p signal).declareLoss p := by
  rw [linkLoss_eq signal h8 hb hu, if_neg]
  rintro ⟨h4, hg⟩
  rw [(sameGaps_lossBegun s signal h8).inGapOrEnd h4] at hg
  rcases h with h | h
  · omega
  · exact absurd hg (by rw [h]; decide)

end

/-! ### The link comes up (R70, R120, R121) -/

/-- What the never-carried test leaves of a port: its store and its status word. -/
def portFace (p : Nat) (s : Dev) : Port × Word := (s.port p, s.word (statusAddr (bPRT p)))

theorem port_of_portFace {s t : Dev} {p : Nat} (h : portFace p t = portFace p s) : t.port p = s.port p := congrArg Prod.fst h

theorem bit_of_portFace {s t : Dev} {p : Nat} (h : portFace p t = portFace p s) (n : Nat) : t.bit (prtBit p n) = s.bit (prtBit p n) :=
  bit_of_word (f := prtBit p n) (congrArg Prod.snd h)

theorem portFace_of_lockerOnly {K : Nat → Prop} {s t : Dev} {p : Nat} (h : LockerOnly K s t) (hk : ¬ K (statusAddr (bPRT p))) : portFace p t = portFace p s := by
  rw [portFace, portFace, h.port_eq, h.1 _ hk]

theorem portFace_dropNeverCarried (s : Dev) {p : Nat} (h8 : p < 8) (e : QEnt) : portFace p (s.dropNeverCarried p e) = portFace p s := by
  have hs := statusAddr_bPRT h8
  have hd : ¬ dropWords 2 (statusAddr (bPRT p)) := not_dropWords (linkWord_status h8).1
  have htx : portFace p (s.incTx p 16) = portFace p s := by
    refine portFace_of_lockerOnly (incTx_only s p 16).toFault.toLocker ?_
    simp only [hs, Reg.PRT_TX_CNT, Reg.PRT_HALF_TX]
    omega
  have hrel : ∀ u : Dev, portFace p (u.releaseCopy e.desc) = portFace p u := fun u =>
    portFace_of_lockerOnly (releaseCopy_only u e.desc) fun h => hd (.inr h)
  unfold dropNeverCarried
  dsimp only
  split
  · next x _ => rw [hrel, portFace_of_lockerOnly (incCtx_only _ x 2).toFault.toLocker fun h => hd (.inl ⟨x, h⟩), htx]
  · rw [hrel, htx]

theorem portFace_retestQueues (s : Dev) {p : Nat} (h8 : p < 8) : portFace p (s.retestQueues p) = portFace p s := by
  refine foldl_keeps (portFace p) _ (fun c _ s => ?_) s
  dsimp only
  split
  · rfl
  · exact foldl_keeps (portFace p) _ (fun e _ s => portFace_dropNeverCarried s h8 e) _

theorem word_verifyStart (s : Dev) {p k : Nat} (h : k < 0xC0000) : (s.verifyStart p).word k = s.word k := by
  refine word_put_other s (Reg.GTE_PREEMPT_STAT.VERIFY_STATE p) 2 k ?_
  rw [Reg.GTE_PREEMPT_STAT.VERIFY_STATE]
  dsimp only
  omega

theorem verifyStart_lockAt (s : Dev) (p : Nat) : ((s.verifyStart p).port p).lockAt = (s.port p).lockAt :=
  modPort_reads (s.put (Reg.GTE_PREEMPT_STAT.VERIFY_STATE p) 2) p _ (·.lockAt) fun _ _ _ => rfl

/-- The rate that FIXED mode sets and the lock that RX_LOCK shows, before the rise of the link is decided (R70, R93). -/
def lockShown (s : Dev) (p : Nat) : Dev :=
  (s.when (s.mode p == 2) fun s => s.put (Reg.PRT_LINK.SPEED_NOW p) 3).when
    ((s.when (s.mode p == 2) fun s => s.put (Reg.PRT_LINK.SPEED_NOW p) 3).mode p != 0) fun s => s.put (prtBit p 2) 1

/-- The rise of the link, before verification and the test of the queues. -/
def linkRisen (s : Dev) (p : Nat) : Dev :=
  ((s.put (prtBit p 1) 1).raise (bPRT p) 4).modPort p fun x => { x with lockAt := some s.up, lossAt := none, cutDue := false }

/-- What a rise of the link starts: verification, and the Shroud's count of the clean time (R121, R178). -/
def riseStarts (s : Dev) (p : Nat) : Dev :=
  (s.when (s.bit (Reg.GTE_PREEMPT.EN p) && !s.bit (Reg.GTE_PREEMPT.VERIFY_DIS p)) (·.verifyStart p)).when (Nat.blt p 4)
    fun s => s.modSide p fun d => { d with cleanAt := some s.up, indicating := false, indDue := false }

theorem riseStarts_lockAt (s : Dev) (p : Nat) : ((s.riseStarts p).port p).lockAt = (s.port p).lockAt := by
  rw [riseStarts, port_when _ (port_modSide _ _ _ _)]
  cases s.bit (Reg.GTE_PREEMPT.EN p) && !s.bit (Reg.GTE_PREEMPT.VERIFY_DIS p)
  · rw [when_false]
  · rw [when_true, verifyStart_lockAt]

theorem word_riseStarts (s : Dev) {p k : Nat} (h : k < 0xC0000) : (s.riseStarts p).word k = s.word k := by
  rw [riseStarts, word_when _ (word_modSide _ _ _ _), word_when _ (word_verifyStart s h)]

theorem lockShown_up (s : Dev) (p : Nat) : (s.lockShown p).up = s.up := by
  unfold lockShown
  cases s.mode p == 2
  · rw [when_false]
    cases s.mode p != 0 <;> rfl
  · rw [when_true]
    cases (s.put (Reg.PRT_LINK.SPEED_NOW p) 3).mode p != 0 <;> rfl

theorem port_lockShown (s : Dev) (p q : Nat) : (s.lockShown p).port q = s.port q := (port_when _ rfl).trans (port_when _ rfl)

theorem word_lockShown (s : Dev) {p k : Nat} (h1 : k ≠ Reg.PRT_LINK p) (h2 : k ≠ statusAddr (bPRT p)) : (s.lockShown p).word k = s.word k :=
  (word_when _ (word_put_other _ (prtBit p 2) 1 k h2)).trans (word_when _ (word_put_other _ (Reg.PRT_LINK.SPEED_NOW p) 3 k h1))

theorem tables_lockShown (s : Dev) {p : Nat} (h8 : p < 8) : (s.lockShown p).trafficTables = s.trafficTables := by
  have ha : (prtBit p 2).addr = 0x40008 + 0x10000 * p := statusAddr_bPRT h8
  refine (window_when _ (window_put _ _ (by omega))).trans (window_when _ (window_put _ _ (.inl ?_)))
  rw [Reg.PRT_LINK.SPEED_NOW]
  dsimp only
  omega

theorem link_ne_status {p : Nat} (h8 : p < 8) : Reg.PRT_LINK p ≠ statusAddr (bPRT p) := by
  rw [statusAddr_bPRT h8, Reg.PRT_LINK]
  omega

theorem bit_lockShown (s : Dev) {p n : Nat} (h8 : p < 8) (h : n ≠ 2) : (s.lockShown p).bit (prtBit p n) = s.bit (prtBit p n) := by
  have hrate : (s.when (s.mode p == 2) fun s => s.put (Reg.PRT_LINK.SPEED_NOW p) 3).bit (prtBit p n) = s.bit (prtBit p n) :=
    bit_of_word (f := prtBit p n) (word_when _ (word_put_other s (Reg.PRT_LINK.SPEED_NOW p) 3 _ (link_ne_status h8).symm))
  refine Eq.trans ?_ hrate
  unfold lockShown
  cases (s.when (s.mode p == 2) fun s => s.put (Reg.PRT_LINK.SPEED_NOW p) 3).mode p != 0
  · rfl
  · exact bit_put_statusBit_ne _ (bPRT p) 1 (by decide) h

theorem lockShown_mode (s : Dev) {p : Nat} (h8 : p < 8) : (s.lockShown p).mode p = s.mode p := by
  have hw : (s.lockShown p).word (Reg.PRT_MODE p) = s.word (Reg.PRT_MODE p) :=
    word_lockShown s (by rw [Reg.PRT_MODE, Reg.PRT_LINK]; omega) (by rw [statusAddr_bPRT h8, Reg.PRT_MODE]; omega)
  rw [mode, mode, get_of_word (f := Reg.PRT_MODE.MODE p) hw]

theorem lockShown_rate (s : Dev) {p : Nat} (h8 : p < 8) : (s.lockShown p).rate p = if s.mode p = 2 then 3 else s.rate p := by
  have hput : (s.lockShown p).rate p = (s.when (s.mode p == 2) fun s => s.put (Reg.PRT_LINK.SPEED_NOW p) 3).rate p :=
    get_of_word (f := Reg.PRT_LINK.SPEED_NOW p) (word_when _ (word_put_other _ (prtBit p 2) 1 _ (link_ne_status h8)))
  rw [hput]
  by_cases h : s.mode p = 2
  · rw [if_pos h, beq_iff_eq.mpr h, when_true, rate, get_put_same _ _ _ (by decide : 0 + 3 ≤ 32)]
    rfl
  · rw [if_neg h, beq_false_of_ne h, when_false]

theorem lockShown_rateFits (s : Dev) {p : Nat} (h8 : p < 8) (rate : Nat) : (s.lockShown p).rateFits p rate = s.rateFits p rate := by
  refine rateFits_of_tables (tables_lockShown s h8) h8 ?_ ?_ rate <;> refine word_lockShown s ?_ ?_
  · rw [Reg.PRT_MODE, Reg.PRT_LINK]; omega
  · rw [statusAddr_bPRT h8, Reg.PRT_MODE]; omega
  · rw [Reg.PRT_DS, Reg.PRT_LINK]; omega
  · rw [statusAddr_bPRT h8, Reg.PRT_DS]; omega

theorem linkComesUp_eq {s : Dev} {p : Nat} (h8 : p < 8) (hb : s.blockOn (bPRT p) = true) (hm : s.mode p ≠ 0) (hu : s.linkUp p = false) (hn : s.bit (prtBit p 3) = false)
    (hbad : (s.port p).rateBad = false) (hl : s.lockLong p = true) (hr : s.rateFits p (if s.mode p = 2 then 3 else s.rate p) = true) :
    s.linkComesUp p = (((s.lockShown p).linkRisen p).riseStarts p).retestQueues p := by
  have hlong : (s.lockShown p).lockLong p = true := by
    rw [lockLong, port_lockShown, lockShown_up]
    exact hl
  have hgo : ¬ ((s.lockShown p).mode p = 0 ∨ (s.lockShown p).linkUp p = true ∨ (s.lockShown p).bit (prtBit p 3) = true ∨ ((s.lockShown p).port p).rateBad = true
      ∨ ¬ (s.lockShown p).lockLong p = true ∨ ¬ (s.lockShown p).rateFits p ((s.lockShown p).rate p) = true) := by
    rw [lockShown_mode s h8, linkUp, bit_lockShown s h8 (by decide : 1 ≠ 2), bit_lockShown s h8 (by decide : 3 ≠ 2), port_lockShown, hlong, lockShown_rate s h8,
      lockShown_rateFits s h8, hr, hbad, hn, show s.bit (prtBit p 1) = false from hu]
    simpa using hm
  rw [linkComesUp, atBlock_on _ _ _ hb]
  exact if_neg hgo

theorem linkRisen_linkUp (s : Dev) (p : Nat) : (s.linkRisen p).bit (prtBit p 1) = true :=
  (bit_put_statusBit_ne _ _ _ (by decide) (by decide)).trans (bit_put_statusBit s _ _ _ (by decide))

theorem linkRisen_linkChange (s : Dev) (p : Nat) : (s.linkRisen p).bit (prtBit p 4) = true := bit_put_statusBit _ _ _ _ (by decide)

theorem linkRisen_lockAt (s : Dev) (p : Nat) : ((s.linkRisen p).port p).lockAt = some s.up := modPort_reads _ _ _ (·.lockAt) fun _ _ _ => rfl

/-! ### The PHY reports a rate (R67, R68, R84) -/

/-- A report ends auto-negotiation and shows the lock, before the rate is judged (R83). -/
def rateReported (s : Dev) (p : Nat) : Dev := (s.put (prtBit p 3) 0).put (prtBit p 2) 1

theorem word_rateReported (s : Dev) {p k : Nat} (h : k ≠ statusAddr (bPRT p)) : (s.rateReported p).word k = s.word k :=
  (word_put_other _ (prtBit p 2) 1 k h).trans (word_put_other s (prtBit p 3) 0 k h)

theorem rateReported_negotiates (s : Dev) (p : Nat) : (s.rateReported p).bit (prtBit p 3) = false :=
  (bit_put_statusBit_ne _ (bPRT p) 1 (by decide : 2 < 32) (by decide : 3 ≠ 2)).trans (bit_put_statusBit s _ _ _ (by decide))

theorem rateReported_rateFits (s : Dev) {p : Nat} (h8 : p < 8) (rate : Nat) : (s.rateReported p).rateFits p rate = s.rateFits p rate := by
  have ha := statusAddr_bPRT h8
  refine rateFits_of_tables ?_ h8 (word_rateReported s ?_) (word_rateReported s ?_) rate
  · exact (window_put _ (f := prtBit p 2) 1 (.inl (by rw [prtBit, statusBit]; dsimp only; omega))).trans
      (window_put s (f := prtBit p 3) 0 (.inl (by rw [prtBit, statusBit]; dsimp only; omega)))
  · rw [ha, Reg.PRT_MODE]; omega
  · rw [ha, Reg.PRT_DS]; omega

section
variable {s : Dev} {p : Nat} (rate : Nat) (h8 : p < 8) (hb : s.blockOn (bPRT p) = true) (hm : s.mode p ≠ 0)
include h8 hb hm

theorem phyRateReport_fits (h : s.rateFits p rate = true) : s.phyRateReport p rate =
    ((s.rateReported p).modPort p fun x => { x with rateBad := false, restartDue := false }).put (Reg.PRT_LINK.SPEED_NOW p) rate := by
  rw [phyRateReport, atBlock_on _ _ _ hb, if_neg hm]
  exact if_pos ((rateReported_rateFits s h8 rate).trans h)

theorem phyRateReport_mismatch (h : s.rateFits p rate = false) : s.phyRateReport p rate = (s.rateReported p).rateMismatch p := by
  rw [phyRateReport, atBlock_on _ _ _ hb, if_neg hm]
  exact if_neg (by rw [show ((s.put (prtBit p 3) 0).put (prtBit p 2) 1).rateFits p rate = false from (rateReported_rateFits s h8 rate).trans h]; decide)

end

theorem rateMismatch_ring (s : Dev) {p : Nat} (h4 : p < 4) :
    s.rateMismatch p = (((s.fallen p).modPort p fun x => { x with rateBad := true }).fault (bPRT p) 1).detectBreak p 1 := if_pos h4

theorem rateMismatch_shown (s : Dev) {p : Nat} (h4 : p < 4) : LossShown s p (s.rateMismatch p) := by
  rw [rateMismatch_ring s h4]
  exact ⟨(s.fallen p).modPort p fun x => { x with rateBad := true }, fun _ => word_modPort _ _ _ _, fun _ hk => word_detectBreak _ 1 hk⟩

theorem rateMismatch_rateBad (s : Dev) {p : Nat} (h4 : p < 4) : ((s.rateMismatch p).port p).rateBad = true := by
  rw [rateMismatch_ring s h4, port_detectBreak, (fault_only _ _ _).toLocker.port_eq, modPort_reads _ _ _ (·.rateBad) fun _ _ _ => rfl]

/-! ### The mode (R70) -/

/-- The mode as written, and the lock that a new mode has yet to show (R70, R93). -/
def modeTaken (s : Dev) (p : Nat) (v : Word) : Dev :=
  (s.writeFields (bPRT p) (Reg.PRT_MODE p) v).when (s.mode p != (s.writeFields (bPRT p) (Reg.PRT_MODE p) v).mode p)
    (fun s => s.modPort p fun x => { x with condAt := some s.up, rateBad := false, restartDue := false })

theorem word_modeTaken (s : Dev) (p : Nat) (v : Word) (k : Nat) : (s.modeTaken p v).word k = (s.writeFields (bPRT p) (Reg.PRT_MODE p) v).word k :=
  word_when _ rfl

/-- The mode takes effect: MODE 0 drops the link (R70). -/
def modeActs (s : Dev) (p : Nat) : Dev := s.when (s.mode p == 0) fun s => s.quietDrop p

theorem prtModeWrite_eq (s : Dev) (p : Nat) (v : Word) : s.prtModeWrite p v = ((s.modeTaken p v).modeActs p).tracePortTidy := rfl

theorem word_tracePortTidy (s : Dev) (k : Nat) : s.tracePortTidy.word k = s.word k := by
  unfold tracePortTidy
  split <;> rfl

theorem modeActs_modeWord (s : Dev) {p : Nat} (h8 : p < 8) : (s.modeActs p).word (Reg.PRT_MODE p) = s.word (Reg.PRT_MODE p) := by
  refine word_when _ (word_quietDrop_other s ?_ ?_)
  · simp only [linkWord, Reg.PRT_MODE, Reg.PRT_TX_CNT, Reg.PRT_HALF_TX]
    omega
  · rw [statusAddr_bPRT h8, Reg.PRT_MODE]
    omega

theorem mode_of_word {s t : Dev} {p : Nat} (h : t.word (Reg.PRT_MODE p) = s.word (Reg.PRT_MODE p)) : t.mode p = s.mode p := by
  rw [mode, mode, get_of_word (f := Reg.PRT_MODE.MODE p) h]

theorem prtModeWrite_word (s : Dev) {p : Nat} (h8 : p < 8) (v : Word) : (s.prtModeWrite p v).word (Reg.PRT_MODE p) = s.written (bPRT p) (Reg.PRT_MODE p) v := by
  rw [prtModeWrite_eq, word_tracePortTidy, modeActs_modeWord _ h8, word_modeTaken, word_writeFields]

theorem prtModeWrite_mode (s : Dev) {p : Nat} (h8 : p < 8) (v : Word) : (s.prtModeWrite p v).mode p = (s.modeTaken p v).mode p := by
  refine mode_of_word ?_
  rw [prtModeWrite_eq, word_tracePortTidy, modeActs_modeWord _ h8]

theorem prtModeWrite_linkUp (s : Dev) {p : Nat} (h8 : p < 8) (v : Word) :
    (s.prtModeWrite p v).linkUp p = if (s.prtModeWrite p v).mode p = 0 then false else s.linkUp p := by
  have hs : (s.modeTaken p v).linkUp p = s.linkUp p := by
    refine bit_of_word (f := prtBit p 1) ((word_modeTaken s p v _).trans (word_writeFields_other s _ v ?_))
    show statusAddr (bPRT p) ≠ Reg.PRT_MODE p
    rw [statusAddr_bPRT h8, Reg.PRT_MODE]
    omega
  rw [prtModeWrite_mode s h8, prtModeWrite_eq, linkUp, bit_of_word (f := prtBit p 1) (word_tracePortTidy _ _), modeActs]
  by_cases h : (s.modeTaken p v).mode p = 0
  · rw [if_pos h, beq_iff_eq.mpr h, when_true]
    exact quietDrop_linkUp _ h8
  · rw [if_neg h, beq_false_of_ne h, when_false]
    exact hs

end Dev

theorem exec_linkLoss (p : Fin 8) (signal : Bool) (s : State) : exec (.linkLoss p signal) s = devStep (·.linkLoss p signal) s := rfl
theorem exec_linkUp (p : Fin 8) (s : State) : exec (.linkUp p) s = devStep (·.linkComesUp p) s := rfl
theorem exec_phyRateReport (p : Fin 8) (rate : Fin 5) (s : State) : exec (.phyRateReport p rate) s = devStep (·.phyRateReport p rate) s := rfl
theorem exec_prtModeWrite (p : Fin 8) (v : Word) (s : State) :
    exec (.prtModeWrite p v) s = devStep (fun d => d.hostGate (bPRT p) (Reg.PRT_MODE p) v (·.prtModeWrite p v)) s := rfl

section
variable {s : State} {p : Fin 8} (signal : Bool) (hb : s.dev.blockOn (bPRT p) = true) (hu : s.dev.linkUp p = true)
include hb hu

theorem linkLoss_held_answers (h4 : p.val < 4) (hg : s.dev.inGapOrEnd p = true) :
    Answers (.linkLoss p signal) s fun t => t.dev.linkUp p = true ∧ (t.dev.port p).lossAt = some ((s.dev.port p).lossAt.getD s.dev.up)
      ∧ (∀ k, k ≠ statusAddr (bPRT p) → k ≠ statusAddr bIST → t.dev.word k = s.dev.word k) ∧ s.sameMem t := by
  refine answers_devStep (exec_linkLoss p signal s) ?_
  rw [Dev.linkLoss_held (s := s.dev.fresh) signal p.isLt hb hu h4 hg]
  refine ⟨?_, ?_, fun k h1 h2 => ?_, rfl, rfl⟩
  · rw [Dev.linkUp, Dev.bit_settle, Dev.bit_modPort, Dev.bit_lossBegun _ _ p.isLt (by decide)]
    exact hu
  · rw [Dev.port_settle, Dev.modPort_reads _ _ _ (·.lossAt) fun _ _ _ => rfl]
    dsimp only
    rw [Dev.lossBegun_lossAt, Dev.lossBegun_up]
    rfl
  · rw [Dev.word_settle, Dev.word_modPort, Dev.word_lossBegun _ _ h1 h2, Dev.word_fresh]

theorem linkLoss_declared_answers (h : 4 ≤ p.val ∨ s.dev.inGapOrEnd p = false) :
    Answers (.linkLoss p signal) s fun t => t.dev.linkUp p = false ∧ t.dev.bit (Dev.prtBit p 4) = true ∧ t.dev.bit (stickyBit (bPRT p) 1) = true
      ∧ t.dev.get (Reg.PRT_LINK_LOSS_CNT.COUNT p) = (s.dev.get (Reg.PRT_LINK_LOSS_CNT.COUNT p) + 1) % 2 ^ 32 ∧ s.sameMem t := by
  have hshown := Dev.declareLoss_shown (s.dev.fresh.lossBegun p signal) p
  have hup : (s.dev.fresh.lossBegun p signal).linkUp p = true := (Dev.bit_lossBegun _ signal p.isLt (by decide)).trans hu
  have hcnt : (s.dev.fresh.lossBegun p signal).word (Reg.PRT_LINK_LOSS_CNT p) = s.dev.fresh.word (Reg.PRT_LINK_LOSS_CNT p) := by
    refine Dev.word_lossBegun _ _ (Dev.lossCnt_ne_status p.isLt) ?_
    rw [show statusAddr bIST = 0x300008 from rfl, Reg.PRT_LINK_LOSS_CNT]
    omega
  refine answers_devStep (exec_linkLoss p signal s) ?_
  rw [Dev.linkLoss_declared (s := s.dev.fresh) signal p.isLt hb hu h]
  refine ⟨?_, ?_, ?_, ?_, rfl, rfl⟩
  · rw [Dev.linkUp, Dev.bit_settle]
    exact hshown.linkUp p.isLt
  · rw [Dev.bit_settle, hshown.linkChange p.isLt hup]
  · rw [Dev.bit_settle, hshown.sticky p.isLt]
  · rw [Dev.get_settle, hshown.count p.isLt, Dev.get_of_word (f := Reg.PRT_LINK_LOSS_CNT.COUNT p) hcnt, Dev.get_fresh]

end

theorem linkUp_answers (s : State) (p : Fin 8) (hb : s.dev.blockOn (bPRT p) = true) (hm : s.dev.mode p ≠ 0) (hu : s.dev.linkUp p = false)
    (hn : s.dev.bit (Dev.prtBit p 3) = false) (hbad : (s.dev.port p).rateBad = false) (hl : s.dev.lockLong p = true)
    (hr : s.dev.rateFits p (if s.dev.mode p = 2 then 3 else s.dev.rate p) = true) :
    Answers (.linkUp p) s fun t => t.dev.linkUp p = true ∧ t.dev.bit (Dev.prtBit p 4) = true ∧ (t.dev.port p).lockAt = some s.dev.up ∧ s.sameMem t := by
  refine answers_devStep (exec_linkUp p s) ?_
  rw [Dev.linkComesUp_eq (s := s.dev.fresh) p.isLt hb hm hu hn hbad hl hr]
  refine ⟨?_, ?_, ?_, rfl, rfl⟩
  · rw [Dev.linkUp, Dev.bit_settle, Dev.bit_of_portFace (Dev.portFace_retestQueues _ p.isLt), Dev.bit_of_word (f := Dev.prtBit p 1) (Dev.word_riseStarts _ (Dev.linkWord_status p.isLt).1), Dev.linkRisen_linkUp]
  · rw [Dev.bit_settle, Dev.bit_of_portFace (Dev.portFace_retestQueues _ p.isLt), Dev.bit_of_word (f := Dev.prtBit p 4) (Dev.word_riseStarts _ (Dev.linkWord_status p.isLt).1), Dev.linkRisen_linkChange]
  · rw [Dev.port_settle, Dev.port_of_portFace (Dev.portFace_retestQueues _ p.isLt), Dev.riseStarts_lockAt, Dev.linkRisen_lockAt, Dev.lockShown_up, Dev.fresh_up]

section
variable {s : State} {p : Fin 8} {rate : Fin 5} (hb : s.dev.blockOn (bPRT p) = true) (hm : s.dev.mode p ≠ 0)
include hb hm

theorem phyRateReport_fits_answers (h : s.dev.rateFits p rate = true) :
    Answers (.phyRateReport p rate) s fun t => t.dev.rate p = rate ∧ t.dev.bit (Dev.prtBit p 3) = false ∧ (t.dev.port p).rateBad = false
      ∧ (∀ k, k ≠ statusAddr (bPRT p) → k ≠ Reg.PRT_LINK p → t.dev.word k = s.dev.word k) ∧ s.sameMem t := by
  refine answers_devStep (exec_phyRateReport p rate s) ?_
  rw [Dev.phyRateReport_fits (s := s.dev.fresh) rate p.isLt hb hm h]
  refine ⟨?_, ?_, ?_, fun k h1 h2 => ?_, rfl, rfl⟩
  · rw [Dev.rate, Dev.get_settle, Dev.get_put_same _ _ _ (by decide : 0 + 3 ≤ 32)]
    exact Nat.mod_eq_of_lt (show rate.val < 2 ^ 3 by omega)
  · rw [Dev.bit_settle, Dev.bit_put_addr _ _ (Dev.link_ne_status p.isLt).symm, Dev.bit_modPort, Dev.rateReported_negotiates]
  · rw [Dev.port_settle, Dev.port_put, Dev.modPort_reads _ _ _ (·.rateBad) fun _ _ _ => rfl]
  · rw [Dev.word_settle, Dev.word_put_other _ _ _ _ h2, Dev.word_modPort, Dev.word_rateReported _ h1, Dev.word_fresh]

theorem phyRateReport_mismatch_answers (h4 : p.val < 4) (h : s.dev.rateFits p rate = false) :
    Answers (.phyRateReport p rate) s fun t => t.dev.linkUp p = false ∧ (t.dev.port p).rateBad = true ∧ t.dev.rate p = s.dev.rate p ∧ t.dev.bit (stickyBit (bPRT p) 1) = true
      ∧ t.dev.get (Reg.PRT_LINK_LOSS_CNT.COUNT p) = (s.dev.get (Reg.PRT_LINK_LOSS_CNT.COUNT p) + 1) % 2 ^ 32 ∧ s.sameMem t := by
  have hshown := Dev.rateMismatch_shown (s.dev.fresh.rateReported p) h4
  have hl : Dev.linkWord p (Reg.PRT_LINK p) := by
    simp only [Dev.linkWord, Reg.PRT_LINK, Reg.PRT_TX_CNT, Reg.PRT_HALF_TX]
    omega
  have hrate : ((s.dev.fresh.rateReported p).rateMismatch p).word (Reg.PRT_LINK p) = s.dev.fresh.word (Reg.PRT_LINK p) := by
    rw [hshown.word p.isLt hl (by rw [Reg.PRT_LINK]; omega) (by rw [Reg.PRT_LINK]; omega) (by rw [Reg.PRT_LINK, Reg.PRT_LINK_LOSS_CNT]; omega),
      Dev.word_dropLink _ hl (Dev.link_ne_status p.isLt), Dev.word_rateReported _ (Dev.link_ne_status p.isLt)]
  refine answers_devStep (exec_phyRateReport p rate s) ?_
  rw [Dev.phyRateReport_mismatch (s := s.dev.fresh) rate p.isLt hb hm h]
  refine ⟨?_, ?_, ?_, ?_, ?_, rfl, rfl⟩
  · rw [Dev.linkUp, Dev.bit_settle]
    exact hshown.linkUp p.isLt
  · rw [Dev.port_settle, Dev.rateMismatch_rateBad _ h4]
  · rw [Dev.rate, Dev.get_settle]
    exact Dev.get_of_word (f := Reg.PRT_LINK.SPEED_NOW p) hrate
  · rw [Dev.bit_settle, hshown.sticky p.isLt]
  · rw [Dev.get_settle, hshown.count p.isLt, Dev.get_of_word (f := Reg.PRT_LINK_LOSS_CNT.COUNT p) (Dev.word_rateReported _ (Dev.lossCnt_ne_status p.isLt)), Dev.get_fresh]

end

theorem prtModeWrite_answers (s : State) (p : Fin 8) (v : Word) (hb : s.dev.blockOn (bPRT p) = true) (hr : s.dev.hostRefused (Reg.PRT_MODE p) = false) :
    Answers (.prtModeWrite p v) s fun t => t.dev.word (Reg.PRT_MODE p)
        = BitVec.ofNat 32 (accessWrite (masksOf (bPRT p) (Reg.PRT_MODE p)) (s.dev.word (Reg.PRT_MODE p)).toNat v.toNat)
      ∧ (t.dev.mode p = 0 → t.dev.linkUp p = false) ∧ (t.dev.mode p ≠ 0 → t.dev.linkUp p = s.dev.linkUp p) ∧ s.sameMem t := by
  have hmode : (Dev.settle s.dev.fresh (s.dev.fresh.prtModeWrite p v)).mode p = (s.dev.fresh.prtModeWrite p v).mode p := Dev.mode_of_word (Dev.word_settle _ _ _)
  have hlink : (Dev.settle s.dev.fresh (s.dev.fresh.prtModeWrite p v)).linkUp p = if (s.dev.fresh.prtModeWrite p v).mode p = 0 then false else s.dev.linkUp p := by
    rw [Dev.linkUp, Dev.bit_settle]
    exact Dev.prtModeWrite_linkUp _ p.isLt v
  refine answers_hostGate (exec_prtModeWrite p v s) hb hr ⟨?_, fun h => ?_, fun h => ?_, rfl, rfl⟩
  · rw [Dev.word_settle, Dev.prtModeWrite_word _ p.isLt]
    rfl
  · rw [hlink, if_pos (hmode.symm.trans h)]
  · rw [hlink, if_neg fun h0 => h (hmode.trans h0)]

/-- Settles O24: a loss is judged in the gaps as they stand, and a rate by tables that a report leaves alone; a declared loss and a rate mismatch show alike. -/
theorem portLinks : Obligations.PortLinks :=
  ⟨fun _ _ signal hb hu => ⟨linkLoss_held_answers signal hb hu, linkLoss_declared_answers signal hb hu⟩, linkUp_answers,
    fun _ _ _ hb hm => ⟨phyRateReport_fits_answers hb hm, phyRateReport_mismatch_answers hb hm⟩, prtModeWrite_answers⟩

end Sys2Proof.Machine
end

section
/-! SUPPORT. A received frame that its own trace record crowds out (R96, R99, R396). The statement on received frames binds no owner of a descriptor to the 512 contexts of R131. A frame held for a context beyond them has its reservation word wherever `FRM_STM_RESV` then points, and for one context that is TRC_LOST: the trace record of the arrival, lost at a full output, enlarges that reservation between the check of the statement and the allocation. -/

namespace Sys2Proof.Machine

/-- The context number whose reservation word stands at TRC_LOST. -/
def strayContext : Nat := (Reg.TRC_LOST - 0xC4000) / 4

theorem strayContext_resv : Reg.FRM_STM_RESV strayContext = Reg.TRC_LOST := rfl

/-- A frame of 60 octets, good in every check. -/
def smallFrame : RxFrame := { data := List.replicate 60 0xA5 }

/-- Port 5 of a device with every domain on: its link is up at 1 Gb/s, and rule 3 steers every frame to queue 84, which has no granules of its own. -/
def steered : Dev :=
  let d := (({} : Dev).setDoms fun _ => true).put (Reg.PRT_MODE.MODE 5) 1
  let d := (d.put (Reg.PRT_LINK.SPEED_NOW 5) 2).put (Dev.prtBit 5 1) 1
  let d := ((d.put (Reg.FRM_RULE_A.EN 0 3) 1).put (Reg.FRM_RULE_A.ACTION 0 3) 1).put (Reg.FRM_RULE_A.QIDX 0 3) 4
  let d := ((d.put (Reg.FRM_RULE_A.PORT_MASK 0 3) 255).put (Reg.FRM_RULE_A.DA_MASK 0 3) 15).put (Reg.FRM_RULE_B.PCP_MASK 0 3) 255
  (d.put (Reg.FRM_Q_A.EN 84) 1).put (Reg.FRM_Q_A.DEPTH 84) 4

/-- The pass-through reservation leaves 64 granules to share; arrivals at port 5 are traced to an output that is full and losing; the word of the stray context reserves no descriptor yet, and one of 64 granules after one more loss. -/
def crowded : State :=
  let d := ((steered.put Reg.FRM_PASS_A.EN 1).put Reg.FRM_PASS_A.L_MAX 16383).put Reg.FRM_PASS_A.DEPTH 759
  let d := ((d.put Reg.TRC_OUT.PIN_EN 1).put (Reg.TRC_SRC_CTL.EN 0) 1).setWord (Reg.TRC_SRC_MASK_LO 0) 0xFF
  let d := d.setWord (Reg.FRM_STM_RESV strayContext) 0x9FFF8000
  { dev := { d with frames := [(0, { owner := .ctx strayContext })], trc := { pin := { recs := List.replicate 255 ⟨0, 0, 0, 0, 0⟩, lost := 1 } } } }

/-- The frame meets every check and its rule names queue 84. -/
theorem crowded_steers : crowded.dev.goodArrival 5 smallFrame = true ∧ crowded.dev.isPtp 5 smallFrame.data = false ∧ crowded.dev.isOdeivo 5 smallFrame.data = false
    ∧ (crowded.dev.rulesOn crowded.dev.ruleBank).find? (fun r => crowded.dev.ruleHolds crowded.dev.ruleBank r 5 (parse smallFrame.data) (crowded.dev.identify (parse smallFrame.data))) = some 3
    ∧ crowded.dev.get (Reg.FRM_RULE_A.ACTION crowded.dev.ruleBank 3) = 1 ∧ 16 * 5 + crowded.dev.get (Reg.FRM_RULE_A.QIDX crowded.dev.ruleBank 3) = 84 := by
  decide +kernel

/-- The queue is on, unbound and not full, and the Locker has room before the arrival. -/
theorem crowded_hasRoom : crowded.dev.bit (Reg.FRM_Q_A.EN 84) = true ∧ crowded.dev.get (Reg.FRM_Q_A.BIND 84) = 0
    ∧ ((Tab.get (fun _ => []) crowded.dev.rxQ 84).filter fun (e : RxQEnt) => e.ctx.isNone).length < crowded.dev.get (Reg.FRM_Q_A.DEPTH 84)
    ∧ crowded.dev.allocCheck (.queue 84) (frameLen smallFrame.data) = .ok true := by
  decide +kernel

/-- The arrival leaves the queue empty: the lost trace record has taken the room. -/
theorem crowded_drops : Tab.get (fun _ => []) (crowded.dev.fresh.frameIn 5 smallFrame).rxQ 84 = [] := by
  decide +kernel

/-- Refutes O28: at an edge port the trace record of the arrival comes before the allocation (R94), and in `crowded`, where a frame is held for a context number beyond the 512 contexts, its loss changes what that owner has reserved. The frame finds no room and is dropped. -/
theorem not_frameReceived : ¬ Obligations.FrameReceived := by
  intro h
  obtain ⟨hgood, hptp, hode, hrule, hact, hq⟩ := crowded_steers
  obtain ⟨hen, hbind, hdepth, hroom⟩ := crowded_hasRoom
  have hdeliver := h.1 crowded 5 smallFrame 3 (by decide) hgood hptp hode hrule hact
  rw [show 16 * (5 : Fin 8).val + crowded.dev.get (Reg.FRM_RULE_A.QIDX crowded.dev.ruleBank 3) = 84 from hq] at hdeliver
  obtain ⟨t, he, ⟨d, hlist, -⟩, -⟩ := hdeliver hen hbind hdepth ⟨true, hroom⟩
  injection (devStep_next (·.frameIn 5 smallFrame) crowded).symm.trans he with ht
  rw [← ht, Dev.settle_rxQ, crowded_drops] at hlist
  exact List.cons_ne_nil _ _ (List.append_eq_nil_iff.mp hlist.symm).2

end Sys2Proof.Machine
end


section
/-! SUPPORT. What a frame changes on its way into and out of the Shroud (R94, R99, R101, R112, R161, R180): the frames of the Locker, the queues, the stores of the ports, and counters; neither the rings' own state nor the words that say how the rings stand. -/

namespace Sys2Proof.Machine

namespace Dev

/-! ### The change that a frame makes -/

/-- The words that the reception, relaying, queueing and dropping of a frame may change: the windows of the ports and of the frame path, FLT_STICKY of the Shroud, of each ring SHD_STRIP_HOPS, SHD_PASS_LATE and SHD_REV_RX, and what the release of a copy may change. -/
def trafficWords (k : Nat) : Prop :=
  (0x40000 ≤ k ∧ k < 0xD0000) ∨ k = 0xF0020 ∨ (0xF0200 ≤ k ∧ k < 0xF0600 ∧ (k % 0x200 = 0x50 ∨ k % 0x200 = 0x60 ∨ k % 0x200 = 0x64)) ∨ bankWords k

/-- A change of registers, fault units, log, trace, free values, and of the stores that frames pass through: the Locker and its banks, the queues, their credits and slots, the ports. -/
def TrafficOnly (K : Nat → Prop) (s t : Dev) : Prop :=
  (∀ k, ¬ K k → t.word k = s.word k)
    ∧ t = { s with regs := t.regs, flt := t.flt, log := t.log, trc := t.trc, freeCount := t.freeCount, frames := t.frames, retired := t.retired, plc := t.plc,
                   bankNext := t.bankNext, locker := t.locker, classQ := t.classQ, credits := t.credits, slotWait := t.slotWait, ports := t.ports }

theorem TrafficOnly.refl (K : Nat → Prop) (s : Dev) : TrafficOnly K s s := ⟨fun _ _ => rfl, rfl⟩

theorem TrafficOnly.trans {K : Nat → Prop} {a b c : Dev} (h : TrafficOnly K a b) (k : TrafficOnly K b c) : TrafficOnly K a c :=
  ⟨fun j hj => (k.1 j hj).trans (h.1 j hj), by rw [k.2, h.2]⟩

theorem TrafficOnly.mono {K L : Nat → Prop} {a b : Dev} (h : TrafficOnly K a b) (hl : ∀ k, K k → L k) : TrafficOnly L a b :=
  ⟨fun j hj => h.1 j fun hk => hj (hl j hk), h.2⟩

theorem LockerOnly.toTraffic {K : Nat → Prop} {s t : Dev} (h : LockerOnly K s t) : TrafficOnly K s t := ⟨h.1, by rw [h.2]⟩

theorem TrafficOnly.put {K : Nat → Prop} (s : Dev) {f : Fld} (v : Nat) (h : K f.addr) : TrafficOnly K s (s.put f v) := (LockerOnly.put K s f v h).toTraffic

theorem TrafficOnly.inc {K : Nat → Prop} (s : Dev) {f : Fld} (h : K f.addr) : TrafficOnly K s (s.inc f) := TrafficOnly.put s _ h

theorem TrafficOnly.when {K : Nat → Prop} {s : Dev} {f : Dev → Dev} (c : Bool) (h : TrafficOnly K s (f s)) : TrafficOnly K s (s.when c f) := by
  cases c
  · exact TrafficOnly.refl K s
  · exact h

theorem TrafficOnly.ite {K : Nat → Prop} {c : Prop} [Decidable c] {s a b : Dev} (ha : TrafficOnly K s a) (hb : TrafficOnly K s b) :
    TrafficOnly K s (if c then a else b) := by
  split
  · exact ha
  · exact hb

theorem TrafficOnly.foldl {α : Type} {K : Nat → Prop} (l : List α) {f : Dev → α → Dev} (h : ∀ s x, TrafficOnly K s (f s x)) (s : Dev) :
    TrafficOnly K s (l.foldl f s) := by
  induction l generalizing s with
  | nil => exact TrafficOnly.refl K s
  | cons x l ih => exact (h s x).trans (ih _)

section
variable {K : Nat → Prop} {s t : Dev} (h : TrafficOnly K s t)
include h

theorem TrafficOnly.get_eq {f : Fld} (hk : ¬ K f.addr) : t.get f = s.get f := get_of_word (h.1 _ hk)
theorem TrafficOnly.bit_eq {f : Fld} (hk : ¬ K f.addr) : t.bit f = s.bit f := bit_of_word (h.1 _ hk)
theorem TrafficOnly.ring_eq (r : Nat) : t.ring r = s.ring r := by rw [ring, ring, h.2]
theorem TrafficOnly.side_eq (p : Nat) : t.side p = s.side p := by rw [side, side, h.ring_eq]
theorem TrafficOnly.badWord_eq (k : Nat) : t.badWord k = s.badWord k := by rw [badWord, badWord, h.2]
theorem TrafficOnly.tim_eq : t.tim = s.tim := by rw [h.2]

end

/-! ### Events and counters -/

theorem trafficWords_of_bankWords {k : Nat} (h : bankWords k) : trafficWords k := .inr (.inr (.inr h))

theorem trafficWords_of_faultWords {k : Nat} (h : faultWords bSHD k) : trafficWords k := by
  rcases h with rfl | h
  · exact .inr (.inl rfl)
  · exact trafficWords_of_bankWords (bankWords_of_faultWords (.inr h))

theorem fault_traffic (s : Dev) (n : Nat) : TrafficOnly trafficWords s (s.fault bSHD n) :=
  (fault_only s bSHD n).toLocker.toTraffic.mono fun _ => trafficWords_of_faultWords

theorem trace_traffic (s : Dev) (src inst m a b : Nat) : TrafficOnly trafficWords s (s.trace src inst m a b) :=
  (traceAt_only s _ src inst m a b).toLocker.toTraffic.mono fun _ h => trafficWords_of_faultWords (faultWords_trc bSHD _ h)

/-- The receive and transmit counters of a port lie in its window (R90, R405). -/
theorem incRx_traffic (s : Dev) {p i : Nat} (hp : p < 8) (hi : i < 64) : TrafficOnly trafficWords s (s.incRx p i) :=
  (TrafficOnly.inc _ (.inl (by simp only [Reg.PRT_RX_CNT.COUNT]; omega))).trans
    (TrafficOnly.when _ (TrafficOnly.put _ _ (.inl (by simp only [Reg.PRT_HALF_RX]; omega))))

theorem incTx_traffic (s : Dev) {p i : Nat} (hp : p < 8) (hi : i < 64) : TrafficOnly trafficWords s (s.incTx p i) :=
  (incTx_only s p i).toFault.toLocker.toTraffic.mono fun k hk => .inl (by
    simp only [Reg.PRT_TX_CNT, Reg.PRT_HALF_TX] at hk
    omega)

theorem modPort_traffic (K : Nat → Prop) (s : Dev) (p : Nat) (f : Port → Port) : TrafficOnly K s (s.modPort p f) := ⟨fun _ _ => rfl, rfl⟩

/-! ### Frames of the Locker (R99, R101) -/

theorem releaseCopy_traffic (s : Dev) (d : Nat) : TrafficOnly trafficWords s (s.releaseCopy d) :=
  (releaseCopy_only s d).toTraffic.mono fun _ => trafficWords_of_bankWords

theorem stageCopy_traffic (K : Nat → Prop) (s : Dev) (p : Nat) : TrafficOnly K s (s.stageCopy p) := by
  unfold stageCopy
  split
  · exact ⟨fun _ _ => rfl, rfl⟩
  · exact TrafficOnly.refl K s

theorem placeFrame_traffic (K : Nat → Prop) (s : Dev) (o : Owner) (shared : Bool) (data : List Octet) (copies ingress : Nat) :
    TrafficOnly K s (s.placeFrame o shared data copies ingress).2 :=
  (stageCopy_traffic K s ingress).trans ⟨fun _ _ => rfl, rfl⟩

theorem allocDevice_traffic {K : Nat → Prop} {s t : Dev} {o : Owner} {data : List Octet} {copies d : Nat}
    (h : s.allocDevice o data copies = some (d, t)) : TrafficOnly K s t := by
  unfold allocDevice at h
  split at h
  · cases h
    exact placeFrame_traffic ..
  · cases h

theorem dropNoRoom_traffic (s : Dev) {p : Nat} (hp : p < 8) (a : Alloc) : TrafficOnly trafficWords s (s.dropNoRoom p a) := by
  have hrx := incRx_traffic s hp (show 19 < 64 by decide)
  unfold dropNoRoom
  cases a with
  | ok sh => exact hrx
  | noDesc => exact hrx.trans (TrafficOnly.inc _ (.inl (by decide)))
  | noGran => exact hrx.trans (TrafficOnly.inc _ (.inl (by decide)))

/-! ### Queues (R112, R120, R180) -/

/-- A copy that belongs to no context is queued, or dropped where no window can carry it. -/
theorem queueCopy_traffic (s : Dev) {p : Nat} (c : Nat) {e : QEnt} (hp : p < 8) (he : e.ctx = none) : TrafficOnly trafficWords s (s.queueCopy p c e) := by
  unfold queueCopy
  split
  · unfold dropNeverCarried
    rw [he]
    exact (incTx_traffic s hp (by decide)).trans (releaseCopy_traffic _ _)
  · exact ⟨fun _ _ => rfl, rfl⟩

theorem otherPort_lt {p : Nat} (hp : p < 4) : otherPort p < 4 := by
  unfold otherPort
  split <;> omega

theorem trafficWords_passLate {r : Nat} (hr : r < 2) : trafficWords (Reg.SHD_PASS_LATE.COUNT r).addr :=
  .inr (.inr (.inl (by simp only [Reg.SHD_PASS_LATE.COUNT]; omega)))

theorem queueRing_traffic (s : Dev) {p : Nat} (c : Nat) {e : QEnt} (hp : p < 4) (he : e.ctx = none) : TrafficOnly trafficWords s (s.queueRing p c e) := by
  have ho := otherPort_lt hp
  unfold queueRing
  dsimp only
  split
  · split
    · exact (TrafficOnly.inc _ (trafficWords_passLate (by unfold ringOf; omega))).trans (releaseCopy_traffic _ _)
    · exact queueCopy_traffic s c (by omega) he
  · exact queueCopy_traffic s c (by omega) he

/-- A frame of this node sent on a ring: placed in the device pool where it finds room, then queued (R99). -/
theorem beaconSend_traffic (s : Dev) {r : Nat} (k : Int) (hr : r < 2) : TrafficOnly trafficWords s (s.beaconSend r k) := by
  unfold beaconSend
  dsimp only
  split
  · exact TrafficOnly.refl _ s
  · next ha =>
    exact ((allocDevice_traffic ha).trans (queueRing_traffic _ 7 (by unfold eastPort; omega) rfl)).trans (queueRing_traffic _ 7 (by omega) rfl)

theorem linkFrame_traffic (s : Dev) {p : Nat} (hp : p < 4) : TrafficOnly trafficWords s (s.linkFrame p) := by
  unfold linkFrame
  dsimp only
  split
  · exact TrafficOnly.refl _ s
  · next ha => exact (allocDevice_traffic ha).trans (queueCopy_traffic _ 6 (by omega) rfl)

/-- A notice sent changes its ring's count beside (R182). -/
theorem noticeOn_traffic (s : Dev) {r : Nat} (code subject detail : Nat) (hr : r < 2) :
    TrafficOnly (fun k => trafficWords k ∨ k = Reg.SHD_NOTICE_SENT r) s (s.noticeOn r code subject detail) := by
  unfold noticeOn
  dsimp only
  split
  · exact TrafficOnly.refl _ s
  · next ha =>
    exact ((allocDevice_traffic ha).trans ((queueRing_traffic _ 6 (by omega) rfl).mono fun _ => .inl)).trans (TrafficOnly.inc _ (.inr rfl))

theorem notice_traffic (s : Dev) (code subject detail : Nat) :
    TrafficOnly (fun k => trafficWords k ∨ k = Reg.SHD_NOTICE_SENT 0 ∨ k = Reg.SHD_NOTICE_SENT 1) s (s.notice code subject detail) := by
  have h : ∀ (u : Dev) (r : Nat), r < 2 → TrafficOnly (fun k => trafficWords k ∨ k = Reg.SHD_NOTICE_SENT 0 ∨ k = Reg.SHD_NOTICE_SENT 1) u
      (if u.bit (Reg.SHD_RING_CFG.EN r) then u.noticeOn r code subject detail else u) := by
    intro u r hr
    split
    · refine (noticeOn_traffic u code subject detail hr).mono fun k hk => hk.imp_right fun h => ?_
      have : r = 0 ∨ r = 1 := by omega
      rcases this with rfl | rfl
      · exact .inl h
      · exact .inr h
    · exact TrafficOnly.refl _ u
  exact (h s 0 (by decide)).trans (h _ 1 (by decide))

/-! ### Slots (R253–R255) -/

theorem assignSlot_traffic (s : Dev) (r from' : Nat) (w : SlotWait) : TrafficOnly trafficWords s (s.assignSlot r from' w) :=
  (TrafficOnly.when _ ((TrafficOnly.inc s (trafficWords_of_bankWords (bankWords_window (by decide) (by decide)))).trans
    (TrafficOnly.put _ _ (trafficWords_of_bankWords (bankWords_window (by decide) (by decide)))))).trans ⟨fun _ _ => rfl, rfl⟩

theorem reassignSlots_traffic (s : Dev) (r : Nat) : TrafficOnly trafficWords s (s.reassignSlots r) :=
  TrafficOnly.trans (b := s.setSlotWaits r _) ⟨fun _ _ => rfl, rfl⟩ (TrafficOnly.foldl _ (fun u w => assignSlot_traffic u r u.now w) _)

/-! ### Relays (R161) -/

theorem relay_traffic (s : Dev) {p : Nat} (t src : Nat) (data : List Octet) (hp : p < 4) : TrafficOnly trafficWords s (s.relay p t src data) := by
  have hr : trafficWords (Reg.SHD_STRIP_HOPS.COUNT (ringOf p)).addr := .inr (.inr (.inl (by simp only [Reg.SHD_STRIP_HOPS.COUNT, ringOf]; omega)))
  unfold relay
  refine TrafficOnly.ite (TrafficOnly.refl _ s) <| TrafficOnly.ite (TrafficOnly.refl _ s) <| TrafficOnly.ite ((TrafficOnly.inc s hr).trans (fault_traffic _ 6)) <|
    TrafficOnly.ite (TrafficOnly.refl _ s) <| TrafficOnly.ite (TrafficOnly.refl _ s) ?_
  dsimp only
  split
  · exact (placeFrame_traffic ..).trans (queueRing_traffic _ _ (otherPort_lt hp) rfl)
  · exact dropNoRoom_traffic s (by omega) _

end Dev

end Sys2Proof.Machine
end


section
/-! SUPPORT. A control frame of the ring on its way to the Shroud (R40, R94, R162, R164): what its arrival changes, and what the Shroud is handed. -/

namespace Sys2Proof.Machine

namespace Dev

/-! ### Addresses (R405) -/

/-- The words of a ring from SHD_RING_CFG to SHD_BCN_SKEW, those of its claims and its ROLL stand beside what frames change. -/
theorem not_trafficWords_ring {r a : Nat} (hr : r < 2) (ha : a < 0x200) (h : a ≠ 0x50 ∧ a ≠ 0x60 ∧ a ≠ 0x64) : ¬ trafficWords (0xF0200 + a + 0x200 * r) := by
  simp only [trafficWords, bankWords, Reg.FRM_BANK_STATE]
  omega

/-- So do the gate schedules and the slot tables. -/
theorem not_trafficWords_tables {k : Nat} (h : (0xD0000 ≤ k ∧ k < 0xF0000) ∨ (0xF0100 ≤ k ∧ k < 0xF0200) ∨ (0x1000000 ≤ k ∧ k < 0x1250000)) : ¬ trafficWords k := by
  simp only [trafficWords, bankWords, Reg.FRM_BANK_STATE]
  omega

/-- The words of GLB, PWR and TIM lie below. -/
theorem not_trafficWords_root {k : Nat} (h : k < 0x30000) : ¬ trafficWords k := by
  simp only [trafficWords, bankWords, Reg.FRM_BANK_STATE]
  omega

theorem ringOf_lt {p : Nat} (hp : p < 4) : ringOf p < 2 := by
  unfold ringOf
  omega

/-! ### The ring cycle (R114, R165) -/

/-- Cycle time and base time of a gate schedule are read from its own words. -/
theorem schedule_congr {s t : Dev} {p b : Nat} (hp : p < 8) (hb : b < 2) (hw : ∀ k, 0xD1000 ≤ k → k < 0xE0000 → t.word k = s.word k) :
    (t.schedule p b).cycle = (s.schedule p b).cycle ∧ (t.schedule p b).base = (s.schedule p b).base := by
  have hcyc : t.word (Reg.GTE_CYCLE_TIME p b) = s.word (Reg.GTE_CYCLE_TIME p b) := hw _ (by rw [Reg.GTE_CYCLE_TIME]; omega) (by rw [Reg.GTE_CYCLE_TIME]; omega)
  have hbase : t.stamp3 (Reg.GTE_BASE_LO p b) = s.stamp3 (Reg.GTE_BASE_LO p b) := by
    simp only [stamp3, Reg.GTE_BASE_LO]
    rw [hw _ (by omega) (by omega), hw _ (by omega) (by omega), hw _ (by omega) (by omega)]
  exact ⟨congrArg BitVec.toNat hcyc, congrArg ofStamp hbase⟩

/-- The number of the running cycle follows from the local time and the words of the gate schedules. -/
theorem cycleIdx_congr {s t : Dev} {r : Nat} (hr : r < 2) (hw : ∀ k, 0xD1000 ≤ k → k < 0xE0000 → t.word k = s.word k) (hn : t.now = s.now) :
    t.cycleIdx r = s.cycleIdx r := by
  have hact : t.gclActive (eastPort r) = s.gclActive (eastPort r) := by
    refine get_of_word (f := Reg.GTE_GCL_CTL.ACTIVE (eastPort r)) (hw _ ?_ ?_) <;> simp only [Reg.GTE_GCL_CTL.ACTIVE, eastPort] <;> omega
  obtain ⟨hcyc, hbase⟩ := schedule_congr (p := eastPort r) (b := s.gclActive (eastPort r)) (by unfold eastPort; omega)
    (get_lt s (Reg.GTE_GCL_CTL.ACTIVE (eastPort r))) hw
  rw [cycleIdx, cycleIdx, ringSchedule, ringSchedule, hact, hn, Schedule.index, Schedule.index, hcyc, hbase]

theorem TrafficOnly.now_eq {s t : Dev} (h : TrafficOnly trafficWords s t) : t.now = s.now := by
  rw [now, now, dist40, dist40, h.bit_eq (f := statusBit bTIM 3) (not_trafficWords_root (by decide)), h.tim_eq]

theorem TrafficOnly.cycleIdx_eq {s t : Dev} (h : TrafficOnly trafficWords s t) {r : Nat} (hr : r < 2) : t.cycleIdx r = s.cycleIdx r :=
  cycleIdx_congr hr (fun k h1 h2 => h.1 k (not_trafficWords_tables (.inl (by omega)))) h.now_eq

/-! ### The arrival (R88, R94) -/

/-- What the arrival of a frame at a port has done before the device functions see it. -/
def Arrived (s t : Dev) : Prop := TrafficOnly trafficWords s t ∧ t.frames = s.frames

theorem Arrived.trans {a b c : Dev} (h : Arrived a b) (k : Arrived b c) : Arrived a c := ⟨h.1.trans k.1, k.2.trans h.2⟩

theorem modPort_arrived (s : Dev) (p : Nat) (f : Port → Port) : Arrived s (s.modPort p f) := ⟨modPort_traffic _ s p f, rfl⟩

/-- A change of the arrival's words alone. -/
theorem WordOnly.arrived {K : Nat → Prop} {s t : Dev} (h : WordOnly K s t) (hK : ∀ k, K k → trafficWords k) : Arrived s t :=
  ⟨h.toFault.toLocker.toTraffic.mono hK, by rw [h.2]⟩

/-- A receive counter changes with the half-range bits of its port alone (R90). -/
theorem incRx_only (s : Dev) (p i : Nat) : WordOnly (fun k => k = Reg.PRT_RX_CNT p i ∨ k = Reg.PRT_HALF_RX p) s (s.incRx p i) :=
  (WordOnly.inc _ s (Reg.PRT_RX_CNT.COUNT p i) (.inl rfl)).trans (WordOnly.when _ (WordOnly.put _ _ ⟨Reg.PRT_HALF_RX p, i, 1⟩ _ (.inr rfl)))

theorem incRxBy_only (s : Dev) (p i n : Nat) : WordOnly (fun k => k = Reg.PRT_RX_CNT p i ∨ k = Reg.PRT_HALF_RX p) s (s.incRxBy p i n) := by
  have h : ∀ (l : List Nat) (u : Dev), WordOnly (fun k => k = Reg.PRT_RX_CNT p i ∨ k = Reg.PRT_HALF_RX p) u (l.foldl (fun u _ => u.incRx p i) u) := by
    intro l
    induction l with
    | nil => exact WordOnly.refl _
    | cons x l ih => exact fun u => (incRx_only u p i).trans (ih _)
  exact h (List.range n) s

theorem trafficWords_rxCounter {p i k : Nat} (hp : p < 8) (hi : i < 64) (h : k = Reg.PRT_RX_CNT p i ∨ k = Reg.PRT_HALF_RX p) : trafficWords k :=
  .inl (by
    simp only [Reg.PRT_RX_CNT, Reg.PRT_HALF_RX] at h
    omega)

theorem incRx_arrived (s : Dev) {p i : Nat} (hp : p < 8) (hi : i < 64) : Arrived s (s.incRx p i) :=
  (incRx_only s p i).arrived fun _ => trafficWords_rxCounter hp hi

theorem incRxBy_arrived (s : Dev) {p i : Nat} (n : Nat) (hp : p < 8) (hi : i < 64) : Arrived s (s.incRxBy p i n) :=
  (incRxBy_only s p i n).arrived fun _ => trafficWords_rxCounter hp hi

theorem countGood_arrived (s : Dev) {p : Nat} (ring : Bool) (l : List Octet) (pre : Bool) (hp : p < 8) :
    Arrived s (s.countGood (fun s i => s.incRx p i) ring l pre) := by
  have hi : ∀ (u : Dev) {i : Nat}, i < 64 → Arrived u (u.incRx p i) := fun u _ => incRx_arrived u hp
  have ha := addrCounter_bounds (fieldBE l 0 6)
  have htag : ∀ (u : Dev) (c : Prop) [Decidable c], Arrived u (if c then u.incRx p 12 else u) := by
    intro u c _
    split
    · exact hi u (by decide)
    · exact ⟨TrafficOnly.refl _ u, rfl⟩
  exact (((hi s ((sizeBin_lt _).trans (by decide))).trans (hi _ (by omega))).trans (htag _ _)).trans (hi _ (by split <;> decide))

theorem trace_frames (s : Dev) (src inst m a b : Nat) : (s.trace src inst m a b).frames = s.frames := by
  rw [show s.trace src inst m a b = _ from (traceAt_only s _ src inst m a b).2]

theorem rxTrace_arrived (s : Dev) (p : Nat) (l : List Octet) : Arrived s (s.rxTrace p l) := by
  unfold rxTrace
  split
  · exact ⟨TrafficOnly.refl _ s, rfl⟩
  · have hw : Arrived s s.freeWord.2 := ⟨⟨fun _ _ => rfl, rfl⟩, rfl⟩
    exact hw.trans ⟨trace_traffic .., trace_frames ..⟩

/-- The first counts of an arrival: the octets of this millisecond, and the fragments (R88, R94). -/
def arrivalCounted (s : Dev) (p : Nat) (f : RxFrame) : Dev :=
  (s.modPort p fun x => { x with rxMs := x.rxMs + frameLen f.data + 20 + 24 * f.frags }).incRxBy p 15 f.frags

theorem arrivalCounted_arrived (s : Dev) {p : Nat} (f : RxFrame) (hp : p < 8) : Arrived s (s.arrivalCounted p f) :=
  (modPort_arrived s p _).trans (incRxBy_arrived _ f.frags hp (by decide))

/-- What staging reads of a port is not what those counts change (R94). -/
theorem arrivalCounted_staged (s : Dev) (p : Nat) (f : RxFrame) :
    (s.arrivalCounted p f).stageBusy p f = s.stageBusy p f ∧ (s.arrivalCounted p f).maxLen p = s.maxLen p := by
  have honly : WordOnly (fun k => k = Reg.PRT_RX_CNT p 15 ∨ k = Reg.PRT_HALF_RX p) _ (s.arrivalCounted p f) := incRxBy_only _ p 15 f.frags
  have hst : ((s.arrivalCounted p f).port p).stage = (s.port p).stage := by
    rw [honly.port_eq]
    exact modPort_keeps s p _ (·.stage) (fun _ _ _ => rfl) fun _ => rfl
  have hrate : (s.arrivalCounted p f).rate p = s.rate p :=
    honly.get_eq (by simp only [Reg.PRT_LINK.SPEED_NOW, Reg.PRT_RX_CNT, Reg.PRT_HALF_RX]; omega)
  have hmax : (s.arrivalCounted p f).get (Reg.PRT_MODE.MAX_LEN p) = s.get (Reg.PRT_MODE.MAX_LEN p) :=
    honly.get_eq (by simp only [Reg.PRT_MODE.MAX_LEN, Reg.PRT_RX_CNT, Reg.PRT_HALF_RX]; omega)
  have hup : (s.arrivalCounted p f).up = s.up := by
    rw [honly.2]
    rfl
  constructor
  · rw [stageBusy, stageBusy, hst, hrate, hup]
  · rw [maxLen, maxLen, hmax]

/-- A frame that passes staging and the checks comes to the device functions (R94). -/
theorem frameIn_good {s : Dev} {p : Nat} {f : RxFrame} (hp : p < 8) (hg : s.goodArrival p f = true) :
    ∃ u t, Arrived s u ∧ s.frameIn p f = u.deviceStep p t f.data := by
  simp only [goodArrival, Bool.and_eq_true, Bool.not_eq_true', Nat.blt_eq, Nat.ble_eq] at hg
  obtain ⟨⟨⟨⟨⟨⟨⟨hmay, hcut⟩, hpre⟩, hbusy⟩, hfcs⟩, hasm⟩, hlo⟩, hhi⟩ := hg
  obtain ⟨hst, hmax⟩ := arrivalCounted_staged s p f
  have hstay : s.frameIn p f = (((((s.arrivalCounted p f).modPort p fun x => { x with stage := (s.arrivalCounted p f).stageBusy p f ++ [(s.arrivalCounted p f).up + 2] }).countGood
      (fun s i => s.incRx p i) (Nat.blt p 4) f.data f.preempt).rxTrace p f.data).deviceStep p ((s.arrivalCounted p f).frameStamp p (frameLen f.data) f.extra) f.data) := by
    unfold frameIn
    rw [if_neg (by simp [hcut]), if_neg (by simp [hmay])]
    refine (if_neg (by simp [hpre])).trans ((if_neg ?_).trans ((if_neg ?_).trans ((if_neg ?_).trans (if_neg ?_))))
    · change ¬ 2 ≤ ((s.arrivalCounted p f).stageBusy p f).length
      rw [hst]
      omega
    · omega
    · change ¬ (s.arrivalCounted p f).maxLen p < _
      rw [hmax]
      omega
    · simp [hfcs, hasm]
  exact ⟨_, _, (((arrivalCounted_arrived s f hp).trans (modPort_arrived _ p _)).trans (countGood_arrived _ _ f.data f.preempt hp)).trans (rxTrace_arrived _ p f.data), hstay⟩

/-! ### What the Shroud is handed (R162, R164) -/

/-- A control frame bears a ring tag with CTRL at a ring port. -/
theorem isControl_spec {s : Dev} {p type : Nat} {f : RxFrame} (h : s.isControl p f type = true) :
    p < 4 ∧ (ringTag (s.get Reg.SHD_CFG.ETYPE) f.data).isSome = true ∧ (fieldBE f.data 14 2).testBit 13 = true ∧ fieldBE f.data 18 1 = type := by
  simp only [isControl, Bool.and_eq_true, Nat.blt_eq, beq_iff_eq] at h
  obtain ⟨⟨hp, htag⟩, htype⟩ := h
  refine ⟨hp, ?_, ?_, htype⟩
  · cases hr : ringTag (s.get Reg.SHD_CFG.ETYPE) f.data with
    | none => rw [hr] at htag; cases htag
    | some t => rfl
  · unfold ringTag at htag
    split at htag
    · next t hr =>
      split at hr
      · cases hr
        exact htag
      · cases hr
    · cases htag

/-- A frame whose tag has REV counts as such before the Shroud acts on it (R160). -/
def revCounted (s : Dev) (p : Nat) (data : List Octet) : Dev := s.when ((fieldBE data 14 2).testBit 15) fun s => s.inc (Reg.SHD_REV_RX.COUNT (ringOf p))

theorem revCounted_arrived (s : Dev) {p : Nat} (data : List Octet) (hp : p < 4) : Arrived s (s.revCounted p data) :=
  (WordOnly.when _ (WordOnly.inc (· = Reg.SHD_REV_RX (ringOf p)) s _ rfl)).arrived fun k hk =>
    .inr (.inr (.inl (by simp only [Reg.SHD_REV_RX, ringOf] at hk; omega)))

theorem wrapFld_traffic {p : Nat} (hp : p < 4) : ¬ trafficWords (wrapFld p).addr := by
  unfold wrapFld
  split
  · exact not_trafficWords_ring (r := p / 2) (a := 0xC) (by omega) (by decide) (by decide)
  · exact not_trafficWords_ring (r := p / 2) (a := 0xC) (by omega) (by decide) (by decide)

/-- A good control frame of an enabled ring is the Shroud's, at a wrapped port where it is a link frame (R162, R181). -/
theorem frameIn_control {s : Dev} {p type : Nat} {f : RxFrame} (hc : s.isControl p f type = true) (hg : s.goodArrival p f = true)
    (hw : s.wrapped p = false ∨ type = 4) :
    ∃ u t, Arrived s u ∧ ((u.shroudTake p t f.data).1 = none → s.frameIn p f = (u.shroudTake p t f.data).2) := by
  obtain ⟨hp, htag, hctrl, htype⟩ := isControl_spec hc
  obtain ⟨u, t, hu, he⟩ := frameIn_good (by omega) hg
  have hety : u.get Reg.SHD_CFG.ETYPE = s.get Reg.SHD_CFG.ETYPE := hu.1.get_eq (not_trafficWords_tables (.inr (.inl (by decide))))
  have hwrap : u.wrapped p = s.wrapped p := hu.1.bit_eq (wrapFld_traffic hp)
  have hlink : u.isLinkFrame f.data = (type == 4) := by rw [isLinkFrame, hety, htag, hctrl, htype]; rfl
  refine ⟨u, t, hu, fun hnone => ?_⟩
  have hpass : ¬ (u.wrapped p = true ∧ ¬ u.isLinkFrame f.data = true) := by
    rw [hwrap, hlink]
    rcases hw with hw | hw
    · simp [hw]
    · simp [hw]
  rw [he, deviceStep, if_neg (by omega), if_neg hpass, hety, if_pos htag]
  dsimp only
  rw [hnone]

end Dev

end Sys2Proof.Machine
end


section
/-! SUPPORT. What the Shroud makes of beacons, claims and link frames (R165–R168, R173–R177, R184). -/

namespace Sys2Proof.Machine

namespace Dev

/-! ### The store of the rings -/

@[simp] theorem ring_setRing_same (s : Dev) (r : Nat) (x : Ring) : (s.setRing r x).ring r = x := Tab.get_set_same _ _ _ _
@[simp] theorem word_setRing (s : Dev) (r : Nat) (x : Ring) (k : Nat) : (s.setRing r x).word k = s.word k := rfl
@[simp] theorem get_setRing (s : Dev) (r : Nat) (x : Ring) (f : Fld) : (s.setRing r x).get f = s.get f := rfl
@[simp] theorem get_modSide (s : Dev) (p : Nat) (f : Side → Side) (g : Fld) : (s.modSide p f).get g = s.get g := rfl
@[simp] theorem bit_modSide (s : Dev) (p : Nat) (f : Side → Side) (g : Fld) : (s.modSide p f).bit g = s.bit g := rfl
@[simp] theorem ring_put (s : Dev) (f : Fld) (v r : Nat) : (s.put f v).ring r = s.ring r := rfl
@[simp] theorem ring_inc (s : Dev) (f : Fld) (r : Nat) : (s.inc f).ring r = s.ring r := rfl
@[simp] theorem ring_fresh (s : Dev) (r : Nat) : s.fresh.ring r = s.ring r := rfl
@[simp] theorem side_put (s : Dev) (f : Fld) (v p : Nat) : (s.put f v).side p = s.side p := rfl
@[simp] theorem ring_settle (old s : Dev) (r : Nat) : (settle old s).ring r = s.ring r := by rw [ring, settle_rings, ring]
@[simp] theorem side_settle (old s : Dev) (p : Nat) : (settle old s).side p = s.side p := by rw [side, ring_settle, side]

@[simp] theorem side_modSide_same (s : Dev) (p : Nat) (f : Side → Side) : (s.modSide p f).side p = f (s.side p) := by
  rw [side, modSide, setSide, ring_setRing_same]
  split <;> rfl

/-- A change of a side leaves of its ring what is not of a side. -/
theorem modSide_ring {α : Type} (s : Dev) (p : Nat) (f : Side → Side) (g : Ring → α) (hg : ∀ x w e, g { x with west := w, east := e } = g x) :
    g ((s.modSide p f).ring (ringOf p)) = g (s.ring (ringOf p)) := by
  rw [modSide, setSide, ringOf, ring_setRing_same]
  split
  · exact hg _ _ (s.ring (p / 2)).east
  · exact hg _ (s.ring (p / 2)).west _

/-- A change of a ring that concerns neither side. -/
theorem side_setRing (s : Dev) {p : Nat} {x : Ring} (hw : x.west = (s.ring (ringOf p)).west) (he : x.east = (s.ring (ringOf p)).east) :
    (s.setRing (ringOf p) x).side p = s.side p := by
  rw [side, side, ← ringOf, ring_setRing_same, hw, he]

/-! ### What is handed over (R162) -/

section
variable {s : Dev} {p : Nat} {data : List Octet} (t : Nat) (he : s.ringEn (ringOf p) = true) (hctrl : (fieldBE data 14 2).testBit 13 = true)
include he hctrl

theorem shroudTake_beacon (h : fieldBE data 18 1 = 1) :
    s.shroudTake p t data = (none, ((s.revCounted p data).beaconCopy p t (fieldBE data 16 2) data).relay p t (fieldBE data 16 2) data) := by
  unfold shroudTake
  rw [if_neg (by rw [not_not]; exact he)]
  dsimp only
  rw [if_pos hctrl, h, if_pos rfl]
  rfl

theorem shroudTake_claim (h : fieldBE data 18 1 = 2) :
    s.shroudTake p t data = (none, ((s.revCounted p data).claimTake p (fieldBE data 16 2) data).relay p t (fieldBE data 16 2) data) := by
  unfold shroudTake
  rw [if_neg (by rw [not_not]; exact he)]
  dsimp only
  rw [if_pos hctrl, h, if_neg (by decide), if_pos rfl]
  rfl

theorem shroudTake_link (h : fieldBE data 18 1 = 4) : s.shroudTake p t data = (none, (s.revCounted p data).linkFrameTake p data) := by
  unfold shroudTake
  rw [if_neg (by rw [not_not]; exact he)]
  dsimp only
  rw [if_pos hctrl, h, if_neg (by decide), if_neg (by decide), if_neg (by decide), if_pos rfl]
  rfl

end

theorem Arrived.ringEn_eq {s u : Dev} (h : Arrived s u) {r : Nat} (hr : r < 2) : u.ringEn r = s.ringEn r :=
  h.1.bit_eq (not_trafficWords_ring (a := 0) hr (by decide) (by decide))

section
variable {s : Dev} {p : Nat} {f : RxFrame} (hg : s.goodArrival p f = true) (he : s.ringEn (ringOf p) = true)
include hg he

/-- A good beacon is acted on and relayed (R161, R165). -/
theorem frameIn_beacon (hc : s.isControl p f 1 = true) (hw : s.wrapped p = false) :
    ∃ u t src, Arrived s u ∧ s.frameIn p f = (u.beaconCopy p t src f.data).relay p t src f.data := by
  obtain ⟨hp, -, hctrl, htype⟩ := isControl_spec hc
  obtain ⟨u, t, hu, hin⟩ := frameIn_control hc hg (.inl hw)
  have ht := shroudTake_beacon t ((hu.ringEn_eq (ringOf_lt hp)).trans he) hctrl htype
  rw [ht] at hin
  exact ⟨_, t, _, hu.trans (revCounted_arrived u f.data hp), hin rfl⟩

/-- A good claim is judged and relayed (R161, R176). -/
theorem frameIn_claim (hc : s.isControl p f 2 = true) (hw : s.wrapped p = false) :
    ∃ u t, Arrived s u ∧ s.frameIn p f = (u.claimTake p (fieldBE f.data 16 2) f.data).relay p t (fieldBE f.data 16 2) f.data := by
  obtain ⟨hp, -, hctrl, htype⟩ := isControl_spec hc
  obtain ⟨u, t, hu, hin⟩ := frameIn_control hc hg (.inl hw)
  have ht := shroudTake_claim t ((hu.ringEn_eq (ringOf_lt hp)).trans he) hctrl htype
  rw [ht] at hin
  exact ⟨_, t, hu.trans (revCounted_arrived u f.data hp), hin rfl⟩

/-- A good link frame is the port's own, wrapped or not, and goes no further (R181, R184). -/
theorem frameIn_link (hc : s.isControl p f 4 = true) : ∃ u, Arrived s u ∧ s.frameIn p f = u.linkFrameTake p f.data := by
  obtain ⟨hp, -, hctrl, htype⟩ := isControl_spec hc
  obtain ⟨u, t, hu, hin⟩ := frameIn_control hc hg (.inr rfl)
  have ht := shroudTake_link t ((hu.ringEn_eq (ringOf_lt hp)).trans he) hctrl htype
  rw [ht] at hin
  exact ⟨_, hu.trans (revCounted_arrived u f.data hp), hin rfl⟩

end

/-! ### Beacons (R165–R168, R173) -/

/-- What a beacon shows of the node at ring port `p`: SHD_CYCLE_NOW, the numbers acted on, the grants to apply, MASTER_LOST and the neighbour. -/
def beaconFace (s : Dev) (p : Nat) : Word × List Nat × List Grant × Bool × Nat :=
  (s.word (Reg.SHD_CYCLE_NOW (ringOf p)), (s.ring (ringOf p)).acted, (s.ring (ringOf p)).grants, s.bit (Reg.SHD_STATE.MASTER_LOST (ringOf p)), (s.side p).neighbour)

theorem TrafficOnly.beaconFace_eq {s t : Dev} (h : TrafficOnly trafficWords s t) {p : Nat} (hp : p < 4) : t.beaconFace p = s.beaconFace p := by
  have hr := ringOf_lt hp
  have hcyc : t.word (Reg.SHD_CYCLE_NOW (ringOf p)) = s.word (Reg.SHD_CYCLE_NOW (ringOf p)) := h.1 _ (not_trafficWords_ring (a := 0x10) hr (by decide) (by decide))
  have hlost : t.bit (Reg.SHD_STATE.MASTER_LOST (ringOf p)) = s.bit (Reg.SHD_STATE.MASTER_LOST (ringOf p)) :=
    h.bit_eq (not_trafficWords_ring (a := 0xC) hr (by decide) (by decide))
  rw [beaconFace, beaconFace, hcyc, hlost, h.ring_eq, h.side_eq]

/-- A field of another word, or of other bits of SHD_STATE. -/
theorem put_beaconFace (s : Dev) {f : Fld} (v : Nat) {p : Nat} (hf : f.lo + f.w ≤ 32) (hcyc : f.addr ≠ Reg.SHD_CYCLE_NOW (ringOf p))
    (hlost : f.addr ≠ Reg.SHD_STATE (ringOf p) ∨ f.lo + f.w ≤ 4 ∨ 5 ≤ f.lo) : (s.put f v).beaconFace p = s.beaconFace p := by
  have h1 : (s.put f v).word (Reg.SHD_CYCLE_NOW (ringOf p)) = s.word (Reg.SHD_CYCLE_NOW (ringOf p)) := word_put_other _ _ _ _ hcyc.symm
  have h2 : (s.put f v).bit (Reg.SHD_STATE.MASTER_LOST (ringOf p)) = s.bit (Reg.SHD_STATE.MASTER_LOST (ringOf p)) :=
    bit_put_other s f _ v hf (hlost.imp Ne.symm Or.symm)
  rw [beaconFace, beaconFace, h1, h2, ring_put, side_put]

/-- A change of a ring in nothing that is shown. -/
theorem setRing_beaconFace (s : Dev) {p : Nat} {x : Ring} (hw : x.west = (s.ring (ringOf p)).west) (he : x.east = (s.ring (ringOf p)).east)
    (ha : x.acted = (s.ring (ringOf p)).acted) (hg : x.grants = (s.ring (ringOf p)).grants) : (s.setRing (ringOf p) x).beaconFace p = s.beaconFace p := by
  rw [beaconFace, ring_setRing_same, side_setRing s hw he, ha, hg]
  rfl

theorem when_beaconFace {s : Dev} {f : Dev → Dev} {p : Nat} (c : Bool) (h : (f s).beaconFace p = s.beaconFace p) : (s.when c f).beaconFace p = s.beaconFace p := by
  cases c
  · rfl
  · exact h

theorem statusAddr_bSHD : statusAddr bSHD = 0xF0008 := rfl

theorem raise_beaconFace (s : Dev) (n p : Nat) (hn : n < 32) : (s.raise bSHD n).beaconFace p = s.beaconFace p :=
  put_beaconFace s 1 (Nat.succ_le_of_lt hn) (by simp only [statusBit, statusAddr_bSHD, Reg.SHD_CYCLE_NOW]; omega)
    (.inl (by simp only [statusBit, statusAddr_bSHD, Reg.SHD_STATE]; omega))

/-- The words that the result of a claim changes (R175). -/
def claimResulted (s : Dev) (r res : Nat) : Dev := ((s.put (Reg.SHD_CLAIM_STAT.RESULT r) res).put (Reg.SHD_CLAIM.START r) 0).raise bSHD (4 + r)

theorem claimResult_eq (s : Dev) (r res : Nat) : s.claimResult r res = (s.claimResulted r res).setRing r { s.ring r with sendIn := none } := rfl

theorem claimResulted_beaconFace (s : Dev) {p : Nat} (res : Nat) (hp : p < 4) : (s.claimResulted (ringOf p) res).beaconFace p = s.beaconFace p := by
  have hr := ringOf_lt hp
  rw [claimResulted, raise_beaconFace _ _ _ (by omega),
    put_beaconFace _ _ (by decide : 31 + 1 ≤ 32) (by simp only [Reg.SHD_CLAIM.START, Reg.SHD_CYCLE_NOW]; omega) (.inl (by simp only [Reg.SHD_CLAIM.START, Reg.SHD_STATE]; omega)),
    put_beaconFace _ _ (by decide : 0 + 2 ≤ 32) (by simp only [Reg.SHD_CLAIM_STAT.RESULT, Reg.SHD_CYCLE_NOW]; omega) (.inl (by simp only [Reg.SHD_CLAIM_STAT.RESULT, Reg.SHD_STATE]; omega))]

theorem claimResult_beaconFace (s : Dev) {p : Nat} (res : Nat) (hp : p < 4) : (s.claimResult (ringOf p) res).beaconFace p = s.beaconFace p := by
  rw [claimResult_eq]
  exact (setRing_beaconFace _ (by rfl) (by rfl) (by rfl) (by rfl)).trans (claimResulted_beaconFace s res hp)

/-- A cycle number is taken up: noted as acted on, its grants kept, shown (R165, R177). -/
def cycleTaken (s : Dev) (p : Nat) (data : List Octet) : Dev :=
  (s.setRing (ringOf p) { s.ring (ringOf p) with
    acted := (fieldBE data 26 4 :: (s.ring (ringOf p)).acted).take 1024
    grants := (s.ring (ringOf p)).grants ++ beaconGrants data
    beaconWrapped := (fieldBE data 54 1).testBit 7 }).setWord (Reg.SHD_CYCLE_NOW (ringOf p)) (BitVec.ofNat 32 (fieldBE data 26 4))

theorem cycleTaken_beaconFace (s : Dev) (p : Nat) (data : List Octet) :
    (s.cycleTaken p data).beaconFace p = (BitVec.ofNat 32 (fieldBE data 26 4), (fieldBE data 26 4 :: (s.ring (ringOf p)).acted).take 1024,
      (s.ring (ringOf p)).grants ++ beaconGrants data, s.bit (Reg.SHD_STATE.MASTER_LOST (ringOf p)), (s.side p).neighbour) := by
  have hw : (s.cycleTaken p data).word (Reg.SHD_CYCLE_NOW (ringOf p)) = BitVec.ofNat 32 (fieldBE data 26 4) := word_setWord_same _ _ _
  have hl : (s.cycleTaken p data).bit (Reg.SHD_STATE.MASTER_LOST (ringOf p)) = s.bit (Reg.SHD_STATE.MASTER_LOST (ringOf p)) :=
    bit_of_word (word_setWord_other _ _ _ _ (by simp only [Reg.SHD_STATE.MASTER_LOST, Reg.SHD_CYCLE_NOW]; omega))
  have hring := ring_setRing_same s (ringOf p) { s.ring (ringOf p) with
    acted := (fieldBE data 26 4 :: (s.ring (ringOf p)).acted).take 1024
    grants := (s.ring (ringOf p)).grants ++ beaconGrants data
    beaconWrapped := (fieldBE data 54 1).testBit 7 }
  have hside : (s.cycleTaken p data).side p = s.side p := side_setRing s rfl rfl
  rw [beaconFace, hw, hl, hside, show (s.cycleTaken p data).ring (ringOf p) = _ from hring]

/-- What follows a number taken up does not bear on what a beacon shows. -/
theorem firstBeacon_beaconFace (s : Dev) {p : Nat} (data : List Octet) (hp : p < 4) : (s.firstBeacon p data).beaconFace p = (s.cycleTaken p data).beaconFace p := by
  have hr := ringOf_lt hp
  have hmis : ∀ (u : Dev) (v : Nat), (u.put (Reg.SHD_STATE.TABLE_MISMATCH (ringOf p)) v).beaconFace p = u.beaconFace p := fun u v =>
    put_beaconFace u v (by decide : 5 + 1 ≤ 32) (by simp only [Reg.SHD_STATE.TABLE_MISMATCH, Reg.SHD_CYCLE_NOW]; omega) (.inr (.inr (by decide : 5 ≤ 5)))
  refine (when_beaconFace _ (claimResult_beaconFace _ 2 hp)).trans (Eq.trans ?_ (TrafficOnly.beaconFace_eq (trace_traffic (s.cycleTaken p data) 2 (ringOf p) (ringOf p) (p % 2 * 2 ^ 29) (fieldBE data 26 4)) hp))
  split
  · exact hmis _ 0
  · exact ((fault_traffic _ 4).beaconFace_eq hp).trans ((raise_beaconFace _ 7 p (by decide)).trans (hmis _ 1))

/-- A copy is heard: the port's side and the node's state take its sender (R166, R167). -/
def beaconHeard (s : Dev) (p : Nat) (data : List Octet) : Dev :=
  (s.modSide p fun d => { d with
    got := d.got || fieldBE data 26 4 == cycleNo (s.cycleIdx (ringOf p))
    seenCyc := some (fieldBE data 26 4)
    neighbour := fieldBE data 52 2 }).put (if p % 2 = 0 then Reg.SHD_STATE.WEST_NB (ringOf p) else Reg.SHD_STATE.EAST_NB (ringOf p)) (fieldBE data 52 2)

theorem beaconHeard_beaconFace (s : Dev) (p : Nat) (data : List Octet) :
    (s.beaconHeard p data).beaconFace p = (s.word (Reg.SHD_CYCLE_NOW (ringOf p)), (s.ring (ringOf p)).acted, (s.ring (ringOf p)).grants,
      s.bit (Reg.SHD_STATE.MASTER_LOST (ringOf p)), fieldBE data 52 2) := by
  unfold beaconHeard
  rw [put_beaconFace _ _ (by split <;> simp only [Reg.SHD_STATE.WEST_NB, Reg.SHD_STATE.EAST_NB] <;> decide)
    (by split <;> simp only [Reg.SHD_STATE.WEST_NB, Reg.SHD_STATE.EAST_NB, Reg.SHD_CYCLE_NOW] <;> omega)
    (.inr (.inr (by split <;> simp only [Reg.SHD_STATE.WEST_NB, Reg.SHD_STATE.EAST_NB] <;> decide)))]
  rw [beaconFace, modSide_ring s p _ (·.acted) fun _ _ _ => rfl, modSide_ring s p _ (·.grants) fun _ _ _ => rfl, side_modSide_same, bit_modSide, word_modSide]

/-- The first copy at a port is measured against local time; at the west port its ROLL is kept (R166, R167). -/
def beaconMeasured (s : Dev) (p t : Nat) (data : List Octet) : Dev :=
  let ofs : Int := (t : Int) - ((ofStamp (fieldBE data 30 12) : Int) + toSigned 64 (fieldBE data 42 8) + s.linkDelay p)
  let s := s.put (Reg.SHD_BCN_OFS.OFFSET (ringOf p)) (ofSigned 32 (max (-2147483648) (min 2147483647 (ofs / 65536))))
  let s := s.when (decide ((s.get (Reg.SHD_TIMING.BCN_TOL (ringOf p)) : Int) * 65536 < |ofs|)) fun s =>
    (s.inc (Reg.SHD_BCN_SKEW.COUNT (ringOf p))).raise bSHD 8
  s.when (p % 2 == 0) fun s => (List.range 8).foldl (fun s w => s.setWord (Reg.SHD_ROLL (ringOf p) w) (BitVec.ofNat 32 (rollWord data w))) s

theorem setWord_beaconFace (s : Dev) {k : Nat} (w : Word) {p : Nat} (hcyc : k ≠ Reg.SHD_CYCLE_NOW (ringOf p)) (hlost : k ≠ Reg.SHD_STATE (ringOf p)) :
    (s.setWord k w).beaconFace p = s.beaconFace p := by
  have h1 : (s.setWord k w).word (Reg.SHD_CYCLE_NOW (ringOf p)) = s.word (Reg.SHD_CYCLE_NOW (ringOf p)) := word_setWord_other _ _ _ _ hcyc.symm
  have h2 : (s.setWord k w).bit (Reg.SHD_STATE.MASTER_LOST (ringOf p)) = s.bit (Reg.SHD_STATE.MASTER_LOST (ringOf p)) := bit_of_word (word_setWord_other _ _ _ _ hlost.symm)
  rw [beaconFace, h1, h2]
  rfl

theorem beaconMeasured_beaconFace (s : Dev) (p t : Nat) (data : List Octet) : (s.beaconMeasured p t data).beaconFace p = s.beaconFace p := by
  refine (when_beaconFace _ (foldl_keeps (·.beaconFace p) _ (fun w _ u => setWord_beaconFace u _ ?_ ?_) _)).trans
    ((when_beaconFace _ ((raise_beaconFace _ 8 p (by decide)).trans (setWord_beaconFace _ _ ?_ ?_))).trans (setWord_beaconFace s _ ?_ ?_))
  all_goals
    simp only [Reg.SHD_ROLL, Reg.SHD_BCN_SKEW.COUNT, Reg.SHD_BCN_OFS.OFFSET, Reg.SHD_CYCLE_NOW, Reg.SHD_STATE]
    omega

/-- All that a copy does before it is known for the first or a later one of its cycle (R166–R168). -/
def beaconNoted (s : Dev) (p t src : Nat) (data : List Octet) : Dev :=
  let u := (s.beaconHeard p data).when (decide ((s.side p).seenCyc ≠ some (fieldBE data 26 4))) (·.beaconMeasured p t data)
  let u := u.when (fieldBE data 26 4 == cycleNo (s.cycleIdx (ringOf p))) fun u => u.put (Reg.SHD_STATE.MASTER_LOST (ringOf p)) 0
  u.when (src % 256 == u.get (Reg.SHD_RING_CFG.MASTER_NODE (ringOf p)) && !(fieldBE data 54 1).testBit 6 && (u.ring (ringOf p)).backupOn) fun u =>
    u.setRing (ringOf p) { u.ring (ringOf p) with backupStop := true }

theorem beaconCopy_eq (s : Dev) (p t src : Nat) (data : List Octet) :
    s.beaconCopy p t src data = if ((s.beaconNoted p t src data).ring (ringOf p)).acted.contains (fieldBE data 26 4) then s.beaconNoted p t src data
      else (s.beaconNoted p t src data).firstBeacon p data := rfl

/-- A copy of the running cycle shows the master (R168). -/
theorem beaconNoted_beaconFace (s : Dev) (p t src : Nat) (data : List Octet) :
    (s.beaconNoted p t src data).beaconFace p = (s.word (Reg.SHD_CYCLE_NOW (ringOf p)), (s.ring (ringOf p)).acted, (s.ring (ringOf p)).grants,
      (!(fieldBE data 26 4 == cycleNo (s.cycleIdx (ringOf p))) && s.bit (Reg.SHD_STATE.MASTER_LOST (ringOf p))), fieldBE data 52 2) := by
  have hfound : ∀ u : Dev, (u.put (Reg.SHD_STATE.MASTER_LOST (ringOf p)) 0).beaconFace p
      = ((u.beaconFace p).1, (u.beaconFace p).2.1, (u.beaconFace p).2.2.1, false, (u.beaconFace p).2.2.2.2) := fun u => by
    have hw : (u.put (Reg.SHD_STATE.MASTER_LOST (ringOf p)) 0).word (Reg.SHD_CYCLE_NOW (ringOf p)) = u.word (Reg.SHD_CYCLE_NOW (ringOf p)) :=
      word_put_other _ _ _ _ (by simp only [Reg.SHD_STATE.MASTER_LOST, Reg.SHD_CYCLE_NOW]; omega)
    rw [beaconFace, beaconFace, bit_put_same _ _ _ (by decide : 4 + 1 ≤ 32) rfl, hw]
    rfl
  have hheard : ((s.beaconHeard p data).when (decide ((s.side p).seenCyc ≠ some (fieldBE data 26 4))) (·.beaconMeasured p t data)).beaconFace p
      = (s.beaconHeard p data).beaconFace p := when_beaconFace _ (beaconMeasured_beaconFace _ p t data)
  unfold beaconNoted
  dsimp only
  rw [when_beaconFace _ (setRing_beaconFace _ (by rfl) (by rfl) (by rfl) (by rfl))]
  cases fieldBE data 26 4 == cycleNo (s.cycleIdx (ringOf p))
  · rw [when_false, hheard, beaconHeard_beaconFace]
    rfl
  · rw [when_true, hfound, hheard, beaconHeard_beaconFace]
    rfl

/-- The first copy of a cycle number. -/
theorem beaconCopy_first {s : Dev} {p : Nat} (t src : Nat) {data : List Octet} (hp : p < 4) (h : (s.ring (ringOf p)).acted.contains (fieldBE data 26 4) = false) :
    (s.beaconCopy p t src data).beaconFace p = (BitVec.ofNat 32 (fieldBE data 26 4), (fieldBE data 26 4 :: (s.ring (ringOf p)).acted).take 1024,
      (s.ring (ringOf p)).grants ++ beaconGrants data,
      (!(fieldBE data 26 4 == cycleNo (s.cycleIdx (ringOf p))) && s.bit (Reg.SHD_STATE.MASTER_LOST (ringOf p))), fieldBE data 52 2) := by
  have hface := beaconNoted_beaconFace s p t src data
  obtain ⟨-, hacted, hgrants, hlost, hnb⟩ := by simpa only [beaconFace, Prod.mk.injEq] using hface
  rw [beaconCopy_eq, hacted, h, if_neg (by decide), firstBeacon_beaconFace _ _ hp, cycleTaken_beaconFace, hacted, hgrants, hlost, hnb]

/-- A later copy of it. -/
theorem beaconCopy_later {s : Dev} {p : Nat} (t src : Nat) {data : List Octet} (h : (s.ring (ringOf p)).acted.contains (fieldBE data 26 4) = true) :
    (s.beaconCopy p t src data).beaconFace p = (s.word (Reg.SHD_CYCLE_NOW (ringOf p)), (s.ring (ringOf p)).acted, (s.ring (ringOf p)).grants,
      (!(fieldBE data 26 4 == cycleNo (s.cycleIdx (ringOf p))) && s.bit (Reg.SHD_STATE.MASTER_LOST (ringOf p))), fieldBE data 52 2) := by
  have hface := beaconNoted_beaconFace s p t src data
  obtain ⟨-, hacted, -, -, -⟩ := by simpa only [beaconFace, Prod.mk.injEq] using hface
  rw [beaconCopy_eq, hacted, h, if_pos rfl, hface]

/-! ### Claims (R174–R177) -/

/-- What a slot is follows from its two words and their errors (R170, R189). -/
theorem slotKind_congr {s t : Dev} {r b i : Nat} (hw : t.word (Reg.SHD_SLOT_DESC r b i) = s.word (Reg.SHD_SLOT_DESC r b i)) (hb : ∀ k, t.badWord k = s.badWord k) :
    t.slotKind r b i = s.slotKind r b i := by
  rw [slotKind, slotKind, hb, hb, get_of_word (f := Reg.SHD_SLOT_DESC.KIND r b i) hw]

/-- The master, out of holdoff, accepts a newer claim for a spare slot that is no other node's (R176). -/
theorem claimTake_accepts {s : Dev} {p r src node gen slot : Nat} {data : List Octet} (hr : r = ringOf p) (hn : src % 256 = node) (hgen : fieldBE data 27 1 = gen)
    (hslot : fieldBE data 28 2 = slot) (hlt : slot < 4096) (hm : s.isMaster r = true) (hh : s.bit (Reg.SHD_STATE.HOLDOFF r) = false)
    (hnew : 0 < sdiff gen (s.get (recFld r node)) 8) (hk : s.slotKind r (s.slotBank r) slot = 2)
    (hfree : ((s.ring r).accepted ++ (s.ring r).listed).all (fun g => g.slot != slot || g.node == node) = true) (hlen : (s.ring r).accepted.length < 16) :
    s.claimTake p src data = ((s.put (recFld r node) gen).setRing r
      { s.ring r with accepted := (s.ring r).accepted ++ [⟨false, slot, node, fieldBE data 26 1, gen⟩] }).inc (Reg.SHD_CLAIM_ACCEPT.COUNT r) := by
  subst hr hn hgen hslot
  have hbank : (s.put (recFld (ringOf p) (src % 256)) (fieldBE data 27 1)).slotBank (ringOf p) = s.slotBank (ringOf p) :=
    get_put_addr _ _ _ _ (by simp only [Reg.SHD_STATE.ACTIVE_BANK, recFld, Reg.SHD_CLAIM_REC]; omega)
  have hkind : (s.put (recFld (ringOf p) (src % 256)) (fieldBE data 27 1)).slotKind (ringOf p) (s.slotBank (ringOf p)) (fieldBE data 28 2) = 2 :=
    (slotKind_congr (word_put_other _ _ _ _ (by simp only [Reg.SHD_SLOT_DESC, recFld, Reg.SHD_CLAIM_REC]; omega)) fun _ => rfl).trans hk
  have hclaim : (fieldBE data 28 2).testBit 15 = false := Nat.testBit_lt_two_pow (hlt.trans (by decide))
  have hnone : (((s.ring (ringOf p)).accepted ++ (s.ring (ringOf p)).listed).any fun g => g.slot == fieldBE data 28 2 && g.node != src % 256) = false := by
    refine List.any_eq_false.mpr fun g hg => ?_
    have hother := List.all_eq_true.mp hfree g hg
    simp only [Bool.or_eq_true, Bool.and_eq_true, bne_iff_ne, beq_iff_eq] at hother ⊢
    exact fun h => hother.elim (absurd h.1) h.2
  unfold claimTake
  rw [if_neg (by rw [not_not]; exact hm), if_neg (by rw [hh]; decide)]
  dsimp only
  rw [if_neg (by omega), hbank, Nat.mod_eq_of_lt hlt, hkind, hclaim, ring_put, hnone]
  exact if_pos (by simp [hlen])

end Dev

end Sys2Proof.Machine
end


section
/-! SUPPORT. A ring cycle's start (R165–R169, R175–R178, R184). -/

namespace Sys2Proof.Machine

/-- What the start of a ring cycle settles of its ring: the cycle, the grants that wait, the claims accepted in it, the notices of the cycle, and ROLE_NOW. -/
structure StartView where
  cycle : Option Int
  grants : List Grant
  accepted : List Grant
  notices : Nat
  role : Nat

namespace Dev

/-- That of ring `r`. -/
def startView (s : Dev) (r : Nat) : StartView := ⟨(s.ring r).cycle, (s.ring r).grants, (s.ring r).accepted, (s.ring r).notices, s.get (Reg.SHD_STATE.ROLE_NOW r)⟩

/-! ### What leaves it as it is -/

theorem TrafficOnly.roleNow_eq {s t : Dev} (h : TrafficOnly trafficWords s t) {r : Nat} (hr : r < 2) :
    t.get (Reg.SHD_STATE.ROLE_NOW r) = s.get (Reg.SHD_STATE.ROLE_NOW r) :=
  h.get_eq (not_trafficWords_ring (a := 0xC) hr (by decide) (by decide))

theorem TrafficOnly.startView_eq {s t : Dev} (h : TrafficOnly trafficWords s t) {r : Nat} (hr : r < 2) : t.startView r = s.startView r := by
  rw [startView, startView, h.ring_eq, h.roleNow_eq hr]

theorem put_startView (s : Dev) {f : Fld} (v : Nat) {r : Nat} (hf : f.lo + f.w ≤ 32) (h : f.addr ≠ Reg.SHD_STATE r ∨ f.lo + f.w ≤ 8 ∨ 10 ≤ f.lo) :
    (s.put f v).startView r = s.startView r := by
  have hrole : (s.put f v).get (Reg.SHD_STATE.ROLE_NOW r) = s.get (Reg.SHD_STATE.ROLE_NOW r) := get_put_other s f _ v hf (h.imp Ne.symm Or.symm)
  rw [startView, startView, hrole, ring_put]

theorem raise_startView (s : Dev) {n : Nat} (r : Nat) (hn : n < 32) : (s.raise bSHD n).startView r = s.startView r :=
  put_startView s 1 (Nat.succ_le_of_lt hn) (.inl (by simp only [statusBit, statusAddr_bSHD, Reg.SHD_STATE]; omega))

theorem inc_startView (s : Dev) {f : Fld} {r : Nat} (hf : f.lo + f.w ≤ 32) (h : f.addr ≠ Reg.SHD_STATE r) : (s.inc f).startView r = s.startView r :=
  put_startView s _ hf (.inl h)

theorem setRing_startView (s : Dev) {r : Nat} {x : Ring} (hc : x.cycle = (s.ring r).cycle) (hg : x.grants = (s.ring r).grants)
    (ha : x.accepted = (s.ring r).accepted) (hn : x.notices = (s.ring r).notices) : (s.setRing r x).startView r = s.startView r := by
  rw [startView, ring_setRing_same, hc, hg, ha, hn]
  rfl

theorem modSide_startView (s : Dev) {p r : Nat} (f : Side → Side) (hp : ringOf p = r) : (s.modSide p f).startView r = s.startView r := by
  subst hp
  rw [startView, modSide_ring s p f (·.cycle) fun _ _ _ => rfl, modSide_ring s p f (·.grants) fun _ _ _ => rfl,
    modSide_ring s p f (·.accepted) fun _ _ _ => rfl, modSide_ring s p f (·.notices) fun _ _ _ => rfl]
  rfl

theorem when_startView {s : Dev} {f : Dev → Dev} {r : Nat} (c : Bool) (h : (f s).startView r = s.startView r) : (s.when c f).startView r = s.startView r := by
  cases c
  · rfl
  · exact h

theorem ringTrace_startView (s : Dev) {r : Nat} (kind : Nat) (east : Bool) (slot : Nat) (hr : r < 2) : (s.ringTrace r kind east slot).startView r = s.startView r :=
  (trace_traffic s 2 r r (kind * 2 ^ 30 + east.toNat * 2 ^ 29 + slot) (cycleNo (s.cycleIdx r))).startView_eq hr

/-! ### Claims and grants at a cycle start (R175, R177) -/

/-- A grant leaves the list of those that wait, and its generation is recorded (R177). -/
def grantNoted (s : Dev) (r : Nat) (g : Grant) : Dev :=
  let s := s.setRing r { s.ring r with listed := (s.ring r).listed.filter fun x => x.slot != g.slot }
  s.when (decide (0 < sdiff g.gen (s.get (recFld r g.node)) 8)) (·.put (recFld r g.node) g.gen)

/-- Its slot changes hands in bank `b` (R177). -/
def grantTaken (s : Dev) (r b : Nat) (g : Grant) : Dev :=
  ((s.put (Reg.SHD_SLOT_DESC.KIND r b g.slot) (if g.release then 2 else 1)).when (!g.release) (·.put (Reg.SHD_SLOT_DESC.OWNER r b g.slot) g.node)).ringTrace r 3 false g.slot

theorem applyGrant_cases (s : Dev) (r : Nat) (g : Grant) :
    s.applyGrant r g = s.grantNoted r g ∨ s.applyGrant r g = (s.grantNoted r g).grantTaken r (s.slotBank r) g :=
  (Decidable.em _).symm.imp (fun h => if_neg h) fun h => if_pos h

/-- The claim records of a ring lie above its SHD_STATE, whatever node a grant names. -/
theorem grantNoted_startView (s : Dev) (r : Nat) (g : Grant) : (s.grantNoted r g).startView r = s.startView r :=
  (when_startView _ (put_startView _ _ (by simp only [recFld]; omega) (.inl (by simp only [recFld, Reg.SHD_CLAIM_REC, Reg.SHD_STATE]; omega)))).trans
    (setRing_startView s (by rfl) (by rfl) (by rfl) (by rfl))

/-- So do the slot tables, whatever slot it names. -/
theorem grantTaken_startView (s : Dev) {r : Nat} (b : Nat) (g : Grant) (hr : r < 2) : (s.grantTaken r b g).startView r = s.startView r := by
  rw [grantTaken, ringTrace_startView _ _ _ _ hr,
    when_startView _ (put_startView _ _ (by decide : 16 + 8 ≤ 32) (.inl (by simp only [Reg.SHD_SLOT_DESC.OWNER, Reg.SHD_STATE]; omega))),
    put_startView _ _ (by decide : 30 + 2 ≤ 32) (.inl (by simp only [Reg.SHD_SLOT_DESC.KIND, Reg.SHD_STATE]; omega))]

theorem applyGrant_startView (s : Dev) {r : Nat} (g : Grant) (hr : r < 2) : (s.applyGrant r g).startView r = s.startView r := by
  rcases applyGrant_cases s r g with h | h <;> rw [h]
  · exact grantNoted_startView s r g
  · exact (grantTaken_startView _ _ g hr).trans (grantNoted_startView s r g)

theorem claimResult_startView (s : Dev) {r : Nat} (res : Nat) (hr : r < 2) : (s.claimResult r res).startView r = s.startView r := by
  have hwords : (s.claimResulted r res).startView r = s.startView r := by
    rw [claimResulted, raise_startView _ _ (by omega), put_startView _ _ (by decide : 31 + 1 ≤ 32) (.inl (by simp only [Reg.SHD_CLAIM.START, Reg.SHD_STATE]; omega)),
      put_startView _ _ (by decide : 0 + 2 ≤ 32) (.inl (by simp only [Reg.SHD_CLAIM_STAT.RESULT, Reg.SHD_STATE]; omega))]
  rw [claimResult_eq]
  exact (setRing_startView _ (by rfl) (by rfl) (by rfl) (by rfl)).trans hwords

theorem claimCycle_startView (s : Dev) {r : Nat} (k : Int) (hr : r < 2) : (s.claimCycle r k).startView r = s.startView r := by
  have hsend : (s.setRing r { s.ring r with sendIn := some k }).startView r = s.startView r := setRing_startView s (by rfl) (by rfl) (by rfl) (by rfl)
  unfold claimCycle
  dsimp only
  split_ifs
  · rfl
  · exact hsend
  · exact hsend
  · rfl
  · exact claimResult_startView s 3 hr
  · exact hsend
  · rfl

/-! ### Notices, unwrapping and the beacon at a cycle start (R108, R165, R184) -/

/-- The notice count starts anew (R109). -/
theorem noticeCycle_startView (s : Dev) {r : Nat} (hr : r < 2) : (s.noticeCycle r).startView r = { s.startView r with notices := 0 } := by
  have hset : ∀ b, (s.setRing r { s.ring r with notices := 0, flooded := false, incidentSet := b }).startView r = { s.startView r with notices := 0 } := fun b => by
    rw [startView, ring_setRing_same]
    rfl
  unfold noticeCycle
  dsimp only
  refine (when_startView _ ?_).trans (hset _)
  refine (put_startView _ 1 ?_ (.inl ?_)).trans (put_startView _ 0 ?_ (.inl ?_))
  all_goals simp only [statusBit, Reg.FRM_NOTICE_CTL, Reg.SHD_STATE, show statusAddr bFRM = 0xC0008 from rfl]
  all_goals omega

theorem readyFld_bits (p : Nat) : (readyFld p).lo + (readyFld p).w ≤ 8 := by
  unfold readyFld
  split <;> simp only [Reg.SHD_STATE.READY_W, Reg.SHD_STATE.READY_E] <;> decide

theorem wrapFld_bits (p : Nat) : (wrapFld p).lo + (wrapFld p).w ≤ 8 := by
  unfold wrapFld
  split <;> simp only [Reg.SHD_STATE.WRAP_W, Reg.SHD_STATE.WRAP_E] <;> decide

/-- The agreed unwrap of a port (R184). -/
def unwrapDone (s : Dev) (p : Nat) : Dev :=
  let s := ((s.put (wrapFld p) 0).put (readyFld p) 0).modSide p fun d =>
    { d with proposal := none, partnerReady := false, partnerProp := 0, partnerEcho := 0, partnerOkAt := none, soloMiss := 0 }
  ((s.raise bSHD (2 + ringOf p)).inc (Reg.SHD_UNWRAP_CNT.COUNT (ringOf p))).ringTrace (ringOf p) 2 (p % 2 == 1) 0

/-- A cycle start unwraps a port, has it propose anew, or leaves it (R184). -/
theorem unwrapCycle_cases (s : Dev) (p k : Nat) : s.unwrapCycle p k = s ∨ s.unwrapCycle p k = s.unwrapDone p ∨ s.unwrapCycle p k = s.propose p := by
  unfold unwrapCycle
  dsimp only
  split
  · exact .inl rfl
  · next own _ =>
    refine iteInduction (motive := fun t => t = s ∨ t = s.unwrapDone p ∨ t = s.propose p) (fun _ => .inl rfl) fun _ => ?_
    refine iteInduction (motive := fun t => t = s ∨ t = s.unwrapDone p ∨ t = s.propose p) (fun _ => ?_) fun _ => ?_
    · exact iteInduction (motive := fun t => t = s ∨ t = s.unwrapDone p ∨ t = s.propose p) (fun _ => .inl rfl) fun _ => .inr (.inl rfl)
    · exact iteInduction (motive := fun t => t = s ∨ t = s.unwrapDone p ∨ t = s.propose p) (fun _ => .inl rfl) fun _ => .inr (.inr rfl)

theorem unwrapDone_startView (s : Dev) {p : Nat} (hr : ringOf p < 2) : (s.unwrapDone p).startView (ringOf p) = s.startView (ringOf p) := by
  unfold unwrapDone
  dsimp only
  rw [ringTrace_startView _ _ _ _ hr, inc_startView _ (by decide : 0 + 32 ≤ 32) (by simp only [Reg.SHD_UNWRAP_CNT.COUNT, Reg.SHD_STATE]; omega),
    raise_startView _ _ (by omega), modSide_startView _ _ rfl, put_startView _ _ (by have := readyFld_bits p; omega) (.inr (.inl (readyFld_bits p))),
    put_startView _ _ (by have := wrapFld_bits p; omega) (.inr (.inl (wrapFld_bits p)))]

theorem unwrapCycle_startView (s : Dev) {p : Nat} (k : Nat) (hr : ringOf p < 2) : (s.unwrapCycle p k).startView (ringOf p) = s.startView (ringOf p) := by
  rcases unwrapCycle_cases s p k with h | h | h <;> rw [h]
  · exact unwrapDone_startView s hr
  · exact modSide_startView s _ rfl

theorem beaconSlot_startView (s : Dev) {r : Nat} (hr : r < 2) : (s.beaconSlot r).startView r = s.startView r := by
  unfold beaconSlot
  split
  · rfl
  · dsimp only
    split
    · rfl
    · exact (when_startView _ ((beaconSend_traffic _ _ hr).startView_eq hr)).trans (setRing_startView s (by rfl) (by rfl) (by rfl) (by rfl))

/-! ### The cycle start (R165–R169) -/

/-- The losses of the cycle that ended, and the role in the one that begins (R168, R169). -/
def cycleRoles (s : Dev) (r : Nat) : Dev :=
  ((s.when (s.ring r).cycle.isSome (·.missCycle r)).roleCycle r).when (s.ring r).cycle.isSome (·.masterLost r)

/-- Cycle `k` is the running one. -/
def cycleOpened (s : Dev) (r : Nat) (k : Int) : Dev :=
  s.setRing r { s.ring r with
    cycle := some k, grants := [], accepted := [], listing := (s.ring r).accepted, listed := (s.ring r).listed ++ (s.ring r).accepted
    beaconDue := if s.isMaster r then some k else none }

/-- What is done in it at once: grants, notices, claims, unwraps, link frames, slots, the beacon. -/
def cycleServed (s : Dev) (r : Nat) (grants : List Grant) (k : Int) : Dev :=
  let s := ((grants.foldl (fun s g => s.applyGrant r g) s).noticeCycle r).claimCycle r k
  let s := (s.unwrapCycle (2 * r) (cycleNo k)).unwrapCycle (2 * r + 1) (cycleNo k)
  let s := [2 * r, 2 * r + 1].foldl (fun s p => if s.wrapped p && s.linkUp p then s.linkFrame p else s) s
  (s.reassignSlots r).beaconSlot r

theorem ringCycle_eq {s : Dev} {r : Nat} (he : s.ringEn r = true) (hg : s.gating (eastPort r) = true) (hc : (s.ring r).cycle ≠ some (s.cycleIdx r)) :
    s.ringCycle r = ((s.cycleRoles r).cycleOpened r (s.cycleIdx r)).cycleServed r ((s.cycleRoles r).ring r).grants (s.cycleIdx r) :=
  if_neg (by simp [he, hg, hc])

theorem cycleServed_startView (s : Dev) {r : Nat} (grants : List Grant) (k : Int) (hr : r < 2) :
    (s.cycleServed r grants k).startView r = { s.startView r with notices := 0 } := by
  have hlink : ∀ (u : Dev) (p : Nat), p < 4 → (if u.wrapped p && u.linkUp p then u.linkFrame p else u).startView r = u.startView r := fun u p hp => by
    split
    · exact (linkFrame_traffic u hp).startView_eq hr
    · rfl
  have hlinks : ∀ u : Dev, ([2 * r, 2 * r + 1].foldl (fun s p => if s.wrapped p && s.linkUp p then s.linkFrame p else s) u).startView r = u.startView r := fun u =>
    foldl_keeps (·.startView r) _ (fun p hp u => hlink u p (by simp only [List.mem_cons, List.not_mem_nil, or_false] at hp; omega)) u
  have hgrants : (grants.foldl (fun s g => s.applyGrant r g) s).startView r = s.startView r :=
    foldl_keeps (·.startView r) grants (fun g _ u => applyGrant_startView u g hr) s
  have hunwrap : ∀ (u : Dev) (p : Nat), ringOf p = r → (u.unwrapCycle p (cycleNo k)).startView r = u.startView r := fun u p hp => by
    subst hp
    exact unwrapCycle_startView u _ hr
  unfold cycleServed
  dsimp only
  rw [beaconSlot_startView _ hr, (reassignSlots_traffic _ r).startView_eq hr, hlinks, hunwrap _ _ (by unfold ringOf; omega),
    hunwrap _ _ (by unfold ringOf; omega), claimCycle_startView _ _ hr, noticeCycle_startView _ hr, hgrants]

/-- Whatever the losses of the last cycle, the configured role stays (R168). -/
theorem missCycle_role (s : Dev) {r : Nat} (hr : r < 2) : (s.missCycle r).get (Reg.SHD_RING_CFG.ROLE r) = s.get (Reg.SHD_RING_CFG.ROLE r) := by
  have hbreak : ∀ (u : Dev) (p code : Nat), (u.detectBreak p code).get (Reg.SHD_RING_CFG.ROLE r) = u.get (Reg.SHD_RING_CFG.ROLE r) := by
    intro u p code
    have hready : (u.readyEnded p).get (Reg.SHD_RING_CFG.ROLE r) = u.get (Reg.SHD_RING_CFG.ROLE r) :=
      get_put_addr _ _ _ _ (by unfold readyFld; split <;> simp only [Reg.SHD_STATE.READY_W, Reg.SHD_STATE.READY_E, Reg.SHD_RING_CFG.ROLE] <;> omega)
    obtain ⟨v, rfl | rfl, he | ⟨f, he⟩⟩ := detectBreak_cases u p code <;> rw [he]
    · rw [get_modSide]
    · exact hready
    · rw [get_modSide]
      exact hready
  unfold missCycle
  dsimp only
  refine (foldl_keeps (·.get (Reg.SHD_RING_CFG.ROLE r)) _ (fun p _ u => ?_) _).trans (get_setRing _ _ _ _)
  split
  · exact (hbreak _ p 2).trans ((fault_traffic u 2).get_eq (not_trafficWords_ring (a := 0) hr (by decide) (by decide)))
  · rfl

/-- A configured master holds the role from the start of the cycle (R168). -/
theorem roleCycle_master {s : Dev} {r : Nat} (h : s.get (Reg.SHD_RING_CFG.ROLE r) = 1) : (s.roleCycle r).get (Reg.SHD_STATE.ROLE_NOW r) = 1 := by
  have hhold : ∀ (u : Dev) (v : Nat), (u.put (Reg.SHD_STATE.HOLDOFF r) v).get (Reg.SHD_STATE.ROLE_NOW r) = u.get (Reg.SHD_STATE.ROLE_NOW r) := fun u v =>
    get_put_bits u _ _ v (by decide : 7 + 1 ≤ 32) rfl (.inr (by decide : 7 + 1 ≤ 8))
  have hnow : ∀ (u : Dev) {v : Nat}, v = 1 → (u.put (Reg.SHD_STATE.ROLE_NOW r) v).get (Reg.SHD_STATE.ROLE_NOW r) = 1 := fun u v hv => by
    rw [get_put_same u _ v (by decide : 8 + 2 ≤ 32), hv]
    rfl
  have hidle : ∀ (u : Dev) (c : Bool), (u.when c (·.put (Reg.SHD_STATE.HOLDOFF r) 0)).get (Reg.SHD_STATE.ROLE_NOW r) = u.get (Reg.SHD_STATE.ROLE_NOW r) := fun u c => by
    cases c
    · rfl
    · exact hhold u 0
  exact iteInduction (motive := fun t : Dev => t.get (Reg.SHD_STATE.ROLE_NOW r) = 1) (fun _ => (hhold _ 1).trans (hnow _ (if_pos (Or.inl h)))) fun _ =>
    (hidle _ _).trans (hnow _ (if_pos (Or.inl h)))

/-- The loss of the master leaves the role as it is (R168). -/
theorem masterLost_role (s : Dev) {r : Nat} (hr : r < 2) : (s.masterLost r).get (Reg.SHD_STATE.ROLE_NOW r) = s.get (Reg.SHD_STATE.ROLE_NOW r) := by
  have hlost : (s.put (Reg.SHD_STATE.MASTER_LOST r) 1).get (Reg.SHD_STATE.ROLE_NOW r) = s.get (Reg.SHD_STATE.ROLE_NOW r) :=
    get_put_bits s _ _ 1 (by decide : 4 + 1 ≤ 32) rfl (.inr (by decide : 4 + 1 ≤ 8))
  have hcount : ∀ u : Dev, ((u.raise bSHD 6).inc (Reg.SHD_BCN_MISS.COUNT r)).get (Reg.SHD_STATE.ROLE_NOW r) = u.get (Reg.SHD_STATE.ROLE_NOW r) := fun u =>
    (get_put_addr _ _ _ _ (by simp only [Reg.SHD_BCN_MISS.COUNT, Reg.SHD_STATE.ROLE_NOW]; omega)).trans
      (get_put_addr u _ _ 1 (by simp only [statusBit, statusAddr_bSHD, Reg.SHD_STATE.ROLE_NOW]; omega))
  have hnotice : ∀ (u : Dev) (a : Nat), (u.notice 3 a 0).get (Reg.SHD_STATE.ROLE_NOW r) = u.get (Reg.SHD_STATE.ROLE_NOW r) := fun u a =>
    (notice_traffic u 3 a 0).get_eq (not_or.mpr ⟨not_trafficWords_ring (a := 0xC) hr (by decide) (by decide), by
      simp only [Reg.SHD_STATE.ROLE_NOW, Reg.SHD_NOTICE_SENT]
      omega⟩)
  have hback : ∀ (u : Dev) (c : Bool) (x : Ring), (u.when c (·.setRing r x)).get (Reg.SHD_STATE.ROLE_NOW r) = u.get (Reg.SHD_STATE.ROLE_NOW r) := fun u c x => by
    cases c <;> rfl
  unfold masterLost
  dsimp only
  split
  · exact (hback _ _ _).trans ((hnotice _ _).trans (((fault_traffic _ 3).roleNow_eq hr).trans ((hcount _).trans hlost)))
  · rfl

theorem cycleRoles_master {s : Dev} {r : Nat} (hr : r < 2) (h : s.get (Reg.SHD_RING_CFG.ROLE r) = 1) : (s.cycleRoles r).get (Reg.SHD_STATE.ROLE_NOW r) = 1 := by
  unfold cycleRoles
  cases (s.ring r).cycle.isSome
  · exact roleCycle_master h
  · exact (masterLost_role _ hr).trans (roleCycle_master ((missCycle_role s hr).trans h))

/-- The start of a cycle (R165–R169). -/
theorem ringCycle_startView {s : Dev} {r : Nat} (hr : r < 2) (he : s.ringEn r = true) (hg : s.gating (eastPort r) = true)
    (hc : (s.ring r).cycle ≠ some (s.cycleIdx r)) :
    (s.ringCycle r).startView r = ⟨some (s.cycleIdx r), [], [], 0, (s.cycleRoles r).get (Reg.SHD_STATE.ROLE_NOW r)⟩ := by
  rw [ringCycle_eq he hg hc, cycleServed_startView _ _ _ hr, startView, cycleOpened, ring_setRing_same]
  rfl

end Dev

end Sys2Proof.Machine
end


section
/-! SUPPORT. Claims and notices that this node sends (R175, R182), and the ring's commands (R165–R184): O34. -/

namespace Sys2Proof.Machine

namespace Dev

/-! ### A claim begins and is sent (R175) -/

theorem claimStartWord_start (s : Dev) (r : Nat) : wbit (s.claimStartWord r) 31 = true := by
  rw [wbit, BitVec.testBit_toNat, claimStartWord, BitVec.getLsbD_or]
  exact Bool.or_true _

/-- A claim that begins: pending, with no try made yet. -/
def claimBegun (s : Dev) (r : Nat) : Dev :=
  let s := s.writeFields bSHD (Reg.SHD_CLAIM r) (s.claimStartWord r)
  let s := s.put (Reg.SHD_CLAIM_STAT.GEN_FIRST r) (s.get (Reg.SHD_CLAIM_STAT.GEN r) + 1)
  (s.put (Reg.SHD_CLAIM_STAT.RESULT r) 1).put (Reg.SHD_CLAIM_STAT.TRIES_USED r) 0

theorem claimWrite_begins {s : Dev} {r : Nat} (h : s.get (Reg.SHD_CLAIM_STAT.RESULT r) ≠ 1) :
    s.claimWrite r (s.claimStartWord r)
      = (s.claimBegun r).setRing r { s.ring r with sendIn := none, sentCycle := (s.claimBegun r).cycleIdx r } := by
  unfold claimWrite
  dsimp only
  rw [beq_false_of_ne h, claimStartWord_start]
  rfl

theorem claimBegun_word (s : Dev) {r k : Nat} (h1 : k ≠ Reg.SHD_CLAIM r) (h2 : k ≠ Reg.SHD_CLAIM_STAT r) : (s.claimBegun r).word k = s.word k := by
  unfold claimBegun
  dsimp only
  rw [word_put_other _ _ _ _ h2, word_put_other _ _ _ _ h2, word_put_other _ _ _ _ h2, word_writeFields_other _ _ _ h1]

theorem claimBegun_stat (s : Dev) (r : Nat) :
    (s.claimBegun r).get (Reg.SHD_CLAIM_STAT.RESULT r) = 1 ∧ (s.claimBegun r).get (Reg.SHD_CLAIM_STAT.TRIES_USED r) = 0
      ∧ (s.claimBegun r).get (Reg.SHD_CLAIM_STAT.GEN_FIRST r) = (s.get (Reg.SHD_CLAIM_STAT.GEN r) + 1) % 256 := by
  have hgen : (s.writeFields bSHD (Reg.SHD_CLAIM r) (s.claimStartWord r)).get (Reg.SHD_CLAIM_STAT.GEN r) = s.get (Reg.SHD_CLAIM_STAT.GEN r) :=
    get_of_word (word_writeFields_other s _ _ (by simp only [Reg.SHD_CLAIM_STAT.GEN, Reg.SHD_CLAIM]; omega))
  unfold claimBegun
  dsimp only
  refine ⟨?_, get_put_same _ _ _ (by decide : 8 + 4 ≤ 32), ?_⟩
  · exact (get_put_bits _ (Reg.SHD_CLAIM_STAT.TRIES_USED r) (Reg.SHD_CLAIM_STAT.RESULT r) 0 (by decide : 8 + 4 ≤ 32) rfl (.inl (by decide : 0 + 2 ≤ 8))).trans
      (get_put_same _ (Reg.SHD_CLAIM_STAT.RESULT r) 1 (by decide : 0 + 2 ≤ 32))
  · rw [hgen, get_put_bits _ (Reg.SHD_CLAIM_STAT.TRIES_USED r) (Reg.SHD_CLAIM_STAT.GEN_FIRST r) 0 (by decide : 8 + 4 ≤ 32) rfl (.inr (by decide : 8 + 4 ≤ 16)),
      get_put_bits _ (Reg.SHD_CLAIM_STAT.RESULT r) (Reg.SHD_CLAIM_STAT.GEN_FIRST r) 1 (by decide : 0 + 2 ≤ 32) rfl (.inr (by decide : 0 + 2 ≤ 16))]
    exact get_put_same _ (Reg.SHD_CLAIM_STAT.GEN_FIRST r) _ (by decide : 16 + 8 ≤ 32)

/-- A claim that is sent takes the next generation and counts a try. -/
def claimCounted (s : Dev) (r : Nat) : Dev :=
  let s := s.put (Reg.SHD_CLAIM_STAT.GEN r) (s.get (Reg.SHD_CLAIM_STAT.GEN r) + 1)
  s.put (Reg.SHD_CLAIM_STAT.TRIES_USED r) (s.get (Reg.SHD_CLAIM_STAT.TRIES_USED r) + 1)

theorem claimCounted_stat (s : Dev) (r : Nat) :
    (s.claimCounted r).get (Reg.SHD_CLAIM_STAT.GEN r) = (s.get (Reg.SHD_CLAIM_STAT.GEN r) + 1) % 256
      ∧ (s.claimCounted r).get (Reg.SHD_CLAIM_STAT.TRIES_USED r) = (s.get (Reg.SHD_CLAIM_STAT.TRIES_USED r) + 1) % 16 := by
  have hother : (s.put (Reg.SHD_CLAIM_STAT.GEN r) (s.get (Reg.SHD_CLAIM_STAT.GEN r) + 1)).get (Reg.SHD_CLAIM_STAT.TRIES_USED r) = s.get (Reg.SHD_CLAIM_STAT.TRIES_USED r) :=
    get_put_bits s (Reg.SHD_CLAIM_STAT.GEN r) (Reg.SHD_CLAIM_STAT.TRIES_USED r) _ (by decide : 24 + 8 ≤ 32) rfl (.inl (by decide : 8 + 4 ≤ 24))
  unfold claimCounted
  dsimp only
  refine ⟨?_, ?_⟩
  · exact (get_put_bits _ (Reg.SHD_CLAIM_STAT.TRIES_USED r) (Reg.SHD_CLAIM_STAT.GEN r) _ (by decide : 8 + 4 ≤ 32) rfl (.inr (by decide : 8 + 4 ≤ 24))).trans
      (get_put_same s (Reg.SHD_CLAIM_STAT.GEN r) _ (by decide : 24 + 8 ≤ 32))
  · rw [hother]
    exact get_put_same _ (Reg.SHD_CLAIM_STAT.TRIES_USED r) _ (by decide : 8 + 4 ≤ 32)

/-- Counting a claim does not move the ring cycle. -/
theorem claimCounted_cycleIdx (s : Dev) {r : Nat} (hr : r < 2) : (s.claimCounted r).cycleIdx r = s.cycleIdx r := by
  have hw : ∀ k, k ≠ Reg.SHD_CLAIM_STAT r → (s.claimCounted r).word k = s.word k := fun k hk =>
    (word_put_other _ _ _ _ hk).trans (word_put_other s _ _ _ hk)
  refine cycleIdx_congr hr (fun k _ h2 => hw k ?_) ?_
  · rw [Reg.SHD_CLAIM_STAT]
    omega
  · have hroot : (s.claimCounted r).root = s.root := by
      rw [claimCounted, put_root _ _ (by simp only [Reg.SHD_CLAIM_STAT.TRIES_USED]; omega), put_root _ _ (by simp only [Reg.SHD_CLAIM_STAT.GEN]; omega)]
    exact now_of_root hroot

/-- A claim due in this cycle's first claim window is counted and sent, where the device pool has room for its frame (R99, R175). -/
theorem claimSend_sends {s : Dev} {r : Nat} (hr : r < 2) (hd : (s.ring r).sendIn = some (s.cycleIdx r)) (hw : s.inClaimWindow r = true)
    (hm : s.bit (Reg.SHD_STATE.TABLE_MISMATCH r) = false) :
    TrafficOnly trafficWords ((s.claimCounted r).setRing r { s.ring r with sendIn := none, sentCycle := (s.claimCounted r).cycleIdx r }) (s.claimSend r) := by
  have hdue : ¬ ((s.ring r).sendIn ≠ some (s.cycleIdx r) ∨ ¬ s.inClaimWindow r = true ∨ s.bit (Reg.SHD_STATE.TABLE_MISMATCH r) = true) := by
    simp [hd, hw, hm]
  unfold claimSend
  dsimp only
  rw [if_neg hdue]
  split
  · exact TrafficOnly.refl _ _
  · next ha => exact (allocDevice_traffic ha).trans (queueRing_traffic _ 7 (by unfold eastPort; omega) rfl)

/-! ### Notices (R164, R182) -/

/-- A control frame with a body of at most 34 octets has the least length of a frame (R69, R164). -/
theorem frameLen_controlFrame (s : Dev) (p : Nat) (slot : Bool) (type bcast dst : Nat) {body : List Octet} (h : body.length ≤ 34) :
    frameLen (s.controlFrame p slot type bcast dst body) = 64 := by
  simp only [frameLen, controlFrame, padTo, List.length_append, List.length_replicate, octetsBE_length]
  omega

/-- A notice for which the device pool has room is sent and counted (R99, R182). -/
theorem noticeOn_counts {s : Dev} {r : Nat} {sh : Bool} (code subject detail : Nat) (hr : r < 2) (ha : s.allocCheck .device 64 = .ok sh) :
    (s.noticeOn r code subject detail).get (Reg.SHD_NOTICE_SENT.COUNT r) = (s.get (Reg.SHD_NOTICE_SENT.COUNT r) + 1) % 2 ^ 32 := by
  have hkeep : ∀ {t : Dev}, TrafficOnly trafficWords s t → t.get (Reg.SHD_NOTICE_SENT.COUNT r) = s.get (Reg.SHD_NOTICE_SENT.COUNT r) := fun h =>
    h.get_eq (not_trafficWords_ring (a := 0x70) hr (by decide) (by decide))
  have hlen := frameLen_controlFrame s (2 * r + 1) false 3 1 0
    (body := octetsBE 1 code ++ octetsBE 1 0 ++ octetsBE 2 subject ++ octetsBE 12 (stampOf s.now) ++ octetsBE 4 detail)
    (by simp only [List.length_append, octetsBE_length]; omega)
  unfold noticeOn
  dsimp only
  split
  · next hnone => rw [allocDevice, hlen, ha] at hnone; cases hnone
  · next halloc => rw [get_inc_same _ rfl rfl, hkeep ((allocDevice_traffic halloc).trans (queueRing_traffic _ 6 (by omega) rfl))]

theorem noticeTx_sends {s : Dev} {r code : Nat} (subject : Nat) (he : s.ringEn r = true) (hc : 0x10 ≤ code) :
    s.noticeTx r code subject = s.noticeOn r code subject 0 := by
  rw [noticeTx, he, Nat.ble_eq.mpr hc]
  rfl

theorem noticeTx_reserved (s : Dev) (r : Nat) {code : Nat} (subject : Nat) (hc : code < 0x10) : s.noticeTx r code subject = s := by
  have h : Nat.ble 0x10 code = false := Bool.eq_false_iff.mpr (by rw [Ne, Nat.ble_eq]; omega)
  rw [noticeTx, h]
  rfl

/-- A host write without effect has none, its block on or off (R12, R18). -/
theorem hostGate_idle {s : Dev} {b k : Nat} (v : Word) {f : Dev → Dev} (hr : s.hostRefused k = false) (hf : f s = s) : s.hostGate b k v f = s := by
  cases hb : s.blockOn b
  · exact hostGate_off s b k v f hb
  · rw [hostGate_acts s b k v f hb hr, hf]

/-! ### A claim that arrives -/

theorem not_trafficWords_recFld {r n : Nat} (hr : r < 2) (hn : n < 256) : ¬ trafficWords (recFld r n).addr := by
  simp only [recFld, Reg.SHD_CLAIM_REC, trafficWords, bankWords, Reg.FRM_BANK_STATE]
  omega

theorem Arrived.isMaster_eq {s u : Dev} (h : Arrived s u) {r : Nat} (hr : r < 2) : u.isMaster r = s.isMaster r := by
  rw [isMaster, isMaster, h.1.roleNow_eq hr]

theorem Arrived.slotKind_eq {s u : Dev} (h : Arrived s u) {r slot : Nat} (hr : r < 2) (hs : slot < 4096) :
    u.slotKind r (u.slotBank r) slot = s.slotKind r (s.slotBank r) slot := by
  have hbank : u.slotBank r = s.slotBank r := h.1.get_eq (not_trafficWords_ring (a := 0xC) hr (by decide) (by decide))
  have hb2 : s.slotBank r < 2 := get_lt s (Reg.SHD_STATE.ACTIVE_BANK r)
  rw [hbank]
  exact slotKind_congr (h.1.1 _ (not_trafficWords_tables (.inr (.inr (by simp only [Reg.SHD_SLOT_DESC]; omega))))) h.1.badWord_eq

end Dev

/-! ### The commands -/

theorem exec_ringCycleStart (r : Fin 2) (s : State) : exec (.ringCycleStart r) s = devStep (·.atBlock bSHD (·.ringCycle r)) s := rfl
theorem exec_holdoffEnd (r : Fin 2) (s : State) : exec (.holdoffEnd r) s = devStep (·.atBlock bSHD (·.holdoffEnd r)) s := rfl
theorem exec_slotSwap (r : Fin 2) (s : State) : exec (.slotSwap r) s = devStep (fun d => d.hostGate bSHD (Reg.SHD_SLOT_CTL r) 1 (·.slotSwap r)) s := rfl
theorem exec_claimStart (r : Fin 2) (s : State) :
    exec (.claimStart r) s = devStep (fun d => d.hostGate bSHD (Reg.SHD_CLAIM r) (d.claimStartWord r) fun d => d.claimWrite r (d.claimStartWord r)) s := rfl
theorem exec_claimSend (r : Fin 2) (s : State) : exec (.claimSend r) s = devStep (·.atBlock bSHD (·.claimSend r)) s := rfl
theorem exec_noticeTxSend (r : Fin 2) (code : BitVec 8) (subject : BitVec 16) (s : State) : exec (.noticeTxSend r code subject) s
    = devStep (fun d => d.hostGate bSHD (Reg.SHD_NOTICE_TX r) 0x80000000 (·.noticeTx r code.toNat subject.toNat)) s := rfl
theorem exec_beaconReceived (p : Fin 8) (f : RxFrame) (s : State) : exec (.beaconReceived p f) s = devStep (fun d => d.when (d.isControl p f 1) (·.frameIn p f)) s := rfl
theorem exec_claimReceived (p : Fin 8) (f : RxFrame) (s : State) : exec (.claimReceived p f) s = devStep (fun d => d.when (d.isControl p f 2) (·.frameIn p f)) s := rfl
theorem exec_linkFrameReceived (p : Fin 8) (f : RxFrame) (s : State) :
    exec (.linkFrameReceived p f) s = devStep (fun d => d.when (d.isControl p f 4) (·.frameIn p f)) s := rfl

/-- A command for a control frame of its type answers the device that the frame has come into. -/
theorem answers_control {c : Instr} {s : State} {p : Fin 8} {f : RxFrame} {type : Nat} {P : State → Prop}
    (he : exec c s = devStep (fun d => d.when (d.isControl p f type) (·.frameIn p f)) s) (hc : s.dev.isControl p f type = true)
    (h : P { s with dev := Dev.settle s.dev.fresh (s.dev.fresh.frameIn p f) }) : Answers c s P := by
  refine answers_devStep he ?_
  rwa [show s.dev.fresh.isControl p f type = true from hc]

theorem ringCycleStart_answers (s : State) (r : Fin 2) (hb : s.dev.blockOn bSHD = true) (he : s.dev.ringEn r = true) (hg : s.dev.gating (Dev.eastPort r) = true)
    (hc : (s.dev.ring r).cycle ≠ some (s.dev.cycleIdx r)) :
    Answers (.ringCycleStart r) s fun t => (t.dev.ring r).cycle = some (s.dev.cycleIdx r) ∧ (t.dev.ring r).grants = [] ∧ (t.dev.ring r).accepted = [] ∧ (t.dev.ring r).notices = 0
      ∧ (s.dev.get (Reg.SHD_RING_CFG.ROLE r) = 1 → t.dev.isMaster r = true) ∧ s.sameMem t := by
  have hview := Dev.ringCycle_startView (s := s.dev.fresh) r.isLt he hg hc
  simp only [Dev.startView, StartView.mk.injEq] at hview
  obtain ⟨hcyc, hgrants, haccepted, hnotices, hrole⟩ := hview
  refine answers_atBlock (exec_ringCycleStart r s) hb ?_
  simp only [Dev.ring_settle]
  refine ⟨hcyc, hgrants, haccepted, hnotices, fun hcfg => ?_, rfl, rfl⟩
  rw [Dev.isMaster, Dev.get_settle, hrole, Dev.cycleRoles_master (s := s.dev.fresh) r.isLt hcfg]
  rfl

theorem holdoffEnd_answers (s : State) (r : Fin 2) (hb : s.dev.blockOn bSHD = true) (hc : 8 ≤ (s.dev.ring r).roleCycles)
    (ht : (s.dev.ring r).roleAt + s.dev.get (Reg.SHD_TIMING.HOLDOFF_MS r) * 1000000 ≤ s.dev.up) (hh : s.dev.bit (Reg.SHD_STATE.HOLDOFF r) = true) :
    Answers (.holdoffEnd r) s fun t => t.dev.bit (Reg.SHD_STATE.HOLDOFF r) = false ∧ s.dev.onlyWords (· = Reg.SHD_STATE r) t.dev ∧ s.sameMem t := by
  have heq : s.dev.fresh.holdoffEnd r = s.dev.fresh.put (Reg.SHD_STATE.HOLDOFF r) 0 := if_pos ⟨hh, hc, ht⟩
  refine answers_atBlock (exec_holdoffEnd r s) hb ?_
  rw [heq]
  refine ⟨?_, (Dev.WordOnly.put (· = Reg.SHD_STATE r) s.dev.fresh (Reg.SHD_STATE.HOLDOFF r) 0 rfl).settled _, rfl, rfl⟩
  rw [Dev.bit_settle, Dev.bit_put_same _ _ _ (by decide : 7 + 1 ≤ 32) rfl]
  rfl

theorem slotSwap_answers (s : State) (r : Fin 2) (hb : s.dev.blockOn bSHD = true) (hr : s.dev.hostRefused (Reg.SHD_SLOT_CTL r) = false) :
    Answers (.slotSwap r) s fun t => t.dev.bit (Reg.SHD_SLOT_CTL.SWAP_PEND r) = true ∧ s.dev.onlyWords (· = Reg.SHD_SLOT_CTL r) t.dev ∧ s.sameMem t := by
  refine answers_hostGate (exec_slotSwap r s) hb hr ⟨?_, (Dev.WordOnly.put (· = Reg.SHD_SLOT_CTL r) s.dev.fresh (Reg.SHD_SLOT_CTL.SWAP_PEND r) 1 rfl).settled _, rfl, rfl⟩
  rw [Dev.bit_settle, Dev.slotSwap, Dev.bit_put_same _ _ _ (by decide : 4 + 1 ≤ 32) rfl]
  rfl

theorem claimStart_answers (s : State) (r : Fin 2) (hb : s.dev.blockOn bSHD = true) (hr : s.dev.hostRefused (Reg.SHD_CLAIM r) = false)
    (hp : s.dev.get (Reg.SHD_CLAIM_STAT.RESULT r) ≠ 1) :
    Answers (.claimStart r) s fun t => t.dev.get (Reg.SHD_CLAIM_STAT.RESULT r) = 1 ∧ t.dev.get (Reg.SHD_CLAIM_STAT.TRIES_USED r) = 0
      ∧ t.dev.get (Reg.SHD_CLAIM_STAT.GEN_FIRST r) = (s.dev.get (Reg.SHD_CLAIM_STAT.GEN r) + 1) % 256 ∧ (t.dev.ring r).sendIn = none
      ∧ (∀ k, k ≠ Reg.SHD_CLAIM r → k ≠ Reg.SHD_CLAIM_STAT r → t.dev.word k = s.dev.word k) ∧ s.sameMem t := by
  obtain ⟨hres, htries, hgen⟩ := Dev.claimBegun_stat s.dev.fresh r
  refine answers_hostGate (exec_claimStart r s) hb hr ?_
  rw [Dev.claimWrite_begins (s := s.dev.fresh) hp]
  refine ⟨?_, ?_, ?_, ?_, fun k h1 h2 => ?_, rfl, rfl⟩
  · rw [Dev.get_settle, Dev.get_setRing, hres]
  · rw [Dev.get_settle, Dev.get_setRing, htries]
  · rw [Dev.get_settle, Dev.get_setRing, hgen, Dev.get_fresh]
  · rw [Dev.ring_settle, Dev.ring_setRing_same]
  · rw [Dev.word_settle, Dev.word_setRing, Dev.claimBegun_word _ h1 h2, Dev.word_fresh]

theorem claimSend_answers (s : State) (r : Fin 2) (hb : s.dev.blockOn bSHD = true) (hd : (s.dev.ring r).sendIn = some (s.dev.cycleIdx r))
    (hw : s.dev.inClaimWindow r = true) (hm : s.dev.bit (Reg.SHD_STATE.TABLE_MISMATCH r) = false) :
    Answers (.claimSend r) s fun t => t.dev.get (Reg.SHD_CLAIM_STAT.GEN r) = (s.dev.get (Reg.SHD_CLAIM_STAT.GEN r) + 1) % 256
      ∧ t.dev.get (Reg.SHD_CLAIM_STAT.TRIES_USED r) = (s.dev.get (Reg.SHD_CLAIM_STAT.TRIES_USED r) + 1) % 16
      ∧ (t.dev.ring r).sendIn = none ∧ (t.dev.ring r).sentCycle = s.dev.cycleIdx r ∧ s.sameMem t := by
  have hsent := Dev.claimSend_sends (s := s.dev.fresh) r.isLt hd hw hm
  obtain ⟨hgen, htries⟩ := Dev.claimCounted_stat s.dev.fresh r
  have hstat : ¬ Dev.trafficWords (Reg.SHD_CLAIM_STAT r) := Dev.not_trafficWords_ring (a := 0x20) r.isLt (by decide) (by decide)
  refine answers_atBlock (exec_claimSend r s) hb ⟨?_, ?_, ?_, ?_, rfl, rfl⟩
  · rw [Dev.get_settle, hsent.get_eq hstat, Dev.get_setRing, hgen, Dev.get_fresh]
  · rw [Dev.get_settle, hsent.get_eq hstat, Dev.get_setRing, htries, Dev.get_fresh]
  · rw [Dev.ring_settle, hsent.ring_eq, Dev.ring_setRing_same]
  · rw [Dev.ring_settle, hsent.ring_eq, Dev.ring_setRing_same]
    exact Dev.claimCounted_cycleIdx s.dev.fresh r.isLt

theorem claimReceived_answers (s : State) (p : Fin 8) (f : RxFrame) (r node gen slot : Nat) (hring : r = Dev.ringOf p) (hnode : node = fieldBE f.data 16 2 % 256)
    (hgen : gen = fieldBE f.data 27 1) (hslot : fieldBE f.data 28 2 = slot) (hlt : slot < 4096) (hc : s.dev.isControl p f 2 = true)
    (hg : s.dev.goodArrival p f = true) (he : s.dev.ringEn r = true) (hw : s.dev.wrapped p = false) (hm : s.dev.isMaster r = true)
    (hh : s.dev.bit (Reg.SHD_STATE.HOLDOFF r) = false) (hnew : 0 < sdiff gen (s.dev.get (Dev.recFld r node)) 8)
    (hk : s.dev.slotKind r (s.dev.slotBank r) slot = 2)
    (hfree : ((s.dev.ring r).accepted ++ (s.dev.ring r).listed).all (fun g => g.slot != slot || g.node == node) = true) (hlen : (s.dev.ring r).accepted.length < 16) :
    Answers (.claimReceived p f) s fun t =>
      (t.dev.ring r).accepted = (s.dev.ring r).accepted ++ [⟨false, slot, node, fieldBE f.data 26 1, gen⟩] ∧ t.dev.get (Dev.recFld r node) = gen
        ∧ t.dev.get (Reg.SHD_CLAIM_ACCEPT.COUNT r) = (s.dev.get (Reg.SHD_CLAIM_ACCEPT.COUNT r) + 1) % 2 ^ 32 ∧ s.sameMem t := by
  subst hring
  obtain ⟨hp, -, -, -⟩ := Dev.isControl_spec hc
  obtain ⟨u, t, hu, hin⟩ := Dev.frameIn_claim (s := s.dev.fresh) hg he hc hw
  have hr := Dev.ringOf_lt hp
  have hrec : ¬ Dev.trafficWords (Dev.recFld (Dev.ringOf p) node).addr := Dev.not_trafficWords_recFld hr (by omega)
  have hcount : ¬ Dev.trafficWords (Reg.SHD_CLAIM_ACCEPT.COUNT (Dev.ringOf p)).addr := Dev.not_trafficWords_ring (a := 0x58) hr (by decide) (by decide)
  have hholdoff : u.bit (Reg.SHD_STATE.HOLDOFF (Dev.ringOf p)) = false := (hu.1.bit_eq (Dev.not_trafficWords_ring (a := 0xC) hr (by decide) (by decide))).trans hh
  have htake := Dev.claimTake_accepts (s := u) rfl hnode.symm hgen.symm hslot hlt ((hu.isMaster_eq hr).trans hm) hholdoff (by rwa [hu.1.get_eq hrec])
    (by rwa [hu.slotKind_eq hr hlt]) (by rwa [hu.1.ring_eq]) (by rwa [hu.1.ring_eq])
  have hrelay := Dev.relay_traffic (u.claimTake p (fieldBE f.data 16 2) f.data) t (fieldBE f.data 16 2) f.data hp
  refine answers_control (exec_claimReceived p f s) hc ?_
  rw [hin]
  refine ⟨?_, ?_, ?_, rfl, rfl⟩
  · rw [Dev.ring_settle, hrelay.ring_eq, htake, Dev.ring_inc, Dev.ring_setRing_same, hu.1.ring_eq, Dev.ring_fresh]
  · have hlt' : gen < 2 ^ 8 := hgen ▸ fieldBE_lt f.data 27 1
    rw [Dev.get_settle, hrelay.get_eq hrec, htake, Dev.inc, Dev.get_put_addr _ _ _ _ (by simp only [Dev.recFld, Reg.SHD_CLAIM_REC, Reg.SHD_CLAIM_ACCEPT.COUNT]; omega), Dev.get_setRing,
      Dev.get_put_same _ _ _ (by simp only [Dev.recFld]; omega)]
    exact Nat.mod_eq_of_lt hlt'
  · rw [Dev.get_settle, hrelay.get_eq hcount, htake, Dev.get_inc_same _ rfl rfl, Dev.get_setRing,
      Dev.get_put_addr _ _ _ _ (by simp only [Dev.recFld, Reg.SHD_CLAIM_REC, Reg.SHD_CLAIM_ACCEPT.COUNT]; omega), hu.1.get_eq hcount, Dev.get_fresh]

/-- Settles O34: what an accepted claim or a cycle's start settles of its ring stands beside what the frames relayed and sent after it change. -/
theorem ringClaims : Obligations.RingClaims :=
  ⟨ringCycleStart_answers, holdoffEnd_answers, slotSwap_answers, claimStart_answers, claimSend_answers, claimReceived_answers⟩

end Sys2Proof.Machine
end


section
/-! SUPPORT. The Shroud's frames at its commands (R107, R164–R168, R182, R184): O35. -/

namespace Sys2Proof.Machine

/-- A cycle number fills its word of the beacon, and SHD_CYCLE_NOW. -/
theorem get_cycleNow {s : Dev} {r : Nat} {data : List Octet} (h : s.word (Reg.SHD_CYCLE_NOW r) = BitVec.ofNat 32 (fieldBE data 26 4)) :
    s.get (Reg.SHD_CYCLE_NOW.CYCLE r) = fieldBE data 26 4 := by
  have hlt : fieldBE data 26 4 < 2 ^ 32 := fieldBE_lt data 26 4
  rw [Dev.get, show s.word (Reg.SHD_CYCLE_NOW.CYCLE r).addr = _ from h, BitVec.toNat_ofNat, Nat.mod_eq_of_lt hlt]
  exact (congrArg (· % 2 ^ 32) (Nat.div_one _)).trans (Nat.mod_eq_of_lt hlt)

/-- What the device shows after a beacon is what its copy left, whatever becomes of the relayed frame (R161). -/
theorem beaconReceived_face {s : State} {p : Fin 8} {f : RxFrame} (hc : s.dev.isControl p f 1 = true) (hg : s.dev.goodArrival p f = true)
    (he : s.dev.ringEn (Dev.ringOf p) = true) (hw : s.dev.wrapped p = false) :
    ∃ u t src, Dev.Arrived s.dev.fresh u ∧ (s.dev.fresh.frameIn p f).beaconFace p = (u.beaconCopy p t src f.data).beaconFace p := by
  obtain ⟨hp, -, -, -⟩ := Dev.isControl_spec hc
  obtain ⟨u, t, src, hu, hin⟩ := Dev.frameIn_beacon (s := s.dev.fresh) hg he hc hw
  exact ⟨u, t, src, hu, hin ▸ (Dev.relay_traffic _ t src f.data hp).beaconFace_eq hp⟩

theorem beaconReceived_first (s : State) (p : Fin 8) (f : RxFrame) (hc : s.dev.isControl p f 1 = true) (hg : s.dev.goodArrival p f = true)
    (he : s.dev.ringEn (Dev.ringOf p) = true) (hw : s.dev.wrapped p = false) (hnew : (s.dev.ring (Dev.ringOf p)).acted.contains (fieldBE f.data 26 4) = false) :
    Answers (.beaconReceived p f) s fun t => t.dev.get (Reg.SHD_CYCLE_NOW.CYCLE (Dev.ringOf p)) = fieldBE f.data 26 4
      ∧ (t.dev.ring (Dev.ringOf p)).acted = (fieldBE f.data 26 4 :: (s.dev.ring (Dev.ringOf p)).acted).take 1024
      ∧ (fieldBE f.data 26 4 = Dev.cycleNo (s.dev.cycleIdx (Dev.ringOf p)) → t.dev.bit (Reg.SHD_STATE.MASTER_LOST (Dev.ringOf p)) = false)
      ∧ (t.dev.side p).neighbour = fieldBE f.data 52 2 ∧ s.sameMem t := by
  obtain ⟨hp, -, -, -⟩ := Dev.isControl_spec hc
  obtain ⟨u, t, src, hu, hface⟩ := beaconReceived_face hc hg he hw
  rw [Dev.beaconCopy_first t src hp (by rwa [hu.1.ring_eq]), hu.1.ring_eq, hu.1.cycleIdx_eq (Dev.ringOf_lt hp)] at hface
  simp only [Dev.beaconFace, Prod.mk.injEq] at hface
  obtain ⟨hcycle, hacted, -, hlost, hneighbour⟩ := hface
  refine answers_control (exec_beaconReceived p f s) hc ⟨?_, ?_, fun hrun => ?_, ?_, rfl, rfl⟩
  · rw [Dev.get_settle, get_cycleNow hcycle]
  · rw [Dev.ring_settle, hacted, Dev.ring_fresh]
  · have hcur : (fieldBE f.data 26 4 == Dev.cycleNo (s.dev.fresh.cycleIdx (Dev.ringOf p))) = true := beq_iff_eq.mpr hrun
    rw [Dev.bit_settle, hlost, hcur]
    rfl
  · rw [Dev.side_settle, hneighbour]

theorem beaconReceived_later (s : State) (p : Fin 8) (f : RxFrame) (hc : s.dev.isControl p f 1 = true) (hg : s.dev.goodArrival p f = true)
    (he : s.dev.ringEn (Dev.ringOf p) = true) (hw : s.dev.wrapped p = false) (hold : (s.dev.ring (Dev.ringOf p)).acted.contains (fieldBE f.data 26 4) = true) :
    Answers (.beaconReceived p f) s fun t => t.dev.word (Reg.SHD_CYCLE_NOW (Dev.ringOf p)) = s.dev.word (Reg.SHD_CYCLE_NOW (Dev.ringOf p))
      ∧ (t.dev.ring (Dev.ringOf p)).acted = (s.dev.ring (Dev.ringOf p)).acted ∧ (t.dev.ring (Dev.ringOf p)).grants = (s.dev.ring (Dev.ringOf p)).grants
      ∧ (t.dev.side p).neighbour = fieldBE f.data 52 2 ∧ s.sameMem t := by
  obtain ⟨hp, -, -, -⟩ := Dev.isControl_spec hc
  obtain ⟨u, t, src, hu, hface⟩ := beaconReceived_face hc hg he hw
  rw [Dev.beaconCopy_later t src (by rwa [hu.1.ring_eq]), hu.1.ring_eq] at hface
  simp only [Dev.beaconFace, Prod.mk.injEq] at hface
  obtain ⟨hcycle, hacted, hgrants, -, hneighbour⟩ := hface
  have hkept : u.word (Reg.SHD_CYCLE_NOW (Dev.ringOf p)) = s.dev.fresh.word (Reg.SHD_CYCLE_NOW (Dev.ringOf p)) :=
    hu.1.1 _ (Dev.not_trafficWords_ring (a := 0x10) (Dev.ringOf_lt hp) (by decide) (by decide))
  refine answers_control (exec_beaconReceived p f s) hc ⟨?_, ?_, ?_, ?_, rfl, rfl⟩
  · rw [Dev.word_settle, hcycle, hkept, Dev.word_fresh]
  · rw [Dev.ring_settle, hacted, Dev.ring_fresh]
  · rw [Dev.ring_settle, hgrants, Dev.ring_fresh]
  · rw [Dev.side_settle, hneighbour]

theorem linkFrameReceived_answers (s : State) (p : Fin 8) (f : RxFrame) (hc : s.dev.isControl p f 4 = true) (hg : s.dev.goodArrival p f = true)
    (he : s.dev.ringEn (Dev.ringOf p) = true) :
    Answers (.linkFrameReceived p f) s fun t => (t.dev.side p).partnerReady = (fieldBE f.data 26 1).testBit 7 ∧ (t.dev.side p).partnerProp = fieldBE f.data 30 4
      ∧ (t.dev.side p).partnerEcho = fieldBE f.data 34 4 ∧ t.dev.word (Reg.SHD_STATE (Dev.ringOf p)) = s.dev.word (Reg.SHD_STATE (Dev.ringOf p))
      ∧ t.dev.frames = s.dev.frames ∧ s.sameMem t := by
  obtain ⟨hp, -, -, -⟩ := Dev.isControl_spec hc
  obtain ⟨u, hu, hin⟩ := Dev.frameIn_link (s := s.dev.fresh) hg he hc
  have hstate : u.word (Reg.SHD_STATE (Dev.ringOf p)) = s.dev.fresh.word (Reg.SHD_STATE (Dev.ringOf p)) :=
    hu.1.1 _ (Dev.not_trafficWords_ring (a := 0xC) (Dev.ringOf_lt hp) (by decide) (by decide))
  refine answers_control (exec_linkFrameReceived p f s) hc ?_
  rw [hin, Dev.linkFrameTake]
  refine ⟨?_, ?_, ?_, ?_, ?_, rfl, rfl⟩
  · rw [Dev.side_settle, Dev.side_modSide_same]
  · rw [Dev.side_settle, Dev.side_modSide_same]
  · rw [Dev.side_settle, Dev.side_modSide_same]
  · rw [Dev.word_settle, Dev.word_modSide, hstate, Dev.word_fresh]
  · rw [Dev.settle_frames]
    exact hu.2

theorem noticeTxSend_sends (s : State) (r : Fin 2) (code : BitVec 8) (subject : BitVec 16) (sh : Bool) (hb : s.dev.blockOn bSHD = true)
    (hr : s.dev.hostRefused (Reg.SHD_NOTICE_TX r) = false) (he : s.dev.ringEn r = true) (hcode : 0x10 ≤ code.toNat) (ha : s.dev.allocCheck .device 64 = .ok sh) :
    Answers (.noticeTxSend r code subject) s fun t =>
      t.dev.get (Reg.SHD_NOTICE_SENT.COUNT r) = (s.dev.get (Reg.SHD_NOTICE_SENT.COUNT r) + 1) % 2 ^ 32 ∧ s.sameMem t := by
  refine answers_hostGate (exec_noticeTxSend r code subject s) hb hr ?_
  rw [Dev.noticeTx_sends (s := s.dev.fresh) subject.toNat he hcode]
  refine ⟨?_, rfl, rfl⟩
  rw [Dev.get_settle, Dev.noticeOn_counts (s := s.dev.fresh) _ _ _ r.isLt ha, Dev.get_fresh]

theorem noticeTxSend_reserved (s : State) (r : Fin 2) (code : BitVec 8) (subject : BitVec 16) (hr : s.dev.hostRefused (Reg.SHD_NOTICE_TX r) = false)
    (hcode : code.toNat < 0x10) : Answers (.noticeTxSend r code subject) s fun t => s.dev.onlyWords (fun _ => False) t.dev ∧ s.sameMem t := by
  have hidle : s.dev.fresh.hostGate bSHD (Reg.SHD_NOTICE_TX r) 0x80000000 (·.noticeTx r code.toNat subject.toNat) = s.dev.fresh :=
    Dev.hostGate_idle _ hr (Dev.noticeTx_reserved _ _ _ hcode)
  refine answers_devStep (exec_noticeTxSend r code subject s) ?_
  rw [hidle]
  exact ⟨(Dev.WordOnly.refl _ _).settled _, rfl, rfl⟩

/-- Settles O35: the arrival of a frame and its relay leave what the Shroud reads of the ring and what it shows of it. -/
theorem ringFrames : Obligations.RingFrames :=
  ⟨beaconReceived_first, beaconReceived_later, linkFrameReceived_answers, noticeTxSend_sends, noticeTxSend_reserved⟩

end Sys2Proof.Machine
end


section
/-! SUPPORT. A change of gates (R74, R75, R114, R116, R118, R120): what it shows in GTE_CUR_ENTRY, and what it leaves alone of the Reef and of the port's gating. -/

namespace Sys2Proof.Machine

namespace Dev

/-! ### What closes and drops leave alone (R74, R120) -/

/-- The words of the Reef that no close and no drop at port `p` changes, nor the entry in force, nor the count of cycles. -/
def gateWord (p k : Nat) : Prop := 0xD0000 ≤ k ∧ k < 0xE0000 ∧ k ≠ Reg.GTE_CUR_ENTRY p ∧ k ≠ Reg.GTE_CYCLE_CNT p

/-- What a change of gates leaves of the Reef: those words, and whether a list runs on the port. -/
def gateFace (p : Nat) (s : Dev) : ({k // gateWord p k} → Word) × Bool := (fun k => s.word k, (s.port p).gating)

theorem gateFace_of_words {s t : Dev} {p : Nat} (hw : ∀ k, gateWord p k → t.word k = s.word k) (hg : (t.port p).gating = (s.port p).gating) :
    gateFace p t = gateFace p s := Prod.ext (funext fun k => hw k k.2) hg

section
variable {s t : Dev} {p : Nat} (h : gateFace p t = gateFace p s)
include h

theorem word_of_gateFace {k : Nat} (hk : gateWord p k) : t.word k = s.word k := congrFun (congrArg Prod.fst h) ⟨k, hk⟩
theorem get_of_gateFace {f : Fld} (hk : gateWord p f.addr) : t.get f = s.get f := get_of_word (word_of_gateFace h hk)
theorem bit_of_gateFace {f : Fld} (hk : gateWord p f.addr) : t.bit f = s.bit f := bit_of_word (word_of_gateFace h hk)
theorem gating_of_gateFace : (t.port p).gating = (s.port p).gating := congrArg Prod.snd h

end

theorem LockerOnly.gateFace_eq {K : Nat → Prop} {s t : Dev} {p : Nat} (h : LockerOnly K s t) (hk : ∀ k, K k → ¬ gateWord p k) :
    gateFace p t = gateFace p s :=
  gateFace_of_words (fun k hg => h.1 k fun hK => hk k hK hg) (congrArg Port.gating (h.port_eq p))

theorem put_gateFace (s : Dev) {f : Fld} (v : Nat) {p : Nat} (h : ¬ gateWord p f.addr) : gateFace p (s.put f v) = gateFace p s :=
  (LockerOnly.put (· = f.addr) s f v rfl).gateFace_eq fun _ hk => hk ▸ h

theorem modPort_gateFace (s : Dev) (p : Nat) (f : Port → Port) (h : ∀ x, (f x).gating = x.gating) : gateFace p (s.modPort p f) = gateFace p s :=
  gateFace_of_words (fun _ _ => rfl) (modPort_keeps s p f Port.gating (fun _ _ _ => rfl) h)

theorem when_gateFace {s : Dev} {f : Dev → Dev} {p : Nat} (c : Bool) (h : gateFace p (f s) = gateFace p s) : gateFace p (s.when c f) = gateFace p s := by
  cases c
  · rfl
  · exact h

theorem setClassQueue_gateFace (s : Dev) (q p c : Nat) (l : List QEnt) : gateFace q (s.setClassQueue p c l) = gateFace q s := rfl

theorem not_gateWord_above {p k : Nat} (h : 0xE0000 ≤ k) : ¬ gateWord p k := fun hg => absurd hg.2.1 (Nat.not_lt.mpr h)

theorem not_gateWord_dropWords {p j k : Nat} (h : dropWords j k) : ¬ gateWord p k := by
  obtain ⟨x, hx | hx⟩ | hb := h
  · exact not_gateWord_above (by rw [hx, Reg.STM_CNT]; omega)
  · exact not_gateWord_above (by rw [hx, Reg.STM_CTX_STAT]; omega)
  · simp only [bankWords, Reg.FRM_BANK_STATE] at hb
    simp only [gateWord]
    omega

theorem not_gateWord_trace {p k : Nat} (h : faultWords bTRC k) : ¬ gateWord p k :=
  not_gateWord_dropWords (j := 0) (.inr (bankWords_of_faultWords (faultWords_trc bPLC k h)))

theorem incTx_gateFace (s : Dev) {p : Nat} (q i : Nat) (h8 : p < 8) (hi : i < 64) : gateFace q (s.incTx p i) = gateFace q s := by
  refine (incTx_only s p i).toFault.toLocker.gateFace_eq fun k hk => ?_
  simp only [Reg.PRT_TX_CNT, Reg.PRT_HALF_TX] at hk
  simp only [gateWord]
  omega

theorem dropLate_gateFace (s : Dev) {p : Nat} (h8 : p < 8) (e : QEnt) : gateFace p (s.dropLate p e) = gateFace p s :=
  ((dropLate_counted s p e).gateFace_eq fun _ => not_gateWord_dropWords).trans (incTx_gateFace s p 17 h8 (by decide))

theorem dropNeverCarried_gateFace (s : Dev) {p : Nat} (h8 : p < 8) (e : QEnt) : gateFace p (s.dropNeverCarried p e) = gateFace p s := by
  have htx : gateFace p (s.incTx p 16) = gateFace p s := incTx_gateFace s p 16 h8 (by decide)
  have hrel : ∀ u : Dev, gateFace p (u.releaseCopy e.desc) = gateFace p u := fun u =>
    (releaseCopy_only u e.desc).gateFace_eq fun _ hk => not_gateWord_dropWords (j := 2) (.inr hk)
  unfold dropNeverCarried
  dsimp only
  split
  · next x _ => exact ((hrel _).trans ((incCtx_only _ x 2).toFault.toLocker.gateFace_eq fun _ hk => not_gateWord_dropWords (.inl ⟨x, hk⟩))).trans htx
  · exact (hrel _).trans htx

theorem retestQueues_gateFace (s : Dev) {p : Nat} (h8 : p < 8) : gateFace p (s.retestQueues p) = gateFace p s := by
  refine foldl_keeps (gateFace p) _ (fun c _ s => ?_) s
  dsimp only
  split
  · rfl
  · exact foldl_keeps (gateFace p) _ (fun e _ s => dropNeverCarried_gateFace s h8 e) _

/-- A relay that is late is counted on its ring before it is dropped (R161). -/
theorem lateCopy_gateFace (s : Dev) {p : Nat} (h8 : p < 8) (e : QEnt) :
    gateFace p (Dev.dropLate (match e.relay with
      | some r => s.inc (Reg.SHD_PASS_LATE.COUNT r)
      | none => s) p e) = gateFace p s := by
  rw [dropLate_gateFace _ h8]
  split
  · exact put_gateFace s _ (not_gateWord_above (by simp only [Reg.SHD_PASS_LATE.COUNT]; omega))
  · rfl

theorem closeClass_gateFace (s : Dev) {p : Nat} (h8 : p < 8) (c : Nat) : gateFace p (s.closeClass p c) = gateFace p s := by
  unfold closeClass
  refine (foldl_keeps (gateFace p) _ (fun e _ s => lateCopy_gateFace s h8 e) _).trans ?_
  split
  · exact when_gateFace _ (incTx_gateFace s p 18 h8 (by decide))
  · exact (setClassQueue_gateFace _ p p c _).trans (when_gateFace _ (incTx_gateFace s p 18 h8 (by decide)))

theorem creditSyncAll_gateFace (s : Dev) (p : Nat) : gateFace p (s.creditSyncAll p) = gateFace p s :=
  foldl_keeps (gateFace p) _ (fun c _ s => by split <;> rfl) s

theorem countCycles_gateFace (s : Dev) (p : Nat) : gateFace p (s.countCycles p) = gateFace p s := by
  refine (modPort_gateFace _ p _ ?_).trans (put_gateFace s (f := Reg.GTE_CYCLE_CNT.COUNT p) _ fun h => h.2.2.2 rfl)
  exact fun _ => rfl

/-! ### The change (R114) -/

/-- The closes of a change of gates from `old` to `new` (R74, R118). -/
def classesClosed (s : Dev) (p old new skipped : Nat) : Dev :=
  (List.range 8).foldl (fun s c => if old.testBit c && (!new.testBit c || skipped.testBit c) then s.closeClass p c else s) (s.creditSyncAll p)

/-- The classes whose gate opens. -/
def opened (old new skipped : Nat) : Nat := new &&& (255 - (old &&& (255 - skipped)))

/-- The closes, then the openings that note whether their window starts unsettled, before the entry in force is shown (R75). -/
def gatesMoved (s : Dev) (p old new skipped : Nat) : Dev :=
  (s.classesClosed p old new skipped).modPort p fun x => { x with
    unsettled := if (s.classesClosed p old new skipped).txSettled p then x.unsettled &&& (255 - opened old new skipped) else x.unsettled ||| opened old new skipped }

/-- GTE_CUR_ENTRY takes an entry. -/
def showEntry (s : Dev) (p entry bank gates : Nat) : Dev :=
  ((s.put (Reg.GTE_CUR_ENTRY.GATE_STATE p) gates).put (Reg.GTE_CUR_ENTRY.BANK p) bank).put (Reg.GTE_CUR_ENTRY.ENTRY p) entry

theorem changeGates_eq (s : Dev) (p entry bank new skipped : Nat) :
    s.changeGates p entry bank new skipped =
      ((s.gatesMoved p (s.get (Reg.GTE_CUR_ENTRY.GATE_STATE p)) new skipped).showEntry p entry bank new).when (s.get (Reg.GTE_CUR_ENTRY.GATE_STATE p) != new)
        fun s => s.trace 1 p p (entry * 2 ^ 16 + bank * 2 ^ 8 + new) (s.word (Reg.GTE_CYCLE_CNT p)).toNat := rfl

theorem classesClosed_gateFace (s : Dev) {p : Nat} (h8 : p < 8) (old new skipped : Nat) : gateFace p (s.classesClosed p old new skipped) = gateFace p s := by
  refine (foldl_keeps (gateFace p) _ (fun c _ s => ?_) _).trans (creditSyncAll_gateFace s p)
  split
  · exact closeClass_gateFace s h8 c
  · rfl

theorem gatesMoved_gateFace (s : Dev) {p : Nat} (h8 : p < 8) (old new skipped : Nat) : gateFace p (s.gatesMoved p old new skipped) = gateFace p s := by
  refine (modPort_gateFace _ p _ ?_).trans (classesClosed_gateFace s h8 old new skipped)
  exact fun _ => rfl

theorem showEntry_gateFace (s : Dev) (p entry bank gates : Nat) : gateFace p (s.showEntry p entry bank gates) = gateFace p s := by
  have hput : ∀ (u : Dev) (f : Fld) (v : Nat), f.addr = Reg.GTE_CUR_ENTRY p → gateFace p (u.put f v) = gateFace p u := fun u _ v hf =>
    put_gateFace u v fun h => h.2.2.1 hf
  exact (hput _ _ _ rfl).trans ((hput _ _ _ rfl).trans (hput _ _ _ rfl))

theorem showEntry_shows (s : Dev) (p entry bank gates : Nat) :
    (s.showEntry p entry bank gates).get (Reg.GTE_CUR_ENTRY.GATE_STATE p) = gates % 2 ^ 8
      ∧ (s.showEntry p entry bank gates).get (Reg.GTE_CUR_ENTRY.ENTRY p) = entry % 2 ^ 10
      ∧ (s.showEntry p entry bank gates).get (Reg.GTE_CUR_ENTRY.BANK p) = bank % 2 := by
  have hg : 16 + 8 ≤ 32 := by decide
  have hb : 12 + 1 ≤ 32 := by decide
  have he : 0 + 10 ≤ 32 := by decide
  refine ⟨?_, get_put_same _ _ _ he, ?_⟩
  · exact (get_put_bits _ (Reg.GTE_CUR_ENTRY.ENTRY p) (Reg.GTE_CUR_ENTRY.GATE_STATE p) _ he rfl (.inr (by decide : 0 + 10 ≤ 16))).trans
      ((get_put_bits _ (Reg.GTE_CUR_ENTRY.BANK p) (Reg.GTE_CUR_ENTRY.GATE_STATE p) _ hb rfl (.inr (by decide : 12 + 1 ≤ 16))).trans
        (get_put_same _ (Reg.GTE_CUR_ENTRY.GATE_STATE p) _ hg))
  · exact (get_put_bits _ (Reg.GTE_CUR_ENTRY.ENTRY p) (Reg.GTE_CUR_ENTRY.BANK p) _ he rfl (.inr (by decide : 0 + 10 ≤ 12))).trans
      (get_put_same _ (Reg.GTE_CUR_ENTRY.BANK p) _ hb)

/-- The record of a change of gates leaves the Reef alone (R393). -/
theorem changeGates_traced (s : Dev) (p entry bank new skipped : Nat) :
    FaultOnly (faultWords bTRC) ((s.gatesMoved p (s.get (Reg.GTE_CUR_ENTRY.GATE_STATE p)) new skipped).showEntry p entry bank new)
      (s.changeGates p entry bank new skipped) := by
  rw [changeGates_eq]
  cases s.get (Reg.GTE_CUR_ENTRY.GATE_STATE p) != new
  · exact FaultOnly.refl _ _
  · exact traceAt_only _ _ 1 p p _ _

theorem changeGates_gateFace (s : Dev) {p : Nat} (h8 : p < 8) (entry bank new skipped : Nat) :
    gateFace p (s.changeGates p entry bank new skipped) = gateFace p s :=
  ((changeGates_traced s p entry bank new skipped).toLocker.gateFace_eq fun _ => not_gateWord_trace).trans
    ((showEntry_gateFace _ p entry bank new).trans (gatesMoved_gateFace s h8 _ new skipped))

theorem changeGates_shows (s : Dev) {p : Nat} (h8 : p < 8) (entry bank new skipped : Nat) :
    (s.changeGates p entry bank new skipped).get (Reg.GTE_CUR_ENTRY.GATE_STATE p) = new % 2 ^ 8
      ∧ (s.changeGates p entry bank new skipped).get (Reg.GTE_CUR_ENTRY.ENTRY p) = entry % 2 ^ 10
      ∧ (s.changeGates p entry bank new skipped).get (Reg.GTE_CUR_ENTRY.BANK p) = bank % 2 := by
  have hword : ¬ faultWords bTRC (Reg.GTE_CUR_ENTRY p) := by
    intro h
    have hb := bankWords_of_faultWords (faultWords_trc bPLC _ h)
    simp only [bankWords, Reg.GTE_CUR_ENTRY, Reg.FRM_BANK_STATE] at hb
    omega
  have hkeep := (changeGates_traced s p entry bank new skipped).1 _ hword
  obtain ⟨hg, he, hb⟩ := showEntry_shows (s.gatesMoved p (s.get (Reg.GTE_CUR_ENTRY.GATE_STATE p)) new skipped) p entry bank new
  exact ⟨(get_of_word hkeep).trans hg, (get_of_word hkeep).trans he, (get_of_word hkeep).trans hb⟩

end Dev

end Sys2Proof.Machine
end


section
/-! SUPPORT. Gate lists (R114–R117, R127–R129): the entry in force, a swap and its change point, GATE_EN, the shapers. -/

namespace Sys2Proof.Machine

namespace Dev

/-! ### The entry in force (R114) -/

/-- A gate schedule is read from its bank's words, so the count of cycles has no part in it. -/
theorem schedule_of_words {s t : Dev} {p : Nat} (b : Nat) (h8 : p < 8) (hw : ∀ k, k ≠ Reg.GTE_CYCLE_CNT p → t.word k = s.word k)
    (hbad : t.badWords = s.badWords) : t.schedule p b = s.schedule p b := by
  have hcyc : t.word (Reg.GTE_CYCLE_TIME p b) = s.word (Reg.GTE_CYCLE_TIME p b) := hw _ (by simp only [Reg.GTE_CYCLE_TIME, Reg.GTE_CYCLE_CNT]; omega)
  have hbase : t.stamp3 (Reg.GTE_BASE_LO p b) = s.stamp3 (Reg.GTE_BASE_LO p b) := by
    simp only [stamp3, Reg.GTE_BASE_LO, Reg.GTE_CYCLE_CNT] at hw ⊢
    rw [hw _ (by omega), hw _ (by omega), hw _ (by omega)]
  have hlen : t.get (Reg.GTE_LIST_LEN.LEN p b) = s.get (Reg.GTE_LIST_LEN.LEN p b) :=
    get_of_word (hw _ (by simp only [Reg.GTE_LIST_LEN.LEN, Reg.GTE_CYCLE_CNT]; omega))
  have hbw : ∀ k, t.badWord k = s.badWord k := fun k => by rw [badWord, badWord, hbad]
  have hent : t.gclEntry p b = s.gclEntry p b := by
    funext e
    have hi : t.word (Reg.GTE_GCL_IVL p b e) = s.word (Reg.GTE_GCL_IVL p b e) := hw _ (by simp only [Reg.GTE_GCL_IVL, Reg.GTE_CYCLE_CNT]; omega)
    have hg : t.get (Reg.GTE_GCL_GATE.GATE_STATE p b e) = s.get (Reg.GTE_GCL_GATE.GATE_STATE p b e) :=
      get_of_word (hw _ (by simp only [Reg.GTE_GCL_GATE.GATE_STATE, Reg.GTE_CYCLE_CNT]; omega))
    simp only [gclEntry, hi, hg, hbw]
  simp only [schedule, gclEntries, hcyc, hbase, hlen, hent]

theorem word_countCycles (s : Dev) {p k : Nat} (h : k ≠ Reg.GTE_CYCLE_CNT p) : (s.countCycles p).word k = s.word k := word_put_other s _ _ _ h

theorem countCycles_schedule (s : Dev) {p : Nat} (b : Nat) (h8 : p < 8) : (s.countCycles p).schedule p b = s.schedule p b :=
  schedule_of_words b h8 (fun _ => word_countCycles s) rfl

theorem gclCtl_gateWord {p : Nat} (h8 : p < 8) : gateWord p (Reg.GTE_GCL_CTL p) := by
  simp only [gateWord, Reg.GTE_GCL_CTL, Reg.GTE_CUR_ENTRY, Reg.GTE_CYCLE_CNT]
  omega

theorem portCtl_gateWord {p : Nat} (h8 : p < 8) : gateWord p (Reg.GTE_PORT_CTL p) := by
  simp only [gateWord, Reg.GTE_PORT_CTL, Reg.GTE_CUR_ENTRY, Reg.GTE_CYCLE_CNT]
  omega

theorem status_gateWord (p : Nat) : gateWord p (statusAddr bGTE) := by
  simp only [gateWord, show statusAddr bGTE = 0xD0008 from rfl, Reg.GTE_CUR_ENTRY, Reg.GTE_CYCLE_CNT]
  omega

/-- Where a list runs and no backward step holds its gates, the entry of the present instant comes into force. -/
theorem gateChange_eq {s : Dev} {p : Nat} (h8 : p < 8) (hg : s.gating p = true) (hf : (s.port p).freezeTill = none) :
    s.gateChange p = ((s.modPort p fun x => { x with freezeTill := none }).countCycles p).changeGates p ((s.schedule p (s.gclActive p)).at s.now).1 (s.gclActive p)
      ((s.schedule p (s.gclActive p)).at s.now).2 0 := by
  have hsched : ∀ b, ((s.modPort p fun x => { x with freezeTill := none }).countCycles p).schedule p b = s.schedule p b := fun b => countCycles_schedule _ b h8
  have hact : ((s.modPort p fun x => { x with freezeTill := none }).countCycles p).gclActive p = s.gclActive p :=
    get_of_gateFace (f := Reg.GTE_GCL_CTL.ACTIVE p) (countCycles_gateFace _ p) (gclCtl_gateWord h8)
  have hnow : ((s.modPort p fun x => { x with freezeTill := none }).countCycles p).now = s.now := now_of_root (countCycles_root _ p)
  rw [gateChange, if_neg (by rw [hg]; decide), hf]
  simp only [Bool.false_eq_true, if_false, hsched, hact, hnow]

theorem gateChange_shows {s : Dev} {p : Nat} (h8 : p < 8) (hg : s.gating p = true) (hf : (s.port p).freezeTill = none) :
    (s.gateChange p).get (Reg.GTE_CUR_ENTRY.GATE_STATE p) = ((s.schedule p (s.gclActive p)).at s.now).2 % 2 ^ 8
      ∧ (s.gateChange p).get (Reg.GTE_CUR_ENTRY.ENTRY p) = ((s.schedule p (s.gclActive p)).at s.now).1 % 2 ^ 10
      ∧ (s.gateChange p).get (Reg.GTE_CUR_ENTRY.BANK p) = s.gclActive p := by
  rw [gateChange_eq h8 hg hf]
  obtain ⟨h1, h2, h3⟩ := changeGates_shows ((s.modPort p fun x => { x with freezeTill := none }).countCycles p) h8 ((s.schedule p (s.gclActive p)).at s.now).1
    (s.gclActive p) ((s.schedule p (s.gclActive p)).at s.now).2 0
  exact ⟨h1, h2, h3.trans (Nat.mod_eq_of_lt (get_lt s (Reg.GTE_GCL_CTL.ACTIVE p)))⟩

/-! ### A swap and its change point (R115–R117, R128) -/

/-- An armed swap: pending, from the instant of its SWAP write (R116). -/
def swapArmed (s : Dev) (p : Nat) : Dev := (s.put (Reg.GTE_GCL_CTL.SWAP_PEND p) 1).modPort p fun x => { x with swapAt := s.now }

theorem gclSwap_admits {s : Dev} {p : Nat} (hp : s.bit (Reg.GTE_GCL_CTL.SWAP_PEND p) = false) (hc : s.gteCheck p (1 - s.gclActive p) = none) :
    s.gclSwap p = s.swapArmed p := by
  rw [gclSwap, if_neg (by rw [hp]; decide), hc]
  rfl

theorem gclSwap_refuses {s : Dev} {p code q c : Nat} (hp : s.bit (Reg.GTE_GCL_CTL.SWAP_PEND p) = false)
    (hc : s.gteCheck p (1 - s.gclActive p) = some (code, q, c)) : s.gclSwap p = s.gteRefuse q code c := by
  rw [gclSwap, if_neg (by rw [hp]; decide), hc]

/-- The banks change places and the event bit is set (R116). -/
def banksSwapped (s : Dev) (p : Nat) : Dev := ((s.put (Reg.GTE_GCL_CTL.ACTIVE p) (1 - s.gclActive p)).put (Reg.GTE_GCL_CTL.SWAP_PEND p) 0).raise bGTE p

/-- With them the port gates from here where GATE_EN is 1 (R115). -/
def pointTaken (s : Dev) (p : Nat) : Dev :=
  (s.banksSwapped p).modPort p fun x => { x with gating := (s.banksSwapped p).bit (Reg.GTE_PORT_CTL.GATE_EN p), cycleSeen := none, freezeTill := none }

/-- The gates of the bank that has become active come into force (R116). -/
def pointGates (s : Dev) (p b : Nat) : Dev :=
  if s.gating p then (s.countCycles p).changeGates p (((s.countCycles p).schedule p b).at (s.countCycles p).now).1 b
    (((s.countCycles p).schedule p b).at (s.countCycles p).now).2 0
  else s.put (Reg.GTE_CUR_ENTRY.BANK p) b

theorem changePointReached_eq {s : Dev} {p : Nat} (hp : s.bit (Reg.GTE_GCL_CTL.SWAP_PEND p) = true) (hn : s.pendingPoint p ≤ s.now) :
    s.changePointReached p = (((s.pointTaken p).pointGates p (1 - s.gclActive p)).retestQueues p).slotBankChange p := by
  have hreached : ¬ (¬ s.bit (Reg.GTE_GCL_CTL.SWAP_PEND p) = true ∨ s.now < s.pendingPoint p) := by
    rintro (h | h)
    · exact h hp
    · omega
  rw [changePointReached, if_neg hreached]
  rfl

theorem slotBankChange_gateFace (s : Dev) (p : Nat) : gateFace p (s.slotBankChange p) = gateFace p s := by
  unfold slotBankChange
  split
  · exact (put_gateFace _ _ (not_gateWord_above (by simp only [Reg.SHD_STATE.ACTIVE_BANK]; omega))).trans
      (put_gateFace _ _ (not_gateWord_above (by simp only [Reg.SHD_SLOT_CTL.SWAP_PEND]; omega)))
  · rfl

theorem pointGates_gateFace (s : Dev) {p : Nat} (h8 : p < 8) (b : Nat) : gateFace p (s.pointGates p b) = gateFace p s := by
  unfold pointGates
  split
  · exact (changeGates_gateFace _ h8 _ b _ 0).trans (countCycles_gateFace s p)
  · exact put_gateFace s b fun h => h.2.2.1 rfl

theorem changePointReached_gateFace {s : Dev} {p : Nat} (h8 : p < 8) (hp : s.bit (Reg.GTE_GCL_CTL.SWAP_PEND p) = true) (hn : s.pendingPoint p ≤ s.now) :
    gateFace p (s.changePointReached p) = gateFace p (s.pointTaken p) := by
  rw [changePointReached_eq hp hn]
  exact (slotBankChange_gateFace _ p).trans ((retestQueues_gateFace _ h8).trans (pointGates_gateFace _ h8 _))

theorem gclCtl_ne_status (p : Nat) : Reg.GTE_GCL_CTL p ≠ statusAddr bGTE := by
  simp only [show statusAddr bGTE = 0xD0008 from rfl, Reg.GTE_GCL_CTL]
  omega

theorem pointTaken_active (s : Dev) (p : Nat) : (s.pointTaken p).gclActive p = 1 - s.gclActive p :=
  (get_put_addr _ (statusBit bGTE p) (Reg.GTE_GCL_CTL.ACTIVE p) 1 (gclCtl_ne_status p)).trans <|
    (get_put_bits _ (Reg.GTE_GCL_CTL.SWAP_PEND p) (Reg.GTE_GCL_CTL.ACTIVE p) 0 (by decide : 4 + 1 ≤ 32) rfl (.inl (by decide : 1 + 1 ≤ 4))).trans <|
    (get_put_same s (Reg.GTE_GCL_CTL.ACTIVE p) _ (by decide : 1 + 1 ≤ 32)).trans (Nat.mod_eq_of_lt (show 1 - s.gclActive p < 2 by omega))

theorem pointTaken_pend (s : Dev) (p : Nat) : (s.pointTaken p).bit (Reg.GTE_GCL_CTL.SWAP_PEND p) = false :=
  (bit_put_addr _ (f := statusBit bGTE p) (g := Reg.GTE_GCL_CTL.SWAP_PEND p) 1 (gclCtl_ne_status p)).trans (bit_put_same _ _ 0 (by decide : 4 + 1 ≤ 32) rfl)

theorem pointTaken_event (s : Dev) {p : Nat} (h8 : p < 8) : (s.pointTaken p).bit (statusBit bGTE p) = true := bit_put_statusBit _ bGTE p 1 (by omega)

theorem portCtl_ne (p : Nat) : Reg.GTE_PORT_CTL p ≠ Reg.GTE_GCL_CTL p ∧ Reg.GTE_PORT_CTL p ≠ statusAddr bGTE := by
  simp only [show statusAddr bGTE = 0xD0008 from rfl, Reg.GTE_PORT_CTL, Reg.GTE_GCL_CTL]
  omega

theorem pointTaken_gateEn (s : Dev) (p : Nat) : (s.pointTaken p).bit (Reg.GTE_PORT_CTL.GATE_EN p) = s.bit (Reg.GTE_PORT_CTL.GATE_EN p) := by
  obtain ⟨hctl, hst⟩ := portCtl_ne p
  exact (bit_put_addr _ (f := statusBit bGTE p) (g := Reg.GTE_PORT_CTL.GATE_EN p) 1 hst).trans
    ((bit_put_addr _ (f := Reg.GTE_GCL_CTL.SWAP_PEND p) (g := Reg.GTE_PORT_CTL.GATE_EN p) 0 hctl).trans
      (bit_put_addr _ (f := Reg.GTE_GCL_CTL.ACTIVE p) (g := Reg.GTE_PORT_CTL.GATE_EN p) _ hctl))

theorem pointTaken_gating (s : Dev) (p : Nat) : ((s.pointTaken p).port p).gating = s.bit (Reg.GTE_PORT_CTL.GATE_EN p) :=
  (modPort_reads _ p _ Port.gating fun _ _ _ => rfl).trans (pointTaken_gateEn s p)

theorem changePointReached_shows {s : Dev} {p : Nat} (h8 : p < 8) (hp : s.bit (Reg.GTE_GCL_CTL.SWAP_PEND p) = true) (hn : s.pendingPoint p ≤ s.now) :
    (s.changePointReached p).gclActive p = 1 - s.gclActive p ∧ (s.changePointReached p).bit (Reg.GTE_GCL_CTL.SWAP_PEND p) = false
      ∧ (s.changePointReached p).bit (statusBit bGTE p) = true ∧ (s.changePointReached p).gating p = s.bit (Reg.GTE_PORT_CTL.GATE_EN p) := by
  have hface := changePointReached_gateFace h8 hp hn
  refine ⟨(get_of_gateFace hface (gclCtl_gateWord h8)).trans (pointTaken_active s p), (bit_of_gateFace hface (gclCtl_gateWord h8)).trans (pointTaken_pend s p),
    (bit_of_gateFace hface (status_gateWord p)).trans (pointTaken_event s h8), ?_⟩
  rw [gating, bit_of_gateFace hface (portCtl_gateWord h8), gating_of_gateFace hface, pointTaken_gateEn, pointTaken_gating, Bool.and_self]

/-! ### GATE_EN (R115, R129) -/

/-- GATE_EN at 0, a swap whose change point falls in this core clock ended, and no list running; the gates are still as they were (R115, R129). -/
def gatingEnded (s : Dev) (p : Nat) : Dev :=
  ((s.putBit (Reg.GTE_PORT_CTL.GATE_EN p) false).when
    (s.bit (Reg.GTE_PORT_CTL.GATE_EN p) && (s.bit (Reg.GTE_GCL_CTL.SWAP_PEND p) && Nat.blt (s.pendingPoint p) (s.now + 81920)))
    fun s => s.put (Reg.GTE_GCL_CTL.SWAP_PEND p) 0).modPort p fun x => { x with gating := false, freezeTill := none }

theorem gateEnWrite_false (s : Dev) (p : Nat) : s.gateEnWrite p false = (s.gatingEnded p).changeGates p 0 ((s.gatingEnded p).gclActive p) 0xFF 0 := rfl

theorem gateEnWrite_true (s : Dev) (p : Nat) : s.gateEnWrite p true =
    (s.put (Reg.GTE_PORT_CTL.GATE_EN p) 1).when (!s.bit (Reg.GTE_PORT_CTL.GATE_EN p)) fun s => s.modPort p fun x => { x with gating := false } := rfl

theorem gatingEnded_gateEn (s : Dev) (p : Nat) : (s.gatingEnded p).bit (Reg.GTE_PORT_CTL.GATE_EN p) = false :=
  (bit_of_word (f := Reg.GTE_PORT_CTL.GATE_EN p) (word_when _ (word_put_other _ (Reg.GTE_GCL_CTL.SWAP_PEND p) 0 _ (portCtl_ne p).1))).trans
    (bit_put_same s (Reg.GTE_PORT_CTL.GATE_EN p) 0 (by decide : 0 + 1 ≤ 32) rfl)

theorem gateEnWrite_false_gateEn (s : Dev) {p : Nat} (h8 : p < 8) : (s.gateEnWrite p false).bit (Reg.GTE_PORT_CTL.GATE_EN p) = false := by
  rw [gateEnWrite_false, bit_of_gateFace (changeGates_gateFace _ h8 _ _ _ _) (portCtl_gateWord h8), gatingEnded_gateEn]

/-- With GATE_EN 0 every gate is open, at every instant (R115). -/
theorem gatesAt_of_gateEn {s : Dev} {p : Nat} (h : s.bit (Reg.GTE_PORT_CTL.GATE_EN p) = false) (t : Nat) : s.gatesAt p t = 0xFF := by
  rw [gatesAt, gating, h]
  rfl

theorem gateEnWrite_true_gateEn (s : Dev) (p : Nat) : (s.gateEnWrite p true).bit (Reg.GTE_PORT_CTL.GATE_EN p) = true := by
  rw [gateEnWrite_true]
  exact (bit_of_word (f := Reg.GTE_PORT_CTL.GATE_EN p) (word_when _ rfl)).trans (bit_put_same s _ 1 (by decide : 0 + 1 ≤ 32) rfl)

theorem word_gateEnWrite_true (s : Dev) {p k : Nat} (h : k ≠ Reg.GTE_PORT_CTL p) : (s.gateEnWrite p true).word k = s.word k := by
  rw [gateEnWrite_true]
  exact (word_when _ rfl).trans (word_put_other s _ 1 k h)

/-- A list that runs goes on; one that does not waits for the next bank change (R115). -/
theorem gateEnWrite_true_gating (s : Dev) (p : Nat) : (s.gateEnWrite p true).gating p = s.gating p := by
  rw [gating, gateEnWrite_true_gateEn, Bool.true_and, gateEnWrite_true, gating]
  cases s.bit (Reg.GTE_PORT_CTL.GATE_EN p)
  · rw [Bool.not_false, when_true, Bool.false_and, modPort_reads _ p _ Port.gating fun _ _ _ => rfl]
  · rw [Bool.not_true, when_false, Bool.true_and, port_put]

/-! ### Shapers (R127) -/

/-- The credit that a class has after a write to its shaper. -/
def creditReset (s : Dev) (p c : Nat) : Credit :=
  { credit := if s.bit (Reg.GTE_CBS_CTL.RESET_FULL p c) then s.getS (Reg.GTE_CBS_HI.HI p c) * (65536 * 1000000) else 0
    at' := s.smooth, fresh := s.bit (Reg.GTE_CBS_CTL.RESET_FULL p c) }

theorem shaperWrite_eq (s : Dev) (p c reg : Nat) (v : Word) : s.shaperWrite p c reg v =
    { s.writeFields bGTE (shaperKey p c reg) v with
      credits := Tab.set (fun _ => {}) s.credits (8 * p + c) ((s.writeFields bGTE (shaperKey p c reg) v).creditReset p c) } := rfl

theorem word_shaperWrite (s : Dev) (p c reg : Nat) (v : Word) (k : Nat) : (s.shaperWrite p c reg v).word k = (s.writeFields bGTE (shaperKey p c reg) v).word k := rfl

theorem credit_shaperWrite (s : Dev) (p c reg : Nat) (v : Word) :
    (s.shaperWrite p c reg v).credit p c = (s.writeFields bGTE (shaperKey p c reg) v).creditReset p c := by
  rw [shaperWrite_eq, credit]
  exact Tab.get_set_same _ _ _ _

theorem smooth_writeFields_shaper (s : Dev) (p c reg : Nat) (v : Word) : (s.writeFields bGTE (shaperKey p c reg) v).smooth = s.smooth := by
  have hbit : (s.writeFields bGTE (shaperKey p c reg) v).bit (statusBit bTIM 3) = s.bit (statusBit bTIM 3) :=
    bit_of_word (word_writeFields_other s bGTE v (by simp only [show (statusBit bTIM 3).addr = 0x20008 from rfl, shaperKey, Reg.GTE_CBS_CTL]; omega))
  rw [smooth, smooth, stepless, stepless, dist40, dist40, hbit]
  rfl

@[simp] theorem credit_settle (old s : Dev) (p c : Nat) : (settle old s).credit p c = s.credit p c := by simp [credit]

end Dev

/-! ### The commands -/

theorem exec_gateStateChange (p : Fin 8) (s : State) : exec (.gateStateChange p) s = devStep (·.gateChange p) s := rfl
theorem exec_gclSwap (p : Fin 8) (s : State) : exec (.gclSwap p) s = devStep (fun d => d.hostGate bGTE (Reg.GTE_GCL_CTL p) 1 (·.gclSwap p)) s := rfl
theorem exec_changePoint (p : Fin 8) (s : State) : exec (.changePoint p) s = devStep (·.changePointReached p) s := rfl
theorem exec_gateEnWrite (p : Fin 8) (en : Bool) (s : State) : exec (.gateEnWrite p en) s =
    devStep (fun d => d.hostGate bGTE (Reg.GTE_PORT_CTL p) (BitVec.ofNat 32 (fieldSet (d.word (Reg.GTE_PORT_CTL p)).toNat 0 1 en.toNat)) (·.gateEnWrite p en)) s := rfl
theorem exec_shaperWrite (p c : Fin 8) (reg : Fin 4) (v : Word) (s : State) : exec (.shaperWrite p c reg v) s =
    devStep (fun d => d.hostGate bGTE (Dev.shaperKey p c reg) v (·.shaperWrite p c reg v)) s := rfl

theorem gateStateChange_answers (s : State) (p : Fin 8) (hg : s.dev.gating p = true) (hf : (s.dev.port p).freezeTill = none) :
    Answers (.gateStateChange p) s fun t =>
      t.dev.get (Reg.GTE_CUR_ENTRY.GATE_STATE p) = ((s.dev.schedule p (s.dev.gclActive p)).at s.dev.now).2 % 2 ^ 8
        ∧ t.dev.get (Reg.GTE_CUR_ENTRY.ENTRY p) = ((s.dev.schedule p (s.dev.gclActive p)).at s.dev.now).1 % 2 ^ 10
        ∧ t.dev.get (Reg.GTE_CUR_ENTRY.BANK p) = s.dev.gclActive p ∧ s.sameMem t := by
  obtain ⟨hgates, hentry, hbank⟩ := Dev.gateChange_shows (s := s.dev.fresh) p.isLt hg hf
  refine answers_devStep (exec_gateStateChange p s) ⟨?_, ?_, ?_, rfl, rfl⟩
  · rw [Dev.get_settle]
    exact hgates
  · rw [Dev.get_settle]
    exact hentry
  · rw [Dev.get_settle]
    exact hbank

section
variable {s : State} {p : Fin 8} (hb : s.dev.blockOn bGTE = true) (hr : s.dev.hostRefused (Reg.GTE_GCL_CTL p) = false)
  (hp : s.dev.bit (Reg.GTE_GCL_CTL.SWAP_PEND p) = false)
include hb hr hp

theorem gclSwap_admitted_answers (hc : s.dev.gteCheck p (1 - s.dev.gclActive p) = none) :
    Answers (.gclSwap p) s fun t => t.dev.bit (Reg.GTE_GCL_CTL.SWAP_PEND p) = true ∧ (t.dev.port p).swapAt = s.dev.now
      ∧ (∀ k, k ≠ Reg.GTE_GCL_CTL p → t.dev.word k = s.dev.word k) ∧ s.sameMem t := by
  refine answers_hostGate (exec_gclSwap p s) hb hr ?_
  rw [Dev.gclSwap_admits (s := s.dev.fresh) hp hc]
  refine ⟨?_, ?_, fun k hk => ?_, rfl, rfl⟩
  · rw [Dev.bit_settle]
    exact Dev.bit_put_same s.dev.fresh (Reg.GTE_GCL_CTL.SWAP_PEND p) 1 (by decide : 4 + 1 ≤ 32) rfl
  · rw [Dev.port_settle]
    exact Dev.modPort_reads _ p _ Port.swapAt fun _ _ _ => rfl
  · rw [Dev.word_settle]
    exact Dev.word_put_other s.dev.fresh (Reg.GTE_GCL_CTL.SWAP_PEND p) 1 k hk

theorem gclSwap_refused_answers (code q c : Nat) (hc : s.dev.gteCheck p (1 - s.dev.gclActive p) = some (code, q, c)) :
    Answers (.gclSwap p) s fun t => t.dev.word Reg.GTE_ADMIT = BitVec.ofNat 32 (c * 2 ^ 20 + q * 2 ^ 16 + code)
      ∧ s.dev.onlyWords (· = Reg.GTE_ADMIT) t.dev ∧ s.sameMem t := by
  refine answers_hostGate (exec_gclSwap p s) hb hr ?_
  rw [Dev.gclSwap_refuses (s := s.dev.fresh) hp hc]
  refine ⟨?_, (Dev.WordOnly.setWord (· = Reg.GTE_ADMIT) s.dev.fresh _ _ rfl).settled _, rfl, rfl⟩
  rw [Dev.word_settle, Dev.gteRefuse, Dev.word_setWord_same]

end

theorem changePoint_answers (s : State) (p : Fin 8) (hp : s.dev.bit (Reg.GTE_GCL_CTL.SWAP_PEND p) = true) (hn : s.dev.pendingPoint p ≤ s.dev.now) :
    Answers (.changePoint p) s fun t => t.dev.gclActive p = 1 - s.dev.gclActive p ∧ t.dev.bit (Reg.GTE_GCL_CTL.SWAP_PEND p) = false
      ∧ t.dev.bit (statusBit bGTE p) = true ∧ t.dev.gating p = s.dev.bit (Reg.GTE_PORT_CTL.GATE_EN p) ∧ s.sameMem t := by
  obtain ⟨hact, hpend, hevent, hgating⟩ := Dev.changePointReached_shows (s := s.dev.fresh) p.isLt hp hn
  refine answers_devStep (exec_changePoint p s) ⟨?_, ?_, ?_, ?_, rfl, rfl⟩
  · rw [Dev.gclActive, Dev.get_settle]
    exact hact
  · rw [Dev.bit_settle]
    exact hpend
  · rw [Dev.bit_settle]
    exact hevent
  · rw [Dev.gating, Dev.bit_settle, Dev.port_settle]
    exact hgating

section
variable {s : State} {p : Fin 8} (hb : s.dev.blockOn bGTE = true) (hr : s.dev.hostRefused (Reg.GTE_PORT_CTL p) = false)
include hb hr

theorem gateEnWrite_false_answers : Answers (.gateEnWrite p false) s fun t => t.dev.bit (Reg.GTE_PORT_CTL.GATE_EN p) = false ∧ t.dev.gatesAt p t.dev.now = 0xFF
    ∧ t.dev.get (Reg.GTE_CUR_ENTRY.GATE_STATE p) = 0xFF ∧ s.sameMem t := by
  have hen : (Dev.settle s.dev.fresh (s.dev.fresh.gateEnWrite p false)).bit (Reg.GTE_PORT_CTL.GATE_EN p) = false := by
    rw [Dev.bit_settle, Dev.gateEnWrite_false_gateEn _ p.isLt]
  refine answers_hostGate (exec_gateEnWrite p false s) hb hr ⟨hen, Dev.gatesAt_of_gateEn hen _, ?_, rfl, rfl⟩
  rw [Dev.get_settle, Dev.gateEnWrite_false]
  exact (Dev.changeGates_shows (s.dev.fresh.gatingEnded p) p.isLt 0 _ 0xFF 0).1

theorem gateEnWrite_true_answers : Answers (.gateEnWrite p true) s fun t => t.dev.bit (Reg.GTE_PORT_CTL.GATE_EN p) = true ∧ t.dev.gating p = s.dev.gating p
    ∧ (∀ k, k ≠ Reg.GTE_PORT_CTL p → t.dev.word k = s.dev.word k) ∧ s.sameMem t := by
  refine answers_hostGate (exec_gateEnWrite p true s) hb hr ⟨?_, ?_, fun k hk => ?_, rfl, rfl⟩
  · rw [Dev.bit_settle, Dev.gateEnWrite_true_gateEn]
  · rw [Dev.gating, Dev.bit_settle, Dev.port_settle]
    exact Dev.gateEnWrite_true_gating s.dev.fresh p
  · rw [Dev.word_settle, Dev.word_gateEnWrite_true _ hk, Dev.word_fresh]

end

theorem shaperWrite_answers (s : State) (p c : Fin 8) (reg : Fin 4) (v : Word) (hb : s.dev.blockOn bGTE = true) (hr : s.dev.hostRefused (Dev.shaperKey p c reg) = false) :
    Answers (.shaperWrite p c reg v) s fun t => t.dev.word (Dev.shaperKey p c reg) = s.dev.written bGTE (Dev.shaperKey p c reg) v
      ∧ (t.dev.credit p c).credit = (if t.dev.bit (Reg.GTE_CBS_CTL.RESET_FULL p c) then t.dev.getS (Reg.GTE_CBS_HI.HI p c) * (65536 * 1000000) else 0)
      ∧ (t.dev.credit p c).at' = s.dev.smooth ∧ (∀ k, k ≠ Dev.shaperKey p c reg → t.dev.word k = s.dev.word k) ∧ s.sameMem t := by
  refine answers_hostGate (exec_shaperWrite p c reg v s) hb hr ⟨?_, ?_, ?_, fun k hk => ?_, rfl, rfl⟩
  · rw [Dev.word_settle, Dev.word_shaperWrite, Dev.word_writeFields]
    rfl
  · rw [Dev.credit_settle, Dev.credit_shaperWrite, Dev.bit_settle, Dev.getS, Dev.get_settle]
    rfl
  · rw [Dev.credit_settle, Dev.credit_shaperWrite]
    exact Dev.smooth_writeFields_shaper s.dev.fresh p c reg v
  · rw [Dev.word_settle, Dev.word_shaperWrite]
    exact Dev.word_writeFields_other s.dev.fresh bGTE v hk

/-- Settles O30: the closes and drops of a change of gates leave the Reef's words but the entry in force and the count of cycles, so the banks, the swap and GATE_EN stand as the command wrote them. -/
theorem gateLists : Obligations.GateLists :=
  ⟨gateStateChange_answers, fun _ _ hb hr hp => ⟨gclSwap_admitted_answers hb hr hp, gclSwap_refused_answers hb hr hp⟩, changePoint_answers,
    fun _ _ hb hr => ⟨gateEnWrite_false_answers hb hr, gateEnWrite_true_answers hb hr⟩, shaperWrite_answers⟩

end Sys2Proof.Machine
end


section
/-! SUPPORT. Verification of pre-emption (R121, R431, R432): mPackets sent and received, the time-out, the configuration write. -/

namespace Sys2Proof.Machine

namespace Dev

/-! ### mPackets sent and received (R121, R431) -/

/-- A verify mPacket is out, an attempt is counted, and its VERIFY_TIME runs. -/
def verifySent (s : Dev) (p : Nat) : Dev :=
  (s.emit (.mpacket p false)).modPort p fun x => { x with verifyDue := false, attempts := x.attempts + 1, verifyAt := some s.up, mpTill := s.mpacketEnd p }

/-- A respond mPacket is out. -/
def respondSent (s : Dev) (p : Nat) : Dev := (s.emit (.mpacket p true)).modPort p fun x => { x with respondDue := false, mpTill := s.mpacketEnd p }

theorem verifySend_eq {s : Dev} {p : Nat} (hb : s.blockOn (bPRT p) = true) (hok : s.mpacketOk p = true) (hd : (s.port p).verifyDue = true) :
    s.verifySend p = s.verifySent p := by
  rw [verifySend, atBlock_on _ _ _ hb]
  exact if_pos (by rw [hd, hok]; rfl)

theorem respondSend_eq {s : Dev} {p : Nat} (hb : s.blockOn (bPRT p) = true) (hok : s.mpacketOk p = true) (hd : (s.port p).respondDue = true) :
    s.respondSend p = s.respondSent p := by
  rw [respondSend, atBlock_on _ _ _ hb]
  exact if_pos (by rw [hd, hok]; rfl)

theorem verifySent_port (s : Dev) (p : Nat) : ((s.verifySent p).port p).verifyDue = false ∧ ((s.verifySent p).port p).attempts = (s.port p).attempts + 1
    ∧ ((s.verifySent p).port p).verifyAt = some s.up ∧ ((s.verifySent p).port p).mpTill = s.mpacketEnd p := by
  obtain ⟨i, b, h⟩ := modPort_port (s.emit (.mpacket p false)) p fun x =>
    { x with verifyDue := false, attempts := x.attempts + 1, verifyAt := some s.up, mpTill := s.mpacketEnd p }
  rw [verifySent, h]
  exact ⟨rfl, rfl, rfl, rfl⟩

theorem respondSent_port (s : Dev) (p : Nat) : ((s.respondSent p).port p).respondDue = false ∧ ((s.respondSent p).port p).mpTill = s.mpacketEnd p := by
  obtain ⟨i, b, h⟩ := modPort_port (s.emit (.mpacket p true)) p fun x => { x with respondDue := false, mpTill := s.mpacketEnd p }
  rw [respondSent, h]
  exact ⟨rfl, rfl⟩

theorem verifyReceived_eq {s : Dev} {p : Nat} (hb : s.blockOn (bPRT p) = true) (he : s.bit (Reg.GTE_PREEMPT.EN p) = true) :
    s.verifyReceived p = s.modPort p fun x => { x with respondDue := true } := by
  rw [verifyReceived, atBlock_on _ _ _ hb, he, when_true]

/-- VERIFY_STATE takes a value with the event bit of verification set. -/
def verifyEnds (s : Dev) (p st : Nat) : Dev := (s.put (Reg.GTE_PREEMPT_STAT.VERIFY_STATE p) st).raise bGTE (8 + p)

theorem preemptStat_ne_status (p : Nat) : Reg.GTE_PREEMPT_STAT p ≠ statusAddr bGTE := by
  simp only [show statusAddr bGTE = 0xD0008 from rfl, Reg.GTE_PREEMPT_STAT]
  omega

theorem put_verifyState (s : Dev) (p st : Nat) : (s.put (Reg.GTE_PREEMPT_STAT.VERIFY_STATE p) st).get (Reg.GTE_PREEMPT_STAT.VERIFY_STATE p) = st % 2 ^ 3 :=
  get_put_same s _ st (by decide : 0 + 3 ≤ 32)

theorem verifyEnds_state (s : Dev) (p st : Nat) : (s.verifyEnds p st).get (Reg.GTE_PREEMPT_STAT.VERIFY_STATE p) = st % 2 ^ 3 :=
  (get_put_addr _ (statusBit bGTE (8 + p)) (Reg.GTE_PREEMPT_STAT.VERIFY_STATE p) 1 (preemptStat_ne_status p)).trans (put_verifyState s p st)

theorem raise_verifyEvent (s : Dev) {p : Nat} (h8 : p < 8) : (s.raise bGTE (8 + p)).bit (statusBit bGTE (8 + p)) = true := bit_put_statusBit s bGTE (8 + p) 1 (by omega)

theorem word_verifyEnds (s : Dev) {p k : Nat} (st : Nat) (h1 : k ≠ Reg.GTE_PREEMPT_STAT p) (h2 : k ≠ statusAddr bGTE) : (s.verifyEnds p st).word k = s.word k :=
  (word_put_other _ (statusBit bGTE (8 + p)) 1 k h2).trans (word_put_other s (Reg.GTE_PREEMPT_STAT.VERIFY_STATE p) st k h1)

theorem respondReceived_eq {s : Dev} {p : Nat} (hb : s.blockOn (bPRT p) = true) (he : s.bit (Reg.GTE_PREEMPT.EN p) = true)
    (hd : s.bit (Reg.GTE_PREEMPT.VERIFY_DIS p) = false) (hs : s.get (Reg.GTE_PREEMPT_STAT.VERIFY_STATE p) = 2) :
    s.respondReceived p = (s.verifyEnds p 3).modPort p fun x => { x with verifyDue := false, verifyAt := none } := by
  rw [respondReceived, atBlock_on _ _ _ hb]
  exact if_pos (by rw [he, hd, hs]; rfl)

/-! ### The time-out (R121) -/

/-- VERIFY_STATE shows FAILED and no interval runs, before the event is recorded. -/
def verifyFailed (s : Dev) (p : Nat) : Dev := (s.put (Reg.GTE_PREEMPT_STAT.VERIFY_STATE p) 4).modPort p fun x => { x with verifyAt := none }

section
variable {s : Dev} {p t0 : Nat} (hb : s.blockOn (bPRT p) = true) (ha : (s.port p).verifyAt = some t0)
  (hs : s.get (Reg.GTE_PREEMPT_STAT.VERIFY_STATE p) = 2) (ht : t0 + s.verifyMs p * 1000000 ≤ s.up)
include hb ha hs ht

theorem verifyTimeout_eq : s.verifyTimeout p =
    if (s.port p).attempts < 3 then s.modPort p fun x => { x with verifyDue := true, verifyAt := none }
    else ((s.verifyFailed p).fault bGTE 1).raise bGTE (8 + p) := by
  have hdue : ¬ (s.get (Reg.GTE_PREEMPT_STAT.VERIFY_STATE p) ≠ 2 ∨ s.up < t0 + s.verifyMs p * 1000000) := by
    rintro (h | h)
    · exact h hs
    · omega
  rw [verifyTimeout, atBlock_on _ _ _ hb, ha]
  exact if_neg hdue

theorem verifyTimeout_again (h : (s.port p).attempts < 3) : s.verifyTimeout p = s.modPort p fun x => { x with verifyDue := true, verifyAt := none } := by
  rw [verifyTimeout_eq hb ha hs ht, if_pos h]

theorem verifyTimeout_last (h : 3 ≤ (s.port p).attempts) : s.verifyTimeout p = ((s.verifyFailed p).fault bGTE 1).raise bGTE (8 + p) := by
  rw [verifyTimeout_eq hb ha hs ht, if_neg (Nat.not_lt.mpr h)]

end

theorem not_faultWords_preemptStat {p : Nat} (h8 : p < 8) : ¬ faultWords bGTE (Reg.GTE_PREEMPT_STAT p) := by
  have hw : ∀ k, faultWords bGTE k → k = 0xD0020 ∨ 0x280000 ≤ k := by
    rintro k (rfl | rfl | rfl | rfl | rfl) <;> decide
  intro h
  have := hw _ h
  simp only [Reg.GTE_PREEMPT_STAT] at this
  omega

theorem verifyFailed_recorded_state (s : Dev) {p : Nat} (h8 : p < 8) :
    (((s.verifyFailed p).fault bGTE 1).raise bGTE (8 + p)).get (Reg.GTE_PREEMPT_STAT.VERIFY_STATE p) = 4 :=
  (get_put_addr _ (statusBit bGTE (8 + p)) (Reg.GTE_PREEMPT_STAT.VERIFY_STATE p) 1 (preemptStat_ne_status p)).trans
    ((get_fault _ bGTE 1 (Reg.GTE_PREEMPT_STAT.VERIFY_STATE p) (not_faultWords_preemptStat h8)).trans (put_verifyState s p 4))

theorem verifyFailed_recorded_sticky (s : Dev) (p : Nat) : (((s.verifyFailed p).fault bGTE 1).raise bGTE (8 + p)).bit (stickyBit bGTE 1) = true :=
  (bit_put_addr _ (f := statusBit bGTE (8 + p)) (g := stickyBit bGTE 1) 1 (show stickyAddr bGTE ≠ statusAddr bGTE by decide)).trans
    (fault_sticky _ bGTE 1 (by decide) (by decide))

/-! ### The configuration write (R121) -/

/-- Verification is idle, and with EN 0 no respond mPacket is due. -/
def verifyIdle (s : Dev) (p : Nat) : Dev :=
  ((s.put (Reg.GTE_PREEMPT_STAT.VERIFY_STATE p) 0).modPort p fun x => { x with verifyDue := false, verifyAt := none }).when (!s.bit (Reg.GTE_PREEMPT.EN p))
    fun s => s.modPort p fun x => { x with respondDue := false }

/-- Verification starts where the link is up, and waits for it otherwise. -/
def verifyDemanded (s : Dev) (p : Nat) : Dev := if s.linkUp p then s.verifyStart p else s.put (Reg.GTE_PREEMPT_STAT.VERIFY_STATE p) 1

/-- What follows a write of GTE_PREEMPT, from the values of EN and VERIFY_DIS before it. -/
def verifyFollows (s : Dev) (p : Nat) (en0 dis0 : Bool) : Dev :=
  if ¬ s.bit (Reg.GTE_PREEMPT.EN p) = true ∨ s.bit (Reg.GTE_PREEMPT.VERIFY_DIS p) = true then s.verifyIdle p
  else if ¬ en0 = true ∨ dis0 = true then s.verifyDemanded p else s

theorem preemptCfgWrite_eq (s : Dev) (p : Nat) (v : Word) : s.preemptCfgWrite p v =
    (s.writeFields bGTE (Reg.GTE_PREEMPT p) v).verifyFollows p (s.bit (Reg.GTE_PREEMPT.EN p)) (s.bit (Reg.GTE_PREEMPT.VERIFY_DIS p)) := rfl

theorem verifyIdle_state (s : Dev) (p : Nat) : (s.verifyIdle p).get (Reg.GTE_PREEMPT_STAT.VERIFY_STATE p) = 0 :=
  (get_of_word (word_when _ rfl)).trans (put_verifyState s p 0)

theorem verifyDemanded_state (s : Dev) (p : Nat) : (s.verifyDemanded p).get (Reg.GTE_PREEMPT_STAT.VERIFY_STATE p) = if s.linkUp p then 2 else 1 := by
  unfold verifyDemanded
  split
  · exact put_verifyState s p 2
  · exact put_verifyState s p 1

theorem verifyFollows_state (s : Dev) (p : Nat) (en0 dis0 : Bool) : (s.verifyFollows p en0 dis0).get (Reg.GTE_PREEMPT_STAT.VERIFY_STATE p) =
    if s.bit (Reg.GTE_PREEMPT.EN p) = false ∨ s.bit (Reg.GTE_PREEMPT.VERIFY_DIS p) = true then 0
    else if en0 = true ∧ dis0 = false then s.get (Reg.GTE_PREEMPT_STAT.VERIFY_STATE p) else if s.linkUp p then 2 else 1 := by
  have hidle : (s.bit (Reg.GTE_PREEMPT.EN p) = false ∨ s.bit (Reg.GTE_PREEMPT.VERIFY_DIS p) = true)
      ↔ (¬ s.bit (Reg.GTE_PREEMPT.EN p) = true ∨ s.bit (Reg.GTE_PREEMPT.VERIFY_DIS p) = true) := by rw [Bool.not_eq_true]
  have hkept : (en0 = true ∧ dis0 = false) ↔ ¬ (¬ en0 = true ∨ dis0 = true) := by rw [not_or, not_not, Bool.not_eq_true]
  simp only [verifyFollows, hidle, hkept, ite_not]
  split
  · exact verifyIdle_state s p
  · split
    · exact verifyDemanded_state s p
    · rfl

theorem word_verifyFollows (s : Dev) {p k : Nat} (en0 dis0 : Bool) (h : k ≠ Reg.GTE_PREEMPT_STAT p) : (s.verifyFollows p en0 dis0).word k = s.word k := by
  have hput : ∀ v, (s.put (Reg.GTE_PREEMPT_STAT.VERIFY_STATE p) v).word k = s.word k := fun v => word_put_other s _ v k h
  unfold verifyFollows verifyDemanded
  split_ifs
  · exact (word_when _ rfl).trans (hput 0)
  · exact hput 2
  · exact hput 1
  · rfl

theorem preempt_ne_stat (p : Nat) : Reg.GTE_PREEMPT p ≠ Reg.GTE_PREEMPT_STAT p := by
  simp only [Reg.GTE_PREEMPT, Reg.GTE_PREEMPT_STAT]
  omega

theorem word_preemptCfgWrite (s : Dev) (p : Nat) (v : Word) {k : Nat} (h : k ≠ Reg.GTE_PREEMPT_STAT p) :
    (s.preemptCfgWrite p v).word k = (s.writeFields bGTE (Reg.GTE_PREEMPT p) v).word k := by
  rw [preemptCfgWrite_eq, word_verifyFollows _ _ _ h]

/-- The state of verification after a write, from the configuration that it leaves (R121). -/
theorem preemptCfgWrite_state (s : Dev) {p : Nat} (h8 : p < 8) (v : Word) : (s.preemptCfgWrite p v).get (Reg.GTE_PREEMPT_STAT.VERIFY_STATE p) =
    if (s.preemptCfgWrite p v).bit (Reg.GTE_PREEMPT.EN p) = false ∨ (s.preemptCfgWrite p v).bit (Reg.GTE_PREEMPT.VERIFY_DIS p) = true then 0
    else if s.bit (Reg.GTE_PREEMPT.EN p) = true ∧ s.bit (Reg.GTE_PREEMPT.VERIFY_DIS p) = false then s.get (Reg.GTE_PREEMPT_STAT.VERIFY_STATE p)
    else if s.linkUp p then 2 else 1 := by
  have hcfg := word_preemptCfgWrite s p v (preempt_ne_stat p)
  have hstat : (s.writeFields bGTE (Reg.GTE_PREEMPT p) v).get (Reg.GTE_PREEMPT_STAT.VERIFY_STATE p) = s.get (Reg.GTE_PREEMPT_STAT.VERIFY_STATE p) :=
    get_of_word (word_writeFields_other s bGTE v (preempt_ne_stat p).symm)
  have hstatus : statusAddr (bPRT p) ≠ Reg.GTE_PREEMPT p := by
    rw [statusAddr_bPRT h8, Reg.GTE_PREEMPT]
    omega
  have hlink : (s.writeFields bGTE (Reg.GTE_PREEMPT p) v).linkUp p = s.linkUp p := bit_of_word (f := prtBit p 1) (word_writeFields_other s bGTE v hstatus)
  rw [bit_of_word (f := Reg.GTE_PREEMPT.EN p) hcfg, bit_of_word (f := Reg.GTE_PREEMPT.VERIFY_DIS p) hcfg, preemptCfgWrite_eq, verifyFollows_state, hstat, hlink]

end Dev

/-! ### The commands -/

theorem exec_verifyMpacketSend (p : Fin 8) (s : State) : exec (.verifyMpacketSend p) s = devStep (·.verifySend p) s := rfl
theorem exec_respondMpacketSend (p : Fin 8) (s : State) : exec (.respondMpacketSend p) s = devStep (·.respondSend p) s := rfl
theorem exec_verifyMpacketReceived (p : Fin 8) (s : State) : exec (.verifyMpacketReceived p) s = devStep (·.verifyReceived p) s := rfl
theorem exec_respondMpacketReceived (p : Fin 8) (s : State) : exec (.respondMpacketReceived p) s = devStep (·.respondReceived p) s := rfl
theorem exec_verifyTimeout (p : Fin 8) (s : State) : exec (.verifyTimeout p) s = devStep (·.verifyTimeout p) s := rfl
theorem exec_preemptCfgWrite (p : Fin 8) (v : Word) (s : State) : exec (.preemptCfgWrite p v) s =
    devStep (fun d => d.hostGate bGTE (Reg.GTE_PREEMPT p) v (·.preemptCfgWrite p v)) s := rfl

section
variable {s : State} {p : Fin 8} (hb : s.dev.blockOn (bPRT p) = true) (hok : s.dev.mpacketOk p = true)
include hb hok

theorem verifyMpacketSend_answers (hd : (s.dev.port p).verifyDue = true) :
    Answers (.verifyMpacketSend p) s fun t => Output.mpacket p false ∈ t.dev.out ∧ (t.dev.port p).verifyDue = false
      ∧ (t.dev.port p).attempts = (s.dev.port p).attempts + 1 ∧ (t.dev.port p).verifyAt = some s.dev.up ∧ (t.dev.port p).mpTill = s.dev.mpacketEnd p
      ∧ (∀ k, t.dev.word k = s.dev.word k) ∧ s.sameMem t := by
  refine answers_devStep (exec_verifyMpacketSend p s) ?_
  rw [Dev.verifySend_eq (s := s.dev.fresh) hb hok hd, Dev.port_settle]
  obtain ⟨hdue, hatt, hat, htill⟩ := Dev.verifySent_port s.dev.fresh p
  exact ⟨Dev.mem_settle_out _ _ _ (List.mem_singleton_self _), hdue, hatt, hat, htill, fun k => Dev.word_settle _ _ k, rfl, rfl⟩

theorem respondMpacketSend_answers (hd : (s.dev.port p).respondDue = true) :
    Answers (.respondMpacketSend p) s fun t => Output.mpacket p true ∈ t.dev.out ∧ (t.dev.port p).respondDue = false
      ∧ (t.dev.port p).mpTill = s.dev.mpacketEnd p ∧ (∀ k, t.dev.word k = s.dev.word k) ∧ s.sameMem t := by
  refine answers_devStep (exec_respondMpacketSend p s) ?_
  rw [Dev.respondSend_eq (s := s.dev.fresh) hb hok hd, Dev.port_settle]
  obtain ⟨hdue, htill⟩ := Dev.respondSent_port s.dev.fresh p
  exact ⟨Dev.mem_settle_out _ _ _ (List.mem_singleton_self _), hdue, htill, fun k => Dev.word_settle _ _ k, rfl, rfl⟩

end

theorem verifyMpacketReceived_answers (s : State) (p : Fin 8) (hb : s.dev.blockOn (bPRT p) = true) (he : s.dev.bit (Reg.GTE_PREEMPT.EN p) = true) :
    Answers (.verifyMpacketReceived p) s fun t => (t.dev.port p).respondDue = true ∧ (∀ k, t.dev.word k = s.dev.word k) ∧ s.sameMem t := by
  refine answers_devStep (exec_verifyMpacketReceived p s) ?_
  rw [Dev.verifyReceived_eq (s := s.dev.fresh) hb he, Dev.port_settle, Dev.modPort_reads s.dev.fresh p _ Port.respondDue fun _ _ _ => rfl]
  exact ⟨rfl, fun k => Dev.word_settle _ _ k, rfl, rfl⟩

theorem respondMpacketReceived_answers (s : State) (p : Fin 8) (hb : s.dev.blockOn (bPRT p) = true) (he : s.dev.bit (Reg.GTE_PREEMPT.EN p) = true)
    (hd : s.dev.bit (Reg.GTE_PREEMPT.VERIFY_DIS p) = false) (hs : s.dev.get (Reg.GTE_PREEMPT_STAT.VERIFY_STATE p) = 2) :
    Answers (.respondMpacketReceived p) s fun t => t.dev.get (Reg.GTE_PREEMPT_STAT.VERIFY_STATE p) = 3 ∧ t.dev.bit (statusBit bGTE (8 + p)) = true
      ∧ (∀ k, k ≠ Reg.GTE_PREEMPT_STAT p → k ≠ statusAddr bGTE → t.dev.word k = s.dev.word k) ∧ s.sameMem t := by
  refine answers_devStep (exec_respondMpacketReceived p s) ?_
  rw [Dev.respondReceived_eq (s := s.dev.fresh) hb he hd hs, Dev.get_settle, Dev.bit_settle]
  refine ⟨Dev.verifyEnds_state s.dev.fresh p 3, Dev.raise_verifyEvent _ p.isLt, fun k h1 h2 => ?_, rfl, rfl⟩
  rw [Dev.word_settle, Dev.word_modPort, Dev.word_verifyEnds _ 3 h1 h2, Dev.word_fresh]

section
variable {s : State} {p : Fin 8} {t0 : Nat} (hb : s.dev.blockOn (bPRT p) = true) (ha : (s.dev.port p).verifyAt = some t0)
  (hs : s.dev.get (Reg.GTE_PREEMPT_STAT.VERIFY_STATE p) = 2) (ht : t0 + s.dev.verifyMs p * 1000000 ≤ s.dev.up)
include hb ha hs ht

theorem verifyTimeout_again_answers (h : (s.dev.port p).attempts < 3) :
    Answers (.verifyTimeout p) s fun t => (t.dev.port p).verifyDue = true ∧ (∀ k, t.dev.word k = s.dev.word k) ∧ s.sameMem t := by
  refine answers_devStep (exec_verifyTimeout p s) ?_
  rw [Dev.verifyTimeout_again (s := s.dev.fresh) hb ha hs ht h, Dev.port_settle, Dev.modPort_reads s.dev.fresh p _ Port.verifyDue fun _ _ _ => rfl]
  exact ⟨rfl, fun k => Dev.word_settle _ _ k, rfl, rfl⟩

theorem verifyTimeout_last_answers (h : 3 ≤ (s.dev.port p).attempts) :
    Answers (.verifyTimeout p) s fun t => t.dev.get (Reg.GTE_PREEMPT_STAT.VERIFY_STATE p) = 4
      ∧ t.dev.bit (statusBit bGTE (8 + p)) = true ∧ t.dev.bit (stickyBit bGTE 1) = true ∧ s.sameMem t := by
  refine answers_devStep (exec_verifyTimeout p s) ?_
  rw [Dev.verifyTimeout_last (s := s.dev.fresh) hb ha hs ht h, Dev.get_settle, Dev.bit_settle, Dev.bit_settle]
  exact ⟨Dev.verifyFailed_recorded_state _ p.isLt, Dev.raise_verifyEvent _ p.isLt, Dev.verifyFailed_recorded_sticky _ p, rfl, rfl⟩

end

theorem preemptCfgWrite_answers (s : State) (p : Fin 8) (v : Word) (hb : s.dev.blockOn bGTE = true) (hr : s.dev.hostRefused (Reg.GTE_PREEMPT p) = false) :
    Answers (.preemptCfgWrite p v) s fun t => t.dev.word (Reg.GTE_PREEMPT p) = s.dev.written bGTE (Reg.GTE_PREEMPT p) v
      ∧ t.dev.get (Reg.GTE_PREEMPT_STAT.VERIFY_STATE p) =
        (if t.dev.bit (Reg.GTE_PREEMPT.EN p) = false ∨ t.dev.bit (Reg.GTE_PREEMPT.VERIFY_DIS p) = true then 0
         else if s.dev.bit (Reg.GTE_PREEMPT.EN p) = true ∧ s.dev.bit (Reg.GTE_PREEMPT.VERIFY_DIS p) = false then s.dev.get (Reg.GTE_PREEMPT_STAT.VERIFY_STATE p)
         else if s.dev.linkUp p then 2 else 1)
      ∧ (∀ k, k ≠ Reg.GTE_PREEMPT p → k ≠ Reg.GTE_PREEMPT_STAT p → t.dev.word k = s.dev.word k) ∧ s.sameMem t := by
  refine answers_hostGate (exec_preemptCfgWrite p v s) hb hr ⟨?_, ?_, fun k h1 h2 => ?_, rfl, rfl⟩
  · rw [Dev.word_settle, Dev.word_preemptCfgWrite _ _ _ (Dev.preempt_ne_stat p), Dev.word_writeFields]
    rfl
  · rw [Dev.get_settle, Dev.bit_settle, Dev.bit_settle]
    exact Dev.preemptCfgWrite_state s.dev.fresh p.isLt v
  · rw [Dev.word_settle, Dev.word_preemptCfgWrite _ _ _ h2]
    exact Dev.word_writeFields_other s.dev.fresh bGTE v h1

/-- Settles O31: each command of verification writes GTE_PREEMPT_STAT, its event bit and the port's store alone, the recorded failure its source beside them. -/
theorem preemptVerify : Obligations.PreemptVerify :=
  ⟨fun _ _ hb hok => ⟨verifyMpacketSend_answers hb hok, respondMpacketSend_answers hb hok⟩, verifyMpacketReceived_answers, respondMpacketReceived_answers,
    fun _ _ _ hb ha hs ht => ⟨verifyTimeout_again_answers hb ha hs ht, verifyTimeout_last_answers hb ha hs ht⟩, preemptCfgWrite_answers⟩

end Sys2Proof.Machine
end

section
/-! SUPPORT. The end of a latent period (R143), and why the statement on it fails: the device takes the increments of PASSED and DISCARDED as differences modulo 2^32 of integers, the statement as differences of naturals, which stop at 0. The two part where the mark of the period's start exceeds a counter by more than 2^32, a mark that no 32-bit counter leaves and that the statement does not exclude. -/

namespace Sys2Proof.Machine

/-- A command of a block that is on has one answer, the device after the block's operation. -/
theorem of_answers_atBlock {c : Instr} {s : State} {b : Nat} {f : Dev → Dev} {P : State → Prop} (he : exec c s = devStep (·.atBlock b f) s)
    (hb : s.dev.blockOn b = true) (h : Answers c s P) : P { s with dev := Dev.settle s.dev.fresh (f s.dev.fresh) } := by
  obtain ⟨t, hexec, hP⟩ := h
  injection he.symm.trans hexec with ht
  rw [← Dev.atBlock_on s.dev.fresh b f hb]
  exact ht ▸ hP

namespace Dev

/-- The increment of counter `i` of context `x` since it read `mark`, modulo 2^32 (R143). -/
def countSince (s : Dev) (x i mark : Nat) : Int := ((s.get (Reg.STM_CNT.COUNT x i) : Int) + 2 ^ 32 - mark) % 2 ^ 32

/-- The test of R143: no reset fell in the period, and the duplicates missing or in excess are more than LAT_DIFF. -/
def latentBad (s : Dev) (x : Nat) : Bool :=
  !(s.ctx x).latReset && decide ((s.get (Reg.STM_DEST.LAT_DIFF x) : Int)
    < |s.countSince x 0 (s.ctx x).latP * (max 2 (s.get (Reg.STM_DEST.LAT_PATHS x) : Int) - 1) - s.countSince x 1 (s.ctx x).latD|)

/-- A latent error is counted, shown and recorded (R143). -/
def latentError (s : Dev) (x : Nat) : Dev := (((s.incCtx x 6).raise bSTM 0).lastEvt 1 x).fault bSTM 0

/-- The latent period of an ACTIVE receive context with SEQ_EN, begun at `t0`, has ended (R143). -/
structure LatentDue (s : Dev) (x t0 : Nat) : Prop where
  begun : (s.ctx x).latAt = some t0
  period : s.get (Reg.STM_RCV_TIMER.LAT_PERIOD x) ≠ 0
  numbered : s.seqEn x = true
  receives : s.isTx x = false
  active : s.ctxState x = 1
  elapsed : t0 + s.get (Reg.STM_RCV_TIMER.LAT_PERIOD x) * 1000000 ≤ s.up

theorem LatentDue.fresh {s : Dev} {x t0 : Nat} (h : s.LatentDue x t0) : s.fresh.LatentDue x t0 :=
  ⟨h.begun, h.period, h.numbered, h.receives, h.active, h.elapsed⟩

theorem latentBad_fresh (s : Dev) (x : Nat) : s.fresh.latentBad x = s.latentBad x := rfl

theorem latentEnd_due {s : Dev} {x t0 : Nat} (h : s.LatentDue x t0) :
    s.latentEnd x = (s.when (s.latentBad x) (·.latentError x)).latentStart x (t0 + s.get (Reg.STM_RCV_TIMER.LAT_PERIOD x) * 1000000) := by
  obtain ⟨hbegun, hperiod, hnum, hrec, hact, helapsed⟩ := h
  have hper : s.get (Reg.STM_RCV_TIMER.LAT_PERIOD x) * 1000000 ≠ 0 := by omega
  unfold latentEnd
  simp only [hbegun]
  rw [if_neg (by simp [hper, hnum, hrec, hact, helapsed])]
  rfl

/-- LATENT_ERR opens at the end of a period exactly when `latentBad` finds an error. -/
theorem latentEnd_sticky {s : Dev} {x t0 : Nat} (h : s.LatentDue x t0) (hclosed : s.bit (stickyBit bSTM 0) = false) :
    (s.latentEnd x).bit (stickyBit bSTM 0) = s.latentBad x := by
  rw [latentEnd_due h]
  cases s.latentBad x with
  | true => exact fault_sticky _ bSTM 0 (by decide) (by decide)
  | false => exact hclosed

end Dev

theorem exec_latentPeriodEnd (x : Fin 512) (s : State) : exec (.latentPeriodEnd x) s = devStep (·.atBlock bSTM (·.latentEnd x)) s := rfl

/-- The statement's differences are 0 and do not exceed LAT_DIFF, where the device finds an error. -/
theorem not_streamStates_of {s : State} {x : Fin 512} {t0 : Nat} (hb : s.dev.blockOn bSTM = true) (hdue : s.dev.LatentDue x t0)
    (hclosed : s.dev.bit (stickyBit bSTM 0) = false) (hbad : s.dev.latentBad x = true)
    (hdp : (s.dev.get (Reg.STM_CNT.COUNT x 0) + 2 ^ 32 - (s.dev.ctx x).latP) % 2 ^ 32 = 0)
    (hdd : (s.dev.get (Reg.STM_CNT.COUNT x 1) + 2 ^ 32 - (s.dev.ctx x).latD) % 2 ^ 32 = 0) : ¬ Obligations.StreamStates := by
  rintro ⟨-, -, -, -, hlatent⟩
  have hans := hlatent s x t0 0 0 hb hdue.begun hdue.period hdue.numbered hdue.receives hdue.active hdue.elapsed (congrArg Nat.cast hdp.symm) (congrArg Nat.cast hdd.symm) hclosed
  obtain ⟨-, hiff, -⟩ := of_answers_atBlock (exec_latentPeriodEnd x s) hb hans
  have hopens : (Dev.settle s.dev.fresh (s.dev.fresh.latentEnd x)).bit (stickyBit bSTM 0) = true := by
    rw [Dev.bit_settle, Dev.latentEnd_sticky hdue.fresh hclosed, Dev.latentBad_fresh, hbad]
  obtain ⟨-, hdiff⟩ := hiff.mp hopens
  rw [zero_mul, sub_zero, abs_zero] at hdiff
  exact absurd hdiff (Int.not_lt.mpr (Int.natCast_nonneg _))

/-- Context 7 receives with sequence numbers, its period of 1 ms is over, and its mark of PASSED is above every 32-bit count while PASSED is 0. -/
def overrun : State :=
  let d := (({} : Dev).setDoms fun _ => true).put (Reg.STM_CTX_STAT.STATE 7) 1
  let d := (d.put (Reg.STM_CTX_CFG.SEQ_EN 7) 1).put (Reg.STM_RCV_TIMER.LAT_PERIOD 7) 1
  { dev := { d with up := 1000000 }.setCtx 7 { latAt := some 0, latP := 2 ^ 32 + 1 } }

theorem overrun_due : overrun.dev.LatentDue 7 0 := by constructor <;> decide +kernel

theorem overrun_on : overrun.dev.blockOn bSTM = true := by decide +kernel

theorem overrun_closed : overrun.dev.bit (stickyBit bSTM 0) = false := by decide +kernel

/-- The increment of PASSED as the statement takes it. -/
theorem overrun_passed : (overrun.dev.get (Reg.STM_CNT.COUNT 7 0) + 2 ^ 32 - (overrun.dev.ctx 7).latP) % 2 ^ 32 = 0 := by decide +kernel

theorem overrun_discarded : (overrun.dev.get (Reg.STM_CNT.COUNT 7 1) + 2 ^ 32 - (overrun.dev.ctx 7).latD) % 2 ^ 32 = 0 := by decide +kernel

/-- As the device takes them, PASSED has moved by 2^32 − 1 and DISCARDED by nothing. -/
theorem overrun_bad : overrun.dev.latentBad 7 = true := by decide +kernel

/-- Refutes O32: in `overrun` the source opens at the end of the period, while the statement's differences of naturals are 0 and do not exceed LAT_DIFF. -/
theorem not_streamStates : ¬ Obligations.StreamStates :=
  not_streamStates_of (s := overrun) (x := 7) (t0 := 0) overrun_on overrun_due overrun_closed overrun_bad overrun_passed overrun_discarded

end Sys2Proof.Machine
end

section
/-! SUPPORT. A frame handed over that its own count of over-length frames crowds out (R99, R137, R144). The statement on transmit contexts asks for room before the hand-over and binds no owner of a descriptor to the 512 contexts of R131. A frame longer than L_MAX is counted in OVER_RESV before its granules are asked for; for one number beyond the contexts `FRM_STM_RESV` points at that very counter, so the count enlarges a reservation and the room is gone. -/

namespace Sys2Proof.Machine

namespace Dev

/-- A frame that an ACTIVE transmit context may send, longer than its L_MAX, for which there is no room once OVER_RESV has counted it: it is dropped and RESV_DROP counts it (R137, R144, R151). -/
theorem handover_noRoom {s : Dev} {x gen : Nat} {data : List Octet} (ready : Option Nat) (href : s.refOk x gen = true) (htx : s.isTx x = true)
    (hegress : s.get (Reg.STM_CTX_CFG.EGRESS x) ≠ 0) (hlong : Nat.blt (lmaxOfWord (s.resvWord (.ctx x))) (s.sentLen x data) = true)
    (hroom : (s.incCtx x 10).allocCheck (.ctx x) (s.sentLen x data) = .noDesc) :
    s.handover x gen data ready = (false, (s.incCtx x 10).incCtx x 11) := by
  unfold handover
  rw [if_neg (by simp [href]), if_neg (by simp [htx, hegress])]
  simp only [hlong, when_true, hroom]

theorem incCtx_fresh (s : Dev) (x i : Nat) : s.fresh.incCtx x i = (s.incCtx x i).fresh := by
  simp only [incCtx, get_fresh]
  cases s.get (Reg.STM_CNT.COUNT x i) == 0x7FFFFFFF <;> rfl

theorem allocCheck_fresh (s : Dev) (o : Owner) (len : Nat) : s.fresh.allocCheck o len = s.allocCheck o len := rfl

/-- A counter of a context is left alone by the others. -/
theorem get_incCtx_other (s : Dev) {x i j : Nat} (hi : i < 12) (hij : i ≠ j) :
    (s.incCtx x j).get (Reg.STM_CNT.COUNT x i) = s.get (Reg.STM_CNT.COUNT x i) := by
  refine (incCtx_only s x j).get_eq ?_
  simp only [Reg.STM_CNT.COUNT, Reg.STM_CNT, Reg.STM_CTX_STAT]
  omega

end Dev

theorem exec_transmitHandover (x : Fin 512) (gen : BitVec 8) (data : List Octet) (s : State) :
    exec (.transmitHandover x gen data) s = devStep (·.atBlock bSTM fun d => (d.handover x gen.toNat data none).2) s := rfl

/-- What was free before the hand-over is gone once OVER_RESV has counted the frame: it is dropped, and SENT does not count. -/
theorem not_streamTransmit_of {s : State} {x : Fin 512} {gen : BitVec 8} {data : List Octet} {sh : Bool} (hb : s.dev.blockOn bSTM = true)
    (href : s.dev.refOk x gen.toNat = true) (htx : s.dev.isTx x = true) (hegress : s.dev.get (Reg.STM_CTX_CFG.EGRESS x) ≠ 0)
    (htb : s.dev.bit (Reg.STM_TB.TB_EN x) = false) (hroom : s.dev.allocCheck (.ctx x) (s.dev.sentLen x data) = .ok sh)
    (hlong : Nat.blt (lmaxOfWord (s.dev.resvWord (.ctx x))) (s.dev.sentLen x data) = true)
    (hgone : (s.dev.incCtx x 10).allocCheck (.ctx x) (s.dev.sentLen x data) = .noDesc) : ¬ Obligations.StreamTransmit := by
  rintro ⟨hhandover, -⟩
  have hans := (hhandover s x gen data sh hb href htx hegress hroom).1 htb
  obtain ⟨hsent, -⟩ := of_answers_atBlock (exec_transmitHandover x gen data s) hb hans
  have hdrop := Dev.handover_noRoom (s := s.dev.fresh) none href htx hegress hlong (by rw [Dev.incCtx_fresh, Dev.allocCheck_fresh]; exact hgone)
  rw [hdrop, Dev.get_settle, Dev.get_incCtx_other _ (by decide) (by decide), Dev.get_incCtx_other _ (by decide) (by decide), Dev.get_fresh] at hsent
  omega

/-- The context number whose reservation word stands at OVER_RESV of context 7. -/
def strayReserver : Nat := (Reg.STM_CNT 7 10 - 0xC4000) / 4

theorem strayReserver_resv : Reg.FRM_STM_RESV strayReserver = Reg.STM_CNT 7 10 := rfl

/-- A frame of 60 octets, of size 64 on the line. -/
def shortData : List Octet := List.replicate 60 0xA5

/-- Context 7 transmits on port 5 without a reservation of its own, and the frame of the stray context has taken from the shared pool. OVER_RESV of context 7 reads as a reservation of 15,870 descriptors, which leaves one descriptor to share. -/
def overReserved : State :=
  let d := (({} : Dev).setDoms fun _ => true).put (Reg.STM_CTX_STAT.STATE 7) 1
  let d := (d.put (Reg.STM_CTX_CFG.DIR 7) 1).put (Reg.STM_CTX_CFG.EGRESS 7) 0x20
  let d := ((d.put (Reg.FRM_STM_RESV.EN strayReserver) 1).put (Reg.FRM_STM_RESV.L_MAX strayReserver) 1).put (Reg.FRM_STM_RESV.DEPTH strayReserver) 15870
  { dev := { d with frames := [(0, { owner := .ctx strayReserver, shared := true })] } }

theorem overReserved_sends : overReserved.dev.blockOn bSTM = true ∧ overReserved.dev.refOk 7 0 = true ∧ overReserved.dev.isTx 7 = true
    ∧ overReserved.dev.get (Reg.STM_CTX_CFG.EGRESS 7) ≠ 0 ∧ overReserved.dev.bit (Reg.STM_TB.TB_EN 7) = false := by decide +kernel

/-- The last shared descriptor is free before the hand-over. -/
theorem overReserved_hasRoom : overReserved.dev.allocCheck (.ctx 7) (overReserved.dev.sentLen 7 shortData) = .ok true := by decide +kernel

/-- The frame exceeds L_MAX, and counting it takes that descriptor. -/
theorem overReserved_crowds : Nat.blt (lmaxOfWord (overReserved.dev.resvWord (.ctx 7))) (overReserved.dev.sentLen 7 shortData) = true
    ∧ (overReserved.dev.incCtx 7 10).allocCheck (.ctx 7) (overReserved.dev.sentLen 7 shortData) = .noDesc := by decide +kernel

/-- Refutes O33: in `overReserved` the frame handed over finds room by the check that the statement makes, but none once OVER_RESV has counted it. It is dropped, and SENT does not count. -/
theorem not_streamTransmit : ¬ Obligations.StreamTransmit := by
  obtain ⟨hb, href, htx, hegress, htb⟩ := overReserved_sends
  obtain ⟨hlong, hgone⟩ := overReserved_crowds
  exact not_streamTransmit_of (s := overReserved) (x := 7) (gen := 0) (data := shortData) (sh := true) hb href htx hegress htb overReserved_hasRoom hlong hgone

end Sys2Proof.Machine
end

section
/-! SUPPORT. A port that wraps, and a frame turned at it that no window of the ring's other port carries (R120, R150, R180). The statement on breaks of the ring binds no queued frame's context to the 512 contexts of R131. A frame that is dropped is counted for its context; for context number 512 `STM_CNT` points at the status word of the Shroud, so the count adds 1 to that word and clears the event bit that the wrap has just raised. -/

namespace Sys2Proof.Machine

namespace Dev

/-- A port that wraps, before its queued frames turn: the break taken up, the wrap shown, counted, recorded and traced (R178, R180). -/
def wrapBegun (s : Dev) (p : Nat) : Dev :=
  let s := s.modSide p fun d => { d with broken := 0, soloMiss := 0 }
  let s := (s.put (wrapFld p) 1).raise bSHD (ringOf p)
  let s := (s.inc (Reg.SHD_WRAP_CNT.COUNT (ringOf p))).fault bSHD (ringOf p)
  s.ringTrace (ringOf p) 1 (p % 2 == 1) 0

/-- A break of an enabled ring wraps its port: the queued frames turn, and a notice goes out (R180, R182). -/
theorem wrap_acts {s : Dev} {p : Nat} (hb : (s.side p).broken ≠ 0) (hw : s.wrapped p = false) (he : s.ringEn (ringOf p) = true) :
    s.wrap p = ((s.wrapBegun p).turnQueues p).notice (s.side p).broken ((s.wrapBegun p).side p).neighbour 0 := by
  unfold wrap
  rw [if_neg (by simp [hb, hw, he])]
  rfl

/-- A notice leaves the status word of the Shroud (R182). -/
theorem bit_notice_status (s : Dev) (code subject detail n : Nat) : (s.notice code subject detail).bit (statusBit bSHD n) = s.bit (statusBit bSHD n) := by
  refine (notice_traffic s code subject detail).bit_eq ?_
  change ¬ (trafficWords 0xF0008 ∨ 0xF0008 = Reg.SHD_NOTICE_SENT 0 ∨ 0xF0008 = Reg.SHD_NOTICE_SENT 1)
  simp only [trafficWords, bankWords, Reg.FRM_BANK_STATE, Reg.SHD_NOTICE_SENT]
  omega

end Dev

theorem exec_wrap (p : Fin 4) (s : State) : exec (.wrap p) s = devStep (·.atBlock bSHD (·.wrap p)) s := rfl

/-- Where the frames that turn take the event bit away, the wrap ends without it. -/
theorem not_ringBreaks_of {s : State} {p : Fin 4} (hb : s.dev.blockOn bSHD = true) (hbreak : (s.dev.side p).broken ≠ 0) (hw : s.dev.wrapped p = false)
    (he : s.dev.ringEn (Dev.ringOf p) = true) (hlost : ((s.dev.fresh.wrapBegun p).turnQueues p).bit (statusBit bSHD (Dev.ringOf p)) = false) :
    ¬ Obligations.RingBreaks := by
  rintro ⟨hwrap, -⟩
  obtain ⟨-, hevent, -⟩ := of_answers_atBlock (exec_wrap p s) hb (hwrap s p hb hbreak hw he)
  rw [Dev.bit_settle, Dev.wrap_acts (s := s.dev.fresh) hbreak hw he, Dev.bit_notice_status, hlost] at hevent
  exact Bool.false_ne_true hevent

/-- The context number whose count of frames dropped in the queues stands at the status word of the Shroud. -/
def strayCounted : Nat := (statusAddr bSHD - Reg.STM_CNT 0 2) / 0x40

theorem strayCounted_cnt : Reg.STM_CNT strayCounted 2 = statusAddr bSHD := rfl

/-- Ring 0 is enabled. Its west port has detected a break, and a frame of the stray context waits at it; its east port is up and gated, with every gate closed. -/
def turning : State :=
  let d := ((({} : Dev).setDoms fun _ => true).put (Reg.SHD_RING_CFG.EN 0) 1).put (Dev.prtBit 1 1) 1
  let d := ((d.put (Reg.GTE_PORT_CTL.GATE_EN 1) 1).setWord (Reg.GTE_CYCLE_TIME 1 0) 250000).put (Reg.GTE_LIST_LEN.LEN 1 0) 1
  let d := ((d.put (Reg.GTE_GCL_GATE.GATE_STATE 1 0 0) 0).modPort 1 fun x => { x with gating := true }).modSide 0 fun x => { x with broken := 1 }
  { dev := d.setClassQueue 0 3 [{ desc := 0, data := shortData, ctx := some strayCounted }] }

theorem turning_breaks : turning.dev.blockOn bSHD = true ∧ (turning.dev.side 0).broken ≠ 0 ∧ turning.dev.wrapped 0 = false ∧ turning.dev.ringEn 0 = true := by
  decide +kernel

/-- The wrap raises the event bit; the frame turns to the east port, whose gates never carry it, and its count clears the bit. -/
theorem turning_losesEvent : (turning.dev.fresh.wrapBegun 0).bit (statusBit bSHD 0) = true
    ∧ (turning.dev.fresh.wrapBegun 0).neverCarried 1 3 (frameLen shortData) = true
    ∧ ((turning.dev.fresh.wrapBegun 0).turnQueues 0).bit (statusBit bSHD 0) = false := by
  decide +kernel

/-- Refutes O36: in `turning` the frame queued at the port that wraps is dropped at the ring's other port, and counting it for a context number beyond the 512 contexts clears the event bit of the wrap. -/
theorem not_ringBreaks : ¬ Obligations.RingBreaks := by
  obtain ⟨hb, hbreak, hw, he⟩ := turning_breaks
  obtain ⟨-, -, hlost⟩ := turning_losesEvent
  exact not_ringBreaks_of (s := turning) (p := 0) hb hbreak hw he hlost

end Sys2Proof.Machine
end

section
/-! SUPPORT. An activation that ends with an output beyond the eight descriptors of its cell (R203, R205). The statement on activations binds no output of a run to the descriptors 0 to 7. The release shows the value of an output at `CEL_OUT_VAL`; for one number beyond the descriptors that is a state word of the cell, so the release overwrites the word that the program gave. -/

namespace Sys2Proof.Machine

/-- A command has one answer, the device after its operation. -/
theorem of_answers_devStep {c : Instr} {s : State} {f : Dev → Dev} {P : State → Prop} (he : exec c s = devStep f s) (h : Answers c s P) :
    P { s with dev := Dev.settle s.dev.fresh (f s.dev.fresh) } := by
  obtain ⟨t, hexec, hP⟩ := h
  injection he.symm.trans hexec with ht
  exact ht ▸ hP

/-- The engines agree on a run that is over: its outputs are released (R212). -/
theorem Dev.activationComparison_agrees {s : Dev} {c : Nat} {r : CelRun} (ckptBad : Bool) (hrun : (s.cell c).run = some r) (hstate : s.celState c = celRun)
    (hdone : r.doneUp ≤ s.up) (hgrave : s.isGrave bCEL = false) : s.activationComparison c true ckptBad = s.celRelease c r false := by
  simp only [activationComparison, hrun]
  rw [if_neg (by simp [hstate, hdone, hgrave]), if_pos trivial]

theorem exec_activationComparison (c : Fin 64) (agree ckptBad : Bool) (s : State) :
    exec (.activationComparison c agree ckptBad) s = devStep (·.activationComparison c agree ckptBad) s := rfl

/-- Where the outputs take a state word away, it is not the program's after the release. -/
theorem not_cellActivations_of {s : State} {c : Fin 64} {r : CelRun} {j : Nat} (hj : j < 32) (hrun : (s.dev.cell c).run = some r) (hstate : s.dev.celState c = celRun)
    (hdone : r.doneUp ≤ s.dev.up) (hgrave : s.dev.isGrave bCEL = false) (hkind : (r.outs.all fun o => s.dev.outWord c r.bank o.out 0 / 2 ^ 28 % 8 != 3) = true)
    (hoff : (s.dev.cell c).offDue = false) (hrestart : (s.dev.cell c).restartDue = false)
    (hlost : (s.dev.fresh.celRelease c r false).word (Reg.CEL_STATE_WORD c j) ≠ BitVec.ofInt 32 (r.words.getD j 0)) : ¬ Obligations.CellActivations := by
  rintro ⟨-, -, hagree, -⟩
  obtain ⟨-, -, hwords, -⟩ := of_answers_devStep (exec_activationComparison c true false s) (hagree s c r hrun hstate hdone hgrave hkind hoff hrestart)
  have hword := hwords j hj
  rw [Dev.word_settle, Dev.activationComparison_agrees (s := s.dev.fresh) false hrun hstate hdone hgrave] at hword
  exact hlost hword

/-- The output number of cell 0 whose last released value stands at state word 0 of the cell. -/
def strayOutput : Nat := (Reg.CEL_STATE_WORD 0 0 - Reg.CEL_OUT_VAL 0 0) / 4

theorem strayOutput_value : Reg.CEL_OUT_VAL 0 strayOutput = Reg.CEL_STATE_WORD 0 0 := rfl

/-- A run that leaves every state word 0 and releases the value 1 at once for the stray output. -/
def strayRun : CelRun :=
  { startAt := 0, startUp := 0, bank := 0, event := none, steps := 0, outs := [{ out := strayOutput, value := 1, target := some .atOnce }], words := [], sm := 0, doneUp := 0 }

/-- Cell 0 runs on pair 0, and its engines have ended. -/
def straying : State :=
  let d := (({} : Dev).setDoms fun _ => true).put (Reg.CEL_STAT.STATE 0) celRun
  let d := ((d.put (Reg.CEL_STAT.PAIR 0) 0).setPair 0 1).put (Reg.CEL_PAIR_STAT.CELL 0) 0
  { dev := d.setCell 0 { run := some strayRun } }

theorem straying_runs : (straying.dev.cell 0).run = some strayRun ∧ straying.dev.celState 0 = celRun ∧ straying.dev.isGrave bCEL = false
    ∧ (straying.dev.cell 0).offDue = false ∧ (straying.dev.cell 0).restartDue = false := by decide +kernel

/-- No output of the run writes an object. -/
theorem straying_writesNoObject : (strayRun.outs.all fun o => straying.dev.outWord 0 strayRun.bank o.out 0 / 2 ^ 28 % 8 != 3) = true := by decide +kernel

/-- The release shows the output's value. -/
theorem straying_shows : (straying.dev.fresh.celRelease 0 strayRun false).word (Reg.CEL_OUT_VAL 0 strayOutput) = 1 := by decide +kernel

/-- It thereby leaves that value in state word 0. -/
theorem straying_losesWord : (straying.dev.fresh.celRelease 0 strayRun false).word (Reg.CEL_STATE_WORD 0 0) = 1 := strayOutput_value ▸ straying_shows

/-- Refutes O37: in `straying` the engines agree on state words that are all 0, and the release of an output beyond the eight descriptors leaves 1 in one of them. -/
theorem not_cellActivations : ¬ Obligations.CellActivations := by
  obtain ⟨hrun, hstate, hgrave, hoff, hrestart⟩ := straying_runs
  refine not_cellActivations_of (s := straying) (c := 0) (r := strayRun) (j := 0) (by decide) hrun hstate (Nat.zero_le _) hgrave straying_writesNoObject hoff hrestart ?_
  exact fun hword => absurd (straying_losesWord.symm.trans hword) (by decide)

end Sys2Proof.Machine
end

section
/-! SUPPORT. RESTART of a HALTED cell that the table of cells lists twice (R213, R218). The statement on cell tables does not ask for that table in its canonical form. `Dev.cell` reads the first entry of a cell; `Dev.pairReserved` looks through all of them, so a re-execution in the second entry keeps its spare pair from being free. RESTART changes the cell, which drops the second entry, and only then chooses the pair: it takes the lower one that has become free. -/

namespace Sys2Proof.Machine

/-- A host write that is not refused, to a block that is on, has one answer, the device after it (R12, R18). -/
theorem of_answers_hostGate {c : Instr} {s : State} {b k : Nat} {v : Word} {f : Dev → Dev} {P : State → Prop}
    (he : exec c s = devStep (fun d => d.hostGate b k v f) s) (hb : s.dev.blockOn b = true) (hr : s.dev.hostRefused k = false) (h : Answers c s P) :
    P { s with dev := Dev.settle s.dev.fresh (f s.dev.fresh) } := by
  have hgate := of_answers_devStep he h
  rwa [Dev.hostGate_acts s.dev.fresh _ _ _ _ hb hr] at hgate

/-- RESTART of a cell that runs nothing takes effect at once (R218). -/
theorem Dev.celCmdWrite_restarts {s : Dev} {c : Nat} {v : Word} (hv : wbit v 0 = true) (hrun : (s.cell c).run = none) : s.celCmdWrite c v = s.celRestart c := by
  simp [celCmdWrite, hv, hrun]

theorem exec_restart (c : Fin 64) (v : Word) (s : State) : exec (.restart c v) s = devStep (fun d => d.hostGate bCEL (Reg.CEL_CMD c) v (·.celCmdWrite c v)) s := rfl

/-- Where a RESTART without angle trigger gives the cell another pair than the placement rules named before it. -/
theorem not_cellTables_of {s : State} {c : Fin 64} {v : Word} {p : Nat} (hb : s.dev.blockOn bCEL = true) (hr : s.dev.hostRefused (Reg.CEL_CMD c) = false)
    (hv : wbit v 0 = true) (hrun : (s.dev.cell c).run = none) (hhalted : s.dev.celState c = celHalted) (hpair : s.dev.celPair c = 0x7F)
    (hspare : s.dev.get Reg.CEL_SPARES.SPARE_NOW ≠ 0) (hchoice : s.dev.restartPair c = some p) (htrig : s.dev.get (Reg.CEL_CFG.TRIG c) ≠ 2)
    (hother : (s.dev.fresh.celRestart c).celPair c ≠ p) : ¬ Obligations.CellTables := by
  rintro ⟨-, -, -, -, hrestart⟩
  obtain ⟨hplaced, -⟩ := of_answers_hostGate (exec_restart c v s) hb hr
    (hrestart s c v p hb hr hv hrun hhalted hpair hspare hchoice fun h => absurd h htrig)
  rw [Dev.celPair, Dev.get_settle, Dev.celCmdWrite_restarts (s := s.dev.fresh) hv hrun] at hplaced
  exact hother hplaced

/-- A run that pair 0 executes again. -/
def reservingRun : CelRun :=
  { startAt := 0, startUp := 0, bank := 0, event := none, steps := 0, outs := [], words := [], sm := 0, doneUp := 0, spare := some 0 }

/-- Cell 0 is HALTED without a pair. Of its two entries the first runs nothing, and the second holds a re-execution on pair 0; all pairs are spare. -/
def shadowed : State :=
  { dev := { ({} : Dev).setDoms (fun _ => true) with cells := [(0, {}), (0, { run := some reservingRun })] }.put (Reg.CEL_STAT.STATE 0) celHalted }

theorem shadowed_restarts : shadowed.dev.blockOn bCEL = true ∧ shadowed.dev.hostRefused (Reg.CEL_CMD 0) = false ∧ (shadowed.dev.cell 0).run = none
    ∧ shadowed.dev.celState 0 = celHalted ∧ shadowed.dev.celPair 0 = 0x7F ∧ shadowed.dev.get Reg.CEL_SPARES.SPARE_NOW ≠ 0
    ∧ shadowed.dev.get (Reg.CEL_CFG.TRIG 0) ≠ 2 := by decide +kernel

/-- Before the RESTART pair 0 is reserved, and pair 1 is the lowest that the cell may take. -/
theorem shadowed_choice : shadowed.dev.restartPair 0 = some 1 := by decide +kernel

/-- The RESTART drops the second entry and gives the cell pair 0. -/
theorem shadowed_placed : (shadowed.dev.fresh.celRestart 0).celPair 0 = 0 := by decide +kernel

/-- Refutes O38: in `shadowed` the placement rules name pair 1, and the RESTART gives the cell pair 0, which its second entry no longer reserves. -/
theorem not_cellTables : ¬ Obligations.CellTables := by
  obtain ⟨hb, hr, hrun, hhalted, hpair, hspare, htrig⟩ := shadowed_restarts
  refine not_cellTables_of (s := shadowed) (c := 0) (v := 1) (p := 1) hb hr (by decide) hrun hhalted hpair hspare shadowed_choice htrig ?_
  rw [show ((0 : Fin 64) : Nat) = 0 from rfl, shadowed_placed]
  decide

end Sys2Proof.Machine
end

section
/-! SUPPORT. The stores of Chuck and Scribe, and host writes to a port of Chuck (R18, R222, R238). -/

namespace Sys2Proof.Machine

namespace Dev

/-! ### The stores of a channel, a port and a pin -/

@[simp] theorem chan_setChan (s : Dev) (n : Nat) (x : Chan) : (s.setChan n x).chan n = x := Tab.get_set_same _ _ _ _
@[simp] theorem chan_modChan (s : Dev) (n : Nat) (f : Chan → Chan) : (s.modChan n f).chan n = f (s.chan n) := chan_setChan s n _
@[simp] theorem chk_setChk (s : Dev) (k : Nat) (x : ChkPort) : (s.setChk k x).chk k = x := Tab.get_set_same _ _ _ _
@[simp] theorem chk_modChk (s : Dev) (k : Nat) (f : ChkPort → ChkPort) : (s.modChk k f).chk k = f (s.chk k) := chk_setChk s k _
@[simp] theorem pin_modPin (s : Dev) (p : Nat) (f : Pin → Pin) : (s.modPin p f).pin p = f (s.pin p) := Tab.get_set_same _ _ _ _

@[simp] theorem chan_settle (old s : Dev) (n : Nat) : (settle old s).chan n = s.chan n := by simp [chan]
@[simp] theorem chk_settle (old s : Dev) (k : Nat) : (settle old s).chk k = s.chk k := by simp [chk]
@[simp] theorem pin_settle (old s : Dev) (p : Nat) : (settle old s).pin p = s.pin p := by simp [pin]

@[simp] theorem chk_emit (s : Dev) (o : Output) (k : Nat) : (s.emit o).chk k = s.chk k := rfl
@[simp] theorem chan_modChk (s : Dev) (k : Nat) (f : ChkPort → ChkPort) (n : Nat) : (s.modChk k f).chan n = s.chan n := rfl

/-- A change of one port that keeps `g` of it keeps `g` of every port. -/
theorem modChk_keeps {α : Type} (s : Dev) (k j : Nat) (f : ChkPort → ChkPort) (g : ChkPort → α) (hf : ∀ x, g (f x) = g x) :
    g ((s.modChk k f).chk j) = g (s.chk j) := by
  by_cases h : j = k
  · rw [h, chk_modChk, hf]
  · exact congrArg g (Tab.get_set_other _ _ _ _ _ h)

/-! ### Addresses -/

theorem statusAddr_smp : statusAddr bSMP = 0x200008 := rfl
theorem statusAddr_scr : statusAddr bSCR = 0x27C008 := rfl

/-- A port that answers has its block on (R222). -/
theorem blockOn_of_chkOn {s : Dev} {k : Nat} (h : s.chkOn k = true) : s.blockOn bSMP = true := (Bool.and_eq_true_iff.mp h).1

end Dev

/-- A host write that is not refused, to a port of Chuck that answers, answers the device after it (R12, R222). -/
theorem answers_chkGate {c : Instr} {s : State} {k key : Nat} {v : Word} {f : Dev → Dev} {P : State → Prop}
    (he : exec c s = devStep (fun d => d.chkGate k key v f) s) (hk : s.dev.chkOn k = true) (hr : s.dev.hostRefused key = false)
    (h : P { s with dev := Dev.settle s.dev.fresh (f s.dev.fresh) }) : Answers c s P := by
  have hon : s.dev.fresh.chkOn k = true := hk
  refine answers_devStep he ?_
  rwa [Dev.chkGate, if_pos hon, Dev.hostGate_acts s.dev.fresh _ _ _ _ (Dev.blockOn_of_chkOn hk) hr]

end Sys2Proof.Machine
end

section
/-! SUPPORT. Chuck's command queues and coefficient banks (R229, R236, R237). -/

namespace Sys2Proof.Machine

namespace Dev

/-! ### Command queues (R236, R237) -/

/-- An entry due at once joins the end of a queue that has room, outside SAFE and GRAVE. -/
theorem cmdPush_atOnce {s : Dev} {k : Nat} {e : CmdEnt} (hk : s.chkOn k = true) (hg : s.isGrave bSMP = false) (hs : (s.chk k).safeDoms = [])
    (hl : (s.chk k).cmds.length < 16) (he : e.target = .atOnce) : s.cmdPush k e = s.modChk k fun x => { x with cmds := x.cmds ++ [e] } := by
  have hroom : ¬ ((s.chk k).safeDoms ≠ [] ∨ 16 ≤ (s.chk k).cmds.length) := by
    rintro (h | h)
    · exact h hs
    · omega
  unfold cmdPush
  dsimp only
  rw [if_neg (by simp [hk, hg]), if_neg hroom, he]

/-- The entry that SEND with WHEN at once makes of SMP_CMD_CTL and SMP_CMD_WORD. -/
def sentEntry (s : Dev) (k : Nat) (v : Word) : CmdEnt :=
  { cs := wfld v 24 2, w32 := wbit v 23
    word := if wbit v 23 then (s.word (Reg.SMP_CMD_WORD k)).toNat else (s.word (Reg.SMP_CMD_WORD k)).toNat % 65536, target := .atOnce }

/-- WHEN 0 and 3 are due at once. -/
theorem cmdCtlWrite_atOnce {s : Dev} {k : Nat} {v : Word} (hv : wbit v 31 = true) (hw : wfld v 29 2 = 0 ∨ wfld v 29 2 = 3) :
    s.cmdCtlWrite k v = s.cmdPush k (s.sentEntry k v) := by
  rcases hw with hw | hw <;> simp [cmdCtlWrite, sentEntry, hv, hw]

/-! ### Coefficient banks (R229) -/

/-- No host write reaches ACTIVE of SMP_FIR_CTL (R243). -/
theorem masksOf_firCtl : ∀ k < 32, masksOf bSMP (Reg.SMP_FIR_CTL k) = { rw := 0, w1c := 0x100, w1s := 0, wo := 1 } := by decide +kernel

theorem writeFields_active (s : Dev) {k : Nat} (hk : k < 32) (v : Word) :
    (s.writeFields bSMP (Reg.SMP_FIR_CTL k) v).get (Reg.SMP_FIR_CTL.ACTIVE k) = s.get (Reg.SMP_FIR_CTL.ACTIVE k) := by
  have hlow : ∀ a b : Nat, (a % 2 = 1 ↔ b % 2 = 1) → a % 2 = b % 2 := by omega
  have hbit := testBit_accessWrite_cases (masksOf_codesApart bSMP (Reg.SMP_FIR_CTL k)) (s.word (Reg.SMP_FIR_CTL k)).toNat v.toNat 1 (by decide)
  rw [masksOf_firCtl k hk, if_neg (by decide), if_neg (by decide), if_neg (by decide), ← masksOf_firCtl k hk, ← written_toNat, ← word_writeFields] at hbit
  rw [Nat.testBit_eq_decide_div_mod_eq, Nat.testBit_eq_decide_div_mod_eq, decide_eq_decide] at hbit
  exact hlow _ _ hbit

/-- The idle bank is active after a write of SWAP. -/
theorem firCtlWrite_swaps (s : Dev) {k : Nat} (hk : k < 32) {v : Word} (hv : wbit v 0 = true) :
    (s.firCtlWrite k v).get (Reg.SMP_FIR_CTL.ACTIVE k) = 1 - s.get (Reg.SMP_FIR_CTL.ACTIVE k) ∧ (s.firCtlWrite k v).bit (statusBit bSMP 5) = true := by
  have hne : (Reg.SMP_FIR_CTL.ACTIVE k).addr ≠ (statusBit bSMP 5).addr := by
    simp only [Reg.SMP_FIR_CTL.ACTIVE, statusBit, statusAddr_smp]
    omega
  have hmod : ∀ n, (1 - n) % 2 ^ 1 = 1 - n := by omega
  unfold firCtlWrite
  dsimp only
  rw [if_pos hv, raise]
  refine ⟨?_, bit_put_statusBit _ bSMP 5 1 (by decide)⟩
  rw [get_put_addr _ _ _ _ hne, get_put_same _ (Reg.SMP_FIR_CTL.ACTIVE k) _ (by decide : 1 + 1 ≤ 32), writeFields_active s hk]
  exact hmod _

theorem firCtlWrite_only (s : Dev) (k : Nat) (v : Word) :
    s.onlyWords (fun j => j = Reg.SMP_FIR_CTL k ∨ j = statusAddr bSMP) (s.firCtlWrite k v) := by
  obtain ⟨hw, hb, he⟩ := onlyWords_writeFields s bSMP (Reg.SMP_FIR_CTL k) v
  have hwrite : s.onlyWords (fun j => j = Reg.SMP_FIR_CTL k ∨ j = statusAddr bSMP) (s.writeFields bSMP (Reg.SMP_FIR_CTL k) v) :=
    ⟨fun j hj => hw j fun h => hj (.inl h), fun j hj => hb j fun h => hj (.inl h), he⟩
  unfold firCtlWrite
  dsimp only
  split
  · exact onlyWords_trans hwrite ((WordOnly.put _ _ (Reg.SMP_FIR_CTL.ACTIVE k) _ (.inl rfl)).trans (WordOnly.raise _ _ _ _ (.inr rfl))).onlyWords
  · exact hwrite

end Dev

theorem exec_commandSend (k : Fin 32) (v : Word) (s : State) :
    exec (.commandSend k v) s = devStep (fun d => d.chkGate k (Reg.SMP_CMD_CTL k) v (·.cmdCtlWrite k v)) s := rfl
theorem exec_commandDue (k : Fin 32) (s : State) : exec (.commandDue k) s = devStep (fun d => d.when (d.chkOn k) (·.commandDue k)) s := rfl
theorem exec_firSwap (k : Fin 32) (v : Word) (s : State) :
    exec (.firSwap k v) s = devStep (fun d => d.chkGate k (Reg.SMP_FIR_CTL k) v (·.firCtlWrite k v)) s := rfl

theorem commandSend_answers (s : State) (k : Fin 32) (v : Word) (hk : s.dev.chkOn k = true) (hr : s.dev.hostRefused (Reg.SMP_CMD_CTL k) = false)
    (hg : s.dev.isGrave bSMP = false) (hv : wbit v 31 = true) (hw : wfld v 29 2 = 0 ∨ wfld v 29 2 = 3) (hs : (s.dev.chk k).safeDoms = [])
    (hl : (s.dev.chk k).cmds.length < 16) :
    Answers (.commandSend k v) s fun t => (t.dev.chk k).cmds = (s.dev.chk k).cmds ++ [s.dev.sentEntry k v]
      ∧ (∀ j, t.dev.word j = s.dev.word j) ∧ s.sameMem t := by
  refine answers_chkGate (exec_commandSend k v s) hk hr ?_
  rw [Dev.cmdCtlWrite_atOnce hv hw, Dev.cmdPush_atOnce (s := s.dev.fresh) hk hg hs hl rfl, Dev.chk_settle, Dev.chk_modChk]
  exact ⟨rfl, fun j => Dev.word_settle _ _ j, rfl, rfl⟩

theorem commandDue_answers (s : State) (k : Fin 32) (hk : s.dev.chkOn k = true) :
    Answers (.commandDue k) s fun t => (t.dev.chk k).cmds = (s.dev.chk k).cmds.map (fun e => if s.dev.cmdDue e then { e with target := .atOnce } else e)
      ∧ (∀ j, t.dev.word j = s.dev.word j) ∧ s.sameMem t := by
  have hon : s.dev.fresh.chkOn k = true := hk
  refine answers_devStep (exec_commandDue k s) ?_
  rw [hon, Dev.when_true, Dev.commandDue, Dev.chk_settle, Dev.chk_modChk]
  exact ⟨rfl, fun j => Dev.word_settle _ _ j, rfl, rfl⟩

theorem firSwap_answers (s : State) (k : Fin 32) (v : Word) (hk : s.dev.chkOn k = true) (hr : s.dev.hostRefused (Reg.SMP_FIR_CTL k) = false)
    (hv : wbit v 0 = true) :
    Answers (.firSwap k v) s fun t => t.dev.get (Reg.SMP_FIR_CTL.ACTIVE k) = 1 - s.dev.get (Reg.SMP_FIR_CTL.ACTIVE k) ∧ t.dev.bit (statusBit bSMP 5) = true
      ∧ s.dev.onlyWords (fun j => j = Reg.SMP_FIR_CTL k ∨ j = statusAddr bSMP) t.dev ∧ s.sameMem t := by
  obtain ⟨hactive, hevent⟩ := Dev.firCtlWrite_swaps s.dev.fresh k.isLt hv
  refine answers_chkGate (exec_firSwap k v s) hk hr ⟨?_, ?_, Dev.onlyWords_settled (Dev.firCtlWrite_only _ k v) _, rfl, rfl⟩
  · rw [Dev.get_settle, hactive, Dev.get_fresh]
  · rw [Dev.bit_settle, hevent]

end Sys2Proof.Machine
end

section
/-! SUPPORT. Scribe's timed pins (R238–R240). -/

namespace Sys2Proof.Machine

namespace Dev

/-! ### An edge arrives (R238, R239) -/

/-- WHEN 0 and 3 are due at once. -/
theorem edgeCtlWrite_atOnce {s : Dev} {p : Nat} {v : Word} (hv : wbit v 31 = true) (hw : wfld v 28 2 = 0 ∨ wfld v 28 2 = 3) :
    s.edgeCtlWrite p v = s.edgePush p ⟨wbit v 30, .atOnce⟩ := by
  rcases hw with hw | hw <;> simp [edgeCtlWrite, hv, hw]

/-- A head edge due at once waits for its execution, and an empty queue has no head. -/
theorem edgeHead_atOnce (n : Nat) {s : Dev} {p : Nat} (hq : ∀ e ∈ (s.pin p).queue.head?, e.target = .atOnce) : edgeHead n s p = s := by
  cases n with
  | zero => rfl
  | succ n =>
    unfold edgeHead
    split
    · rfl
    · next heq => simp only [hq _ (by rw [heq]; rfl)]

/-- An edge due at once joins the end of a queue that has room, outside GRAVE. -/
theorem edgePush_atOnce {s : Dev} {p : Nat} {e : Edge} (hb : s.blockOn bSCR = true) (hg : s.scrGrave = false) (hl : (s.pin p).queue.length < 2)
    (he : e.target = .atOnce) : s.edgePush p e = s.modPin p fun x => { x with queue := x.queue ++ [e] } := by
  unfold edgePush
  dsimp only
  rw [if_neg (by simp [hb, hg]), if_neg (by omega)]
  split
  · next hq => exact edgeHead_atOnce 3 (by simp [hq, he])
  · rfl

/-! ### An edge takes effect (R238, R240) -/

theorem pinShow_regs (old s : Dev) (p : Nat) : (pinShow old s p).regs = s.regs := by
  unfold pinShow
  dsimp only
  split
  · rfl
  · split <;> rfl

theorem pinShow_up (old s : Dev) (p : Nat) : (pinShow old s p).up = s.up := by
  unfold pinShow
  dsimp only
  split
  · rfl
  · split <;> rfl

/-- A new level at the pad is read back, and changes nothing else of the pin. -/
theorem pinShow_pin (old s : Dev) (p : Nat) : ∃ b, (pinShow old s p).pin p = { s.pin p with pad := b } := by
  unfold pinShow
  dsimp only
  split
  · exact ⟨_, rfl⟩
  · split
    · exact ⟨_, pin_modPin _ _ _⟩
    · exact ⟨_, pin_modPin _ _ _⟩

/-- LEVEL of a pin, the instant of its last edge, and the instant of the device. -/
def struck (p : Nat) (s : Dev) : Bool × Option Nat × Nat := (s.bit (Reg.SCR_PIN_STAT.LEVEL p), (s.pin p).edgeUp, s.up)

theorem pinShow_struck (old s : Dev) (p : Nat) : struck p (pinShow old s p) = struck p s := by
  obtain ⟨b, hpin⟩ := pinShow_pin old s p
  simp only [struck, hpin, pinShow_up, bit_of_regs (pinShow_regs old s p)]

theorem modPin_struck (s : Dev) (p : Nat) (f : Pin → Pin) (h : ∀ x, (f x).edgeUp = x.edgeUp) : struck p (s.modPin p f) = struck p s := by
  rw [struck, pin_modPin, h]
  rfl

theorem putStatus_struck (s : Dev) (p n v : Nat) (hp : p < 32) : struck p (s.put (statusBit bSCR n) v) = struck p s := by
  have hne : (Reg.SCR_PIN_STAT.LEVEL p).addr ≠ (statusBit bSCR n).addr := by
    simp only [Reg.SCR_PIN_STAT.LEVEL, statusBit, statusAddr_scr]
    omega
  rw [struck, bit_put_addr s v hne]
  rfl

/-- A late edge is counted, its event bit set. -/
theorem edgeLate_struck (s : Dev) {p : Nat} (hp : p < 32) : struck p (s.edgeLate p) = struck p s := by
  have hne : (Reg.SCR_PIN_STAT.LEVEL p).addr ≠ (Reg.SCR_LATE.COUNT p).addr := by
    simp only [Reg.SCR_PIN_STAT.LEVEL, Reg.SCR_LATE.COUNT]
    omega
  refine (putStatus_struck _ p 0 1 hp).trans ?_
  rw [struck, inc, bit_put_addr s _ hne]
  rfl

theorem pinEnterSafe_struck (s : Dev) {p : Nat} (hp : p < 32) (dom : Option Nat) : struck p (s.pinEnterSafe p dom) = struck p s := by
  have hpin : struck p (s.atPin p fun s => s.modPin p fun x => { x with queue := [], safeDom := dom, driven := false }) = struck p s :=
    (pinShow_struck s _ p).trans (modPin_struck s p _ fun _ => rfl)
  unfold pinEnterSafe
  cases (s.pin p).safeDom.isSome
  · exact (putStatus_struck _ p 2 1 hp).trans hpin
  · exact hpin

/-- A pin whose last edge is of this instant executes no other one (R238). -/
theorem edgeGap_struck {s : Dev} {p : Nat} (h : (s.pin p).edgeUp = some s.up) : s.edgeGap p = false := by
  rw [edgeGap, h]
  exact Tab.blt_false (Nat.le_refl _)

theorem edgeUp_of_struck {s t : Dev} {p : Nat} (ht : struck p t = struck p s) (h : (s.pin p).edgeUp = some s.up) : (t.pin p).edgeUp = some t.up := by
  obtain ⟨-, hrest⟩ := Prod.ext_iff.mp ht
  obtain ⟨hedge, hup⟩ := Prod.ext_iff.mp hrest
  exact (hedge.trans h).trans (congrArg some hup.symm)

/-- A late edge that leaves the queue. -/
theorem dropLate_struck (s : Dev) {p : Nat} (hp : p < 32) (q : List Edge) :
    struck p ((s.edgeLate p).modPin p fun x => { x with queue := q }) = struck p s := by
  refine (modPin_struck _ p _ ?_).trans (edgeLate_struck s hp)
  exact fun _ => rfl

/-- What becomes of a late head edge `e` before `rest`: EDGE_LATE drops it, else it is executed as soon as the pin may change (R239). -/
def headLate (n : Nat) (s : Dev) (p : Nat) (e : Edge) (rest : List Edge) : Dev :=
  if (s.edgeLate p).bit (Reg.SCR_PIN_CFG.EDGE_LATE p) then edgeHead n ((s.edgeLate p).modPin p fun x => { x with queue := rest }) p
  else if (s.edgeLate p).edgeGap p then edgeHead n (((s.edgeLate p).modPin p fun x => { x with queue := rest }).edgeApply p e.level) p
  else (s.edgeLate p).modPin p fun x => { x with queue := ⟨e.level, .atOnce⟩ :: rest }

/-- What becomes of the next edges in the instant of an edge leaves LEVEL as that edge set it: late ones are dropped, or wait for the next instant (R238, R239). -/
theorem edgeHead_struck (n : Nat) {s : Dev} {p : Nat} (hp : p < 32) (h : (s.pin p).edgeUp = some s.up) : struck p (edgeHead n s p) = struck p s := by
  induction n generalizing s with
  | zero => rfl
  | succ n ih =>
    have follow : ∀ u, struck p u = struck p s → struck p (edgeHead n u p) = struck p s := fun u hu => (ih (edgeUp_of_struck hu h)).trans hu
    have late : ∀ e rest, struck p (headLate n s p e rest) = struck p s := fun e rest => by
      rw [headLate, edgeGap_struck (edgeUp_of_struck (edgeLate_struck s hp) h)]
      split
      · exact follow _ (dropLate_struck s hp rest)
      · exact dropLate_struck s hp _
    unfold edgeHead
    split
    · rfl
    · next e rest _ =>
      dsimp only
      split
      · rfl
      · split
        · rfl
        · exact late e rest
      · split
        · split
          · rfl
          · exact (pinEnterSafe_struck _ hp _).trans (edgeLate_struck s hp)
          · exact follow _ (dropLate_struck s hp rest)
        · split
          · rfl
          · exact late e rest

/-- LEVEL and the store of a pin as an edge leaves them, before its pad shows it. -/
def levelTaken (s : Dev) (p : Nat) (level : Bool) : Dev :=
  (s.putBit (Reg.SCR_PIN_STAT.LEVEL p) level).modPin p fun x =>
    { x with edgeUp := some s.up, driven := x.driven || (s.bit (Reg.SCR_PIN_CFG.EN p) && x.safeDom.isNone) }

theorem edgeApply_eq (s : Dev) (p : Nat) (level : Bool) : s.edgeApply p level = pinShow s (s.levelTaken p level) p := rfl

theorem levelTaken_level (s : Dev) (p : Nat) (level : Bool) : (s.levelTaken p level).bit (Reg.SCR_PIN_STAT.LEVEL p) = level :=
  (bit_put_same s (Reg.SCR_PIN_STAT.LEVEL p) _ (by decide : 30 + 1 ≤ 32) rfl).trans (by cases level <;> rfl)

theorem levelTaken_pin (s : Dev) (p : Nat) (level : Bool) : (s.levelTaken p level).pin p =
    { s.pin p with edgeUp := some s.up, driven := (s.pin p).driven || (s.bit (Reg.SCR_PIN_CFG.EN p) && (s.pin p).safeDom.isNone) } := pin_modPin _ p _

theorem word_levelTaken (s : Dev) (p : Nat) (level : Bool) {k : Nat} (h : k ≠ Reg.SCR_PIN_STAT p) : (s.levelTaken p level).word k = s.word k :=
  word_put_other s (Reg.SCR_PIN_STAT.LEVEL p) _ k h

theorem edgeApply_struck (s : Dev) (p : Nat) (level : Bool) : struck p (s.edgeApply p level) = (level, some s.up, s.up) := by
  rw [edgeApply_eq, pinShow_struck, struck, levelTaken_level, levelTaken_pin]
  rfl

theorem edgeApply_queue (s : Dev) (p : Nat) (level : Bool) : ((s.edgeApply p level).pin p).queue = (s.pin p).queue := by
  obtain ⟨b, hpin⟩ := pinShow_pin s (s.levelTaken p level) p
  rw [edgeApply_eq, hpin, levelTaken_pin]

/-- A pin that is enabled and outside SAFE and GRAVE drives LEVEL once an edge has been executed (R238, R240). -/
theorem pinLevel_driven {s : Dev} {p : Nat} (hen : s.bit (Reg.SCR_PIN_CFG.EN p) = true) (hd : (s.pin p).driven = true) (hg : s.scrGrave = false) :
    s.pinLevel p = some (s.bit (Reg.SCR_PIN_STAT.LEVEL p)) := by
  simp only [scrGrave, Bool.or_eq_false_iff] at hg
  obtain ⟨⟨⟨hscr, hsmp⟩, hcel⟩, hang⟩ := hg
  simp [pinLevel, pinSafe, hen, hd, hscr, hsmp, hcel, hang]

theorem edgeApply_drives {s : Dev} {p : Nat} (level : Bool) (hp : p < 32) (hen : s.bit (Reg.SCR_PIN_CFG.EN p) = true) (hs : (s.pin p).safeDom = none)
    (hg : s.scrGrave = false) : (s.edgeApply p level).pinLevel p = some level := by
  have hword : ∀ k, k ≠ Reg.SCR_PIN_STAT p → (s.edgeApply p level).word k = s.word k := fun k hk =>
    (word_of_regs (pinShow_regs s _ p) k).trans (word_levelTaken s p level hk)
  have hcfg : (Reg.SCR_PIN_CFG.EN p).addr ≠ Reg.SCR_PIN_STAT p := by
    simp only [Reg.SCR_PIN_CFG.EN, Reg.SCR_PIN_STAT]
    omega
  have hgrave : Reg.STA_GRAVE ≠ Reg.SCR_PIN_STAT p := by
    simp only [Reg.STA_GRAVE, Reg.SCR_PIN_STAT]
    omega
  have hdriven : ((s.edgeApply p level).pin p).driven = true := by
    obtain ⟨b, hpin⟩ := pinShow_pin s (s.levelTaken p level) p
    simp [edgeApply_eq, hpin, levelTaken_pin, hen, hs]
  have hquiet : (s.edgeApply p level).scrGrave = false := by
    simpa only [scrGrave, isGrave_of_word (hword _ hgrave)] using hg
  rw [pinLevel_driven ((bit_of_word (hword _ hcfg)).trans hen) hdriven hquiet]
  exact congrArg some (congrArg Prod.fst (edgeApply_struck s p level))

/-! ### The head edge is executed (R238) -/

/-- The queue without its head, which has taken effect. -/
def headTaken (s : Dev) (p : Nat) (e : Edge) (rest : List Edge) : Dev := (s.modPin p fun x => { x with queue := rest }).edgeApply p e.level

theorem edgeExecute_due {s : Dev} {p : Nat} {e : Edge} {rest : List Edge} (hb : s.blockOn bSCR = true) (hg : s.scrGrave = false)
    (hq : (s.pin p).queue = e :: rest) (hgap : s.edgeGap p = true) (hdue : s.edgeDue e = true) :
    s.edgeExecute p = edgeHead 2 (s.headTaken p e rest) p := by
  unfold edgeExecute
  rw [hq]
  exact if_pos (by simp [hb, hg, hgap, hdue])

theorem headTaken_struck (s : Dev) (p : Nat) (e : Edge) (rest : List Edge) : struck p (s.headTaken p e rest) = (e.level, some s.up, s.up) :=
  edgeApply_struck _ p e.level

theorem edgeExecute_struck {s : Dev} {p : Nat} {e : Edge} {rest : List Edge} (hp : p < 32) (hb : s.blockOn bSCR = true) (hg : s.scrGrave = false)
    (hq : (s.pin p).queue = e :: rest) (hgap : s.edgeGap p = true) (hdue : s.edgeDue e = true) :
    struck p (s.edgeExecute p) = (e.level, some s.up, s.up) := by
  have htaken := headTaken_struck s p e rest
  have hedge : ((s.headTaken p e rest).pin p).edgeUp = some (s.headTaken p e rest).up := by
    obtain ⟨-, hrest⟩ := Prod.ext_iff.mp htaken
    obtain ⟨hedge, hup⟩ := Prod.ext_iff.mp hrest
    exact hedge.trans (congrArg some hup.symm)
  rw [edgeExecute_due hb hg hq hgap hdue, edgeHead_struck 2 hp hedge, htaken]

theorem headTaken_queue (s : Dev) (p : Nat) (e : Edge) (rest : List Edge) : ((s.headTaken p e rest).pin p).queue = rest := by
  rw [headTaken, edgeApply_queue, pin_modPin]

/-- The last edge of a queue leaves nothing to follow. -/
theorem edgeExecute_last {s : Dev} {p : Nat} {e : Edge} (hb : s.blockOn bSCR = true) (hg : s.scrGrave = false) (hq : (s.pin p).queue = [e])
    (hgap : s.edgeGap p = true) (hdue : s.edgeDue e = true) : s.edgeExecute p = s.headTaken p e [] := by
  rw [edgeExecute_due hb hg hq hgap hdue]
  exact edgeHead_atOnce 2 (by simp [headTaken_queue])

theorem headTaken_drives {s : Dev} {p : Nat} (e : Edge) (rest : List Edge) (hp : p < 32) (hen : s.bit (Reg.SCR_PIN_CFG.EN p) = true)
    (hs : (s.pin p).safeDom = none) (hg : s.scrGrave = false) : (s.headTaken p e rest).pinLevel p = some e.level :=
  edgeApply_drives (s := s.modPin p fun x => { x with queue := rest }) e.level hp hen (by rw [pin_modPin, hs]) hg

@[simp] theorem pinLevel_settle (old s : Dev) (p : Nat) : (settle old s).pinLevel p = s.pinLevel p := by simp [pinLevel, pinSafe, isGrave]

/-! ### A pad that reads back another level (R240) -/

theorem pinMismatch_fault {s : Dev} {p : Nat} {l pad : Bool} (h : s.pinLevel p = some l) (hne : l ≠ pad) :
    s.pinMismatch p pad = (s.modPin p fun x => { x with pad := pad }).fault bSCR 0 := by
  have hd : (l != pad) = true := bne_iff_ne.mpr hne
  unfold pinMismatch
  rw [h]
  dsimp only
  rw [hd, when_true]

theorem FaultOnly.pin_eq {K : Nat → Prop} {s t : Dev} (h : FaultOnly K s t) (p : Nat) : t.pin p = s.pin p := by rw [pin, pin, h.2]

end Dev

theorem exec_edgePush (p : Fin 32) (v : Word) (s : State) :
    exec (.edgePush p v) s = devStep (fun d => d.hostGate bSCR (Reg.SCR_EDGE_CTL p) v (·.edgeCtlWrite p v)) s := rfl
theorem exec_edgeExecute (p : Fin 32) (s : State) : exec (.edgeExecute p) s = devStep (·.edgeExecute p) s := rfl
theorem exec_pinMismatch (p : Fin 32) (pad : Bool) (s : State) : exec (.pinMismatch p pad) s = devStep (·.atBlock bSCR (·.pinMismatch p pad)) s := rfl

theorem edgePush_answers (s : State) (p : Fin 32) (v : Word) (hb : s.dev.blockOn bSCR = true) (hr : s.dev.hostRefused (Reg.SCR_EDGE_CTL p) = false)
    (hg : s.dev.scrGrave = false) (hv : wbit v 31 = true) (hw : wfld v 28 2 = 0 ∨ wfld v 28 2 = 3) (hl : (s.dev.pin p).queue.length < 2) :
    Answers (.edgePush p v) s fun t => (t.dev.pin p).queue = (s.dev.pin p).queue ++ [⟨wbit v 30, .atOnce⟩] ∧ s.sameMem t := by
  refine answers_hostGate (exec_edgePush p v s) hb hr ?_
  rw [Dev.edgeCtlWrite_atOnce hv hw, Dev.edgePush_atOnce (s := s.dev.fresh) hb hg hl rfl, Dev.pin_settle, Dev.pin_modPin]
  exact ⟨rfl, rfl, rfl⟩

theorem edgeExecute_answers (s : State) (p : Fin 32) (e : Edge) (rest : List Edge) (hb : s.dev.blockOn bSCR = true) (hg : s.dev.scrGrave = false)
    (hq : (s.dev.pin p).queue = e :: rest) (hgap : s.dev.edgeGap p = true) (hdue : s.dev.edgeDue e = true) :
    Answers (.edgeExecute p) s fun t => t.dev.bit (Reg.SCR_PIN_STAT.LEVEL p) = e.level ∧ (t.dev.pin p).edgeUp = some s.dev.up
      ∧ (rest = [] → (t.dev.pin p).queue = []
        ∧ (s.dev.bit (Reg.SCR_PIN_CFG.EN p) = true → (s.dev.pin p).safeDom = none → t.dev.pinLevel p = some e.level)) ∧ s.sameMem t := by
  have hstruck := Dev.edgeExecute_struck (s := s.dev.fresh) p.isLt hb hg hq hgap hdue
  obtain ⟨hlevel, hlast⟩ := Prod.ext_iff.mp hstruck
  refine answers_devStep (exec_edgeExecute p s) ⟨?_, ?_, ?_, rfl, rfl⟩
  · rw [Dev.bit_settle]
    exact hlevel
  · rw [Dev.pin_settle]
    exact congrArg Prod.fst hlast
  · rintro rfl
    rw [Dev.pin_settle, Dev.pinLevel_settle, Dev.edgeExecute_last (s := s.dev.fresh) hb hg hq hgap hdue]
    exact ⟨Dev.headTaken_queue _ p e [], fun hen hs => Dev.headTaken_drives (s := s.dev.fresh) e [] p.isLt hen hs hg⟩

theorem pinMismatch_answers (s : State) (p : Fin 32) (l pad : Bool) (hb : s.dev.blockOn bSCR = true) (hl : s.dev.pinLevel p = some l) (hne : l ≠ pad) :
    Answers (.pinMismatch p pad) s fun t => t.dev.bit (stickyBit bSCR 0) = true ∧ (t.dev.pin p).pad = pad
      ∧ (∀ k, ¬ Dev.faultWords bSCR k → t.dev.word k = s.dev.word k) ∧ s.sameMem t := by
  have honly := Dev.fault_only (s.dev.fresh.modPin p fun x => { x with pad := pad }) bSCR 0
  refine answers_atBlock (exec_pinMismatch p pad s) hb ?_
  rw [Dev.pinMismatch_fault (s := s.dev.fresh) hl hne, Dev.bit_settle, Dev.pin_settle, honly.pin_eq, Dev.pin_modPin]
  refine ⟨Dev.fault_sticky _ bSCR 0 (by decide) (by decide), rfl, fun k hk => ?_, rfl, rfl⟩
  rw [Dev.word_settle, honly.1 k hk]
  rfl

/-- Settles O40: an entry or an edge that is due at once joins the end of its queue, whether or not the pin is enabled (log entry 15), and what follows an executed edge in its instant leaves LEVEL alone. -/
theorem commandsAndPins : Obligations.CommandsAndPins :=
  ⟨commandSend_answers, commandDue_answers, firSwap_answers, edgePush_answers, edgeExecute_answers, pinMismatch_answers⟩

end Sys2Proof.Machine
end

section
/-! SUPPORT. Chuck's triggers, the start of its transactions and its capture records (R224–R227, R235). -/

namespace Sys2Proof.Machine

namespace Dev

/-! ### A read becomes due (R224, R226) -/

/-- Merged triggers change their count and the event bit alone. -/
theorem trigOvf_only (s : Dev) (n m : Nat) : WordOnly (fun k => k = Reg.SMP_TRIG_OVF (n / 16) ∨ k = statusAddr bSMP) s (s.trigOvf n m) := by
  unfold trigOvf
  split
  · exact WordOnly.refl _ s
  · exact (WordOnly.put _ _ (Reg.SMP_TRIG_OVF.COUNT (n / 16)) _ (.inl rfl)).trans (WordOnly.raise _ _ _ _ (.inr rfl))

theorem trigOvf_count (s : Dev) (n m : Nat) :
    (s.trigOvf n m).get (Reg.SMP_TRIG_OVF.COUNT (n / 16)) = (s.get (Reg.SMP_TRIG_OVF.COUNT (n / 16)) + m) % 2 ^ 32 := by
  have hne : (Reg.SMP_TRIG_OVF.COUNT (n / 16)).addr ≠ (statusBit bSMP 4).addr := by
    simp only [Reg.SMP_TRIG_OVF.COUNT, statusBit, statusAddr_smp]
    omega
  unfold trigOvf
  split
  · next h =>
    rw [h, Nat.add_zero]
    exact (Nat.mod_eq_of_lt (get_lt s _)).symm
  · rw [raise, get_put_addr _ _ _ _ hne, incBy, get_put_same _ _ _ (by decide : 0 + 32 ≤ 32)]
    rfl

/-- Triggers that change a channel by `f` make one read due now, and `m` of them are merged. -/
def readDue (s : Dev) (n m : Nat) (f : Chan → Chan) : Dev := ((s.modChan n f).trigOvf n m).modChan n fun x => { x with due := some s.up }

theorem chanDue_readDue {s : Dev} {n : Nat} (m : Nat) {f : Chan → Chan} (h : (f (s.chan n)).due = none) :
    ((s.modChan n f).trigOvf n m).chanDue n false = s.readDue n m f := by
  have hframe := (trigOvf_only (s.modChan n f) n m).2
  have hchan : ((s.modChan n f).trigOvf n m).chan n = f (s.chan n) := by rw [hframe]; exact chan_modChan s n f
  have hup : ((s.modChan n f).trigOvf n m).up = s.up := by rw [hframe]; rfl
  rw [chanDue, hchan, h, hup]
  rfl

theorem readDue_chan (s : Dev) (n m : Nat) (f : Chan → Chan) : (s.readDue n m f).chan n = { f (s.chan n) with due := some s.up } := by
  have hframe := (trigOvf_only (s.modChan n f) n m).2
  rw [readDue, chan_modChan, hframe]
  exact congrArg (fun x : Chan => { x with due := some s.up }) (chan_modChan s n f)

theorem readDue_count (s : Dev) (n m : Nat) (f : Chan → Chan) :
    (s.readDue n m f).get (Reg.SMP_TRIG_OVF.COUNT (n / 16)) = (s.get (Reg.SMP_TRIG_OVF.COUNT (n / 16)) + m) % 2 ^ 32 := trigOvf_count (s.modChan n f) n m

theorem word_readDue (s : Dev) (n m : Nat) (f : Chan → Chan) {k : Nat} (h1 : k ≠ Reg.SMP_TRIG_OVF (n / 16)) (h2 : k ≠ statusAddr bSMP) :
    (s.readDue n m f).word k = s.word k := (trigOvf_only (s.modChan n f) n m).1 k fun h => h.elim h1 h2

theorem sampleTime_periodic {s : Dev} {n m : Nat} (hon : s.chanOn n = true) (hg : s.isGrave bSMP = false) (ht : s.chanTrig n = 1)
    (hd : (s.chan n).due = none)
    (hm : m + 1 = instantsIn (s.chanTime n) (max 1 (s.word (Reg.SMP_CH_TRIG_A (n / 16) (n % 16))).toNat * 65536) (s.chan n).trigAt s.now) :
    s.sampleTime n = s.readDue n m fun x => { x with trigAt := s.now } := by
  unfold sampleTime
  dsimp only
  rw [if_neg (by simp [hon, hg]), if_pos ht, ← hm, if_neg (Nat.succ_ne_zero m)]
  exact chanDue_readDue m hd

theorem angleStep_passed {s : Dev} {n m : Nat} (hon : s.chanOn n = true) (hg : s.isGrave bSMP = false) (ht : s.chanTrig n = 3)
    (hd : (s.chan n).due = none) (ha : s.angOk (s.chanDom n) = true) (hr : (s.chan n).restart = false)
    (hm : m + 1 = (stepCount (s.get (Reg.SMP_CH_TRIG_B.START (n / 16) (n % 16))) ((s.word (Reg.SMP_CH_TRIG_A (n / 16) (n % 16))).toNat % 16777216) (s.pubAngle (s.chanDom n))
      - stepCount (s.get (Reg.SMP_CH_TRIG_B.START (n / 16) (n % 16))) ((s.word (Reg.SMP_CH_TRIG_A (n / 16) (n % 16))).toNat % 16777216) (s.chan n).stepAt).toNat) :
    s.angleStep n = s.readDue n m fun x => { x with stepAt := max x.stepAt (s.pubAngle (s.chanDom n)) } := by
  unfold angleStep
  dsimp only
  rw [if_pos (by simp [hon, ht, ha, hr, hg]), ← hm, if_neg (Nat.succ_ne_zero m)]
  exact chanDue_readDue m hd

theorem chanTimeHiWrite_only (s : Dev) (n : Nat) (v : Word) {k : Nat} (h : k ≠ Reg.SMP_CH_TIME_HI (n / 16) (n % 16)) :
    (s.chanTimeHiWrite n v).word k = s.word k := word_writeFields_other s bSMP v h

/-! ### A transaction starts (R223–R225) -/

/-- The first due entry leaves a queue. -/
theorem split_due {s : Dev} {e : CmdEnt} (he : s.cmdDue e = true) (q' : List CmdEnt) {q : List CmdEnt} (hq : q.any s.cmdDue = false) (before : List CmdEnt) :
    transactionStart.split s before (q ++ e :: q') = some (e, before ++ (q ++ q')) := by
  induction q generalizing before with
  | nil => simp [transactionStart.split, he]
  | cons x q ih =>
    rw [List.any_cons, Bool.or_eq_false_iff] at hq
    obtain ⟨hx, hq⟩ := hq
    simp [transactionStart.split, hx, ih hq]

theorem split_none {s : Dev} {q : List CmdEnt} (hq : q.any s.cmdDue = false) (before : List CmdEnt) : transactionStart.split s before q = none := by
  induction q generalizing before with
  | nil => rfl
  | cons x q ih =>
    rw [List.any_cons, Bool.or_eq_false_iff] at hq
    obtain ⟨hx, hq⟩ := hq
    simp [transactionStart.split, hx, ih hq]

theorem txnBegin_chk (s : Dev) (k b cs word : Nat) (t : Txn) :
    (s.txnBegin k b cs word t).chk k = { s.chk k with txn := some t, bitsUp := s.txnBits k b, endUp := s.txnEnd k b } := by
  rw [txnBegin, chk_emit, chk_modChk]

/-- A dropped read leaves its port's transaction alone, and no read dropped before becomes due. -/
theorem chanDrop_txn (s : Dev) (n k : Nat) : ((s.chanDrop n).chk k).txn = (s.chk k).txn :=
  modChk_keeps (s.modChan n fun x => { x with due := none }) (n / 16) k _ ChkPort.txn fun _ => rfl

theorem word_chanDrop (s : Dev) (n k : Nat) : (s.chanDrop n).word k = s.word k := rfl

theorem chanDrop_self (s : Dev) (n : Nat) : ((s.chanDrop n).chan n).due = none := by
  rw [chanDrop, chan_modChk, chan_modChan]

theorem chanDrop_dropped {s : Dev} {m : Nat} (n : Nat) (h : (s.chan m).due = none) : ((s.chanDrop n).chan m).due = none := by
  by_cases hm : m = n
  · rw [hm, chanDrop_self]
  · exact (congrArg Chan.due (Tab.get_set_other _ _ _ _ _ hm)).trans h

theorem foldl_chanDrop_dropped (l : List Nat) {s : Dev} {m : Nat} (h : (s.chan m).due = none) : ((l.foldl (fun s n => s.chanDrop n) s).chan m).due = none := by
  induction l generalizing s with
  | nil => exact h
  | cons n l ih => exact ih (chanDrop_dropped n h)

theorem foldl_chanDrop_mem {l : List Nat} (s : Dev) {m : Nat} (hm : m ∈ l) : ((l.foldl (fun s n => s.chanDrop n) s).chan m).due = none := by
  induction l generalizing s with
  | nil => cases hm
  | cons n l ih =>
    rcases List.mem_cons.mp hm with rfl | hm
    · exact foldl_chanDrop_dropped l (chanDrop_self s m)
    · exact ih _ hm

section
variable {s : Dev} {k : Nat} (hk : s.chkOn k = true) (hen : s.bit (Reg.SMP_PORT_CFG.EN k) = true) (hg : s.isGrave bSMP = false)
  (hidle : (s.chk k).txn = none) (hend : (s.chk k).endUp ≤ s.up)
include hk hen hg hidle hend

theorem transactionStart_command {e : CmdEnt} {q q' : List CmdEnt} (hc : (s.chk k).cmds = q ++ e :: q') (hq : q.any s.cmdDue = false) (he : s.cmdDue e = true) :
    s.transactionStart k = (s.modChk k fun x => { x with cmds := q ++ q' }).txnBegin k (if e.w32 then 32 else 16) e.cs e.word (.command e.cs e.w32 e.word) := by
  unfold transactionStart
  dsimp only
  rw [if_neg (by simp [hk, hen, hg, hidle, hend]), hc, split_due he q' hq]
  rfl

theorem transactionStart_read {cs : Nat} {ns : List Nat} (hq : (s.chk k).cmds.any s.cmdDue = false) (hn : s.nextRead k = some (cs, ns)) :
    ∃ bits, s.transactionStart k = ns.foldl (fun s n => s.chanDrop n) (s.txnBegin k bits cs 0
      (.read cs (ns.map fun n => (n % 16, s.angStamp (s.chanDom n))) ((s.now : Int) + s.getS (Reg.SMP_STAMP_OFS.OFS k) * 65536).toNat)) := by
  unfold transactionStart
  dsimp only
  rw [if_neg (by simp [hk, hen, hg, hidle, hend]), split_none hq, hn]
  exact ⟨_, rfl⟩

end

/-! ### A capture record (R235) -/

/-- A record whose write has left the buffer is the oldest, and is complete. -/
theorem captureComplete_ok {s : Dev} {n a : Nat} {q : List Nat} (hq : (s.chan n).capQ = a :: q)
    (hw : ((s.chn 0).waits.filter fun a => a.owner == .capture n).length + ((s.chn 1).waits.filter fun a => a.owner == .capture n).length < q.length + 1) :
    s.captureComplete n true = (s.setChan n { s.chan n with capQ := q }).inc (Reg.SMP_CAP_COUNT.COUNT (n / 16) (n % 16)) := by
  unfold captureComplete
  simp only [hq, List.length_cons]
  rw [if_neg (Nat.not_le.mpr hw)]
  exact if_pos trivial

end Dev

theorem exec_sampleTimeTrigger (n : Fin 512) (s : State) : exec (.sampleTimeTrigger n) s = devStep (·.sampleTime n) s := rfl
theorem exec_angleStepTrigger (n : Fin 512) (s : State) : exec (.angleStepTrigger n) s = devStep (·.angleStep n) s := rfl
theorem exec_triggerArm (n : Fin 512) (v : Word) (s : State) :
    exec (.triggerArm n v) s = devStep (fun d => d.chkGate (n / 16) (Reg.SMP_CH_TIME_HI (n / 16) (n % 16)) v (·.chanTimeHiWrite n v)) s := rfl
theorem exec_transactionStart (k : Fin 32) (s : State) : exec (.transactionStart k) s = devStep (·.transactionStart k) s := rfl
theorem exec_captureWriteComplete (n : Fin 512) (ok : Bool) (s : State) : exec (.captureWriteComplete n ok) s = devStep (·.captureComplete n ok) s := rfl

/-- What a command shows that makes one read of a channel due. -/
theorem readDue_answers {c : Instr} {s : State} {g : Dev → Dev} {n m : Nat} {f : Chan → Chan} (he : exec c s = devStep g s)
    (hg : g s.dev.fresh = s.dev.fresh.readDue n m f) :
    Answers c s fun t => t.dev.chan n = { f (s.dev.chan n) with due := some s.dev.up }
      ∧ t.dev.get (Reg.SMP_TRIG_OVF.COUNT (n / 16)) = (s.dev.get (Reg.SMP_TRIG_OVF.COUNT (n / 16)) + m) % 2 ^ 32
      ∧ (∀ k, k ≠ Reg.SMP_TRIG_OVF (n / 16) → k ≠ statusAddr bSMP → t.dev.word k = s.dev.word k) ∧ s.sameMem t := by
  refine answers_devStep he ?_
  rw [hg, Dev.chan_settle, Dev.readDue_chan, Dev.get_settle, Dev.readDue_count]
  refine ⟨rfl, rfl, fun k h1 h2 => ?_, rfl, rfl⟩
  rw [Dev.word_settle, Dev.word_readDue _ _ _ _ h1 h2, Dev.word_fresh]

theorem sampleTimeTrigger_answers (s : State) (n : Fin 512) (m : Nat) (hon : s.dev.chanOn n = true) (hg : s.dev.isGrave bSMP = false)
    (ht : s.dev.chanTrig n = 1) (hd : (s.dev.chan n).due = none)
    (hm : m + 1 = Dev.instantsIn (s.dev.chanTime n) (max 1 (s.dev.word (Reg.SMP_CH_TRIG_A (n / 16) (n % 16))).toNat * 65536) (s.dev.chan n).trigAt s.dev.now) :
    Answers (.sampleTimeTrigger n) s fun t => (t.dev.chan n).due = some s.dev.up ∧ (t.dev.chan n).trigAt = s.dev.now
      ∧ t.dev.get (Reg.SMP_TRIG_OVF.COUNT (n / 16)) = (s.dev.get (Reg.SMP_TRIG_OVF.COUNT (n / 16)) + m) % 2 ^ 32
      ∧ (∀ k, k ≠ Reg.SMP_TRIG_OVF (n / 16) → k ≠ statusAddr bSMP → t.dev.word k = s.dev.word k) ∧ s.sameMem t := by
  obtain ⟨t, he, hchan, hrest⟩ := readDue_answers (exec_sampleTimeTrigger n s) (Dev.sampleTime_periodic (s := s.dev.fresh) hon hg ht hd hm)
  exact ⟨t, he, by rw [hchan], by rw [hchan]; rfl, hrest⟩

theorem angleStepTrigger_answers (s : State) (n : Fin 512) (m : Nat) (hon : s.dev.chanOn n = true) (hg : s.dev.isGrave bSMP = false)
    (ht : s.dev.chanTrig n = 3) (hd : (s.dev.chan n).due = none) (ha : s.dev.angOk (s.dev.chanDom n) = true) (hr : (s.dev.chan n).restart = false)
    (hm : m + 1 = (Dev.stepCount (s.dev.get (Reg.SMP_CH_TRIG_B.START (n / 16) (n % 16))) ((s.dev.word (Reg.SMP_CH_TRIG_A (n / 16) (n % 16))).toNat % 16777216) (s.dev.pubAngle (s.dev.chanDom n))
      - Dev.stepCount (s.dev.get (Reg.SMP_CH_TRIG_B.START (n / 16) (n % 16))) ((s.dev.word (Reg.SMP_CH_TRIG_A (n / 16) (n % 16))).toNat % 16777216) (s.dev.chan n).stepAt).toNat) :
    Answers (.angleStepTrigger n) s fun t => (t.dev.chan n).due = some s.dev.up ∧ (t.dev.chan n).stepAt = max (s.dev.chan n).stepAt (s.dev.pubAngle (s.dev.chanDom n))
      ∧ t.dev.get (Reg.SMP_TRIG_OVF.COUNT (n / 16)) = (s.dev.get (Reg.SMP_TRIG_OVF.COUNT (n / 16)) + m) % 2 ^ 32
      ∧ (∀ k, k ≠ Reg.SMP_TRIG_OVF (n / 16) → k ≠ statusAddr bSMP → t.dev.word k = s.dev.word k) ∧ s.sameMem t := by
  obtain ⟨t, he, hchan, hrest⟩ := readDue_answers (exec_angleStepTrigger n s) (Dev.angleStep_passed (s := s.dev.fresh) hon hg ht hd ha hr hm)
  exact ⟨t, he, by rw [hchan], by rw [hchan]; rfl, hrest⟩

theorem triggerArm_answers (s : State) (n : Fin 512) (v : Word) (hk : s.dev.chkOn (n / 16) = true)
    (hr : s.dev.hostRefused (Reg.SMP_CH_TIME_HI (n / 16) (n % 16)) = false) :
    Answers (.triggerArm n v) s fun t => (t.dev.chan n).armed = true
      ∧ t.dev.word (Reg.SMP_CH_TIME_HI (n / 16) (n % 16)) = s.dev.written bSMP (Reg.SMP_CH_TIME_HI (n / 16) (n % 16)) v
      ∧ (∀ k, k ≠ Reg.SMP_CH_TIME_HI (n / 16) (n % 16) → t.dev.word k = s.dev.word k) ∧ s.sameMem t := by
  refine answers_chkGate (exec_triggerArm n v s) hk hr ⟨?_, ?_, fun k h => ?_, rfl, rfl⟩
  · rw [Dev.chan_settle, Dev.chanTimeHiWrite, Dev.chan_modChan]
  · rw [Dev.word_settle]
    exact Dev.word_writeFields s.dev.fresh bSMP _ v
  · rw [Dev.word_settle, Dev.chanTimeHiWrite_only _ _ _ h, Dev.word_fresh]

section
variable {s : State} {k : Fin 32} (hk : s.dev.chkOn k = true) (hen : s.dev.bit (Reg.SMP_PORT_CFG.EN k) = true) (hg : s.dev.isGrave bSMP = false)
  (hidle : (s.dev.chk k).txn = none) (hend : (s.dev.chk k).endUp ≤ s.dev.up)
include hk hen hg hidle hend

theorem transactionStart_command_answers (e : CmdEnt) (q q' : List CmdEnt) (hc : (s.dev.chk k).cmds = q ++ e :: q') (hq : (q.any s.dev.cmdDue) = false)
    (he : s.dev.cmdDue e = true) :
    Answers (.transactionStart k) s fun t => (t.dev.chk k).txn = some (.command e.cs e.w32 e.word) ∧ (t.dev.chk k).cmds = q ++ q'
      ∧ Output.spiTxn k e.cs (s.dev.get (Reg.SMP_PORT_CFG.MODE k)) (if e.w32 then 32 else 16) e.word ∈ t.dev.out
      ∧ (t.dev.chk k).bitsUp = s.dev.txnBits k (if e.w32 then 32 else 16) ∧ (t.dev.chk k).endUp = s.dev.txnEnd k (if e.w32 then 32 else 16)
      ∧ (∀ j, t.dev.word j = s.dev.word j) ∧ s.sameMem t := by
  refine answers_devStep (exec_transactionStart k s) ?_
  rw [Dev.transactionStart_command (s := s.dev.fresh) hk hen hg hidle hend hc hq he, Dev.chk_settle, Dev.txnBegin_chk, Dev.chk_modChk]
  exact ⟨rfl, rfl, Dev.mem_settle_out _ _ _ (List.mem_append_right _ (List.mem_singleton.mpr rfl)), rfl, rfl, fun j => Dev.word_settle _ _ j, rfl, rfl⟩

theorem transactionStart_read_answers (cs : Nat) (ns : List Nat) (hq : ((s.dev.chk k).cmds.any s.dev.cmdDue) = false) (hn : s.dev.nextRead k = some (cs, ns)) :
    Answers (.transactionStart k) s fun t => (∃ st, (t.dev.chk k).txn = some (.read cs (ns.map fun n => (n % 16, s.dev.angStamp (s.dev.chanDom n))) st)
        ∧ st = ((s.dev.now : Int) + s.dev.getS (Reg.SMP_STAMP_OFS.OFS k) * 65536).toNat)
      ∧ (∀ n ∈ ns, (t.dev.chan n).due = none) ∧ (∀ j, t.dev.word j = s.dev.word j) ∧ s.sameMem t := by
  obtain ⟨bits, hstart⟩ := Dev.transactionStart_read (s := s.dev.fresh) hk hen hg hidle hend hq hn
  refine answers_devStep (exec_transactionStart k s) ?_
  rw [hstart]
  refine ⟨⟨_, ?_, rfl⟩, fun n hmem => ?_, fun j => ?_, rfl, rfl⟩
  · rw [Dev.chk_settle, Dev.foldl_keeps (fun d => (d.chk k).txn) ns fun n _ d => Dev.chanDrop_txn d n k, Dev.txnBegin_chk]
    rfl
  · rw [Dev.chan_settle, Dev.foldl_chanDrop_mem _ hmem]
  · rw [Dev.word_settle, Dev.foldl_keeps (·.word j) ns fun n _ d => Dev.word_chanDrop d n j]
    rfl

end

theorem captureWriteComplete_answers (s : State) (n : Fin 512) (a : Nat) (q : List Nat) (hq : (s.dev.chan n).capQ = a :: q)
    (hw : ((s.dev.chn 0).waits.filter fun a => a.owner == .capture n).length + ((s.dev.chn 1).waits.filter fun a => a.owner == .capture n).length < q.length + 1) :
    Answers (.captureWriteComplete n true) s fun t => (t.dev.chan n).capQ = q
      ∧ t.dev.get (Reg.SMP_CAP_COUNT.COUNT (n / 16) (n % 16)) = (s.dev.get (Reg.SMP_CAP_COUNT.COUNT (n / 16) (n % 16)) + 1) % 2 ^ 32
      ∧ (∀ k, k ≠ Reg.SMP_CAP_COUNT (n / 16) (n % 16) → t.dev.word k = s.dev.word k) ∧ s.sameMem t := by
  refine answers_devStep (exec_captureWriteComplete n true s) ?_
  rw [Dev.captureComplete_ok (s := s.dev.fresh) hq hw]
  refine ⟨?_, ?_, fun k h => ?_, rfl, rfl⟩
  · rw [Dev.chan_settle]
    exact congrArg Chan.capQ (Dev.chan_setChan s.dev.fresh n _)
  · rw [Dev.get_settle, Dev.get_inc_same _ rfl rfl]
    rfl
  · rw [Dev.word_settle]
    exact Dev.word_put_other _ (Reg.SMP_CAP_COUNT.COUNT (n / 16) (n % 16)) _ k h

end Sys2Proof.Machine
end

section
/-! SUPPORT. What the destinations of an output leave alone of Chuck (R231–R235, R253): the ports' own stores, and the words of its channels but those of the angle stamp, the comparators and the lost records. One lemma per operation that an output passes through on its way to the cells, the streams and the memory, as the frames of the root and of the Spindle have one for their own words. -/

namespace Sys2Proof.Machine

namespace Dev

/-- A word of Chuck's ports that shows or configures an output and stands once it is shown: none of SMP_CH_ANG_LO and HI, SMP_CH_STAT, SMP_FLOOR_A and B, SMP_CH_DROP (R243). -/
def chuckWord (k : Nat) : Bool :=
  Nat.ble 0x202000 k && Nat.blt k 0x280000 && !([0x5C, 0x60, 0x64, 0x68, 0x6C, 0x7C].contains (k % 0x80))

theorem chuckWord_low {k : Nat} (h : k < 0x202000) : chuckWord k = false := by
  simp [chuckWord, Nat.not_le.mpr h]

theorem chuckWord_high {k : Nat} (h : 0x280000 ≤ k) : chuckWord k = false := by
  simp [chuckWord, Nat.not_lt.mpr h]

/-- A word of a channel that changes after its output is shown. -/
theorem chuckWord_passing {a : Nat} (k i : Nat) (h : a ∈ [0x5C, 0x60, 0x64, 0x68, 0x6C, 0x7C]) : chuckWord (0x202400 + a + 0x4000 * k + 0x80 * i) = false := by
  have hlt : a < 0x80 := (by decide : ∀ a ∈ [0x5C, 0x60, 0x64, 0x68, 0x6C, 0x7C], a < 0x80) a h
  have hmod : (0x202400 + a + 0x4000 * k + 0x80 * i) % 0x80 = a := by omega
  rw [chuckWord, hmod, List.contains_iff_mem.mpr h, Bool.not_true, Bool.and_false]

/-- A word of a channel that shows or configures its output. -/
theorem chuckWord_standing {a k i : Nat} (hk : k < 32) (hi : i < 16) (ha : a < 0x80) (h : a ∉ [0x5C, 0x60, 0x64, 0x68, 0x6C, 0x7C]) :
    chuckWord (0x202400 + a + 0x4000 * k + 0x80 * i) = true := by
  have hmod : (0x202400 + a + 0x4000 * k + 0x80 * i) % 0x80 = a := by omega
  have hlo : Nat.ble 0x202000 (0x202400 + a + 0x4000 * k + 0x80 * i) = true := Nat.ble_eq.mpr (by omega)
  have hhi : Nat.blt (0x202400 + a + 0x4000 * k + 0x80 * i) 0x280000 = true := Nat.blt_eq.mpr (by omega)
  have hnot : [0x5C, 0x60, 0x64, 0x68, 0x6C, 0x7C].contains a = false := by simpa using h
  rw [chuckWord, hmod, hnot, hlo, hhi]
  rfl

/-- Chuck as an observation: the stores of its ports, and those words. -/
def chuck (s : Dev) : Tab ChkPort × (Nat → Word) := (s.chks, fun k => if chuckWord k then s.word k else 0)

theorem chuck_of_words {s t : Dev} (hw : ∀ k, chuckWord k = true → t.word k = s.word k) (hc : t.chks = s.chks) : t.chuck = s.chuck :=
  Prod.ext hc (funext fun k => ite_congr rfl (hw k) fun _ => rfl)

theorem chuck_of_regs {s t : Dev} (hr : t.regs = s.regs) (hc : t.chks = s.chks) : t.chuck = s.chuck := chuck_of_words (fun _ _ => word_of_regs hr _) hc

section
variable {s t : Dev} (h : t.chuck = s.chuck)
include h

theorem chk_of_chuck (k : Nat) : t.chk k = s.chk k := by rw [chk, chk, show t.chks = s.chks from congrArg Prod.fst h]

theorem word_of_chuck {k : Nat} (hk : chuckWord k = true) : t.word k = s.word k := by
  have hw := congrFun (congrArg Prod.snd h) k
  simpa [chuck, hk] using hw

theorem get_of_chuck {f : Fld} (hk : chuckWord f.addr = true) : t.get f = s.get f := get_of_word (word_of_chuck h hk)
theorem bit_of_chuck {f : Fld} (hk : chuckWord f.addr = true) : t.bit f = s.bit f := bit_of_word (word_of_chuck h hk)
theorem getS_of_chuck {f : Fld} (hk : chuckWord f.addr = true) : t.getS f = s.getS f := by rw [getS, getS, get_of_chuck h hk]

end

/-- A frame of registers, fault units, log and trace whose words are none of Chuck's keeps Chuck. -/
theorem FaultOnly.chuck {K : Nat → Prop} {s t : Dev} (h : FaultOnly K s t) (hK : ∀ k, K k → chuckWord k = false) : t.chuck = s.chuck := by
  obtain ⟨hw, he⟩ := h
  refine chuck_of_words (fun k hk => hw k fun hK' => ?_) (by rw [he])
  simp [hK k hK'] at hk

/-! ### Registers and control flow -/

@[simp] theorem setWord_chuck (s : Dev) {k : Nat} (w : Word) (h : chuckWord k = false) : (s.setWord k w).chuck = s.chuck :=
  (WordOnly.setWord (· = k) s k w rfl).toFault.chuck fun _ hk => hk ▸ h

@[simp] theorem put_chuck (s : Dev) {f : Fld} (v : Nat) (h : chuckWord f.addr = false) : (s.put f v).chuck = s.chuck := setWord_chuck s _ h
@[simp] theorem inc_chuck (s : Dev) {f : Fld} (h : chuckWord f.addr = false) : (s.inc f).chuck = s.chuck := put_chuck s _ h
@[simp] theorem putBit_chuck (s : Dev) {f : Fld} (b : Bool) (h : chuckWord f.addr = false) : (s.putBit f b).chuck = s.chuck := put_chuck s _ h
@[simp] theorem raise_chuck (s : Dev) {b : Nat} (n : Nat) (h : chuckWord (statusAddr b) = false) : (s.raise b n).chuck = s.chuck := put_chuck s 1 h

@[simp] theorem when_chuck (s : Dev) (c : Bool) {f : Dev → Dev} (h : ∀ s, (f s).chuck = s.chuck) : (s.when c f).chuck = s.chuck := by
  cases c
  · rfl
  · exact h s

@[simp] theorem ite_chuck (c : Prop) [Decidable c] (s t : Dev) : (if c then s else t).chuck = if c then s.chuck else t.chuck := apply_ite chuck c s t

/-! ### The stores that an output passes through -/

@[simp] theorem modChan_chuck (s : Dev) (n : Nat) (f : Chan → Chan) : (s.modChan n f).chuck = s.chuck := chuck_of_regs rfl rfl
@[simp] theorem setChan_chuck (s : Dev) (n : Nat) (x : Chan) : (s.setChan n x).chuck = s.chuck := chuck_of_regs rfl rfl
@[simp] theorem setCell_chuck (s : Dev) (c : Nat) (x : Cell) : (s.setCell c x).chuck = s.chuck := chuck_of_regs rfl rfl
@[simp] theorem setFrame_chuck (s : Dev) (d : Nat) (x : Frame) : (s.setFrame d x).chuck = s.chuck := chuck_of_regs rfl rfl
@[simp] theorem setCtx_chuck (s : Dev) (x : Nat) (c : Ctx) : (s.setCtx x c).chuck = s.chuck := chuck_of_regs rfl rfl
@[simp] theorem setSlotWaits_chuck (s : Dev) (r : Nat) (l : List SlotWait) : (s.setSlotWaits r l).chuck = s.chuck := chuck_of_regs rfl rfl
@[simp] theorem setChn_chuck (s : Dev) (ch : Nat) (x : Chn) : (s.setChn ch x).chuck = s.chuck := chuck_of_regs rfl rfl

/-! ### Events, trace and statistics -/

@[simp] theorem fault_chuck (s : Dev) {b : Nat} (n : Nat) (h : chuckWord (stickyAddr b) = false) : (s.fault b n).chuck = s.chuck := by
  refine (fault_only s b n).chuck fun k hk => ?_
  rcases hk with rfl | rfl | rfl | rfl | rfl
  · exact h
  all_goals exact chuckWord_high (by decide)

@[simp] theorem trace_chuck (s : Dev) (src inst m a b : Nat) : (s.trace src inst m a b).chuck = s.chuck := by
  refine (traceAt_only s _ src inst m a b).chuck fun k hk => ?_
  rcases hk with rfl | rfl | rfl | rfl | rfl
  all_goals exact chuckWord_high (by decide)

@[simp] theorem incTx_chuck (s : Dev) {p i : Nat} (hp : p < 8) (hi : i < 64) : (s.incTx p i).chuck = s.chuck := by
  refine (incTx_only s p i).toFault.chuck fun k hk => chuckWord_low ?_
  rcases hk with rfl | rfl
  · simp only [Reg.PRT_TX_CNT]; omega
  · simp only [Reg.PRT_HALF_TX]; omega

@[simp] theorem incCtx_chuck (s : Dev) {x i : Nat} (hx : x < 512) (hi : i < 12) : (s.incCtx x i).chuck = s.chuck := by
  refine (incCtx_only s x i).toFault.chuck fun k hk => chuckWord_low ?_
  rcases hk with rfl | rfl
  · simp only [Reg.STM_CNT]; omega
  · simp only [Reg.STM_CTX_STAT]; omega

/-! ### Copies of frames -/

theorem chuckWord_of_bankWords {k : Nat} (h : bankWords k) : chuckWord k = false := by
  rcases h with rfl | ⟨h, -⟩ | h
  · exact chuckWord_low (by decide)
  · exact chuckWord_high h
  · exact chuckWord_high (Nat.le_trans (by decide) h)

@[simp] theorem releaseCopy_chuck (s : Dev) (d : Nat) : (s.releaseCopy d).chuck = s.chuck := by
  obtain ⟨hw, he⟩ := releaseCopy_only s d
  refine chuck_of_words (fun k hk => hw k fun hb => ?_) (by rw [he])
  simp [chuckWord_of_bankWords hb] at hk

section
variable (s : Dev) {p : Nat} {e : QEnt} (hx : ∀ x, e.ctx = some x → x < 512)
include hx

theorem dropNeverCarried_chuck (hp : p < 8) : (s.dropNeverCarried p e).chuck = s.chuck := by
  unfold dropNeverCarried
  split
  · next x he => simp [hp, hx x he]
  · simp [hp]

theorem queueCopy_chuck (hp : p < 8) (c : Nat) : (s.queueCopy p c e).chuck = s.chuck := by
  unfold queueCopy
  split
  · exact dropNeverCarried_chuck s hx hp
  · rfl

theorem queueRing_chuck (hp : p < 4) (c : Nat) : (s.queueRing p c e).chuck = s.chuck := by
  have ho := otherPort_lt hp
  have hlate : chuckWord (Reg.SHD_PASS_LATE.COUNT (ringOf p)).addr = false := chuckWord_low (by
    simp only [Reg.SHD_PASS_LATE.COUNT, ringOf]
    omega)
  have hqueue (q : Nat) (hq : q < 8) (d : List Octet) : (s.queueCopy q c { e with data := d }).chuck = s.chuck :=
    queueCopy_chuck (e := { e with data := d }) s hx hq c
  unfold queueRing
  dsimp only
  split
  · split
    · rw [releaseCopy_chuck, inc_chuck _ hlate]
    · exact hqueue _ (by omega) _
  · exact hqueue _ (by omega) _

theorem sendOwn_chuck (hp : p < 8) (prio : Nat) (slot : Bool) : (s.sendOwn p prio slot e).chuck = s.chuck := by
  have hring (h4 : p < 4) (c : Nat) (d : List Octet) : (s.queueRing p c { e with data := d }).chuck = s.chuck :=
    queueRing_chuck (e := { e with data := d }) s hx h4 c
  unfold sendOwn
  dsimp only
  split
  · next h4 => exact hring h4 _ _
  · exact queueCopy_chuck s hx hp _

end

@[simp] theorem placeFrame_chuck (s : Dev) (o : Owner) (shared : Bool) (data : List Octet) (copies ingress : Nat) :
    (s.placeFrame o shared data copies ingress).2.chuck = s.chuck := by
  obtain ⟨hw, he⟩ := placeFrame_traffic (fun _ => False) s o shared data copies ingress
  exact chuck_of_words (fun k _ => hw k not_false) (by rw [he])

/-! ### Streams -/

@[simp] theorem lastEvt_chuck (s : Dev) (kind x : Nat) : (s.lastEvt kind x).chuck = s.chuck := by simp +decide [lastEvt]

@[simp] theorem refuseRef_chuck (s : Dev) (x g : Nat) : (s.refuseRef x g).chuck = s.chuck := by simp +decide [refuseRef]

@[simp] theorem refuseSend_chuck (s : Dev) (x : Nat) : (s.refuseSend x).chuck = s.chuck := by simp +decide [refuseSend]

@[simp] theorem assignSlot_chuck (s : Dev) (r from' : Nat) (w : SlotWait) : (s.assignSlot r from' w).chuck = s.chuck := by simp +decide [assignSlot]

theorem mem_portsOf_lt {p m : Nat} (h : p ∈ portsOf m) : p < 8 := List.mem_range.mp (List.mem_of_mem_filter h)

section
variable (s : Dev) {x : Nat} (hx : x < 512)
include hx

theorem releaseFrame_chuck (h : Held) : (s.releaseFrame x h).chuck = s.chuck := by
  have hseq : chuckWord (Reg.STM_SEQ.SEQ x).addr = false := chuckWord_low (by
    simp only [Reg.STM_SEQ.SEQ]
    omega)
  have hlocker : ∀ (s : Dev) (m : Memory), ({ s with locker := m } : Dev).chuck = s.chuck := fun _ _ => rfl
  unfold releaseFrame
  dsimp only
  refine (foldl_keeps chuck _ (fun p hp s => ?_) _).trans ?_
  · split
    · exact assignSlot_chuck ..
    · refine sendOwn_chuck s (fun y hy => ?_) (mem_portsOf_lt hp) _ _
      obtain rfl := Option.some.inj hy
      exact hx
  · simp [hseq, hlocker, hx]

theorem dropTooLong_chuck (n : Nat) : (s.dropTooLong x n).chuck = s.chuck := by
  induction n generalizing s with
  | zero => rfl
  | succ n ih =>
    unfold dropTooLong
    split
    · split
      · simp [ih, hx]
      · rfl
    · rfl

theorem handover_chuck (gen : Nat) (data : List Octet) (ready : Option Nat) : (s.handover x gen data ready).2.chuck = s.chuck := by
  unfold handover
  dsimp only
  split
  · exact refuseRef_chuck s x gen
  · split
    · exact refuseSend_chuck s x
    · split
      · simp [apply_ite Prod.snd, dropTooLong_chuck, releaseFrame_chuck, hx]
      · simp [hx]

end

/-! ### The Lathe -/

section
variable (s : Dev) {c : Nat} (hc : c < 64)
include hc

theorem celRequest_chuck (angle trig : Bool) : (s.celRequest c angle trig).chuck = s.chuck := by
  have h : chuckWord (Reg.CEL_TRIG_OVF.COUNT c).addr = false := chuckWord_low (by
    simp only [Reg.CEL_TRIG_OVF.COUNT]
    omega)
  unfold celRequest
  dsimp only
  split
  · rfl
  · split <;> simp [h]

theorem celEvent_chuck (src : Nat) (v : Int) (ref : Option (Nat × Nat)) : (s.celEvent c src v ref).chuck = s.chuck := by
  have hu : chuckWord (Reg.CEL_EVT_UNBOUND.COUNT c).addr = false := chuckWord_low (by
    simp only [Reg.CEL_EVT_UNBOUND.COUNT]
    omega)
  have ho : chuckWord (Reg.CEL_EVT_OVF.COUNT c).addr = false := chuckWord_low (by
    simp only [Reg.CEL_EVT_OVF.COUNT]
    omega)
  unfold celEvent
  dsimp only
  split
  · rfl
  · split
    · simp [hu]
    · split
      · simp +decide [ho]
      · simp [celQueueRequest, celRequest_chuck, hc]

end

/-! ### The memory (R338) -/

theorem panicOne_chuck (s : Dev) (q ch : Nat) : (s.panicOne q ch).chuck = s.chuck := by
  have hstat : chuckWord (panicFld q ch).addr = false := chuckWord_high (by
    simp only [panicFld, Reg.MEM_PORT_STAT]
    omega)
  have hcount : chuckWord (Reg.MEM_PANIC_CNT.COUNT q).addr = false := chuckWord_high (by
    simp only [Reg.MEM_PANIC_CNT.COUNT]
    omega)
  simp +decide [panicOne, hstat, hcount]

theorem rtWrite_chuck (s : Dev) (ch : Nat) (a : Acc) : (s.rtWrite ch a).2.chuck = s.chuck := by
  unfold rtWrite
  split
  · exact inc_chuck s (by decide)
  · split
    · simp +decide
    · simp [panicUpdate, panicOne_chuck]

/-! ### The destinations of an output (R232–R235) -/

section
variable (s : Dev) (n : Nat)

theorem chuckWord_chStat (k i : Nat) : chuckWord (Reg.SMP_CH_STAT k i) = false := chuckWord_passing (a := 0x64) k i (by decide)
theorem chuckWord_chFloorA (k i : Nat) : chuckWord (Reg.SMP_FLOOR_A k i) = false := chuckWord_passing (a := 0x68) k i (by decide)
theorem chuckWord_chFloorB (k i : Nat) : chuckWord (Reg.SMP_FLOOR_B k i) = false := chuckWord_passing (a := 0x6C) k i (by decide)
theorem chuckWord_chDrop (k i : Nat) : chuckWord (Reg.SMP_CH_DROP k i) = false := chuckWord_passing (a := 0x7C) k i (by decide)

@[simp] theorem flatLine_chuck (raw : Nat) : (s.flatLine n raw).2.chuck = s.chuck := by
  have hstat : chuckWord (Reg.SMP_CH_STAT.FLAT (n / 16) (n % 16)).addr = false := chuckWord_chStat _ _
  unfold flatLine
  dsimp only
  split
  · simp [hstat]
  · split
    · simp
    · simp +decide [apply_ite Prod.snd, hstat]

@[simp] theorem chanTrace_chuck : (s.chanTrace n).chuck = s.chuck := trace_chuck ..

theorem chanEvent_chuck (y : Int) : (s.chanEvent n y).chuck = s.chuck := by
  refine foldl_keeps chuck _ (fun c hc s => ?_) s
  split
  · exact celEvent_chuck s (List.mem_range.mp hc) _ _ _
  · rfl

theorem captureFail_chuck : (s.captureFail n).chuck = s.chuck := by
  rw [captureFail, fault_chuck _ _ (by decide)]
  exact inc_chuck s (chuckWord_chDrop _ _)

theorem streamOut_chuck (r : ChRec) : (s.streamOut n r).chuck = s.chuck := by
  have hdrop : chuckWord (Reg.SMP_CH_DROP.COUNT (n / 16) (n % 16)).addr = false := chuckWord_chDrop _ _
  unfold streamOut
  dsimp only
  split
  · rfl
  · split
    · exact setChan_chuck ..
    · have hsent : ∀ (u : Dev) (g : Nat) (f : List Octet), (u.handover (u.get (Reg.SMP_CH_DEST.STREAM (n / 16) (n % 16))) g f none).2.chuck = u.chuck :=
        fun u g f => handover_chuck u (get_lt u _) g f none
      split
      · next h => exact (congrArg (fun x => chuck x.2) h).symm.trans (hsent _ _ _)
      · next h =>
        rw [inc_chuck _ hdrop]
        exact (congrArg (fun x => chuck x.2) h).symm.trans (hsent _ _ _)

theorem captureOut_chuck (r : ChRec) : (s.captureOut n r).chuck = s.chuck := by
  unfold captureOut
  dsimp only
  split
  · rfl
  · split
    · exact captureFail_chuck s n
    · split
      · next h =>
        rw [modChan_chuck]
        exact (congrArg (fun x => chuck x.2) h).symm.trans (rtWrite_chuck ..)
      · next h =>
        rw [captureFail_chuck]
        exact (congrArg (fun x => chuck x.2) h).symm.trans (rtWrite_chuck ..)

end

end Dev
end Sys2Proof.Machine
end

section
/-! SUPPORT. An output of a channel and the end of a transaction (R223, R226, R228–R230). -/

namespace Sys2Proof.Machine

namespace Dev

/-! ### An output is shown (R230) -/

/-- The registers that show an output (R230). -/
def outputShown (s : Dev) (n : Nat) (r : ChRec) : Dev :=
  (((((s.setWord (Reg.SMP_CH_VALUE (n / 16) (n % 16)) (BitVec.ofInt 32 r.value)).setStamp3 (Reg.SMP_CH_STAMP_LO (n / 16) (n % 16)) r.stamp).setWord
    (Reg.SMP_CH_ANG_LO (n / 16) (n % 16)) (BitVec.ofNat 32 r.angle)).setWord (Reg.SMP_CH_ANG_HI (n / 16) (n % 16)) (BitVec.ofNat 32 (r.angle / 2 ^ 32))).inc
    (Reg.SMP_CH_CNT.COUNT (n / 16) (n % 16)))

theorem stamp3_of_words {s t : Dev} {lo : Nat} (h0 : t.word lo = s.word lo) (h4 : t.word (lo + 4) = s.word (lo + 4)) (h8 : t.word (lo + 8) = s.word (lo + 8)) :
    t.stamp3 lo = s.stamp3 lo := by rw [stamp3, stamp3, h0, h4, h8]

theorem word_setStamp3_beside (s : Dev) {lo j : Nat} (x : Nat) (h : j < lo ∨ lo + 8 < j) : (s.setStamp3 lo x).word j = s.word j := by
  rw [setStamp3, word_setWord_other _ _ _ _ (by omega), word_setWord_other _ _ _ _ (by omega), word_setWord_other _ _ _ _ (by omega)]

theorem stamp3_setStamp3 (s : Dev) (lo x : Nat) : (s.setStamp3 lo x).stamp3 lo = x % 2 ^ 96 := by
  simp [stamp3, setStamp3, word_setWord]
  omega

section
variable (s : Dev) (n : Nat) (r : ChRec)

/-- The angle stamp and the count lie behind the value and its stamp. -/
theorem outputShown_before {j : Nat} (h : j < Reg.SMP_CH_ANG_LO (n / 16) (n % 16)) :
    (s.outputShown n r).word j
      = ((s.setWord (Reg.SMP_CH_VALUE (n / 16) (n % 16)) (BitVec.ofInt 32 r.value)).setStamp3 (Reg.SMP_CH_STAMP_LO (n / 16) (n % 16)) r.stamp).word j := by
  simp only [Reg.SMP_CH_ANG_LO] at h
  have hcount : j ≠ (Reg.SMP_CH_CNT.COUNT (n / 16) (n % 16)).addr := by simp only [Reg.SMP_CH_CNT.COUNT]; omega
  have hhi : j ≠ Reg.SMP_CH_ANG_HI (n / 16) (n % 16) := by simp only [Reg.SMP_CH_ANG_HI]; omega
  have hlo : j ≠ Reg.SMP_CH_ANG_LO (n / 16) (n % 16) := by simp only [Reg.SMP_CH_ANG_LO]; omega
  rw [outputShown, inc, word_put_other _ _ _ _ hcount, word_setWord_other _ _ _ _ hhi, word_setWord_other _ _ _ _ hlo]

theorem outputShown_value : (s.outputShown n r).word (Reg.SMP_CH_VALUE (n / 16) (n % 16)) = BitVec.ofInt 32 r.value := by
  have hlt : Reg.SMP_CH_VALUE (n / 16) (n % 16) < Reg.SMP_CH_STAMP_LO (n / 16) (n % 16) := by simp only [Reg.SMP_CH_VALUE, Reg.SMP_CH_STAMP_LO]; omega
  rw [outputShown_before, word_setStamp3_beside _ _ (.inl hlt), word_setWord_same]
  simp only [Reg.SMP_CH_VALUE, Reg.SMP_CH_ANG_LO]
  omega

theorem outputShown_stamp : (s.outputShown n r).stamp3 (Reg.SMP_CH_STAMP_LO (n / 16) (n % 16)) = r.stamp % 2 ^ 96 := by
  have hlt : ∀ j, j ≤ 8 → Reg.SMP_CH_STAMP_LO (n / 16) (n % 16) + j < Reg.SMP_CH_ANG_LO (n / 16) (n % 16) := fun j hj => by
    simp only [Reg.SMP_CH_STAMP_LO, Reg.SMP_CH_ANG_LO]
    omega
  have hword := fun j hj => outputShown_before s n r (hlt j hj)
  exact (stamp3_of_words (hword 0 (by decide)) (hword 4 (by decide)) (hword 8 (by decide))).trans (stamp3_setStamp3 ..)

theorem outputShown_count :
    (s.outputShown n r).get (Reg.SMP_CH_CNT.COUNT (n / 16) (n % 16)) = (s.get (Reg.SMP_CH_CNT.COUNT (n / 16) (n % 16)) + 1) % 2 ^ 32 := by
  rw [outputShown, get_inc_same _ rfl rfl]
  refine congrArg (fun x => (x + 1) % 2 ^ 32) (get_of_word ?_)
  simp only [Reg.SMP_CH_VALUE, Reg.SMP_CH_STAMP_LO, Reg.SMP_CH_ANG_LO, Reg.SMP_CH_ANG_HI, Reg.SMP_CH_CNT.COUNT]
  rw [word_setWord_other _ _ _ _ (by omega), word_setWord_other _ _ _ _ (by omega), word_setStamp3_beside _ _ (by omega),
    word_setWord_other _ _ _ _ (by omega)]

/-- What an output passes through leaves the registers that show it. -/
theorem chanOutput_chuck : (s.chanOutput n r).chuck = (s.outputShown n r).chuck := by
  have hcmpA : ∀ k i, chuckWord (Reg.SMP_CH_STAT.CMP_A k i).addr = false := fun k i => chuckWord_chStat k i
  have hcmpB : ∀ k i, chuckWord (Reg.SMP_CH_STAT.CMP_B k i).addr = false := fun k i => chuckWord_chStat k i
  unfold chanOutput
  dsimp only
  rw [captureOut_chuck, streamOut_chuck, when_chuck _ _ fun s => chanEvent_chuck s n _, when_chuck _ _ fun s => chanTrace_chuck s n,
    when_chuck _ _ fun s => raise_chuck s 0 (by decide), modChan_chuck, setWord_chuck _ _ (chuckWord_chFloorB _ _),
    setWord_chuck _ _ (chuckWord_chFloorA _ _), putBit_chuck _ _ (hcmpB _ _), putBit_chuck _ _ (hcmpA _ _)]
  rfl

end

/-! ### A raw word without filters (R228–R230) -/

/-- The value of a raw word, by WIDTH and SIGNED. -/
def rawValue (s : Dev) (n word : Nat) : Int :=
  let w := widthBits (s.get (Reg.SMP_CH_CFG.WIDTH (n / 16) (n % 16)))
  if s.bit (Reg.SMP_CH_CFG.SIGNED (n / 16) (n % 16)) then toSigned w (word % 2 ^ w) else (word % 2 ^ w : Nat) - 2 ^ (w - 1)

/-- R230 of a value that passes no filter. -/
def plainValue (s : Dev) (n : Nat) (v : Int) : Int :=
  qSat ((2 * (s.getS (Reg.SMP_CH_GAIN.VALUE (n / 16) (n % 16)) * (v * 2 ^ (24 - widthBits (s.get (Reg.SMP_CH_CFG.WIDTH (n / 16) (n % 16)))) * 2 ^ 20 * 2 ^ 22)
    + s.getS (Reg.SMP_CH_OFFSET.VALUE (n / 16) (n % 16)) * 2 ^ 65) + 2 ^ 65) / 2 ^ 66)

theorem firValue_off {s : Dev} {n : Nat} (h : s.bit (Reg.SMP_CH_FILT.FIR_EN (n / 16) (n % 16)) = false) (l : List Int) :
    s.firValue n l = l.headD 0 * 2 ^ 22 := by
  unfold firValue
  dsimp only
  rw [h]
  rfl

section
variable {s : Dev} {n : Nat} (hn : n < 512)
include hn

/-- The value that a Chuck as it was gives to a channel whose filter is off. -/
theorem plainValue_of_chuck {u : Dev} (hu : u.chuck = s.chuck) (hf : s.bit (Reg.SMP_CH_FILT.FIR_EN (n / 16) (n % 16)) = false) (v : Int) (l : List Int) :
    qSat ((2 * (u.getS (Reg.SMP_CH_GAIN.VALUE (n / 16) (n % 16))
        * u.firValue n (v * 2 ^ (24 - widthBits (s.get (Reg.SMP_CH_CFG.WIDTH (n / 16) (n % 16)))) * 2 ^ 20 :: l)
      + u.getS (Reg.SMP_CH_OFFSET.VALUE (n / 16) (n % 16)) * 2 ^ 65) + 2 ^ 65) / 2 ^ 66) = s.plainValue n v := by
  have hk : n / 16 < 32 := by omega
  have hi : n % 16 < 16 := by omega
  have hfilt : chuckWord (Reg.SMP_CH_FILT.FIR_EN (n / 16) (n % 16)).addr = true := chuckWord_standing (a := 0x18) hk hi (by decide) (by decide)
  have hgain : chuckWord (Reg.SMP_CH_GAIN.VALUE (n / 16) (n % 16)).addr = true := chuckWord_standing (a := 0x1C) hk hi (by decide) (by decide)
  have hofs : chuckWord (Reg.SMP_CH_OFFSET.VALUE (n / 16) (n % 16)).addr = true := chuckWord_standing (a := 0x20) hk hi (by decide) (by decide)
  rw [firValue_off ((bit_of_chuck hu hfilt).trans hf), getS_of_chuck hu hgain, getS_of_chuck hu hofs]
  rfl

/-- A raw word of a channel without filters is shown as an output, on a Chuck as it was. -/
theorem chanRaw_plain (word stamp angle : Nat) (hc : s.get (Reg.SMP_CH_FILT.CIC_N (n / 16) (n % 16)) = 0)
    (hf : s.bit (Reg.SMP_CH_FILT.FIR_EN (n / 16) (n % 16)) = false) :
    ∃ u : Dev, u.chuck = s.chuck ∧ (s.chanRaw n word stamp angle).chuck = (u.outputShown n ⟨s.plainValue n (s.rawValue n word), stamp, angle⟩).chuck := by
  have hfilt : chuckWord (Reg.SMP_CH_FILT.CIC_N (n / 16) (n % 16)).addr = true :=
    chuckWord_standing (a := 0x18) (by omega) (by omega) (by decide) (by decide)
  have horder (raw : Nat) : (s.flatLine n raw).2.get (Reg.SMP_CH_FILT.CIC_N (n / 16) (n % 16)) = 0 := (get_of_chuck (flatLine_chuck s n raw) hfilt).trans hc
  have hstored (raw : Nat) (x : Chan) (f : Chan → Chan) : (((s.flatLine n raw).2.setChan n x).modChan n f).chuck = s.chuck := by
    rw [modChan_chuck, setChan_chuck, flatLine_chuck]
  unfold chanRaw
  dsimp only
  rw [horder, if_neg (by simp), when_chuck _ _ fun s => chanTrace_chuck s n, chanOutput_chuck]
  exact ⟨_, hstored _ _ _, congrArg (fun y => (outputShown _ n ⟨y, stamp, angle⟩).chuck) (plainValue_of_chuck hn (hstored _ _ _) hf _ _)⟩

/-- The registers of a channel without filters after a raw word. -/
theorem chanRaw_shown (word stamp angle : Nat) (hc : s.get (Reg.SMP_CH_FILT.CIC_N (n / 16) (n % 16)) = 0)
    (hf : s.bit (Reg.SMP_CH_FILT.FIR_EN (n / 16) (n % 16)) = false) :
    (∀ k, (s.chanRaw n word stamp angle).chk k = s.chk k)
      ∧ (s.chanRaw n word stamp angle).word (Reg.SMP_CH_VALUE (n / 16) (n % 16)) = BitVec.ofInt 32 (s.plainValue n (s.rawValue n word))
      ∧ (s.chanRaw n word stamp angle).stamp3 (Reg.SMP_CH_STAMP_LO (n / 16) (n % 16)) = stamp % 2 ^ 96
      ∧ (s.chanRaw n word stamp angle).get (Reg.SMP_CH_CNT.COUNT (n / 16) (n % 16)) = (s.get (Reg.SMP_CH_CNT.COUNT (n / 16) (n % 16)) + 1) % 2 ^ 32 := by
  have hk : n / 16 < 32 := by omega
  have hi : n % 16 < 16 := by omega
  obtain ⟨u, hu, hshown⟩ := chanRaw_plain hn word stamp angle hc hf
  have hcount : chuckWord (Reg.SMP_CH_CNT.COUNT (n / 16) (n % 16)).addr = true := chuckWord_standing (a := 0x78) hk hi (by decide) (by decide)
  refine ⟨fun k => (chk_of_chuck hshown k).trans (chk_of_chuck hu k), ?_, ?_, ?_⟩
  · exact (word_of_chuck hshown (chuckWord_standing (a := 0x4C) hk hi (by decide) (by decide))).trans (outputShown_value ..)
  · have hadd (a : Nat) : Reg.SMP_CH_STAMP_LO (n / 16) (n % 16) + a = 0x202400 + (0x50 + a) + 0x4000 * (n / 16) + 0x80 * (n % 16) := by
      simp only [Reg.SMP_CH_STAMP_LO]
      omega
    have hstamp (a : Nat) (ha : 0x50 + a < 0x80) (h : 0x50 + a ∉ [0x5C, 0x60, 0x64, 0x68, 0x6C, 0x7C]) :=
      word_of_chuck hshown ((congrArg chuckWord (hadd a)).trans (chuckWord_standing hk hi ha h))
    exact (stamp3_of_words (hstamp 0 (by decide) (by decide)) (hstamp 4 (by decide) (by decide)) (hstamp 8 (by decide) (by decide))).trans
      (outputShown_stamp ..)
  · rw [get_of_chuck hshown hcount, outputShown_count, get_of_chuck hu hcount]

end

/-! ### The end of a transaction (R223, R226) -/

/-- A read that becomes due changes no transaction, and of the words the count of merged triggers and the event bit alone. -/
theorem chanDue_txn (s : Dev) (n k : Nat) (follow : Bool) : ((s.chanDue n follow).chk k).txn = (s.chk k).txn := by
  unfold chanDue
  split
  · rw [chk, (trigOvf_only s n 1).2]
    rfl
  · cases follow
    · rfl
    · exact modChk_keeps (s.modChan n fun x => { x with due := some s.up }) (n / 16) k (fun x => { x with follow := x.follow ++ [n] }) ChkPort.txn fun _ => rfl

theorem word_chanDue (s : Dev) (n : Nat) (follow : Bool) {j : Nat} (h1 : j ≠ Reg.SMP_TRIG_OVF (n / 16)) (h2 : j ≠ statusAddr bSMP) :
    (s.chanDue n follow).word j = s.word j := by
  unfold chanDue
  split
  · exact (trigOvf_only s n 1).1 j fun h => h.elim h1 h2
  · cases follow <;> rfl

/-- A command's response is stored and counted. -/
def commandEnded (s : Dev) (k cs : Nat) (w32 : Bool) (words : List Nat) : Dev :=
  ((s.setChk k { s.chk k with txn := none }).put (Reg.SMP_CMD_RESP.WORD k cs) (words.headD 0 % 2 ^ (if w32 then 32 else 16))).inc (Reg.SMP_CMD_SENT.COUNT k)

/-- The channels triggered by a command on chip select `cs` become due (R226). -/
def followersDue (s : Dev) (k cs : Nat) : Dev :=
  ((List.range 16).map (16 * k + ·)).foldl (fun s n => if s.chanOn n ∧ s.chanTrig n = 5 ∧ s.chanCs n = cs then s.chanDue n true else s) s

theorem followersDue_txn (s : Dev) (k cs j : Nat) : ((s.followersDue k cs).chk j).txn = (s.chk j).txn := by
  refine foldl_keeps (fun d => (d.chk j).txn) _ (fun n _ d => ?_) s
  split
  · exact chanDue_txn d n j true
  · rfl

theorem word_followersDue (s : Dev) (k cs : Nat) {j : Nat} (h1 : ∀ i, j ≠ Reg.SMP_TRIG_OVF i) (h2 : j ≠ statusAddr bSMP) :
    (s.followersDue k cs).word j = s.word j := by
  refine foldl_keeps (·.word j) _ (fun n _ d => ?_) s
  split
  · exact word_chanDue d n true (h1 _) h2
  · rfl

/-- The port after a command and its followers. -/
theorem commandEnded_facts (s : Dev) (k : Nat) {cs : Nat} (hcs : cs < 4) (w32 : Bool) (words : List Nat) :
    (((s.commandEnded k cs w32 words).followersDue k cs).chk k).txn = none
      ∧ ((s.commandEnded k cs w32 words).followersDue k cs).get (Reg.SMP_CMD_RESP.WORD k cs) = words.headD 0 % 2 ^ (if w32 then 32 else 16)
      ∧ ((s.commandEnded k cs w32 words).followersDue k cs).get (Reg.SMP_CMD_SENT.COUNT k) = (s.get (Reg.SMP_CMD_SENT.COUNT k) + 1) % 2 ^ 32 := by
  have hne : (Reg.SMP_CMD_RESP.WORD k cs).addr ≠ (Reg.SMP_CMD_SENT.COUNT k).addr := by
    simp only [Reg.SMP_CMD_RESP.WORD, Reg.SMP_CMD_SENT.COUNT]
    omega
  have hresp : ((s.commandEnded k cs w32 words).followersDue k cs).get (Reg.SMP_CMD_RESP.WORD k cs) = (s.commandEnded k cs w32 words).get (Reg.SMP_CMD_RESP.WORD k cs) := by
    refine get_of_word (word_followersDue _ k cs (fun i => ?_) ?_) <;>
      simp only [Reg.SMP_CMD_RESP.WORD, Reg.SMP_TRIG_OVF, statusAddr_smp] <;> omega
  have hsent : ((s.commandEnded k cs w32 words).followersDue k cs).get (Reg.SMP_CMD_SENT.COUNT k) = (s.commandEnded k cs w32 words).get (Reg.SMP_CMD_SENT.COUNT k) := by
    refine get_of_word (word_followersDue _ k cs (fun i => ?_) ?_) <;>
      simp only [Reg.SMP_CMD_SENT.COUNT, Reg.SMP_TRIG_OVF, statusAddr_smp] <;> omega
  have hfits : words.headD 0 % 2 ^ (if w32 then 32 else 16) < 2 ^ 32 := by
    cases w32
    · exact lt_of_lt_of_le (Nat.mod_lt _ (by decide)) (by decide : 2 ^ 16 ≤ 2 ^ 32)
    · exact Nat.mod_lt _ (by decide)
  refine ⟨?_, ?_, ?_⟩
  · rw [followersDue_txn]
    exact congrArg ChkPort.txn (chk_setChk s k _)
  · rw [hresp, commandEnded, inc, get_put_addr _ _ _ _ hne, get_put_same _ (Reg.SMP_CMD_RESP.WORD k cs) _ (by decide : 0 + 32 ≤ 32)]
    exact Nat.mod_eq_of_lt hfits
  · rw [hsent, commandEnded, get_inc_same _ rfl rfl, get_put_addr _ _ _ _ hne.symm]
    rfl

section
variable {s : Dev} {k : Nat} {words : List Nat} (hk : s.chkOn k = true) (hbits : (s.chk k).bitsUp ≤ s.up)
include hk hbits

theorem transactionEnd_command {cs w : Nat} {w32 : Bool} (h : (s.chk k).txn = some (.command cs w32 w)) :
    s.transactionEnd k words = (s.commandEnded k cs w32 words).followersDue k cs := by
  unfold transactionEnd
  dsimp only
  rw [if_neg (by simp [hk, hbits]), h]
  rfl

theorem transactionEnd_read {cs a st i : Nat} (h : (s.chk k).txn = some (.read cs [(i, a)] st)) (hon : s.chanOn (16 * k + i) = true) :
    s.transactionEnd k words = (s.setChk k { s.chk k with txn := none }).chanRaw (16 * k + i) (words.getD (s.get (Reg.SMP_CH_CFG.SLOT k i)) 0) (stampOf st) a := by
  have hon' : (s.setChk k { s.chk k with txn := none }).chanOn (16 * k + i) = true := hon
  unfold transactionEnd
  dsimp only
  rw [if_neg (by simp [hk, hbits]), h]
  exact if_pos hon'

end

end Dev

theorem exec_transactionEnd (k : Fin 32) (words : List Nat) (s : State) : exec (.transactionEnd k words) s = devStep (·.transactionEnd k words) s := rfl

section
variable {s : State} {k : Fin 32} {words : List Nat} (hk : s.dev.chkOn k = true) (hbits : (s.dev.chk k).bitsUp ≤ s.dev.up)
include hk hbits

theorem transactionEnd_command_answers (cs : Fin 4) (w32 : Bool) (w : Nat) (h : (s.dev.chk k).txn = some (.command cs w32 w)) :
    Answers (.transactionEnd k words) s fun t => (t.dev.chk k).txn = none ∧ t.dev.get (Reg.SMP_CMD_RESP.WORD k cs) = words.headD 0 % 2 ^ (if w32 then 32 else 16)
      ∧ t.dev.get (Reg.SMP_CMD_SENT.COUNT k) = (s.dev.get (Reg.SMP_CMD_SENT.COUNT k) + 1) % 2 ^ 32 ∧ s.sameMem t := by
  obtain ⟨htxn, hresp, hsent⟩ := Dev.commandEnded_facts s.dev.fresh k cs.isLt w32 words
  refine answers_devStep (exec_transactionEnd k words s) ?_
  rw [Dev.transactionEnd_command (s := s.dev.fresh) hk hbits h]
  refine ⟨?_, ?_, ?_, rfl, rfl⟩
  · rw [Dev.chk_settle, htxn]
  · rw [Dev.get_settle, hresp]
  · rw [Dev.get_settle, hsent, Dev.get_fresh]

theorem transactionEnd_read_answers (cs st a w : Nat) (v : Int) (i : Fin 16) (h : (s.dev.chk k).txn = some (.read cs [(i.val, a)] st))
    (hon : s.dev.chanOn (16 * k + i) = true) (hc : s.dev.get (Reg.SMP_CH_FILT.CIC_N k i) = 0) (hf : s.dev.bit (Reg.SMP_CH_FILT.FIR_EN k i) = false)
    (hw : w = Dev.widthBits (s.dev.get (Reg.SMP_CH_CFG.WIDTH k i)))
    (hv : v = (if s.dev.bit (Reg.SMP_CH_CFG.SIGNED k i) then toSigned w (words.getD (s.dev.get (Reg.SMP_CH_CFG.SLOT k i)) 0 % 2 ^ w)
      else (words.getD (s.dev.get (Reg.SMP_CH_CFG.SLOT k i)) 0 % 2 ^ w : Nat) - 2 ^ (w - 1))) :
    Answers (.transactionEnd k words) s fun t => (t.dev.chk k).txn = none
      ∧ t.dev.word (Reg.SMP_CH_VALUE k i) = BitVec.ofInt 32 (qSat ((2 * (s.dev.getS (Reg.SMP_CH_GAIN.VALUE k i) * (v * 2 ^ (24 - w) * 2 ^ 20 * 2 ^ 22)
          + s.dev.getS (Reg.SMP_CH_OFFSET.VALUE k i) * 2 ^ 65) + 2 ^ 65) / 2 ^ 66))
      ∧ t.dev.stamp3 (Reg.SMP_CH_STAMP_LO k i) = stampOf st % 2 ^ 96
      ∧ t.dev.get (Reg.SMP_CH_CNT.COUNT k i) = (s.dev.get (Reg.SMP_CH_CNT.COUNT k i) + 1) % 2 ^ 32 ∧ s.sameMem t := by
  have hport : (16 * k.val + i.val) / 16 = k := by omega
  have hchan : (16 * k.val + i.val) % 16 = i := by omega
  have hshown := Dev.chanRaw_shown (s := s.dev.fresh.setChk k { s.dev.chk k with txn := none }) (n := 16 * k + i) (by omega)
    (words.getD (s.dev.get (Reg.SMP_CH_CFG.SLOT k i)) 0) (stampOf st) a
  rw [hport, hchan] at hshown
  obtain ⟨hchk, hvalue, hstamp, hcount⟩ := hshown hc hf
  refine answers_devStep (exec_transactionEnd k words s) ?_
  rw [Dev.transactionEnd_read (s := s.dev.fresh) hk hbits h hon]
  subst hw hv
  refine ⟨?_, ?_, ?_, ?_, rfl, rfl⟩
  · rw [Dev.chk_settle]
    exact congrArg ChkPort.txn ((hchk k).trans (Dev.chk_setChk _ k _))
  · rw [Dev.word_settle]
    refine hvalue.trans ?_
    simp only [Dev.plainValue, Dev.rawValue, hport, hchan]
    rfl
  · rw [Dev.stamp3_of_words (Dev.word_settle _ _ _) (Dev.word_settle _ _ _) (Dev.word_settle _ _ _)]
    exact hstamp
  · rw [Dev.get_settle]
    exact hcount

end

/-- Settles O39: what follows a read's value in its registers leaves them, and the ports' transactions, alone. -/
theorem chuckReads : Obligations.ChuckReads :=
  ⟨sampleTimeTrigger_answers, angleStepTrigger_answers, triggerArm_answers,
    fun _ _ hk hen hg hidle hend => ⟨transactionStart_command_answers hk hen hg hidle hend, transactionStart_read_answers hk hen hg hidle hend⟩,
    fun _ _ _ hk hbits => ⟨transactionEnd_command_answers hk hbits, transactionEnd_read_answers hk hbits⟩, captureWriteComplete_answers⟩

end Sys2Proof.Machine
end

section
/-! SUPPORT. An evacuation past a pin that names no open bank (R251, R252, R259). The owners that drew on the bank choose anew; where one of them is left without a set, `Dev.rebank` begins again from the sets as they were, and then leaves out every owner that is pinned. The statement does not bind the pins: an owner whose pin names a bank out of service is left without a set by the first choice and out of the second, and it keeps the set that names the bank under evacuation. -/

namespace Sys2Proof.Machine

theorem exec_evacStart (k : Fin 32) (s : State) : exec (.evacStart k) s
    = devStep (fun d => d.hostGate bPLC Reg.PLC_EVAC (BitVec.ofNat 32 (2 ^ 31 + k)) (·.evacWrite (BitVec.ofNat 32 (2 ^ 31 + k)))) s := rfl

/-- Where an owner's set names the bank after the write of START. -/
theorem not_riggerMoves_of {s : State} {k : Fin 32} {o : Nat} (hk : k.val < 24) (hb : s.dev.blockOn bPLC = true) (hr : s.dev.hostRefused Reg.PLC_EVAC = false)
    (hidle : s.dev.plc.evac = none) (hwait : (s.dev.plc.evacWait.any fun e => e.1 == k.val) = false) (hallowed : s.dev.evacAllowed k = true) (ho : o < 643)
    (hset : ((s.dev.fresh.evacWrite (BitVec.ofNat 32 (2 ^ 31 + k))).bankSet o).testBit k = true) : ¬ Obligations.RiggerMoves := by
  rintro ⟨-, -, -, hstart, -⟩
  obtain ⟨hnone, -⟩ := of_answers_hostGate (exec_evacStart k s) hb hr (hstart s k hk hb hr hidle hwait hallowed)
  have hclear := hnone o ho
  rw [Dev.bankSet, Dev.get_settle, ← Dev.bankSet, hset] at hclear
  exact Bool.noConfusion hclear

/-- Every domain is on and bank 7 is out of service. Queue 3 has bank 5, and pin 0 names bank 7 for it. -/
def pinnedAway : State :=
  let d := ((({} : Dev).setDoms fun _ => true).put ⟨Reg.FRM_BANK_STATE, 7, 1⟩ 0).put (Reg.PLC_OWNER_BANKS.BANKS 3) (2 ^ 5)
  let d := ((d.put (Reg.PLC_PIN_A.EN 0) 1).put (Reg.PLC_PIN_A.KIND 0) 1).put (Reg.PLC_PIN_A.ITEM 0) 3
  { dev := d.put (Reg.PLC_PIN_B.TARGET 0) (2 ^ 7) }

/-- Bank 5 may be evacuated: R102 spares it, and no pin names it. -/
theorem pinnedAway_evacuates : pinnedAway.dev.blockOn bPLC = true ∧ pinnedAway.dev.hostRefused Reg.PLC_EVAC = false ∧ pinnedAway.dev.plc.evac = none
    ∧ (pinnedAway.dev.plc.evacWait.any fun e => e.1 == 5) = false ∧ pinnedAway.dev.evacAllowed 5 = true := by decide +kernel

/-- After the write queue 3 still has bank 5. -/
theorem pinnedAway_keeps : (pinnedAway.dev.fresh.evacWrite (BitVec.ofNat 32 (2 ^ 31 + 5))).bankSet 3 = 2 ^ 5 := by decide +kernel

/-- Refutes O41: in `pinnedAway` the evacuation of bank 5 leaves queue 3, pinned to a bank out of service, with the set that names bank 5. -/
theorem not_riggerMoves : ¬ Obligations.RiggerMoves := by
  obtain ⟨hb, hr, hidle, hwait, hallowed⟩ := pinnedAway_evacuates
  refine not_riggerMoves_of (s := pinnedAway) (k := 5) (o := 3) (by decide) hb hr hidle hwait hallowed (by decide) ?_
  rw [show ((5 : Fin 32) : Nat) = 5 from rfl, pinnedAway_keeps]
  decide

end Sys2Proof.Machine
end

section
/-! SUPPORT. Power domains and the moves of the Rigger (R17, R245, R257, R258, R262, R376): what a move and a domain that begins to come on change. -/

namespace Sys2Proof.Machine

namespace Dev

/-! ### The words of a move (R262) -/

/-- The words that a move of the Rigger may change beside those of what moves. -/
def moveWords (k : Nat) : Prop := k = Reg.PLC_MOVE_CNT ∨ k = Reg.PLC_MOVE_LAST ∨ k = statusAddr bPLC ∨ faultWords bTRC k

theorem moveWords_le {k : Nat} (h : moveWords k) : 0x280000 ≤ k ∧ k < 0x300000 := by
  rcases h with rfl | rfl | rfl | rfl | rfl | rfl | rfl | rfl <;> decide

theorem plcMove_moveWords (s : Dev) (kind cause to' frm item : Nat) : FaultOnly moveWords s (s.plcMove kind cause to' frm item) := by
  have hword (u : Dev) (w : Word) : FaultOnly moveWords u (u.setWord Reg.PLC_MOVE_LAST w) := (WordOnly.setWord _ _ _ _ (.inr (.inl rfl))).toFault
  have hlog (u : Dev) (w : Nat) : FaultOnly moveWords u (u.logStage 2 bPLC 0 0 w) :=
    (logStage_only _ _ _ _ _ _).mono fun _ hk => .inr (.inr (.inr (.inr (.inl hk))))
  have htrace (u : Dev) (w : Nat) : FaultOnly moveWords u (u.trace 5 0 kind w 0) :=
    (traceAt_only u _ 5 0 kind w 0).mono fun _ hk => .inr (.inr (.inr hk))
  unfold plcMove
  exact (((FaultOnly.inc _ _ _ (.inl rfl)).trans (hword _ _)).trans (FaultOnly.put _ _ _ _ (.inr (.inr (.inl rfl))))).trans ((hlog _ _).trans (htrace _ _))

@[simp] theorem plcMove_root (s : Dev) (kind cause to' frm item : Nat) : (s.plcMove kind cause to' frm item).root = s.root :=
  (plcMove_moveWords s kind cause to' frm item).root fun _ hk => by have := moveWords_le hk; omega

@[simp] theorem plcMove_jobs (s : Dev) (kind cause to' frm item : Nat) : (s.plcMove kind cause to' frm item).jobs = s.jobs := by
  rw [(plcMove_moveWords s kind cause to' frm item).2]

/-! ### Power domains as bits (R17, R376) -/

theorem domOn_eq_bit (s : Dev) (d : Nat) : s.domOn d = s.bit ⟨Reg.PWR_DOM_ON (d / 32), d % 32, 1⟩ := by
  have hx := (s.word (0x10120 + 4 * (d / 32))).isLt
  simp [domOn, bit, get, Reg.PWR_DOM_ON, Reg.PWR_DOM_ON.DOM, Nat.testBit_eq_decide_div_mod_eq, Nat.mod_eq_of_lt hx, beq_eq_decide]

theorem domOn_of_words {s t : Dev} (h : ∀ k < 0x30000, t.word k = s.word k) {d : Nat} (hd : d < 80) : t.domOn d = s.domOn d := by
  rw [domOn, domOn, get_of_word (h _ (by simp only [Reg.PWR_DOM_ON.DOM]; omega))]

@[simp] theorem domOn_settle (old s : Dev) (d : Nat) : (settle old s).domOn d = s.domOn d := by simp [domOn]

theorem domOn_setDom_same (s : Dev) (d : Nat) (on : Bool) : (s.setDom d on).domOn d = on := by
  rw [domOn_eq_bit, setDom, bit_put_same _ _ _ (Nat.mod_lt d (by decide)) rfl]
  cases on <;> rfl

theorem domOn_setDom_other (s : Dev) {d e : Nat} (on : Bool) (h : e ≠ d) : (s.setDom d on).domOn e = s.domOn e := by
  have hapart : Reg.PWR_DOM_ON (e / 32) ≠ Reg.PWR_DOM_ON (d / 32) ∨ e % 32 + 1 ≤ d % 32 ∨ d % 32 + 1 ≤ e % 32 := by
    simp only [Reg.PWR_DOM_ON]; omega
  rw [domOn_eq_bit, domOn_eq_bit, setDom, bit_put_other _ _ _ _ (Nat.mod_lt d (by decide)) hapart]

/-- A bit of a set of domains that is taken out of it. -/
theorem testBit_without (x : Nat) {d : Nat} (hd : d < 80) : (x &&& (2 ^ 80 - 1 - 2 ^ d % 2 ^ 80)).testBit d = false := by
  have hlt : 2 ^ d < 2 ^ 80 := Nat.pow_lt_pow_right (by decide) hd
  rw [Nat.mod_eq_of_lt hlt, show 2 ^ 80 - 1 - 2 ^ d = 2 ^ 80 - (2 ^ d + 1) by omega, Nat.testBit_and, Nat.testBit_two_pow_sub_succ hlt,
    Nat.testBit_two_pow_self]
  simp

/-! ### Domains that begin to come on (R258, R376) -/

/-- A change of words in `K` that leaves which domains are on, and in which no domain that is on begins to switch. -/
def PowerOnly (K : Nat → Prop) (s t : Dev) : Prop :=
  (∀ k, ¬ K k → t.word k = s.word k)
    ∧ ∀ d < 80, t.domOn d = s.domOn d ∧ (s.domOn d = true → t.pwr.switching.testBit d = s.pwr.switching.testBit d)

theorem PowerOnly.refl (K : Nat → Prop) (s : Dev) : PowerOnly K s s := ⟨fun _ _ => rfl, fun _ _ => ⟨rfl, fun _ => rfl⟩⟩

theorem PowerOnly.trans {K : Nat → Prop} {a b c : Dev} (h : PowerOnly K a b) (k : PowerOnly K b c) : PowerOnly K a c := by
  refine ⟨fun j hj => (k.1 j hj).trans (h.1 j hj), fun d hd => ?_⟩
  obtain ⟨hon, hsw⟩ := h.2 d hd
  obtain ⟨kon, ksw⟩ := k.2 d hd
  exact ⟨kon.trans hon, fun hb => (ksw (hon.trans hb)).trans (hsw hb)⟩

theorem PowerOnly.mono {K L : Nat → Prop} {a b : Dev} (h : PowerOnly K a b) (hl : ∀ k, K k → L k) : PowerOnly L a b :=
  ⟨fun j hj => h.1 j fun hk => hj (hl j hk), h.2⟩

theorem PowerOnly.foldl {α : Type} {K : Nat → Prop} (l : List α) {f : Dev → α → Dev} (h : ∀ x ∈ l, ∀ s, PowerOnly K s (f s x)) (s : Dev) :
    PowerOnly K s (l.foldl f s) := by
  induction l generalizing s with
  | nil => exact PowerOnly.refl K s
  | cons x l ih => exact (h x (.head l) s).trans (ih (fun y hy => h y (.tail x hy)) _)

/-- Words beyond the root, the power state as it was. -/
theorem powerOnly_of_words {K : Nat → Prop} {s t : Dev} (hK : ∀ k, K k → 0x30000 ≤ k) (hw : ∀ k, ¬ K k → t.word k = s.word k) (hp : t.pwr = s.pwr) :
    PowerOnly K s t :=
  ⟨hw, fun _ hd => ⟨domOn_of_words (fun k hk => hw k fun h => by have := hK k h; omega) hd, fun _ => by rw [hp]⟩⟩

theorem FaultOnly.power {K : Nat → Prop} {s t : Dev} (h : FaultOnly K s t) (hK : ∀ k, K k → 0x30000 ≤ k) : PowerOnly K s t :=
  powerOnly_of_words hK h.1 (by rw [h.2])

theorem powerOnly_of_root {s t : Dev} (h : t.root = s.root) : PowerOnly (0x30000 ≤ ·) s t :=
  powerOnly_of_words (fun _ hk => hk) (fun _ hk => word_of_root h (Nat.lt_of_not_le hk)) (pwr_of_root h)

theorem domStart_only (K : Nat → Prop) (s : Dev) (d : Nat) : PowerOnly K s (s.domStart d) := by
  unfold domStart
  split
  · exact PowerOnly.refl K s
  · next h =>
    refine ⟨fun _ _ => rfl, fun e _ => ⟨rfl, fun he => ?_⟩⟩
    have hne : d ≠ e := fun hde => h (.inl (hde ▸ he))
    rw [show (s.pwr.switching ||| 2 ^ d).testBit e = (s.pwr.switching.testBit e || (2 ^ d).testBit e) from Nat.testBit_or .., Nat.testBit_two_pow_of_ne hne, Bool.or_false]

/-- A domain that is off has begun to switch on. -/
theorem domStart_switching (s : Dev) {d : Nat} (h : s.domOn d = false) : (s.domStart d).pwr.switching.testBit d = true := by
  unfold domStart
  split
  · next hc => exact hc.resolve_left (by simp [h])
  · rw [show (s.pwr.switching ||| 2 ^ d).testBit d = (s.pwr.switching.testBit d || (2 ^ d).testBit d) from Nat.testBit_or .., Nat.testBit_two_pow_self, Bool.or_true]

theorem plcDomOn_only (s : Dev) (d cause : Nat) : PowerOnly (fun k => moveWords k ∨ k = Reg.PLC_DOM_OFF (d / 32)) s (s.plcDomOn d cause) := by
  unfold plcDomOn
  split
  · exact PowerOnly.refl _ s
  · have hoff (u : Dev) : FaultOnly (fun k => moveWords k ∨ k = Reg.PLC_DOM_OFF (d / 32)) u (u.put (domOffFld d) 0) := FaultOnly.put _ u _ 0 (.inr rfl)
    refine (domStart_only _ s d).trans (((hoff _).trans ((plcMove_moveWords _ _ _ _ _ _).mono fun _ hk => .inl hk)).power ?_)
    rintro k (hk | rfl)
    · have := moveWords_le hk
      omega
    · simp only [Reg.PLC_DOM_OFF]; omega

theorem plcDomOn_switching (s : Dev) {d : Nat} (cause : Nat) (h : s.domOn d = false) : (s.plcDomOn d cause).pwr.switching.testBit d = true := by
  unfold plcDomOn
  split
  · next hc => exact hc.resolve_left (by simp [h])
  · rw [pwr_of_root (plcMove_root _ _ _ _ _ _), put_pwr]
    exact domStart_switching s h

@[simp] theorem plcDomOn_jobs (s : Dev) (d cause : Nat) : (s.plcDomOn d cause).jobs = s.jobs := by
  unfold plcDomOn domStart
  split
  · rfl
  · rw [plcMove_jobs]
    rfl

theorem plcDomOn_beyond (s : Dev) (d cause : Nat) : PowerOnly (0x30000 ≤ ·) s (s.plcDomOn d cause) := by
  refine (plcDomOn_only s d cause).mono ?_
  rintro k (hk | rfl)
  · have := moveWords_le hk
    omega
  · simp only [Reg.PLC_DOM_OFF]; omega

/-! ### Jobs on units (R257, R258) -/

/-- The words that the placing and the moves of jobs may change. -/
def placeWords (k : Nat) : Prop :=
  (0x280000 ≤ k ∧ k < 0x290000) ∨ faultWords bTRC k ∨ ∃ u < 2, k = Reg.DMA_DONE_LO u ∨ k = Reg.DMA_DONE_HI u

theorem placeWords_of_moveWords {k : Nat} (h : moveWords k) : placeWords k := by
  rcases h with rfl | rfl | rfl | h
  · exact .inl (by decide)
  · exact .inl (by decide)
  · exact .inl (by decide)
  · exact .inr (.inl h)

theorem placeWords_jobMap {j : Nat} (hj : j < 64) : placeWords (Reg.PLC_JOB_MAP j) := .inl (by simp only [Reg.PLC_JOB_MAP]; omega)

theorem placeWords_le {k : Nat} (h : placeWords k) : 0x280000 ≤ k ∧ k < 0x300000 := by
  rcases h with h | h | ⟨u, hu, rfl | rfl⟩
  · omega
  · exact moveWords_le (.inr (.inr (.inr h)))
  · simp only [Reg.DMA_DONE_LO]; omega
  · simp only [Reg.DMA_DONE_HI]; omega

theorem placeWords_done {u : Nat} (hu : u < 2) (j : Nat) : placeWords (doneFld u j).addr := by
  unfold doneFld
  split
  · exact .inr (.inr ⟨u, hu, .inl rfl⟩)
  · exact .inr (.inr ⟨u, hu, .inr rfl⟩)

theorem placeJob_only (K : Nat → Prop) (s : Dev) {j : Nat} (h : K (Reg.PLC_JOB_MAP j)) (u c : Nat) : WordOnly K s (s.placeJob j u c) :=
  ((WordOnly.put K s (Reg.PLC_JOB_MAP.STATE j) _ h).trans (WordOnly.put K _ (Reg.PLC_JOB_MAP.UNIT j) _ h)).trans (WordOnly.put K _ (Reg.PLC_JOB_MAP.CHAN j) _ h)

theorem placeJob_placeWords (s : Dev) {j : Nat} (hj : j < 64) (u c : Nat) : FaultOnly placeWords s (s.placeJob j u c) :=
  (placeJob_only placeWords s (placeWords_jobMap hj) u c).toFault

theorem placeWords_power {s t : Dev} (h : FaultOnly placeWords s t) : PowerOnly placeWords s t :=
  h.power fun _ hk => (by decide : 0x30000 ≤ 0x280000).trans (placeWords_le hk).1

theorem jobUnit_lt (s : Dev) (j : Nat) : s.jobUnit j < 2 := Nat.mod_lt _ (Nat.two_pow_pos 1)

theorem moveJob_only (s : Dev) {j u : Nat} (hj : j < 64) (hu : u < 2) (cause : Nat) : FaultOnly placeWords s (s.moveJob j u cause) := by
  unfold moveJob
  split
  · next c _ =>
    have hmove (x : Dev) (frm : Nat) : FaultOnly placeWords x (x.plcMove 3 cause u frm j) := (plcMove_moveWords x _ _ _ _ _).mono fun _ hk => placeWords_of_moveWords hk
    have hdone (x : Dev) {w : Nat} (hw : w < 2) (v : Nat) : WordOnly placeWords x (x.put (doneFld w j) v) := WordOnly.put _ _ _ _ (placeWords_done hw j)
    exact ((placeJob_placeWords s hj u c).trans (hmove _ _)).trans
      (WordOnly.when _ ((hdone _ (jobUnit_lt s j) 0).trans (hdone _ hu 1))).toFault
  · exact FaultOnly.refl _ s

theorem plcDomOn_placeWords (s : Dev) {u : Nat} (hu : u < 2) (cause : Nat) : PowerOnly placeWords s (s.plcDomOn (unitDom u) cause) := by
  refine (plcDomOn_only s _ cause).mono ?_
  rintro k (hk | rfl)
  · exact placeWords_of_moveWords hk
  · exact .inl (by simp only [Reg.PLC_DOM_OFF, unitDom]; omega)

theorem chooseUnit_lt (s : Dev) (j : Nat) : s.chooseUnit j < 2 := by
  unfold chooseUnit
  split
  · omega
  · split <;> decide

theorem jobOnto_only (s : Dev) {j u : Nat} (hj : j < 64) (hu : u < 2) (c : Nat) : PowerOnly placeWords s (s.jobOnto j u c) := by
  unfold jobOnto
  split
  · exact placeWords_power (placeJob_placeWords s hj u c)
  · exact plcDomOn_placeWords s hu causePolicy

theorem jobEnable_only (s : Dev) {j : Nat} (hj : j < 64) : PowerOnly placeWords s (s.jobEnable j) := by
  have hu := chooseUnit_lt s j
  unfold jobEnable
  dsimp only
  split
  · exact jobOnto_only s hj hu _
  · split
    · split
      · exact PowerOnly.refl _ s
      · exact jobOnto_only s hj (by omega) _
    · exact PowerOnly.refl _ s

theorem moveStopped_only (s : Dev) {u : Nat} {l : List Nat} (hl : ∀ j ∈ l, j < 64) : PowerOnly placeWords s (s.moveStopped u l) := by
  have hother : 1 - u < 2 := by omega
  refine PowerOnly.foldl l (fun j hj s => ?_) s
  have hstay : PowerOnly placeWords s (s.put (Reg.PLC_JOB_MAP.STATE j) 3) := placeWords_power (FaultOnly.put _ s _ 3 (placeWords_jobMap (hl j hj)))
  split
  · exact hstay
  · split
    · exact placeWords_power (moveJob_only s (hl j hj) hother _)
    · exact hstay.trans (plcDomOn_placeWords _ hother _)

theorem mem_unitJobs {s : Dev} {u j : Nat} : j ∈ s.unitJobs u ↔ j < 64 ∧ s.jobPlace j ≠ 0 ∧ s.jobUnit j = u := by
  simp [unitJobs]

theorem lt_of_mem_stoppedJobs {s : Dev} {u j : Nat} (h : j ∈ s.stoppedJobs u) : j < 64 := (mem_unitJobs.mp (List.mem_filter.mp h).1).1

theorem lt_of_mem_jobsWaiting {s : Dev} {j : Nat} (h : j ∈ s.jobsWaiting) : j < 64 := List.mem_range.mp (List.mem_filter.mp h).1

theorem unitArrives_only (s : Dev) (u : Nat) : PowerOnly placeWords s (s.unitArrives u) :=
  (moveStopped_only s (u := 1 - u) fun _ hj => lt_of_mem_stoppedJobs hj).trans
    (PowerOnly.foldl _ (fun _ hj s => jobEnable_only s (lt_of_mem_jobsWaiting hj)) _)

end Dev

end Sys2Proof.Machine
end

section
/-! SUPPORT. The voltage loop (R370): what a reading shows, and the step of VREQ that it makes. -/

namespace Sys2Proof.Machine

/-- The pattern of a signed value, from the bits it was read of (R5). -/
theorem ofSigned_toInt {w : Nat} (v : BitVec w) : ofSigned w v.toInt = v.toNat := by
  rw [ofSigned, ← BitVec.toNat_ofInt, BitVec.ofInt_toInt]

namespace Dev

theorem word_withPwr (s : Dev) (p : Pwr) (k : Nat) : ({ s with pwr := p } : Dev).word k = s.word k := rfl
theorem get_withPwr (s : Dev) (p : Pwr) (f : Fld) : ({ s with pwr := p } : Dev).get f = s.get f := rfl

/-! ### A reading is shown -/

/-- WORST_DOM and SLACK take a reading. -/
def avsShown (s : Dev) (dom n : Nat) : Dev := (s.put Reg.PWR_AVS_STAT.WORST_DOM dom).put Reg.PWR_AVS_STAT.SLACK n

theorem avsShown_word (s : Dev) (dom n : Nat) {k : Nat} (h : k ≠ Reg.PWR_AVS_STAT) : (s.avsShown dom n).word k = s.word k :=
  (word_put_other _ Reg.PWR_AVS_STAT.SLACK _ _ h).trans (word_put_other _ Reg.PWR_AVS_STAT.WORST_DOM _ _ h)

theorem avsShown_worst (s : Dev) {dom : Nat} (n : Nat) (h : dom < 2 ^ 7) : (s.avsShown dom n).get Reg.PWR_AVS_STAT.WORST_DOM = dom :=
  (get_put_other _ _ _ _ (by decide) (by decide)).trans ((get_put_same _ _ _ (by decide)).trans (Nat.mod_eq_of_lt h))

theorem avsShown_slack (s : Dev) (dom : Nat) (v : BitVec 16) : (s.avsShown dom (ofSigned 16 v.toInt)).get Reg.PWR_AVS_STAT.SLACK = v.toNat := by
  have hv := v.isLt
  rw [avsShown, get_put_same _ _ _ (by decide), ofSigned_toInt]
  simp only [Reg.PWR_AVS_STAT.SLACK]
  omega

theorem avsShown_vreq (s : Dev) (dom n : Nat) : (s.avsShown dom n).get Reg.PWR_AVS_STAT.VREQ = s.get Reg.PWR_AVS_STAT.VREQ :=
  (get_put_other _ _ _ _ (by decide) (by decide)).trans (get_put_other _ _ _ _ (by decide) (by decide))

theorem avsShown_target (s : Dev) (dom n : Nat) : (s.avsShown dom n).get Reg.PWR_AVS.TARGET = s.get Reg.PWR_AVS.TARGET :=
  get_of_word (avsShown_word s dom n (by decide))

/-! ### What the loop makes of it -/

/-- The limits of the loop follow from PWR_AVS and PWR_CTL. -/
theorem avs_limits {s t : Dev} (hcfg : t.word Reg.PWR_AVS = s.word Reg.PWR_AVS) (hctl : t.word (ctlBit bPWR 16).addr = s.word (ctlBit bPWR 16).addr) :
    t.avsMax = s.avsMax ∧ t.avsMin = s.avsMin ∧ t.avsFrozen = s.avsFrozen := by
  have hmax : t.get Reg.PWR_AVS.VMAX = s.get Reg.PWR_AVS.VMAX := get_of_word hcfg
  have hmin : t.get Reg.PWR_AVS.VMIN = s.get Reg.PWR_AVS.VMIN := get_of_word hcfg
  have hfreeze : t.bit Reg.PWR_AVS.FREEZE = s.bit Reg.PWR_AVS.FREEZE := bit_of_word hcfg
  have hloop : t.bit (ctlBit bPWR 16) = s.bit (ctlBit bPWR 16) := bit_of_word hctl
  simp only [avsMin, avsMax, avsFrozen, hmax, hmin, hfreeze, hloop, and_self]

/-- Readings in a row with 20 ps to spare, this one included. -/
def avsGood (s : Dev) (slack : Int) : Nat := if (s.get Reg.PWR_AVS.TARGET : Int) + 20 ≤ slack then s.pwr.goodReads + 1 else 0

/-- The reading is counted. -/
def avsCounted (s : Dev) (slack : Int) : Dev :=
  { s with pwr := { s.pwr with
      avsAt := some s.up
      goodReads := s.avsGood slack
      targetReads := if (s.get Reg.PWR_AVS.TARGET : Int) ≤ slack then s.pwr.targetReads + 1 else 0 } }

theorem word_avsCounted (s : Dev) (slack : Int) (k : Nat) : (s.avsCounted slack).word k = s.word k := word_withPwr s _ k
theorem get_avsCounted (s : Dev) (slack : Int) (f : Fld) : (s.avsCounted slack).get f = s.get f := get_withPwr s _ f

/-- The limit bit and VREQ after a reading that is shown and counted. -/
def avsStep (s : Dev) (target : Int) (v good : Nat) (slack : Int) : Dev :=
  if slack < target then
    if s.avsMax ≤ v then (s.put (statusBit bPWR 3) 1).fault bPWR 1
    else (s.put (statusBit bPWR 3) 0).when (!s.avsFrozen) fun s => s.put Reg.PWR_AVS_STAT.VREQ (v + 1)
  else
    let s := s.put (statusBit bPWR 3) 0
    if 100 ≤ good ∧ ¬ s.avsFrozen then
      let s := { s with pwr := { s.pwr with goodReads := 0 } }
      s.when (Nat.blt s.avsMin v) fun s => s.put Reg.PWR_AVS_STAT.VREQ (v - 1)
    else s

/-- A reading that the loop takes (R370). -/
theorem avsReading_eq {s : Dev} {dom : Nat} (slack : Int) (hruns : s.avsRuns = true) (hgap : ∀ t, s.pwr.avsAt = some t → t + 10000 ≤ s.up)
    (hon : s.domOn dom = true) :
    s.avsReading dom slack = ((s.avsShown dom (ofSigned 16 slack)).avsCounted slack).avsStep (s.get Reg.PWR_AVS.TARGET) (s.get Reg.PWR_AVS_STAT.VREQ)
      ((s.avsShown dom (ofSigned 16 slack)).avsGood slack) slack := by
  rw [← avsShown_target s dom (ofSigned 16 slack), ← avsShown_vreq s dom (ofSigned 16 slack)]
  unfold avsReading
  refine if_neg ?_
  rintro (hstands | hearly | hoff)
  · exact hstands hruns
  · split at hearly
    · next t ht => exact absurd (Nat.blt_eq.mp hearly) (Nat.not_lt.mpr (hgap t ht))
    · exact Bool.false_ne_true hearly
  · exact hoff hon

/-! ### The limit bit and VREQ -/

/-- A reading below TARGET at VMAX or above: the limit bit and source 1 of PWR, the readout as it was. -/
theorem avsLimit_facts (s : Dev) :
    (∀ f : Fld, f.addr = Reg.PWR_AVS_STAT → ((s.put (statusBit bPWR 3) 1).fault bPWR 1).get f = s.get f)
      ∧ ((s.put (statusBit bPWR 3) 1).fault bPWR 1).bit (statusBit bPWR 3) = true ∧ ((s.put (statusBit bPWR 3) 1).fault bPWR 1).bit (stickyBit bPWR 1) = true
      ∧ ((s.put (statusBit bPWR 3) 1).fault bPWR 1).pwr = s.pwr := by
  have hshown : ¬ faultWords bPWR Reg.PWR_AVS_STAT := by rintro (h | h | h | h | h) <;> exact absurd h (by decide)
  have hstatus : ¬ faultWords bPWR (statusBit bPWR 3).addr := by rintro (h | h | h | h | h) <;> exact absurd h (by decide)
  refine ⟨fun f hf => ?_, ?_, fault_sticky _ _ _ (by decide) (by decide), ?_⟩
  · rw [get_fault _ _ _ _ (hf ▸ hshown), get_put_addr _ _ _ _ (by rw [hf]; decide)]
  · rw [bit_fault _ _ _ _ hstatus, bit_put_statusBit _ _ _ _ (by decide)]
    rfl
  · rw [(fault_only _ bPWR 1).2]
    rfl

/-- Any other reading: the limit bit is clear, and VREQ takes its step. -/
theorem avsWithin_facts (s : Dev) (c : Bool) (v : Nat) :
    ((s.put (statusBit bPWR 3) 0).when c (·.put Reg.PWR_AVS_STAT.VREQ v)).get Reg.PWR_AVS_STAT.WORST_DOM = s.get Reg.PWR_AVS_STAT.WORST_DOM
      ∧ ((s.put (statusBit bPWR 3) 0).when c (·.put Reg.PWR_AVS_STAT.VREQ v)).get Reg.PWR_AVS_STAT.SLACK = s.get Reg.PWR_AVS_STAT.SLACK
      ∧ ((s.put (statusBit bPWR 3) 0).when c (·.put Reg.PWR_AVS_STAT.VREQ v)).get Reg.PWR_AVS_STAT.VREQ = (if c then v % 2 ^ 6 else s.get Reg.PWR_AVS_STAT.VREQ)
      ∧ ((s.put (statusBit bPWR 3) 0).when c (·.put Reg.PWR_AVS_STAT.VREQ v)).bit (statusBit bPWR 3) = false
      ∧ ((s.put (statusBit bPWR 3) 0).when c (·.put Reg.PWR_AVS_STAT.VREQ v)).pwr = s.pwr := by
  have hkeeps (f : Fld) (hf : f.addr = Reg.PWR_AVS_STAT) : (s.put (statusBit bPWR 3) 0).get f = s.get f := get_put_addr _ _ _ _ (by rw [hf]; decide)
  have hclear : (s.put (statusBit bPWR 3) 0).bit (statusBit bPWR 3) = false := bit_put_statusBit _ _ _ _ (by decide)
  cases c
  · exact ⟨hkeeps _ rfl, hkeeps _ rfl, hkeeps _ rfl, hclear, rfl⟩
  · exact ⟨(get_put_other _ _ _ _ (by decide) (by decide)).trans (hkeeps _ rfl), (get_put_other _ _ _ _ (by decide) (by decide)).trans (hkeeps _ rfl),
      get_put_same _ _ _ (by decide), (bit_put_addr _ _ (by decide)).trans hclear, rfl⟩

/-- A reading of at least TARGET, up to the count of good readings. -/
theorem avsStep_met (s : Dev) {target : Int} (v good : Nat) {slack : Int} (h : target ≤ slack) :
    (s.avsStep target v good slack).regs = ((s.put (statusBit bPWR 3) 0).when (decide (100 ≤ good ∧ s.avsFrozen = false ∧ s.avsMin < v)) (·.put Reg.PWR_AVS_STAT.VREQ (v - 1))).regs
      ∧ (s.avsStep target v good slack).pwr.avsAt = s.pwr.avsAt := by
  obtain ⟨-, hmin, hfrozen⟩ := avs_limits (s := s) (t := s.put (statusBit bPWR 3) 0) (word_put_other _ _ _ _ (by decide)) (word_put_other _ _ _ _ (by decide))
  have hkeep (p : Pwr) : ({ s.put (statusBit bPWR 3) 0 with pwr := p } : Dev).avsMin = s.avsMin := hmin
  unfold avsStep
  rw [if_neg (Int.not_lt.mpr h)]
  dsimp only
  by_cases hc : 100 ≤ good ∧ s.avsFrozen = false
  · rw [if_pos (by simpa [hfrozen] using hc), hkeep]
    rcases Nat.lt_or_ge s.avsMin v with hv | hv
    · rw [Tab.blt_true hv, decide_eq_true ⟨hc.1, hc.2, hv⟩]
      exact ⟨rfl, rfl⟩
    · rw [Tab.blt_false hv, decide_eq_false fun h => absurd h.2.2 (Nat.not_lt.mpr hv)]
      exact ⟨rfl, rfl⟩
  · rw [if_neg (by simpa [hfrozen] using hc), decide_eq_false fun h => hc ⟨h.1, h.2.1⟩]
    exact ⟨rfl, rfl⟩

end Dev

namespace Dev

/-- What a reading shows and counts before VREQ takes its step. -/
def avsTaken (s : Dev) (dom n : Nat) (slack : Int) : Dev := (s.avsShown dom n).avsCounted slack

theorem avsTaken_word (s : Dev) (dom n : Nat) (slack : Int) {k : Nat} (h : k ≠ Reg.PWR_AVS_STAT) : (s.avsTaken dom n slack).word k = s.word k :=
  (word_avsCounted _ _ _).trans (avsShown_word s dom n h)

theorem avsTaken_worst (s : Dev) {dom : Nat} (n : Nat) (slack : Int) (h : dom < 2 ^ 7) : (s.avsTaken dom n slack).get Reg.PWR_AVS_STAT.WORST_DOM = dom :=
  (get_avsCounted _ _ _).trans (avsShown_worst s n h)

theorem avsTaken_slack (s : Dev) (dom : Nat) (v : BitVec 16) (slack : Int) : (s.avsTaken dom (ofSigned 16 v.toInt) slack).get Reg.PWR_AVS_STAT.SLACK = v.toNat :=
  (get_avsCounted _ _ _).trans (avsShown_slack s dom v)

theorem avsTaken_vreq (s : Dev) (dom n : Nat) (slack : Int) : (s.avsTaken dom n slack).get Reg.PWR_AVS_STAT.VREQ = s.get Reg.PWR_AVS_STAT.VREQ :=
  (get_avsCounted _ _ _).trans (avsShown_vreq s dom n)

theorem avsTaken_at (s : Dev) (dom n : Nat) (slack : Int) : (s.avsTaken dom n slack).pwr.avsAt = some s.up := rfl

/-- The limits of the loop are not of the words that a reading is shown in. -/
theorem avsTaken_limits (s : Dev) (dom n : Nat) (slack : Int) :
    (s.avsTaken dom n slack).avsMax = s.avsMax ∧ (s.avsTaken dom n slack).avsMin = s.avsMin ∧ (s.avsTaken dom n slack).avsFrozen = s.avsFrozen :=
  avs_limits (avsTaken_word s dom n slack (by decide)) (avsTaken_word s dom n slack (by decide))

theorem avsMax_le (s : Dev) : s.avsMax ≤ 40 := Nat.min_le_left _ _

theorem vreq_lt (s : Dev) : s.get Reg.PWR_AVS_STAT.VREQ < 64 := Nat.mod_lt _ (Nat.two_pow_pos 6)

/-- The count of good readings reaches its hundredth. -/
theorem hundred_le_avsGood (s : Dev) (dom n : Nat) (slack : Int) :
    100 ≤ (s.avsShown dom n).avsGood slack ↔ (s.get Reg.PWR_AVS.TARGET : Int) + 20 ≤ slack ∧ 99 ≤ s.pwr.goodReads := by
  rw [avsGood, avsShown_target, show (s.avsShown dom n).pwr = s.pwr from rfl]
  split <;> omega

/-- What a reading leaves: shown and stamped, with VREQ at `v` and the limit bit at `lim`. -/
def avsLeaves (t : Dev) (dom n up v : Nat) (lim : Bool) : Prop :=
  t.get Reg.PWR_AVS_STAT.WORST_DOM = dom ∧ t.get Reg.PWR_AVS_STAT.SLACK = n ∧ t.pwr.avsAt = some up ∧ t.get Reg.PWR_AVS_STAT.VREQ = v ∧ t.bit (statusBit bPWR 3) = lim

section
variable (s : Dev) {dom : Nat} (slack : BitVec 16) (hdom : dom < 2 ^ 7) (good : Nat)
include hdom

/-- A slack below TARGET at VMAX or above (R370). -/
theorem avsStep_limit (h : slack.toInt < (s.get Reg.PWR_AVS.TARGET : Int)) (hv : s.avsMax ≤ s.get Reg.PWR_AVS_STAT.VREQ) :
    avsLeaves ((s.avsTaken dom (ofSigned 16 slack.toInt) slack.toInt).avsStep (s.get Reg.PWR_AVS.TARGET) (s.get Reg.PWR_AVS_STAT.VREQ) good slack.toInt)
        dom slack.toNat s.up (s.get Reg.PWR_AVS_STAT.VREQ) true
      ∧ ((s.avsTaken dom (ofSigned 16 slack.toInt) slack.toInt).avsStep (s.get Reg.PWR_AVS.TARGET) (s.get Reg.PWR_AVS_STAT.VREQ) good slack.toInt).bit (stickyBit bPWR 1) = true := by
  obtain ⟨hmax, -, -⟩ := avsTaken_limits s dom (ofSigned 16 slack.toInt) slack.toInt
  obtain ⟨hget, hlim, hsticky, hpwr⟩ := avsLimit_facts (s.avsTaken dom (ofSigned 16 slack.toInt) slack.toInt)
  rw [avsStep, if_pos h, if_pos (hmax ▸ hv)]
  exact ⟨⟨(hget _ rfl).trans (avsTaken_worst s _ _ hdom), (hget _ rfl).trans (avsTaken_slack s dom slack _), by rw [hpwr, avsTaken_at],
    (hget _ rfl).trans (avsTaken_vreq s dom _ _), hlim⟩, hsticky⟩

/-- A slack below TARGET, VREQ below VMAX (R370). -/
theorem avsStep_raise (h : slack.toInt < (s.get Reg.PWR_AVS.TARGET : Int)) (hv : s.get Reg.PWR_AVS_STAT.VREQ < s.avsMax) :
    avsLeaves ((s.avsTaken dom (ofSigned 16 slack.toInt) slack.toInt).avsStep (s.get Reg.PWR_AVS.TARGET) (s.get Reg.PWR_AVS_STAT.VREQ) good slack.toInt)
      dom slack.toNat s.up (s.get Reg.PWR_AVS_STAT.VREQ + (if s.avsFrozen then 0 else 1)) false := by
  obtain ⟨hmax, -, hfrozen⟩ := avsTaken_limits s dom (ofSigned 16 slack.toInt) slack.toInt
  obtain ⟨hworst, hslack, hvreq, hlim, hpwr⟩ := avsWithin_facts (s.avsTaken dom (ofSigned 16 slack.toInt) slack.toInt) (!s.avsFrozen) (s.get Reg.PWR_AVS_STAT.VREQ + 1)
  rw [avsStep, if_pos h, if_neg (by rw [hmax]; omega), hfrozen]
  refine ⟨hworst.trans (avsTaken_worst s _ _ hdom), hslack.trans (avsTaken_slack s dom slack _), by rw [hpwr, avsTaken_at], hvreq.trans ?_, hlim⟩
  have hle := s.avsMax_le
  cases s.avsFrozen
  · exact Nat.mod_eq_of_lt (by omega)
  · exact avsTaken_vreq s dom _ _

/-- A slack of at least TARGET (R370). -/
theorem avsStep_within (h : (s.get Reg.PWR_AVS.TARGET : Int) ≤ slack.toInt) :
    avsLeaves ((s.avsTaken dom (ofSigned 16 slack.toInt) slack.toInt).avsStep (s.get Reg.PWR_AVS.TARGET) (s.get Reg.PWR_AVS_STAT.VREQ) good slack.toInt)
      dom slack.toNat s.up (s.get Reg.PWR_AVS_STAT.VREQ - (if 100 ≤ good ∧ s.avsFrozen = false ∧ s.avsMin < s.get Reg.PWR_AVS_STAT.VREQ then 1 else 0)) false := by
  obtain ⟨-, hmin, hfrozen⟩ := avsTaken_limits s dom (ofSigned 16 slack.toInt) slack.toInt
  obtain ⟨hregs, hat⟩ := avsStep_met (s.avsTaken dom (ofSigned 16 slack.toInt) slack.toInt) (s.get Reg.PWR_AVS_STAT.VREQ) good h
  obtain ⟨hworst, hslack, hvreq, hlim, -⟩ := avsWithin_facts (s.avsTaken dom (ofSigned 16 slack.toInt) slack.toInt)
    (decide (100 ≤ good ∧ s.avsFrozen = false ∧ s.avsMin < s.get Reg.PWR_AVS_STAT.VREQ)) (s.get Reg.PWR_AVS_STAT.VREQ - 1)
  rw [hfrozen, hmin] at hregs
  refine ⟨((get_of_regs hregs _).trans hworst).trans (avsTaken_worst s _ _ hdom), ((get_of_regs hregs _).trans hslack).trans (avsTaken_slack s dom slack _), hat.trans (avsTaken_at _ _ _ _),
    ((get_of_regs hregs _).trans hvreq).trans ?_, (bit_of_regs hregs _).trans hlim⟩
  have hlt := s.vreq_lt
  by_cases hc : 100 ≤ good ∧ s.avsFrozen = false ∧ s.avsMin < s.get Reg.PWR_AVS_STAT.VREQ
  · rw [decide_eq_true hc, if_pos rfl, if_pos hc]
    exact Nat.mod_eq_of_lt (by omega)
  · rw [decide_eq_false hc, if_neg hc]
    exact avsTaken_vreq s dom _ _
end

end Dev

theorem exec_avsReading (dom : Fin 80) (slack : BitVec 16) (s : State) : exec (.avsReading dom slack) s = devStep (·.avsReading dom slack.toInt) s := rfl

section
variable {s : State} {dom : Fin 80} {slack : BitVec 16} (hruns : s.dev.avsRuns = true) (hgap : ∀ t, s.dev.pwr.avsAt = some t → t + 10000 ≤ s.dev.up)
  (hon : s.dev.domOn dom = true)
include hruns hgap hon

theorem avsReading_answers : Answers (.avsReading dom slack) s fun t => t.dev.get Reg.PWR_AVS_STAT.WORST_DOM = dom
    ∧ t.dev.get Reg.PWR_AVS_STAT.SLACK = slack.toNat ∧ t.dev.pwr.avsAt = some s.dev.up
    ∧ (slack.toInt < (s.dev.get Reg.PWR_AVS.TARGET : Int) → s.dev.avsMax ≤ s.dev.get Reg.PWR_AVS_STAT.VREQ →
        t.dev.get Reg.PWR_AVS_STAT.VREQ = s.dev.get Reg.PWR_AVS_STAT.VREQ ∧ t.dev.bit (statusBit bPWR 3) = true ∧ t.dev.bit (stickyBit bPWR 1) = true)
    ∧ (slack.toInt < (s.dev.get Reg.PWR_AVS.TARGET : Int) → s.dev.get Reg.PWR_AVS_STAT.VREQ < s.dev.avsMax →
        t.dev.get Reg.PWR_AVS_STAT.VREQ = s.dev.get Reg.PWR_AVS_STAT.VREQ + (if s.dev.avsFrozen then 0 else 1) ∧ t.dev.bit (statusBit bPWR 3) = false)
    ∧ ((s.dev.get Reg.PWR_AVS.TARGET : Int) ≤ slack.toInt → t.dev.bit (statusBit bPWR 3) = false
        ∧ t.dev.get Reg.PWR_AVS_STAT.VREQ = s.dev.get Reg.PWR_AVS_STAT.VREQ
          - (if (s.dev.get Reg.PWR_AVS.TARGET : Int) + 20 ≤ slack.toInt ∧ 99 ≤ s.dev.pwr.goodReads ∧ s.dev.avsFrozen = false ∧ s.dev.avsMin < s.dev.get Reg.PWR_AVS_STAT.VREQ then 1 else 0))
    ∧ s.sameMem t := by
  refine answers_devStep (exec_avsReading dom slack s) ?_
  have hdom : dom.val < 2 ^ 7 := by omega
  have hgood := Dev.hundred_le_avsGood s.dev.fresh dom (ofSigned 16 slack.toInt) slack.toInt
  rw [Dev.avsReading_eq (s := s.dev.fresh) slack.toInt hruns hgap hon]
  simp only [Dev.get_settle, Dev.bit_settle, Dev.settle_pwr]
  rcases lt_or_ge slack.toInt (s.dev.get Reg.PWR_AVS.TARGET) with hslack | hslack
  · rcases Nat.lt_or_ge (s.dev.get Reg.PWR_AVS_STAT.VREQ) s.dev.avsMax with hv | hv
    · obtain ⟨hworst, hshown, hat, hvreq, hlim⟩ := Dev.avsStep_raise s.dev.fresh slack hdom _ hslack hv
      exact ⟨hworst, hshown, hat, fun _ h => absurd h (Nat.not_le.mpr hv), fun _ _ => ⟨hvreq, hlim⟩, fun h => absurd h (Int.not_le.mpr hslack), rfl, rfl⟩
    · obtain ⟨⟨hworst, hshown, hat, hvreq, hlim⟩, hsticky⟩ := Dev.avsStep_limit s.dev.fresh slack hdom _ hslack hv
      exact ⟨hworst, hshown, hat, fun _ _ => ⟨hvreq, hlim, hsticky⟩, fun _ h => absurd h (Nat.not_lt.mpr hv), fun h => absurd h (Int.not_le.mpr hslack), rfl, rfl⟩
  · obtain ⟨hworst, hshown, hat, hvreq, hlim⟩ := Dev.avsStep_within s.dev.fresh slack hdom _ hslack
    refine ⟨hworst, hshown, hat, fun h => absurd h (Int.not_lt.mpr hslack), fun h => absurd h (Int.not_lt.mpr hslack), fun _ => ⟨hlim, hvreq.trans ?_⟩, rfl, rfl⟩
    simp only [hgood, and_assoc]
    rfl
end

end Sys2Proof.Machine
end

section
/-! SUPPORT. A power domain that comes on (R376): its words at reset, and what the domain brings back into use. -/

namespace Sys2Proof.Machine

namespace Dev

/-! ### The words of a domain -/

theorem blockAt_bounds {k b : Nat} (h : blockAt k = some b) (h3 : 3 ≤ b) (h27 : b < 27) : 0x30000 ≤ k ∧ k < 0x300000 := by
  unfold blockAt at h
  split_ifs at h <;> simp only [Option.some.injEq] at h <;> omega

theorem blockAt_unit {k u : Nat} (h : blockAt k = some (22 + u)) (hu : u < 2) : 0x2B0000 ≤ k ∧ k < 0x2D0000 := by
  unfold blockAt bCEL bSCR bSMP at h
  split_ifs at h <;> simp only [Option.some.injEq] at h <;> omega

/-- The words of a domain below FLT_CFG. -/
def domWindow (d k : Nat) : Bool :=
  if 5 ≤ d ∧ d ≤ 12 then decide (blockAt k = some (bPRT (d - 5)))
  else if 61 ≤ d ∧ d ≤ 67 then
    Nat.ble 0x200000 k && Nat.blt k 0x280000 && (k - 0x200000) / 0x10000 == d - 60 && Nat.ble 0x2000 ((k - 0x200000) % 0x4000)
  else if d = 68 then decide (blockAt k = some bANG)
  else if d = 69 ∨ d = 70 then
    decide (blockAt k = some (bDMA (d - 69))) && !(k == Reg.DMA_JOB_EN_LO || k == Reg.DMA_JOB_EN_HI || k == Reg.DMA_REQ_OVF || (Nat.ble (Reg.DMA_REQ_SET 0) k && Nat.blt k (Reg.DMA_REQ_CNT 128)))
  else if d = 76 then decide (blockAt k = some bTRC)
  else false

theorem domKey_eq_window (d : Nat) {k : Nat} (hk : k < 0x1260000) : domKey d k = domWindow d k := by
  rw [domKey, if_neg, domWindow]
  cases domBlock d with
  | none => exact Bool.false_ne_true
  | some b =>
    simp only [Bool.and_eq_true, Nat.ble_eq, fltCfgAddr]
    omega

/-- The words of a domain: the FLT_CFG words of its header, a window of a block from ANG to TRC, or the Chuck's ports. -/
theorem domKey_cases {d k : Nat} (h : domKey d k = true) :
    0x1260000 ≤ k ∨ (∃ b, 3 ≤ b ∧ b < 27 ∧ blockAt k = some b) ∨ (0x200000 ≤ k ∧ k < 0x280000) := by
  rcases Nat.lt_or_ge k 0x1260000 with hk | hk
  · right
    rw [domKey_eq_window d hk, domWindow] at h
    split_ifs at h
    · exact .inl ⟨4 + (d - 5), by omega, by omega, of_decide_eq_true h⟩
    · simp only [Bool.and_eq_true, Nat.ble_eq, Nat.blt_eq] at h
      exact .inr ⟨h.1.1.1, h.1.1.2⟩
    · exact .inl ⟨bANG, by decide, by decide, of_decide_eq_true h⟩
    · exact .inl ⟨22 + (d - 69), by omega, by omega, of_decide_eq_true (Bool.and_eq_true_iff.mp h).1⟩
    · exact .inl ⟨bTRC, by decide, by decide, of_decide_eq_true h⟩
  · exact .inl hk

/-- The words of the domains lie beyond the root, outside the Burnisher's window. -/
theorem domKey_bounds {d k : Nat} (h : domKey d k = true) : 0x30000 ≤ k ∧ (k < 0x300000 ∨ 0x310000 ≤ k) := by
  rcases domKey_cases h with h | ⟨b, h3, h27, hb⟩ | h
  · omega
  · have := blockAt_bounds hb h3 h27
    omega
  · omega

/-- The words of a Tackle unit's domain: FLT_CFG, or of the unit's window, JOB_EN not among them. -/
theorem domKey_unit {d k : Nat} (hd : d = 69 ∨ d = 70) (h : domKey d k = true) :
    0x1260000 ≤ k ∨ (0x2B0000 ≤ k ∧ k < 0x2D0000 ∧ k ≠ Reg.DMA_JOB_EN_LO ∧ k ≠ Reg.DMA_JOB_EN_HI) := by
  rcases Nat.lt_or_ge k 0x1260000 with hk | hk
  · rw [domKey_eq_window d hk, domWindow, if_neg (by omega), if_neg (by omega), if_neg (by omega), if_pos hd, Bool.and_eq_true, decide_eq_true_eq] at h
    obtain ⟨hwin, hen⟩ := h
    have := blockAt_unit hwin (by omega)
    simp only [Bool.not_eq_true', Bool.or_eq_false_iff, beq_eq_false_iff_ne] at hen
    exact .inr ⟨by omega, by omega, hen.1.1.1, hen.1.1.2⟩
  · exact .inl hk

theorem domLose_regs (s : Dev) (d : Nat) : (s.domLose d).regs = s.regs.filter fun e => !domKey d e.1 := by
  unfold domLose
  cases domBlock d <;> dsimp only <;> split_ifs <;> rfl

theorem domLose_pwr (s : Dev) (d : Nat) : (s.domLose d).pwr = s.pwr := by
  unfold domLose
  cases domBlock d <;> dsimp only <;> split_ifs <;> rfl

/-- Words taken out of the register store read as at reset. -/
theorem word_without (s : Dev) (p : Nat → Bool) (k : Nat) : ({ s with regs := s.regs.filter fun e => !p e.1 } : Dev).word k = if p k then resetWord k else s.word k := by
  unfold word Tab.get
  dsimp only
  cases h : p k
  · rw [Tab.lookup_filter_keep _ _ _ fun _ => by simp [h]]
    rfl
  · rw [Tab.lookup_filter_drop _ _ _ fun _ => by simp [h]]
    rfl

/-- The words of the domain are at reset, the others as they were. -/
theorem word_domLose (s : Dev) (d k : Nat) : (s.domLose d).word k = if domKey d k then resetWord k else s.word k :=
  (word_of_regs (domLose_regs s d) k).trans (word_without s (domKey d) k)

theorem domLose_domOn (s : Dev) (d : Nat) {e : Nat} (he : e < 80) : (s.domLose d).domOn e = s.domOn e :=
  domOn_of_words (fun k hk => by
    rw [word_domLose, if_neg fun h => ?_]
    have := (domKey_bounds h).1
    omega) he

/-! ### What comes back into use with a domain -/

@[simp] theorem setPair_root (s : Dev) (p st : Nat) : (s.setPair p st).root = s.root := by
  have hpair : 0x30000 ≤ (Reg.CEL_PAIR_STAT.STATE p).addr := by simp only [Reg.CEL_PAIR_STAT.STATE]; omega
  simp +decide [setPair, hpair]

@[simp] theorem placeOn_root (s : Dev) (c p : Nat) : (s.placeOn c p).root = s.root := by
  have hpair : 0x30000 ≤ (Reg.CEL_PAIR_STAT.CELL p).addr := by simp only [Reg.CEL_PAIR_STAT.CELL]; omega
  have hcell : 0x30000 ≤ (Reg.CEL_STAT.PAIR c).addr := by simp only [Reg.CEL_STAT.PAIR]; omega
  simp [placeOn, hpair, hcell]

@[simp] theorem celReload_root (s : Dev) (c : Nat) : (s.celReload c).root = s.root := by
  have hword (j : Nat) : 0x30000 ≤ Reg.CEL_STATE_WORD c j := by simp only [Reg.CEL_STATE_WORD]; omega
  have hstate : 0x30000 ≤ (Reg.CEL_STAT.SM_STATE c).addr := by simp only [Reg.CEL_STAT.SM_STATE]; omega
  have hsteps : 0x30000 ≤ (Reg.CEL_STAT.STEPS c).addr := by simp only [Reg.CEL_STAT.STEPS]; omega
  simp [celReload, hword, hstate, hsteps]

@[simp] theorem celFresh_root (s : Dev) (c : Nat) : (s.celFresh c).root = s.root := by simp [celFresh]

theorem spareRestore_beyond (s : Dev) : PowerOnly (0x30000 ≤ ·) s s.spareRestore := by
  unfold spareRestore
  split
  · exact plcDomOn_beyond s _ _
  · exact PowerOnly.refl _ s

theorem celPlace_beyond (s : Dev) (c : Nat) : PowerOnly (0x30000 ≤ ·) s (s.celPlace c) := by
  unfold celPlace
  split
  · exact powerOnly_of_root (by simp)
  · split
    · exact plcDomOn_beyond s _ _
    · exact PowerOnly.refl _ s

theorem celRestart_beyond (s : Dev) (c : Nat) : PowerOnly (0x30000 ≤ ·) s (s.celRestart c) := by
  unfold celRestart
  dsimp only
  refine (powerOnly_of_root (modCell_root s c fun x => { x with restartDue := false })).trans ?_
  split
  · exact PowerOnly.refl _ _
  · split
    · exact powerOnly_of_root (celFresh_root _ c)
    · split
      · exact (powerOnly_of_root (by simp)).trans (spareRestore_beyond _)
      · split
        · exact (powerOnly_of_root (modCell_root _ c fun x => { x with restartDue := true })).trans (plcDomOn_beyond _ _ _)
        · exact PowerOnly.refl _ _

theorem placeWaiting_beyond (s : Dev) : PowerOnly (0x30000 ≤ ·) s s.placeWaiting := by
  refine PowerOnly.foldl _ (fun c _ s => ?_) s
  split
  · exact celPlace_beyond s c
  · exact celRestart_beyond s c

@[simp] theorem pairsOn_root (s : Dev) (g : Nat) : (s.pairsOn g).root = s.root := by
  refine (root_of_regs rfl rfl rfl rfl).trans (foldl_root _ (fun u p => ?_) s)
  simp

@[simp] theorem rebank_root (s : Dev) (l : List Nat) : (s.rebank l).root = s.root := (rebank_only s l).root

@[simp] theorem setBanks_root (s : Dev) (o : Nat) : (s.setBanks o).root = s.root := by
  have hset : 0x30000 ≤ (Reg.PLC_OWNER_BANKS.BANKS o).addr := by simp only [Reg.PLC_OWNER_BANKS.BANKS]; omega
  unfold setBanks
  split <;> simp [hset]

@[simp] theorem bankReturn_root (s : Dev) (k cause : Nat) : (s.bankReturn k cause).root = s.root := by simp +decide [bankReturn]

theorem tuned_root (s : Dev) (p : Nat) : (s.tuned p).root = s.root := by
  have htune : 0x30000 ≤ (Reg.PRT_SYNTH.TUNE_NOW p).addr := by simp only [Reg.PRT_SYNTH.TUNE_NOW]; omega
  simp [tuned, prtBit, putStatus_root, htune]

theorem domArrives_beyond (s : Dev) (d : Nat) : PowerOnly (0x30000 ≤ ·) s (s.domArrives d) := by
  have hstate (ch : Nat) : 0x30000 ≤ (Reg.MEM_CH_STAT.STATE ch).addr := by simp only [Reg.MEM_CH_STAT.STATE]; omega
  unfold domArrives
  dsimp only
  split_ifs
  · exact powerOnly_of_root (tuned_root s _)
  · exact powerOnly_of_root ((bankReturn_root _ _ _).trans (root_of_regs rfl rfl rfl rfl))
  · exact powerOnly_of_root (root_of_regs rfl rfl rfl rfl)
  · exact (powerOnly_of_root ((when_root _ _ fun u => raise_root u 3 (by decide)).trans (pairsOn_root s _))).trans (placeWaiting_beyond _)
  · refine (powerOnly_of_root (when_root s _ fun u => ?_)).trans ((unitArrives_only _ _).mono fun k hk => by have := placeWords_le hk; omega)
    simp +decide
  · exact powerOnly_of_root (put_root s _ (hstate _))
  · exact PowerOnly.refl _ s

/-- The domains of banks, Lathe groups and memory channels hold no register words. -/
theorem domKey_store {d : Nat} (k : Nat) (h : (19 ≤ d ∧ d ≤ 59) ∨ d = 71 ∨ d = 72) : domKey d k = false := by
  have hblock : domBlock d = none := by
    rw [domBlock, if_neg (by omega), if_neg (by omega), if_neg (by omega), if_neg (by omega)]
  unfold domKey
  simp only [hblock, Bool.false_eq_true, if_false]
  rw [if_neg (by omega), if_neg (by omega), if_neg (by omega), if_neg (by omega), if_neg (by omega)]

/-- A word of a port's domain other than its status and synthesiser stays as a calibration ends. -/
theorem word_tuned (s : Dev) (p : Nat) {k : Nat} (hstatus : k ≠ statusAddr (bPRT p)) (hsynth : k ≠ Reg.PRT_SYNTH p) : (s.tuned p).word k = s.word k :=
  (word_put_other _ (Reg.PRT_SYNTH.TUNE_NOW p) _ k hsynth).trans (word_put_other s (prtBit p 0) _ k hstatus)

/-- The moves of jobs leave the words of a unit's domain, DONE apart. -/
theorem not_placeWords_of_domKey {d k : Nat} (hd : d = 69 ∨ d = 70) (h : domKey d k = true) (hdone : ∀ u < 2, k ≠ Reg.DMA_DONE_LO u ∧ k ≠ Reg.DMA_DONE_HI u) :
    ¬ placeWords k := by
  have hkey := domKey_unit hd h
  rintro (hplc | htrc | ⟨u, hu, hlo | hhi⟩)
  · omega
  · rcases htrc with rfl | rfl | rfl | rfl | rfl <;> revert hkey <;> decide
  · exact (hdone u hu).1 hlo
  · exact (hdone u hu).2 hhi

/-- What comes back into use leaves the domain's register words at reset, but for those R376 names. -/
theorem domArrives_word (s : Dev) {d k : Nat} (h : domKey d k = true) (hstatus : ∀ b, k ≠ statusAddr b) (hsynth : ∀ p < 8, k ≠ Reg.PRT_SYNTH p)
    (hdone : ∀ u < 2, k ≠ Reg.DMA_DONE_LO u ∧ k ≠ Reg.DMA_DONE_HI u) : (s.domArrives d).word k = s.word k := by
  have hstore (hd : (19 ≤ d ∧ d ≤ 59) ∨ d = 71 ∨ d = 72) : False := Bool.false_ne_true ((domKey_store k hd).symm.trans h)
  unfold domArrives
  dsimp only
  split_ifs with hport hbank hret hgroup hunit hmem
  · exact word_tuned s _ (hstatus _) (hsynth _ (by omega))
  · exact (hstore (by omega)).elim
  · exact (hstore (by omega)).elim
  · exact (hstore (by omega)).elim
  · have hen : k ≠ Reg.DMA_JOB_EN_LO ∧ k ≠ Reg.DMA_JOB_EN_HI := by
      have hkey := domKey_unit hunit h
      constructor <;> rintro rfl <;> revert hkey <;> decide
    refine ((unitArrives_only _ _).1 k (not_placeWords_of_domKey hunit h hdone)).trans (word_when _ ?_)
    exact (word_setWord_other _ _ _ _ hen.2).trans (word_setWord_other _ _ _ _ hen.1)
  · exact (hstore (by omega)).elim
  · rfl

/-! ### The completion -/

/-- A domain at reset, its power good and no longer switching. -/
def domBack (s : Dev) (d : Nat) : Dev :=
  ({ s with pwr := { s.pwr with switching := s.pwr.switching &&& (2 ^ 80 - 1 - 2 ^ d % 2 ^ 80) } }.domLose d).setDom d true

theorem word_domBack (s : Dev) {d : Nat} (hd : d < 80) {k : Nat} (hk : 0x30000 ≤ k) : (s.domBack d).word k = if domKey d k then resetWord k else s.word k := by
  rw [domBack, setDom, word_put_other _ _ _ _ (by simp only [Reg.PWR_DOM_ON]; omega), word_domLose, word_withPwr]

theorem domBack_domOn_same (s : Dev) (d : Nat) : (s.domBack d).domOn d = true := domOn_setDom_same _ d true

theorem domBack_domOn_other (s : Dev) {d e : Nat} (he : e < 80) (h : e ≠ d) : (s.domBack d).domOn e = s.domOn e :=
  (domOn_setDom_other _ true h).trans (domLose_domOn _ d he)

theorem domBack_switching (s : Dev) {d : Nat} (hd : d < 80) : (s.domBack d).pwr.switching.testBit d = false := by
  rw [domBack, setDom, put_pwr, domLose_pwr]
  exact testBit_without _ hd

/-- The words of the Burnisher's window. -/
def istWindow (k : Nat) : Prop := 0x300000 ≤ k ∧ k < 0x310000

theorem cycleEnd_only (s : Dev) : PowerOnly istWindow s s.cycleEnd := by
  unfold cycleEnd
  split
  · have hend (u : Dev) : PowerOnly istWindow u ((u.put Reg.IST_CYCLE.GO 0).raise bIST 3) :=
      ((WordOnly.put _ u Reg.IST_CYCLE.GO 0 (by decide : 0x300000 ≤ 0x300140 ∧ 0x300140 < 0x310000)).trans
        (WordOnly.raise _ _ bIST 3 (by decide : 0x300000 ≤ 0x300008 ∧ 0x300008 < 0x310000))).toFault.power fun _ hk => (by decide : 0x30000 ≤ 0x300000).trans hk.1
    exact hend { s with ist := { s.ist with cyclePhase := 0 } }
  · exact PowerOnly.refl _ s

/-- The tests after a power-cycle are of the Burnisher's window. -/
theorem cycleTests_only (s : Dev) (d : Nat) : PowerOnly istWindow s (s.cycleTests d) := cycleEnd_only _

/-- A completion at or above TARGET (R376). -/
theorem domOnComplete_met {s : Dev} {d : Nat} {slack : Int} (hsw : s.pwr.switching.testBit d = true) (h : (s.get Reg.PWR_AVS.TARGET : Int) ≤ slack) :
    s.domOnComplete d slack = if ((s.domBack d).domArrives d).cycling 3 d then ((s.domBack d).domArrives d).cycleTests d else (s.domBack d).domArrives d := by
  unfold domOnComplete
  rw [if_neg (by rw [hsw]; simpa using h)]
  rfl

/-- After the arrival only words of the Burnisher's window may change. -/
theorem domOnComplete_after {s : Dev} {d : Nat} {slack : Int} (hsw : s.pwr.switching.testBit d = true) (h : (s.get Reg.PWR_AVS.TARGET : Int) ≤ slack) :
    PowerOnly istWindow ((s.domBack d).domArrives d) (s.domOnComplete d slack) := by
  rw [domOnComplete_met hsw h]
  split
  · exact cycleTests_only _ d
  · exact PowerOnly.refl _ _

/-- Power good, but a slack below TARGET: the domain goes on switching (R370). -/
theorem domOnComplete_short {s : Dev} {d : Nat} {slack : Int} (h : slack < (s.get Reg.PWR_AVS.TARGET : Int)) : s.domOnComplete d slack = s :=
  if_pos (.inr h)

/-- A calibration that ends with the domain's coming on (R72). -/
theorem tuned_bits (s : Dev) {p : Nat} (hp : p < 8) : (s.tuned p).bit (prtBit p 0) = true ∧ (s.tuned p).get (Reg.PRT_SYNTH.TUNE_NOW p) = 128 := by
  have hstatus : (prtBit p 0).addr = 0x40008 + 0x10000 * p := statusAddr_bPRT hp
  refine ⟨?_, (get_put_same _ _ _ (by simp only [Reg.PRT_SYNTH.TUNE_NOW]; omega)).trans (by simp only [Reg.PRT_SYNTH.TUNE_NOW]; omega)⟩
  rw [tuned, bit_put_addr _ _ (by rw [hstatus]; simp only [Reg.PRT_SYNTH.TUNE_NOW]; omega), prtBit, bit_put_statusBit _ _ _ _ (by decide)]
  rfl

/-- A port's domain arrives in lock. -/
theorem domArrives_port (s : Dev) {p : Nat} (hp : p < 8) : s.domArrives (p + 5) = s.tuned p := by
  unfold domArrives
  rw [if_pos (by omega), Nat.add_sub_cancel]

/-! ### The start and the failure -/

/-- A domain of no Rigger choice that should be on begins to come on (R376). -/
theorem domSwitchOn_eq {s : Dev} {d : Nat} (hown : riggerDom d = false) (hoff : s.domOn d = false) (hstill : s.pwr.switching.testBit d = false) (hrun : s.pwr.phase = .run)
    (hwant : s.domWanted d = true) (hcycle : s.cycling 2 d = false) : s.domSwitchOn d = s.domStart d := by
  unfold domSwitchOn
  rw [if_neg (by simp [hoff, hstill, hrun, hwant]), if_neg (by simp [hcycle]), if_neg (by simp [hown])]

/-- Before its event, a domain that fails no longer switches and its bit of PWR_DOM_FAIL is set. -/
def domFailed (s : Dev) (d : Nat) : Dev :=
  let s := { s with pwr := { s.pwr with switching := s.pwr.switching &&& (2 ^ 80 - 1 - 2 ^ d % 2 ^ 80) } }
  let s := if s.cycling 3 d then { s with ist := { s.ist with cyclePhase := 2, offAt := s.up } } else s
  s.put (domFailFld d) 1

theorem domFail_eq {s : Dev} {d : Nat} (h : s.pwr.switching.testBit d = true) : s.domFail d = (s.domFailed d).fault bPWR 2 := by
  unfold domFail
  rw [if_neg (by simp [h])]
  rfl

theorem domFailed_pwr (s : Dev) (d : Nat) : (s.domFailed d).pwr = { s.pwr with switching := s.pwr.switching &&& (2 ^ 80 - 1 - 2 ^ d % 2 ^ 80) } := by
  unfold domFailed
  dsimp only
  split <;> rfl

theorem domFailed_bit (s : Dev) (d : Nat) : (s.domFailed d).bit (domFailFld d) = true :=
  bit_put_same _ _ _ (Nat.mod_lt d (by decide)) rfl

theorem domFailed_word (s : Dev) {d k : Nat} (h : k ≠ Reg.PWR_DOM_FAIL (d / 32)) : (s.domFailed d).word k = s.word k := by
  unfold domFailed
  dsimp only
  rw [word_put_other _ (domFailFld d) _ k h]
  split <;> rfl

theorem not_faultWords_pwr_dom {i k : Nat} (hi : i < 3) (hk : k = Reg.PWR_DOM_FAIL i ∨ k = Reg.PWR_DOM_ON i) : ¬ faultWords bPWR k := by
  have hlt : 0x10000 + 0x100 ≤ k ∧ k < 0x20000 := by
    rcases hk with rfl | rfl <;> simp only [Reg.PWR_DOM_FAIL, Reg.PWR_DOM_ON] <;> omega
  rintro (rfl | rfl | rfl | rfl | rfl) <;> revert hlt <;> decide

end Dev

/-! ### The commands -/

theorem exec_domainSwitchOn (d : Fin 80) (s : State) : exec (.domainSwitchOn d) s = devStep (·.domSwitchOn d) s := rfl
theorem exec_domainOnComplete (d : Fin 80) (slack : BitVec 16) (s : State) : exec (.domainOnComplete d slack) s = devStep (·.domOnComplete d slack.toInt) s := rfl
theorem exec_domainFail (d : Fin 80) (s : State) : exec (.domainFail d) s = devStep (·.domFail d) s := rfl

theorem domainSwitchOn_answers {s : State} {d : Fin 80} (hown : Dev.riggerDom d = false) (hoff : s.dev.domOn d = false) (hstill : s.dev.pwr.switching.testBit d = false)
    (hrun : s.dev.pwr.phase = .run) (hwant : s.dev.domWanted d = true) (hcycle : s.dev.cycling 2 d = false) :
    Answers (.domainSwitchOn d) s fun t => t.dev.pwr.switching.testBit d = true ∧ t.dev.domOn d = false ∧ (∀ k, t.dev.word k = s.dev.word k) ∧ s.sameMem t := by
  have hword (k : Nat) : (s.dev.fresh.domStart d).word k = s.dev.word k := (Dev.domStart_only (fun _ => False) s.dev.fresh d).1 k id
  refine answers_devStep (exec_domainSwitchOn d s) ?_
  rw [Dev.domSwitchOn_eq (s := s.dev.fresh) hown hoff hstill hrun hwant hcycle]
  refine ⟨?_, ?_, fun k => (Dev.word_settle _ _ k).trans (hword k), rfl, rfl⟩
  · rw [Dev.settle_pwr]
    exact Dev.domStart_switching s.dev.fresh hoff
  · rw [Dev.domOn_settle]
    exact (Dev.domOn_of_words (fun k _ => hword k) d.isLt).trans hoff

theorem domainOnComplete_answers {s : State} {d : Fin 80} {slack : BitVec 16} (hsw : s.dev.pwr.switching.testBit d = true)
    (h : (s.dev.get Reg.PWR_AVS.TARGET : Int) ≤ slack.toInt) :
    Answers (.domainOnComplete d slack) s fun t => t.dev.domOn d = true ∧ t.dev.pwr.switching.testBit d = false
      ∧ (∀ e < 80, e ≠ d.val → t.dev.domOn e = s.dev.domOn e)
      ∧ (∀ k, Dev.domKey d k = true → (∀ b, k ≠ statusAddr b) → (∀ b, k ≠ stickyAddr b) → (∀ p < 8, k ≠ Reg.PRT_SYNTH p) → (∀ u < 2, k ≠ Reg.DMA_DONE_LO u ∧ k ≠ Reg.DMA_DONE_HI u) →
          t.dev.word k = resetWord k)
      ∧ (∀ p < 8, d.val = p + 5 → t.dev.bit (Dev.prtBit p 0) = true ∧ t.dev.get (Reg.PRT_SYNTH.TUNE_NOW p) = 128) ∧ s.sameMem t := by
  obtain ⟨hwords, hdoms⟩ := Dev.domOnComplete_after (s := s.dev.fresh) hsw h
  have harrive := (Dev.domArrives_beyond (s.dev.fresh.domBack d) d).2
  have hon : (s.dev.fresh.domBack d).domOn d = true := Dev.domBack_domOn_same _ _
  have honArrived : ((s.dev.fresh.domBack d).domArrives d).domOn d = true := (harrive d d.isLt).1.trans hon
  refine answers_devStep (exec_domainOnComplete d slack s) ⟨?_, ?_, fun e he hne => ?_, fun k hk hstatus _ hsynth hdone => ?_, fun p hp hd => ?_, rfl, rfl⟩
  · rw [Dev.domOn_settle]
    exact (hdoms d d.isLt).1.trans honArrived
  · rw [Dev.settle_pwr]
    exact ((hdoms d d.isLt).2 honArrived).trans (((harrive d d.isLt).2 hon).trans (Dev.domBack_switching _ d.isLt))
  · rw [Dev.domOn_settle]
    exact ((hdoms e he).1.trans (harrive e he).1).trans (Dev.domBack_domOn_other _ he hne)
  · have hbounds := Dev.domKey_bounds hk
    rw [Dev.word_settle, hwords k (by unfold Dev.istWindow; omega), Dev.domArrives_word _ hk hstatus hsynth hdone, Dev.word_domBack _ d.isLt hbounds.1, if_pos hk]
  · obtain ⟨hlock, htune⟩ := Dev.tuned_bits (s.dev.fresh.domBack d) hp
    have hstatus : (Dev.prtBit p 0).addr = 0x40008 + 0x10000 * p := Dev.statusAddr_bPRT hp
    rw [show (s.dev.fresh.domBack d).domArrives d = (s.dev.fresh.domBack d).tuned p from hd ▸ Dev.domArrives_port _ hp] at hwords
    rw [Dev.bit_settle, Dev.get_settle]
    refine ⟨(Dev.bit_of_word (hwords _ ?_)).trans hlock, (Dev.get_of_word (hwords _ ?_)).trans htune⟩
    · rw [hstatus]
      unfold Dev.istWindow
      omega
    · simp only [Dev.istWindow, Reg.PRT_SYNTH.TUNE_NOW]
      omega

theorem domainOnComplete_short_answers {s : State} {d : Fin 80} {slack : BitVec 16} (h : slack.toInt < (s.dev.get Reg.PWR_AVS.TARGET : Int)) :
    Answers (.domainOnComplete d slack) s fun t => s.dev.onlyWords (fun _ => False) t.dev ∧ s.sameMem t := by
  refine answers_devStep (exec_domainOnComplete d slack s) ⟨?_, rfl, rfl⟩
  rw [Dev.domOnComplete_short (s := s.dev.fresh) h]
  exact Dev.onlyWords_settled (Dev.WordOnly.refl _ _).onlyWords _

theorem domainFail_answers {s : State} {d : Fin 80} (h : s.dev.pwr.switching.testBit d = true) :
    Answers (.domainFail d) s fun t => t.dev.pwr.switching.testBit d = false ∧ t.dev.domOn d = s.dev.domOn d ∧ t.dev.bit (Dev.domFailFld d) = true ∧ t.dev.bit (stickyBit bPWR 2) = true
      ∧ s.sameMem t := by
  have hword : d.val / 32 < 3 := by omega
  refine answers_devStep (exec_domainFail d s) ?_
  rw [Dev.domFail_eq (s := s.dev.fresh) h]
  refine ⟨?_, ?_, ?_, ?_, rfl, rfl⟩
  · rw [Dev.settle_pwr, (Dev.fault_only _ bPWR 2).2, Dev.domFailed_pwr]
    exact Dev.testBit_without _ d.isLt
  · rw [Dev.domOn_settle, Dev.domOn_eq_bit, Dev.domOn_eq_bit, Dev.bit_fault _ _ _ _ (Dev.not_faultWords_pwr_dom hword (.inr rfl))]
    exact Dev.bit_of_word (Dev.domFailed_word _ (by simp only [Reg.PWR_DOM_ON, Reg.PWR_DOM_FAIL]; omega))
  · rw [Dev.bit_settle, Dev.bit_fault _ _ _ _ (Dev.not_faultWords_pwr_dom hword (.inl rfl))]
    exact Dev.domFailed_bit _ _
  · rw [Dev.bit_settle]
    exact Dev.fault_sticky _ _ _ (by decide) (by decide)

/-- Settles O51: a reading, the start, the completion and the failure of a domain's switching, each from the lemmas of its own step. -/
theorem voltageAndDomains : Obligations.VoltageAndDomains := by
  unfold Obligations.VoltageAndDomains
  exact ⟨fun _ _ _ hruns hgap hon => avsReading_answers hruns hgap hon,
    fun _ _ hown hoff hstill hrun hwant hcycle => domainSwitchOn_answers hown hoff hstill hrun hwant hcycle,
    fun _ _ _ hsw _ => ⟨fun h => domainOnComplete_answers hsw h, fun h => domainOnComplete_short_answers h⟩,
    fun _ _ hsw => domainFail_answers hsw⟩

end Sys2Proof.Machine
end

section
/-! SUPPORT. Jobs of Tackle (R311–R316): their state beside the registers, starts, stops and shadow sets. -/

namespace Sys2Proof.Machine

/-! ### Written words of a job's set -/

theorem wbit_or (v c : Word) (i : Nat) : wbit (v ||| c) i = (wbit v i || wbit c i) := BitVec.getLsbD_or

/-- The bits of a written DMA_CTL or DMA_SH_CTL that are kept do not tell of the command bits set with them. -/
theorem ctlKept_or (v : Word) {c : Word} (h : c &&& 0x3FFFF700#32 = 0#32) : BitVec.ofNat 32 ((v ||| c).toNat &&& 0x3FFFF700) = v &&& 0x3FFFF700#32 := by
  have hmask : (v ||| c) &&& 0x3FFFF700#32 = v &&& 0x3FFFF700#32 := by
    ext i hi
    have hbit : (c &&& 0x3FFFF700#32).getLsbD i = false := by rw [h]; exact BitVec.getLsbD_zero
    simp only [BitVec.getLsbD_and] at hbit
    simp only [← BitVec.getLsbD_eq_getElem, BitVec.getLsbD_and, BitVec.getLsbD_or, Bool.and_or_distrib_right, hbit, Bool.or_false]
  rw [← hmask]
  exact (BitVec.ofNat_toNat 32 ((v ||| c) &&& 0x3FFFF700#32)).trans (BitVec.setWidth_eq _)

namespace Dev

/-! ### The state of a job beside registers -/

@[simp] theorem job_setJob_same (s : Dev) (j : Nat) (x : Job) : (s.setJob j x).job j = x := Tab.get_set_same _ _ _ _
theorem job_setJob_other (s : Dev) {i j : Nat} (x : Job) (h : i ≠ j) : (s.setJob j x).job i = s.job i := Tab.get_set_other _ _ _ _ _ h
theorem job_of_jobs {s t : Dev} (h : t.jobs = s.jobs) (j : Nat) : t.job j = s.job j := by rw [job, job, h]
@[simp] theorem job_settle (old s : Dev) (j : Nat) : (settle old s).job j = s.job j := job_of_jobs (settle_jobs old s) j
theorem WordOnly.job_eq {K : Nat → Prop} {s t : Dev} (h : WordOnly K s t) (j : Nat) : t.job j = s.job j := job_of_jobs (by rw [h.2]) j
theorem WordOnly.chns_eq {K : Nat → Prop} {s t : Dev} (h : WordOnly K s t) : t.chns = s.chns := by rw [h.2]
theorem jobAccs_of_chns {s t : Dev} (h : t.chns = s.chns) (j : Nat) : t.jobAccs j = s.jobAccs j := by simp only [jobAccs, chn, h]

@[simp] theorem word_setJob (s : Dev) (j : Nat) (x : Job) (k : Nat) : (s.setJob j x).word k = s.word k := rfl
@[simp] theorem get_setJob (s : Dev) (j : Nat) (x : Job) (f : Fld) : (s.setJob j x).get f = s.get f := rfl
@[simp] theorem bit_setJob (s : Dev) (j : Nat) (x : Job) (f : Fld) : (s.setJob j x).bit f = s.bit f := rfl

/-- A field that shares no bit with the one written, of the same word or another, keeps its value. -/
theorem get_put_apart (s : Dev) {f g : Fld} (v : Nat) (hf : f.lo + f.w ≤ 32) (h : g.lo + g.w ≤ f.lo ∨ f.lo + f.w ≤ g.lo) : (s.put f v).get g = s.get g :=
  get_put_other s f g v hf (.inr h)

/-! ### A start (R313) -/

theorem startErr_lt (s : Dev) (j : Nat) : s.startErr j < 16 := by
  unfold startErr
  dsimp only
  split_ifs <;> decide

theorem startErr_fresh (s : Dev) (j : Nat) : s.fresh.startErr j = s.startErr j := rfl

/-- DMA_STAT of a job that starts: no error, running. -/
def startMark (s : Dev) (j : Nat) : Dev := (s.put (Reg.DMA_STAT.ERR j) 0).put (Reg.DMA_STAT.STATE j) 1

/-- With it the GEN of the context that a frame side names (R318). -/
def startStat (s : Dev) (j : Nat) : Dev :=
  match (s.startMark j).jobCtx j with
  | some x => (s.startMark j).put (Reg.DMA_STAT.GEN j) ((s.startMark j).ctxGen x)
  | none => s.startMark j

theorem startMark_only (s : Dev) (j : Nat) : WordOnly (· = Reg.DMA_STAT j) s (s.startMark j) :=
  (WordOnly.put (· = Reg.DMA_STAT j) s (Reg.DMA_STAT.ERR j) 0 rfl).trans (WordOnly.put (· = Reg.DMA_STAT j) _ (Reg.DMA_STAT.STATE j) 1 rfl)

theorem startStat_only (s : Dev) (j : Nat) : WordOnly (· = Reg.DMA_STAT j) s (s.startStat j) := by
  unfold startStat
  split
  · exact (startMark_only s j).trans (WordOnly.put (· = Reg.DMA_STAT j) _ (Reg.DMA_STAT.GEN j) _ rfl)
  · exact startMark_only s j

/-- The source, the destination and the context of a job do not lie in DMA_STAT. -/
theorem jobCtx_of_stat {s t : Dev} {j : Nat} (h : WordOnly (· = Reg.DMA_STAT j) s t) : t.jobCtx j = s.jobCtx j := by
  have hdst : t.get (Reg.DMA_CTL.DST_SPACE j) = s.get (Reg.DMA_CTL.DST_SPACE j) := h.get_eq (by simp only [Reg.DMA_CTL.DST_SPACE, Reg.DMA_STAT]; omega)
  have hsrc : t.get (Reg.DMA_CTL.SRC_SPACE j) = s.get (Reg.DMA_CTL.SRC_SPACE j) := h.get_eq (by simp only [Reg.DMA_CTL.SRC_SPACE, Reg.DMA_STAT]; omega)
  have hto : t.get (Reg.DMA_DST_LO.ADDR j) = s.get (Reg.DMA_DST_LO.ADDR j) := h.get_eq (by simp only [Reg.DMA_DST_LO.ADDR, Reg.DMA_STAT]; omega)
  have hfrom : t.get (Reg.DMA_SRC_LO.ADDR j) = s.get (Reg.DMA_SRC_LO.ADDR j) := h.get_eq (by simp only [Reg.DMA_SRC_LO.ADDR, Reg.DMA_STAT]; omega)
  simp only [jobCtx, hdst, hsrc, hto, hfrom]

theorem jobCtx_lt {s : Dev} {j x : Nat} (h : s.jobCtx j = some x) : x < 512 := by
  unfold jobCtx at h
  split_ifs at h <;> rw [← Option.some.inj h] <;> exact Nat.mod_lt _ (by decide)

theorem startMark_fields (s : Dev) (j : Nat) :
    (s.startMark j).get (Reg.DMA_STAT.ERR j) = 0 ∧ (s.startMark j).get (Reg.DMA_STAT.STATE j) = 1
      ∧ (s.startMark j).get (Reg.DMA_STAT.ARMED j) = s.get (Reg.DMA_STAT.ARMED j) := by
  have herr : 16 + 4 ≤ 32 := by decide
  have hstate : 30 + 2 ≤ 32 := by decide
  exact ⟨(get_put_apart _ 1 hstate (.inl (by decide : 16 + 4 ≤ 30))).trans (get_put_same s _ 0 herr), get_put_same _ _ 1 hstate,
    (get_put_apart _ 1 hstate (.inl (by decide : 29 + 1 ≤ 30))).trans (get_put_apart s 0 herr (.inr (by decide : 16 + 4 ≤ 29)))⟩

theorem startStat_fields (s : Dev) (j : Nat) :
    (s.startStat j).get (Reg.DMA_STAT.ERR j) = 0 ∧ (s.startStat j).get (Reg.DMA_STAT.STATE j) = 1
      ∧ (s.startStat j).get (Reg.DMA_STAT.ARMED j) = s.get (Reg.DMA_STAT.ARMED j)
      ∧ ∀ x, s.jobCtx j = some x → (s.startStat j).get (Reg.DMA_STAT.GEN j) = s.ctxGen x % 256 := by
  obtain ⟨herr, hstate, harmed⟩ := s.startMark_fields j
  have hctx := jobCtx_of_stat (s.startMark_only j)
  unfold startStat
  rw [hctx]
  cases hc : s.jobCtx j with
  | none => exact ⟨herr, hstate, harmed, nofun⟩
  | some x =>
    have hgen : 8 + 8 ≤ 32 := by decide
    refine ⟨(get_put_apart _ _ hgen (.inr (by decide : 8 + 8 ≤ 16))).trans herr, (get_put_apart _ _ hgen (.inr (by decide : 8 + 8 ≤ 30))).trans hstate,
      (get_put_apart _ _ hgen (.inr (by decide : 8 + 8 ≤ 29))).trans harmed, fun y hy => ?_⟩
    have hlt := jobCtx_lt hc
    have hkeep : (s.startMark j).ctxGen x = s.ctxGen x := (s.startMark_only j).get_eq (by simp only [Reg.STM_CTX_STAT.GEN, Reg.DMA_STAT]; omega)
    rw [← Option.some.inj hy, ← hkeep]
    exact get_put_same _ _ _ hgen

/-- A start whose checks pass (R313). -/
theorem jobStart_runs {s : Dev} {j : Nat} (h : s.startErr j = 0) : s.jobStart j = (s.startStat j).setJob j { total := s.jobCnt j } := by
  have hcnt : (s.startStat j).jobCnt j = s.jobCnt j := (startStat_only s j).get_eq (by simp only [Reg.DMA_CNT.CNT, Reg.DMA_STAT]; omega)
  rw [← hcnt]
  unfold jobStart
  rw [if_neg (by simp [h])]
  rfl

/-- A start that a check refuses (R313). -/
theorem jobStart_refused {s : Dev} {j : Nat} (h : s.startErr j ≠ 0) : s.jobStart j = s.put (Reg.DMA_STAT.ERR j) (s.startErr j) := if_pos h

end Dev

end Sys2Proof.Machine
end

section
/-! SUPPORT. Writes of DMA_CTL and DMA_SH_CTL (R313, R315). -/

namespace Sys2Proof.Machine

namespace Dev

/-- A write of START to a job that is enabled and not running (R313). -/
theorem dmaCtlWrite_start {s : Dev} {j : Nat} (v : Word) (hen : s.jobEn j = true) (hidle : s.jobState j ≠ 1) (hstop : wbit v 30 = false) :
    s.dmaCtlWrite j (v ||| 0x80000000#32) = (s.setWord (Reg.DMA_CTL j) (v &&& 0x3FFFF700#32)).jobStart j := by
  have h30 : wbit (v ||| 0x80000000#32) 30 = false := by rw [wbit_or, hstop]; decide
  have h31 : wbit (v ||| 0x80000000#32) 31 = true := by rw [wbit_or, Bool.or_eq_true]; exact .inr (by decide)
  unfold dmaCtlWrite
  rw [if_neg (by simp [hen]), if_neg hidle, h30, h31, ctlKept_or v (by decide)]
  rfl

/-- DMA_CTL rewritten, with or without WR_IGNORED. -/
def ctlPut (s : Dev) (j : Nat) (w : Word) (ignored : Bool) : Dev := (s.setWord (Reg.DMA_CTL j) w).when ignored (·.put (Reg.DMA_STAT.WR_IGNORED j) 1)

theorem ctlPut_only (s : Dev) (j : Nat) (w : Word) (ignored : Bool) : WordOnly (fun k => k = Reg.DMA_CTL j ∨ k = Reg.DMA_STAT j) s (s.ctlPut j w ignored) :=
  (WordOnly.setWord _ s _ _ (.inl rfl)).trans (WordOnly.when _ (WordOnly.put (fun k => k = Reg.DMA_CTL j ∨ k = Reg.DMA_STAT j) _ (Reg.DMA_STAT.WR_IGNORED j) 1 (.inr rfl)))

theorem ctlPut_state (s : Dev) (j : Nat) (w : Word) (ignored : Bool) : (s.ctlPut j w ignored).get (Reg.DMA_STAT.STATE j) = s.get (Reg.DMA_STAT.STATE j) := by
  have hctl : (s.setWord (Reg.DMA_CTL j) w).get (Reg.DMA_STAT.STATE j) = s.get (Reg.DMA_STAT.STATE j) :=
    get_of_word (word_setWord_other _ _ _ _ (by simp only [Reg.DMA_STAT.STATE, Reg.DMA_CTL]; omega))
  unfold ctlPut
  cases ignored
  · rw [when_false, hctl]
  · rw [when_true, get_put_apart _ 1 (by decide : 27 + 1 ≤ 32) (.inr (by decide : 27 + 1 ≤ 30)), hctl]

/-- A write of STOP to a running job (R313). -/
theorem dmaCtlWrite_stop {s : Dev} {j : Nat} (v : Word) (hen : s.jobEn j = true) (hrun : s.jobState j = 1) :
    ∃ w ignored, s.dmaCtlWrite j (v ||| 0x40000000#32) = (s.ctlPut j w ignored).jobStop j false := by
  have h30 : wbit (v ||| 0x40000000#32) 30 = true := by rw [wbit_or, Bool.or_eq_true]; exact .inr (by decide)
  unfold dmaCtlWrite
  rw [if_neg (by simp [hen]), if_pos hrun, h30]
  exact ⟨_, _, when_true _ _⟩

/-- A job whose stop waits for the burst or record under way. -/
def jobHalting (x : Job) : Job := { x with stopping := true }

/-- A stop of a running job (R313). -/
theorem jobStop_running {s : Dev} {j : Nat} (h : s.jobState j = 1) :
    s.jobStop j false = (s.setJob j (jobHalting (s.job j))).stopDone j := if_pos h

/-- A stop that takes effect at once, of a job that is not being removed (R313, R320). -/
theorem stopDone_idle {s : Dev} {j : Nat} (hstop : (s.job j).stopping = true) (hframe : (s.job j).frame = none) (hgather : (s.job j).gather = false)
    (hkeep : (s.job j).removing = false) (hacc : s.jobAccs j = []) :
    s.stopDone j = ((s.put (Reg.DMA_STAT.STATE j) 0).put (Reg.DMA_STAT.ARMED j) 0).setJob j {} := by
  unfold stopDone
  simp only [hstop, hframe, hgather, hkeep, hacc]
  rfl

/-- A stop with accesses outstanding waits for them (R313, R320). -/
theorem stopDone_waits {s : Dev} {j : Nat} (h : s.jobAccs j ≠ []) : s.stopDone j = s := by
  unfold stopDone
  simp only [List.isEmpty_eq_false_iff.mpr h, Bool.and_false]
  rfl

/-- The stop of a job with no record and no access outstanding (R313, R320). -/
theorem halting_idle {s d : Dev} {j : Nat} (hchns : d.chns = s.chns) (hframe : (s.job j).frame = none) (hgather : (s.job j).gather = false)
    (hkeep : (s.job j).removing = false) (hacc : s.jobAccs j = []) :
    (d.setJob j (jobHalting (s.job j))).stopDone j = (((d.setJob j (jobHalting (s.job j))).put (Reg.DMA_STAT.STATE j) 0).put (Reg.DMA_STAT.ARMED j) 0).setJob j {} := by
  have hjob := job_setJob_same d j (jobHalting (s.job j))
  have haccs : (d.setJob j (jobHalting (s.job j))).jobAccs j = s.jobAccs j := jobAccs_of_chns hchns j
  exact stopDone_idle (by rw [hjob]; rfl) (by rw [hjob]; exact hframe) (by rw [hjob]; exact hgather) (by rw [hjob]; exact hkeep) (haccs.trans hacc)

theorem jobDown_only (s : Dev) (j : Nat) : WordOnly (· = Reg.DMA_STAT j) s ((s.put (Reg.DMA_STAT.STATE j) 0).put (Reg.DMA_STAT.ARMED j) 0) :=
  (WordOnly.put (· = Reg.DMA_STAT j) s (Reg.DMA_STAT.STATE j) 0 rfl).trans (WordOnly.put (· = Reg.DMA_STAT j) _ (Reg.DMA_STAT.ARMED j) 0 rfl)

/-- The words of an idle and disarmed job's DMA_STAT. -/
theorem jobDown_fields (s : Dev) (j : Nat) :
    ((s.put (Reg.DMA_STAT.STATE j) 0).put (Reg.DMA_STAT.ARMED j) 0).get (Reg.DMA_STAT.STATE j) = 0
      ∧ ((s.put (Reg.DMA_STAT.STATE j) 0).put (Reg.DMA_STAT.ARMED j) 0).get (Reg.DMA_STAT.ARMED j) = 0 :=
  ⟨(get_put_apart _ 0 (by decide : 29 + 1 ≤ 32) (.inr (by decide : 29 + 1 ≤ 30))).trans (get_put_same s _ 0 (by decide : 30 + 2 ≤ 32)),
    get_put_same _ _ 0 (by decide : 29 + 1 ≤ 32)⟩

/-- A write of ARM while ARMED is 0 (R315). -/
theorem shCtlWrite_arm {s : Dev} {j : Nat} (v : Word) (hen : s.jobEn j = true) (hfree : s.get (Reg.DMA_STAT.ARMED j) = 0) {w : Dev}
    (hw : w = s.setWord (Reg.SH_SRC_LO j + 0x14) (v &&& 0x3FFFF700#32)) :
    s.shCtlWrite j (v ||| 0x80000000#32) = if s.jobState j = 0 then (w.shadowCopy j).jobStart j else w.put (Reg.DMA_STAT.ARMED j) 1 := by
  have h31 : wbit (v ||| 0x80000000#32) 31 = true := by rw [wbit_or, Bool.or_eq_true]; exact .inr (by decide)
  have hstate : w.jobState j = s.jobState j := by
    rw [hw]
    exact get_of_word (word_setWord_other _ _ _ _ (by simp only [Reg.DMA_STAT.STATE, Reg.SH_SRC_LO]; omega))
  unfold shCtlWrite
  rw [if_neg (by simp [hen]), if_neg (by simp [hfree]), ctlKept_or v (by decide), ← hw, h31, ← hstate]
  rfl

/-! ### The shadow set (R315) -/

/-- Words copied in order, `n` of them. -/
def copyWords (s : Dev) (dst src n : Nat) : Dev := (List.range n).foldl (fun s i => s.setWord (dst + 4 * i) (s.word (src + 4 * i))) s

theorem copyWords_succ (s : Dev) (dst src n : Nat) :
    s.copyWords dst src (n + 1) = (s.copyWords dst src n).setWord (dst + 4 * n) ((s.copyWords dst src n).word (src + 4 * n)) := by
  rw [copyWords, List.range_succ, List.foldl_append]
  rfl

theorem copyWords_only (s : Dev) (dst src n : Nat) : WordOnly (fun k => ∃ i < n, k = dst + 4 * i) s (s.copyWords dst src n) :=
  WordOnly.foldl _ (fun i hi u => WordOnly.setWord _ u _ _ ⟨i, List.mem_range.mp hi, rfl⟩) s

/-- The copies, where the two sets lie apart. -/
theorem word_copyWords (s : Dev) {dst src n : Nat} (hapart : dst + 4 * n ≤ src) {i : Nat} (hi : i < n) :
    (s.copyWords dst src n).word (dst + 4 * i) = s.word (src + 4 * i) := by
  induction n with
  | zero => omega
  | succ n ih =>
    rw [copyWords_succ]
    by_cases he : i = n
    · subst he
      rw [word_setWord_same]
      exact (copyWords_only s dst src i).1 _ (by omega)
    · rw [word_setWord_other _ _ _ _ (by omega)]
      exact ih (by omega) (by omega)

theorem shadowCopy_eq (s : Dev) (j : Nat) : s.shadowCopy j = (s.copyWords (Reg.DMA_SRC_LO j) (Reg.SH_SRC_LO j) 10).put (Reg.DMA_STAT.ARMED j) 0 := rfl

/-- The job's set holds the shadow set, disarmed. -/
theorem shadowCopy_words (s : Dev) (j : Nat) {i : Nat} (hi : i < 10) : (s.shadowCopy j).word (Reg.DMA_SRC_LO j + 4 * i) = s.word (Reg.SH_SRC_LO j + 4 * i) := by
  rw [shadowCopy_eq, word_put_other _ _ _ _ (by simp only [Reg.DMA_SRC_LO, Reg.DMA_STAT.ARMED]; omega)]
  exact word_copyWords s (by simp only [Reg.DMA_SRC_LO, Reg.SH_SRC_LO]; omega) hi

theorem copyWords_fresh (s : Dev) (dst src n : Nat) : s.fresh.copyWords dst src n = (s.copyWords dst src n).fresh := by
  induction n with
  | zero => rfl
  | succ n ih => rw [copyWords_succ, copyWords_succ, ih]; rfl

theorem shadowCopy_fresh (s : Dev) (j : Nat) : s.fresh.shadowCopy j = (s.shadowCopy j).fresh := by
  rw [shadowCopy_eq, shadowCopy_eq, copyWords_fresh]
  generalize s.copyWords (Reg.DMA_SRC_LO j) (Reg.SH_SRC_LO j) 10 = t
  rfl

theorem shadowCopy_disarmed (s : Dev) (j : Nat) : (s.shadowCopy j).get (Reg.DMA_STAT.ARMED j) = 0 := get_put_same _ _ 0 (by decide : 29 + 1 ≤ 32)

end Dev

/-! ### The commands -/

theorem exec_dmaStart (u : Fin 2) (j : Fin 64) (v : Word) (s : State) : exec (.dmaStart u j v) s
    = devStep (fun d => d.hostGate (bDMA u) (Reg.DMA_CTL j) (v ||| 0x80000000#32) (·.dmaCtlWrite j (v ||| 0x80000000#32))) s := rfl
theorem exec_dmaStop (u : Fin 2) (j : Fin 64) (v : Word) (s : State) : exec (.dmaStop u j v) s
    = devStep (fun d => d.hostGate (bDMA u) (Reg.DMA_CTL j) (v ||| 0x40000000#32) (·.dmaCtlWrite j (v ||| 0x40000000#32))) s := rfl
theorem exec_shadowArm (u : Fin 2) (j : Fin 64) (v : Word) (s : State) : exec (.shadowArm u j v) s
    = devStep (fun d => d.hostGate (bDMA u) (Reg.SH_SRC_LO j + 0x14) (v ||| 0x80000000#32) (·.shCtlWrite j (v ||| 0x80000000#32))) s := rfl

theorem dmaStart_answers {s : State} {u : Fin 2} {j : Fin 64} {v : Word} {w : Dev} (hb : s.dev.blockOn (bDMA u) = true) (hr : s.dev.hostRefused (Reg.DMA_CTL j) = false)
    (hen : s.dev.jobEn j = true) (hidle : s.dev.jobState j ≠ 1) (hstop : wbit v 30 = false) (hw : w = s.dev.setWord (Reg.DMA_CTL j) (v &&& 0x3FFFF700#32)) :
    Answers (.dmaStart u j v) s fun t => t.dev.get (Reg.DMA_STAT.ERR j) = w.startErr j ∧ t.dev.word (Reg.DMA_CTL j) = v &&& 0x3FFFF700#32
      ∧ t.dev.jobState j = (if w.startErr j = 0 then 1 else s.dev.jobState j) ∧ (w.startErr j = 0 → t.dev.job j = { total := s.dev.jobCnt j })
      ∧ (∀ x, w.startErr j = 0 → w.jobCtx j = some x → t.dev.get (Reg.DMA_STAT.GEN j) = s.dev.ctxGen x % 256)
      ∧ (∀ k, k ≠ Reg.DMA_CTL j → k ≠ Reg.DMA_STAT j → t.dev.word k = s.dev.word k) ∧ s.sameMem t := by
  have hwrite : Dev.WordOnly (· = Reg.DMA_CTL j) s.dev w := hw ▸ Dev.WordOnly.setWord _ _ _ _ rfl
  have hctl : w.word (Reg.DMA_CTL j) = v &&& 0x3FFFF700#32 := by rw [hw, Dev.word_setWord_same]
  have hne : Reg.DMA_CTL j ≠ Reg.DMA_STAT j := by simp only [Reg.DMA_CTL, Reg.DMA_STAT]; omega
  have hfresh : s.dev.fresh.setWord (Reg.DMA_CTL j) (v &&& 0x3FFFF700#32) = w.fresh := by rw [hw]; rfl
  refine answers_hostGate (v := fun _ => v ||| 0x80000000#32) (exec_dmaStart u j v s) hb hr ?_
  rw [Dev.dmaCtlWrite_start (s := s.dev.fresh) v hen hidle hstop, hfresh]
  by_cases he : w.startErr j = 0
  · obtain ⟨herr, hstate, -, hgen⟩ := Dev.startStat_fields w.fresh j
    have hstat := (Dev.startStat_only w.fresh j).1
    rw [Dev.jobStart_runs (s := w.fresh) he, if_pos he, he]
    simp only [Dev.jobState, Dev.get_settle, Dev.word_settle, Dev.get_setJob, Dev.word_setJob, Dev.job_settle, Dev.job_setJob_same]
    refine ⟨herr, (hstat _ hne).trans hctl, hstate, fun _ => ?_, fun x _ hx => (hgen x hx).trans ?_, fun k hc hs => (hstat k hs).trans (hwrite.1 k hc), rfl, rfl⟩
    · rw [show w.fresh.jobCnt j = s.dev.jobCnt j from hwrite.get_eq (by simp only [Reg.DMA_CNT.CNT, Reg.DMA_CTL]; omega)]
    · have hlt := Dev.jobCtx_lt hx
      rw [show w.fresh.ctxGen x = s.dev.ctxGen x from hwrite.get_eq (by simp only [Reg.STM_CTX_STAT.GEN, Reg.DMA_CTL]; omega)]
  · have herr : 16 + 4 ≤ 32 := by decide
    rw [Dev.jobStart_refused (s := w.fresh) he, if_neg he]
    simp only [Dev.jobState, Dev.get_settle, Dev.word_settle]
    refine ⟨(Dev.get_put_same _ _ _ herr).trans (Nat.mod_eq_of_lt (w.startErr_lt j)), (Dev.word_put_other _ _ _ _ hne).trans hctl, ?_, fun h => absurd h he,
      fun _ h => absurd h he, fun k hc hs => (Dev.word_put_other _ _ _ _ hs).trans (hwrite.1 k hc), rfl, rfl⟩
    exact (Dev.get_put_apart _ _ herr (.inr (by decide : 16 + 4 ≤ 30))).trans (hwrite.get_eq (by simp only [Reg.DMA_STAT.STATE, Reg.DMA_CTL]; omega))

section
variable {s : State} {u : Fin 2} {j : Fin 64} (v : Word) (hb : s.dev.blockOn (bDMA u) = true) (hr : s.dev.hostRefused (Reg.DMA_CTL j) = false)
  (hen : s.dev.jobEn j = true) (hrun : s.dev.jobState j = 1)
include hb hr hen hrun

/-- What a write of STOP to a running job leaves of DMA_CTL and of the job. -/
theorem dmaStop_answers_of {P : State → Prop}
    (h : ∀ d, Dev.WordOnly (fun k => k = Reg.DMA_CTL j ∨ k = Reg.DMA_STAT j) s.dev.fresh d → d.jobState j = 1 →
      P { s with dev := Dev.settle s.dev.fresh ((d.setJob j (Dev.jobHalting (s.dev.job j))).stopDone j) }) :
    Answers (.dmaStop u j v) s P := by
  obtain ⟨w, ignored, hwrite⟩ := Dev.dmaCtlWrite_stop (s := s.dev.fresh) v hen hrun
  have hstate := (Dev.ctlPut_state s.dev.fresh j w ignored).trans hrun
  have honly := Dev.ctlPut_only s.dev.fresh j w ignored
  refine answers_hostGate (v := fun _ => v ||| 0x40000000#32) (exec_dmaStop u j v s) hb hr ?_
  rw [hwrite, Dev.jobStop_running hstate, honly.job_eq]
  exact h _ honly hstate

theorem dmaStop_idle_answers (hacc : s.dev.jobAccs j = []) (hframe : (s.dev.job j).frame = none) (hgather : (s.dev.job j).gather = false)
    (hkeep : (s.dev.job j).removing = false) :
    Answers (.dmaStop u j v) s fun t => t.dev.jobState j = 0 ∧ t.dev.get (Reg.DMA_STAT.ARMED j) = 0 ∧ t.dev.job j = {}
      ∧ (∀ k, k ≠ Reg.DMA_CTL j → k ≠ Reg.DMA_STAT j → t.dev.word k = s.dev.word k) ∧ s.sameMem t := by
  refine dmaStop_answers_of v hb hr hen hrun fun d hd _ => ?_
  rw [Dev.halting_idle (s := s.dev) (hd.chns_eq.trans (Dev.fresh_chns _)) hframe hgather hkeep hacc]
  obtain ⟨hstate, harmed⟩ := Dev.jobDown_fields (d.setJob j (Dev.jobHalting (s.dev.job j))) j
  refine ⟨?_, ?_, ?_, fun k hc hs => ?_, rfl, rfl⟩
  · rw [Dev.jobState, Dev.get_settle, Dev.get_setJob, hstate]
  · rw [Dev.get_settle, Dev.get_setJob, harmed]
  · rw [Dev.job_settle, Dev.job_setJob_same]
  · rw [Dev.word_settle, Dev.word_setJob, (Dev.jobDown_only _ j).1 k hs, Dev.word_setJob, hd.1 k (not_or.mpr ⟨hc, hs⟩), Dev.word_fresh]

theorem dmaStop_waits_answers (hacc : s.dev.jobAccs j ≠ []) :
    Answers (.dmaStop u j v) s fun t => t.dev.jobState j = 1 ∧ (t.dev.job j).stopping = true ∧ (t.dev.job j).issued = (s.dev.job j).issued ∧ s.sameMem t := by
  refine dmaStop_answers_of v hb hr hen hrun fun d hd hstate => ?_
  rw [Dev.stopDone_waits (s := d.setJob j (Dev.jobHalting (s.dev.job j)))
    ((Dev.jobAccs_of_chns (s := s.dev) (hd.chns_eq.trans (Dev.fresh_chns _)) j).trans_ne hacc)]
  simp only [Dev.jobState, Dev.get_settle, Dev.get_setJob, Dev.job_settle, Dev.job_setJob_same]
  exact ⟨hstate, rfl, rfl, rfl, rfl⟩
end

section
variable {s : State} {u : Fin 2} {j : Fin 64} {v : Word} {w : Dev} (hb : s.dev.blockOn (bDMA u) = true) (hr : s.dev.hostRefused (Reg.SH_SRC_LO j + 0x14) = false)
  (hen : s.dev.jobEn j = true) (hfree : s.dev.get (Reg.DMA_STAT.ARMED j) = 0) (hw : w = s.dev.setWord (Reg.SH_SRC_LO j + 0x14) (v &&& 0x3FFFF700#32))
include hb hr hen hfree hw

theorem shadowArm_running_answers (hrun : s.dev.jobState j = 1) :
    Answers (.shadowArm u j v) s fun t => t.dev.get (Reg.DMA_STAT.ARMED j) = 1 ∧ t.dev.word (Reg.SH_SRC_LO j + 0x14) = v &&& 0x3FFFF700#32
      ∧ s.dev.onlyWords (fun k => k = Reg.SH_SRC_LO j + 0x14 ∨ k = Reg.DMA_STAT j) t.dev ∧ s.sameMem t := by
  have hfresh : w.fresh = s.dev.fresh.setWord (Reg.SH_SRC_LO j + 0x14) (v &&& 0x3FFFF700#32) := by rw [hw]; rfl
  refine answers_hostGate (v := fun _ => v ||| 0x80000000#32) (exec_shadowArm u j v s) hb hr ?_
  rw [Dev.shCtlWrite_arm (s := s.dev.fresh) v hen hfree hfresh, if_neg (show ¬ s.dev.fresh.jobState j = 0 from hrun.trans_ne (by decide))]
  refine ⟨?_, ?_, Dev.WordOnly.settled ?_ _, rfl, rfl⟩
  · rw [Dev.get_settle]
    exact Dev.get_put_same _ _ 1 (by decide : 29 + 1 ≤ 32)
  · rw [Dev.word_settle, Dev.word_put_other _ _ _ _ (by simp only [Reg.SH_SRC_LO, Reg.DMA_STAT.ARMED]; omega), hfresh, Dev.word_setWord_same]
  · rw [hfresh]
    exact (Dev.WordOnly.setWord _ s.dev.fresh _ _ (.inl rfl)).trans (Dev.WordOnly.put (fun k => k = Reg.SH_SRC_LO j + 0x14 ∨ k = Reg.DMA_STAT j) _ (Reg.DMA_STAT.ARMED j) 1 (.inr rfl))

theorem shadowArm_idle_answers (hidle : s.dev.jobState j = 0) (he : (w.shadowCopy j).startErr j = 0) :
    Answers (.shadowArm u j v) s fun t => t.dev.jobState j = 1 ∧ t.dev.get (Reg.DMA_STAT.ARMED j) = 0
      ∧ (∀ i < 10, t.dev.word (Reg.DMA_SRC_LO j + 4 * i) = w.word (Reg.SH_SRC_LO j + 4 * i)) ∧ t.dev.job j = { total := (w.shadowCopy j).jobCnt j } ∧ s.sameMem t := by
  have hfresh : w.fresh = s.dev.fresh.setWord (Reg.SH_SRC_LO j + 0x14) (v &&& 0x3FFFF700#32) := by rw [hw]; rfl
  obtain ⟨d, hd⟩ : ∃ d, d = w.shadowCopy j := ⟨_, rfl⟩
  obtain ⟨-, hstate, harmed, -⟩ := Dev.startStat_fields d.fresh j
  have hstart : (w.fresh.shadowCopy j).jobStart j = (d.fresh.startStat j).setJob j { total := d.fresh.jobCnt j } := by
    rw [Dev.shadowCopy_fresh w j, ← hd]
    exact Dev.jobStart_runs ((d.startErr_fresh j).trans (hd ▸ he))
  have hwords {i : Nat} (hi : i < 10) : d.word (Reg.DMA_SRC_LO j + 4 * i) = w.word (Reg.SH_SRC_LO j + 4 * i) := hd ▸ Dev.shadowCopy_words w j hi
  have hdown : d.get (Reg.DMA_STAT.ARMED j) = 0 := hd ▸ Dev.shadowCopy_disarmed w j
  refine answers_hostGate (v := fun _ => v ||| 0x80000000#32) (exec_shadowArm u j v s) hb hr ?_
  rw [Dev.shCtlWrite_arm (s := s.dev.fresh) v hen hfree hfresh, if_pos (show s.dev.fresh.jobState j = 0 from hidle), hstart, ← hd]
  refine ⟨?_, ?_, fun i hi => ?_, ?_, rfl, rfl⟩
  · rw [Dev.jobState, Dev.get_settle, Dev.get_setJob, hstate]
  · rw [Dev.get_settle, Dev.get_setJob, harmed, Dev.get_fresh, hdown]
  · rw [Dev.word_settle, Dev.word_setJob, (Dev.startStat_only d.fresh j).1 _ (by simp only [Reg.DMA_SRC_LO, Reg.DMA_STAT]; omega), Dev.word_fresh, hwords hi]
  · rw [Dev.job_settle, Dev.job_setJob_same, Dev.jobCnt, Dev.get_fresh, Dev.jobCnt]
end

end Sys2Proof.Machine
end

section
/-! SUPPORT. Request lines, the end of a transfer, and the return of a unit to service (R315, R316, R319, R321). -/

namespace Sys2Proof.Machine

namespace Dev

/-! ### Request lines (R319) -/

/-- The words that a request on line `r` may change. -/
def requestWords (r k : Nat) : Prop := k = Reg.DMA_REQ_CNT r ∨ k = Reg.DMA_REQ_OVF ∨ k = statusAddr (bDMA 0) ∨ k = statusAddr (bDMA 1)

/-- The words beside the counters. -/
theorem requestWords_lost {r k : Nat} (h : requestWords r k) : k = Reg.DMA_REQ_CNT r ∨ k < 0x2B0200 ∨ 0x2C0000 ≤ k := by
  rcases h with rfl | rfl | rfl | rfl
  · exact .inl rfl
  all_goals exact .inr (by decide)

theorem request_only (s : Dev) (r : Nat) : WordOnly (requestWords r) s (s.request r) := by
  unfold request
  dsimp only
  split
  · exact ((WordOnly.inc _ s Reg.DMA_REQ_OVF.COUNT (.inr (.inl rfl))).trans (WordOnly.raise _ _ (bDMA 0) 2 (.inr (.inr (.inl rfl))))).trans
      (WordOnly.raise _ _ (bDMA 1) 2 (.inr (.inr (.inr rfl))))
  · exact WordOnly.inc (requestWords r) s (Reg.DMA_REQ_CNT.COUNT r) (.inl rfl)

theorem request_other (s : Dev) {r i : Nat} (hi : i < 128) (h : i ≠ r) : (s.request r).get (Reg.DMA_REQ_CNT.COUNT i) = s.get (Reg.DMA_REQ_CNT.COUNT i) := by
  refine (request_only s r).get_eq fun hk => ?_
  have := requestWords_lost hk
  simp only [Reg.DMA_REQ_CNT.COUNT, Reg.DMA_REQ_CNT] at this
  omega

/-- One request counted, unless the counter is full. -/
theorem request_same (s : Dev) {r : Nat} (hr : r < 128) :
    (s.request r).get (Reg.DMA_REQ_CNT.COUNT r) = if s.get (Reg.DMA_REQ_CNT.COUNT r) ≠ 255 then s.get (Reg.DMA_REQ_CNT.COUNT r) + 1 else s.get (Reg.DMA_REQ_CNT.COUNT r) := by
  have hlt : s.get (Reg.DMA_REQ_CNT.COUNT r) < 256 := Nat.mod_lt _ (Nat.two_pow_pos 8)
  unfold request
  dsimp only
  by_cases hfull : s.get (Reg.DMA_REQ_CNT.COUNT r) = 255
  · have hlost (k : Nat) (hk : k < 0x2B0200 ∨ 0x2C0000 ≤ k) : (Reg.DMA_REQ_CNT.COUNT r).addr ≠ k := by
      simp only [Reg.DMA_REQ_CNT.COUNT]
      omega
    rw [if_pos hfull, if_neg (not_not.mpr hfull), raise, raise, inc, get_put_addr _ _ _ _ (hlost _ (by decide)), get_put_addr _ _ _ _ (hlost _ (by decide)),
      get_put_addr _ _ _ _ (hlost _ (by decide))]
  · rw [if_neg hfull, if_pos hfull, inc, get_put_same _ _ _ (by decide : 0 + 8 ≤ 32)]
    exact Nat.mod_eq_of_lt (by simp only [Reg.DMA_REQ_CNT.COUNT] at hfull hlt ⊢; omega)

/-- The first `n` lines of a word of DMA_REQ_SET. -/
def requests (s : Dev) (w : Nat) (v : Word) (n : Nat) : Dev := (List.range n).foldl (fun s i => if wbit v i then s.request (32 * w + i) else s) s

theorem requests_succ (s : Dev) (w : Nat) (v : Word) (n : Nat) :
    s.requests w v (n + 1) = if wbit v n then (s.requests w v n).request (32 * w + n) else s.requests w v n := by
  rw [requests, List.range_succ, List.foldl_append]
  rfl

theorem requests_only (s : Dev) (w : Nat) (v : Word) (n : Nat) : WordOnly (fun k => ∃ i < n, requestWords (32 * w + i) k) s (s.requests w v n) := by
  refine WordOnly.foldl _ (fun i hi u => ?_) s
  split
  · exact (request_only u _).mono fun k hk => ⟨i, List.mem_range.mp hi, hk⟩
  · exact WordOnly.refl _ u

/-- Each line whose bit is set counts one request. -/
theorem get_requests (s : Dev) {w : Nat} (hw : w < 4) (v : Word) {n : Nat} (hn : n ≤ 32) {i : Nat} (hi : i < 32) :
    (s.requests w v n).get (Reg.DMA_REQ_CNT.COUNT (32 * w + i)) = if i < n ∧ wbit v i = true ∧ s.get (Reg.DMA_REQ_CNT.COUNT (32 * w + i)) ≠ 255
      then s.get (Reg.DMA_REQ_CNT.COUNT (32 * w + i)) + 1 else s.get (Reg.DMA_REQ_CNT.COUNT (32 * w + i)) := by
  induction n with
  | zero => rw [if_neg (by omega)]; rfl
  | succ n ih =>
    have ih := ih (by omega)
    rw [requests_succ]
    by_cases he : i = n
    · subst he
      rw [if_neg (by omega)] at ih
      cases hv : wbit v i
      · rw [if_neg Bool.false_ne_true, ih, if_neg (by simp)]
      · rw [if_pos rfl, request_same _ (by omega), ih]
        simp only [Nat.lt_succ_self, true_and]
    · have hlt : i < n + 1 ↔ i < n := by omega
      simp only [hlt, ← ih]
      split
      · exact request_other _ (by omega) (by omega)
      · rfl

/-! ### The end of a transfer (R316) -/

/-- DONE_CNT and DONE of a transfer that ends. -/
def doneMarked (s : Dev) (j : Nat) : Dev := (s.inc (Reg.DMA_DONE_CNT.COUNT j)).when (s.bit (Reg.DMA_CTL.IRQ_EN j)) (·.put (doneFld (s.jobUnit j) j) 1)

theorem doneFld_addr_lt {u : Nat} (hu : u < 2) (j : Nat) : (doneFld u j).addr < 0x300000 := (placeWords_le (placeWords_done hu j)).2

theorem doneFld_one (u : Nat) {j : Nat} (hj : j < 64) : (doneFld u j).w = 1 ∧ (doneFld u j).lo + (doneFld u j).w ≤ 32 := by
  unfold doneFld
  split
  · exact ⟨rfl, by dsimp only; omega⟩
  · exact ⟨rfl, by dsimp only; omega⟩

theorem doneMarked_only (s : Dev) (j : Nat) : WordOnly (fun k => k = Reg.DMA_DONE_CNT j ∨ k = (doneFld (s.jobUnit j) j).addr) s (s.doneMarked j) :=
  (WordOnly.inc (fun k => k = Reg.DMA_DONE_CNT j ∨ k = (doneFld (s.jobUnit j) j).addr) s (Reg.DMA_DONE_CNT.COUNT j) (.inl rfl)).trans
    (WordOnly.when _ (WordOnly.put _ _ _ 1 (.inr rfl)))

theorem doneMarked_stat (s : Dev) (j : Nat) {f : Fld} (hf : f.addr = Reg.DMA_STAT j) : (s.doneMarked j).get f = s.get f := by
  refine (doneMarked_only s j).get_eq ?_
  have hlt := doneFld_addr_lt (jobUnit_lt s j) j
  rw [hf]
  rintro (h | h)
  · simp only [Reg.DMA_STAT, Reg.DMA_DONE_CNT] at h
    omega
  · simp only [← h, Reg.DMA_STAT] at hlt
    omega

theorem doneMarked_cnt (s : Dev) (j : Nat) : (s.doneMarked j).get (Reg.DMA_DONE_CNT.COUNT j) = (s.get (Reg.DMA_DONE_CNT.COUNT j) + 1) % 2 ^ 32 := by
  have hlt := doneFld_addr_lt (jobUnit_lt s j) j
  unfold doneMarked
  cases s.bit (Reg.DMA_CTL.IRQ_EN j)
  · rw [when_false, get_inc_same s rfl rfl]
  · rw [when_true, get_put_addr _ _ _ _ (by simp only [Reg.DMA_DONE_CNT.COUNT]; omega), get_inc_same s rfl rfl]

theorem doneMarked_done (s : Dev) {j : Nat} (hj : j < 64) :
    (s.doneMarked j).bit (doneFld (s.jobUnit j) j) = (s.bit (doneFld (s.jobUnit j) j) || s.bit (Reg.DMA_CTL.IRQ_EN j)) := by
  have hlt := doneFld_addr_lt (jobUnit_lt s j) j
  obtain ⟨hone, hfit⟩ := doneFld_one (s.jobUnit j) hj
  unfold doneMarked
  cases s.bit (Reg.DMA_CTL.IRQ_EN j)
  · rw [when_false, inc, bit_put_addr _ _ (by simp only [Reg.DMA_DONE_CNT.COUNT]; omega), Bool.or_false]
  · rw [when_true, bit_put_same _ _ _ hfit hone, Bool.or_true]
    rfl

/-- A transfer whose last byte has landed, not armed. -/
theorem transferEnd_eq {s : Dev} {j : Nat} (hrun : s.jobState j = 1) (hstop : (s.job j).stopping = false) (hgather : (s.job j).gather = false)
    (hframe : (s.job j).frame = none) (hall : (s.job j).short = true ∨ (s.job j).total ≤ (s.job j).issued) (hacc : s.jobAccs j = [])
    (hfree : s.get (Reg.DMA_STAT.ARMED j) = 0) : s.transferEnd j = ((s.doneMarked j).put (Reg.DMA_STAT.STATE j) 0).setJob j {} := by
  have hcnt : WordOnly (· = Reg.DMA_DONE_CNT j) s (s.inc (Reg.DMA_DONE_CNT.COUNT j)) := WordOnly.inc (· = Reg.DMA_DONE_CNT j) s (Reg.DMA_DONE_CNT.COUNT j) rfl
  have hirq : (s.inc (Reg.DMA_DONE_CNT.COUNT j)).bit (Reg.DMA_CTL.IRQ_EN j) = s.bit (Reg.DMA_CTL.IRQ_EN j) :=
    bit_of_word (hcnt.1 _ (by simp only [Reg.DMA_CTL.IRQ_EN, Reg.DMA_DONE_CNT]; omega))
  have hunit : (s.inc (Reg.DMA_DONE_CNT.COUNT j)).jobUnit j = s.jobUnit j := hcnt.get_eq (by simp only [Reg.PLC_JOB_MAP.UNIT, Reg.DMA_DONE_CNT]; omega)
  have hmarked : (s.inc (Reg.DMA_DONE_CNT.COUNT j)).when ((s.inc (Reg.DMA_DONE_CNT.COUNT j)).bit (Reg.DMA_CTL.IRQ_EN j))
      (fun t => t.put (doneFld (t.jobUnit j) j) 1) = s.doneMarked j := by
    rw [hirq, doneMarked]
    cases s.bit (Reg.DMA_CTL.IRQ_EN j)
    · rfl
    · rw [when_true, when_true, hunit]
  have harmed : (((s.doneMarked j).put (Reg.DMA_STAT.STATE j) 0).setJob j {}).get (Reg.DMA_STAT.ARMED j) = 0 := by
    rw [get_setJob, get_put_apart _ 0 (by decide : 30 + 2 ≤ 32) (.inl (by decide : 29 + 1 ≤ 30)), doneMarked_stat s j rfl, hfree]
  have hdone : ¬ (s.jobState j ≠ 1 ∨ (s.job j).stopping = true ∨ (s.job j).gather = true ∨ (s.job j).frame.isSome = true
      ∨ ¬ ((s.job j).short || Nat.ble (s.job j).total (s.job j).issued) = true ∨ ¬ (s.jobAccs j).isEmpty = true) := by
    rcases hall with h | h <;> simp [hrun, hstop, hgather, hframe, hacc, h]
  unfold transferEnd
  dsimp only
  rw [if_neg hdone, hmarked, harmed, show ((0 : Nat) == 1) = false from rfl, when_false]

/-! ### The return of a unit (R321) -/

theorem jobPlace_of_put {s : Dev} {i j : Nat} (v : Nat) (h : i ≠ j) : (s.put (Reg.PLC_JOB_MAP.STATE j) v).jobPlace i = s.jobPlace i :=
  get_put_addr _ _ _ _ (by simp only [Reg.PLC_JOB_MAP.STATE]; omega)

theorem jobPlace_put_same (s : Dev) (j v : Nat) : (s.put (Reg.PLC_JOB_MAP.STATE j) v).jobPlace j = v % 4 :=
  get_put_same s (Reg.PLC_JOB_MAP.STATE j) v (by decide : 30 + 2 ≤ 32)

/-- Stopped jobs are placed again. -/
def placeStopped (s : Dev) (l : List Nat) : Dev := l.foldl (fun s j => if s.jobPlace j = 3 then s.put (Reg.PLC_JOB_MAP.STATE j) 1 else s) s

theorem jobPlace_placeStopped (s : Dev) (l : List Nat) (j : Nat) : (s.placeStopped l).jobPlace j = if j ∈ l ∧ s.jobPlace j = 3 then 1 else s.jobPlace j := by
  induction l generalizing s with
  | nil => simp [placeStopped]
  | cons x l ih =>
    refine (ih _).trans ?_
    by_cases hx : s.jobPlace x = 3
    · by_cases hj : j = x
      · subst hj
        simp [hx, jobPlace_put_same]
      · simp [hx, hj, jobPlace_of_put 1 hj]
    · by_cases hj : j = x
      · subst hj
        simp [hx]
      · simp [hx, hj]

theorem placeStopped_only (s : Dev) (l : List Nat) : WordOnly (fun k => ∃ j ∈ l, s.jobPlace j = 3 ∧ k = Reg.PLC_JOB_MAP j) s (s.placeStopped l) := by
  induction l generalizing s with
  | nil => exact WordOnly.refl _ s
  | cons x l ih =>
    by_cases hx : s.jobPlace x = 3
    · have hstep : s.placeStopped (x :: l) = (s.put (Reg.PLC_JOB_MAP.STATE x) 1).placeStopped l := congrArg (placeStopped · l) (if_pos hx)
      rw [hstep]
      refine (WordOnly.put _ s _ 1 ⟨x, .head l, hx, rfl⟩).trans ((ih _).mono ?_)
      rintro k ⟨j, hj, hplace, rfl⟩
      refine ⟨j, .tail x hj, ?_, rfl⟩
      by_cases he : j = x
      · exact he ▸ hx
      · exact (jobPlace_of_put 1 he).symm.trans hplace
    · have hstep : s.placeStopped (x :: l) = s.placeStopped l := congrArg (placeStopped · l) (if_neg hx)
      rw [hstep]
      exact (ih s).mono fun k ⟨j, hj, h⟩ => ⟨j, .tail x hj, h⟩

/-- The jobs of a unit, from the words of the map. -/
theorem unitJobs_of_map {s t : Dev} (h : ∀ j < 64, t.word (Reg.PLC_JOB_MAP j) = s.word (Reg.PLC_JOB_MAP j)) (u : Nat) : t.unitJobs u = s.unitJobs u := by
  refine List.filter_congr fun j hj => ?_
  have hmap := h j (List.mem_range.mp hj)
  rw [jobPlace, jobPlace, jobUnit, jobUnit, get_of_word (s := s) (t := t) (f := Reg.PLC_JOB_MAP.STATE j) hmap, get_of_word (s := s) (t := t) (f := Reg.PLC_JOB_MAP.UNIT j) hmap]

/-- A unit returned to service. -/
theorem unitClear_eq (s : Dev) (u : Nat) : s.unitClear u = (s.put (Reg.DMA_UNIT_CTL.STOPPED u) 0).placeStopped ((s.put (Reg.DMA_UNIT_CTL.STOPPED u) 0).unitJobs u) := rfl

end Dev

/-! ### The commands -/

theorem exec_requestSet (u : Fin 2) (w : Fin 4) (v : Word) (s : State) :
    exec (.requestSet u w v) s = devStep (fun d => d.hostGate (bDMA u) (Reg.DMA_REQ_SET w) v (·.requestSet w v)) s := rfl
theorem exec_transferEnd (j : Fin 64) (s : State) : exec (.transferEnd j) s = devStep (fun d => d.when (d.jobPlace j != 0) (·.transferEnd j)) s := rfl
theorem exec_unitClear (u : Fin 2) (s : State) :
    exec (.unitClear u) s = devStep (fun d => d.hostGate (bDMA u) (Reg.DMA_UNIT_CTL u) 0x80000000 (·.unitClear u)) s := rfl

theorem requestSet_answers {s : State} {u : Fin 2} {w : Fin 4} {v : Word} (hb : s.dev.blockOn (bDMA u) = true) (hr : s.dev.hostRefused (Reg.DMA_REQ_SET w) = false) :
    Answers (.requestSet u w v) s fun t => (∀ i < 32, t.dev.get (Reg.DMA_REQ_CNT.COUNT (32 * w + i))
        = (if wbit v i = true ∧ s.dev.get (Reg.DMA_REQ_CNT.COUNT (32 * w + i)) ≠ 255 then s.dev.get (Reg.DMA_REQ_CNT.COUNT (32 * w + i)) + 1 else s.dev.get (Reg.DMA_REQ_CNT.COUNT (32 * w + i))))
      ∧ s.dev.onlyWords (fun k => (∃ i < 32, k = Reg.DMA_REQ_CNT (32 * w + i)) ∨ k = Reg.DMA_REQ_OVF ∨ k = statusAddr (bDMA 0) ∨ k = statusAddr (bDMA 1)) t.dev ∧ s.sameMem t := by
  have hset : s.dev.fresh.requestSet w v = s.dev.fresh.requests w v 32 := rfl
  refine answers_hostGate (v := fun _ => v) (exec_requestSet u w v s) hb hr ?_
  rw [hset]
  refine ⟨fun i hi => ?_, Dev.WordOnly.settled ((Dev.requests_only _ _ _ _).mono ?_) _, rfl, rfl⟩
  · rw [Dev.get_settle, Dev.get_requests _ w.isLt v (Nat.le_refl 32) hi]
    simp only [hi, true_and, Dev.get_fresh]
  · rintro k ⟨i, hi, hk | hk⟩
    · exact .inl ⟨i, hi, hk⟩
    · exact .inr hk

theorem transferEnd_answers {s : State} {j : Fin 64} (hplace : s.dev.jobPlace j ≠ 0) (hrun : s.dev.jobState j = 1) (hstop : (s.dev.job j).stopping = false)
    (hgather : (s.dev.job j).gather = false) (hframe : (s.dev.job j).frame = none) (hall : (s.dev.job j).short = true ∨ (s.dev.job j).total ≤ (s.dev.job j).issued)
    (hacc : s.dev.jobAccs j = []) (hfree : s.dev.get (Reg.DMA_STAT.ARMED j) = 0) :
    Answers (.transferEnd j) s fun t => t.dev.jobState j = 0 ∧ t.dev.job j = {} ∧ t.dev.get (Reg.DMA_DONE_CNT.COUNT j) = (s.dev.get (Reg.DMA_DONE_CNT.COUNT j) + 1) % 2 ^ 32
      ∧ t.dev.bit (Dev.doneFld (s.dev.jobUnit j) j) = (s.dev.bit (Dev.doneFld (s.dev.jobUnit j) j) || s.dev.bit (Reg.DMA_CTL.IRQ_EN j)) ∧ s.sameMem t := by
  have hon : (s.dev.fresh.jobPlace j != 0) = true := bne_iff_ne.mpr hplace
  have hend := Dev.transferEnd_eq (s := s.dev.fresh) hrun hstop hgather hframe hall ((Dev.jobAccs_of_chns (Dev.fresh_chns _) j).trans hacc) hfree
  have hunit : (Dev.doneFld (s.dev.jobUnit j) j).addr < 0x300000 := Dev.doneFld_addr_lt (Dev.jobUnit_lt s.dev j) j
  refine answers_devStep (exec_transferEnd j s) ?_
  rw [hon, Dev.when_true, hend]
  refine ⟨?_, ?_, ?_, ?_, rfl, rfl⟩
  · rw [Dev.jobState, Dev.get_settle, Dev.get_setJob, Dev.get_put_same _ _ 0 (by decide : 30 + 2 ≤ 32), Nat.zero_mod]
  · rw [Dev.job_settle, Dev.job_setJob_same]
  · rw [Dev.get_settle, Dev.get_setJob, Dev.get_put_addr _ _ _ _ (by simp only [Reg.DMA_DONE_CNT.COUNT, Reg.DMA_STAT.STATE]; omega), Dev.doneMarked_cnt, Dev.get_fresh]
  · rw [Dev.bit_settle, Dev.bit_setJob, Dev.bit_put_addr _ _ (by simp only [Reg.DMA_STAT.STATE]; omega)]
    exact Dev.doneMarked_done s.dev.fresh j.isLt

theorem unitClear_answers {s : State} {u : Fin 2} (hb : s.dev.blockOn (bDMA u) = true) (hr : s.dev.hostRefused (Reg.DMA_UNIT_CTL u) = false) :
    Answers (.unitClear u) s fun t => t.dev.unitStopped u = false ∧ (∀ j < 64, s.dev.jobUnit j = u → s.dev.jobPlace j = 3 → t.dev.jobPlace j = 1)
      ∧ s.dev.onlyWords (fun k => k = Reg.DMA_UNIT_CTL u ∨ ∃ j < 64, s.dev.jobPlace j = 3 ∧ k = Reg.PLC_JOB_MAP j) t.dev ∧ s.sameMem t := by
  obtain ⟨d, hd⟩ : ∃ d, d = s.dev.fresh.put (Reg.DMA_UNIT_CTL.STOPPED u) 0 := ⟨_, rfl⟩
  have hput : Dev.WordOnly (· = Reg.DMA_UNIT_CTL u) s.dev.fresh d := hd ▸ Dev.WordOnly.put (· = Reg.DMA_UNIT_CTL u) _ (Reg.DMA_UNIT_CTL.STOPPED u) 0 rfl
  have hmap (j : Nat) (hj : j < 64) : d.word (Reg.PLC_JOB_MAP j) = s.dev.word (Reg.PLC_JOB_MAP j) :=
    (hput.1 _ (by simp only [Reg.PLC_JOB_MAP, Reg.DMA_UNIT_CTL]; omega)).trans (Dev.word_fresh _ _)
  have hjobs : d.unitJobs u = s.dev.unitJobs u := Dev.unitJobs_of_map hmap u
  have hplace {j : Nat} (hj : j < 64) : d.jobPlace j = s.dev.jobPlace j := Dev.get_of_word (f := Reg.PLC_JOB_MAP.STATE j) (hmap j hj)
  have honly := Dev.placeStopped_only d (s.dev.unitJobs u)
  have hclear : s.dev.fresh.unitClear u = d.placeStopped (s.dev.unitJobs u) := by rw [Dev.unitClear_eq, ← hd, hjobs]
  refine answers_hostGate (v := fun _ => 0x80000000) (exec_unitClear u s) hb hr ?_
  rw [hclear]
  refine ⟨?_, fun j hj hunit hstopped => ?_, Dev.WordOnly.settled ((hput.mono fun k hk => .inl hk).trans (honly.mono ?_)) _, rfl, rfl⟩
  · have hkeep : (d.placeStopped (s.dev.unitJobs u)).bit (Reg.DMA_UNIT_CTL.STOPPED u) = d.bit (Reg.DMA_UNIT_CTL.STOPPED u) := by
      refine Dev.bit_of_word (honly.1 _ ?_)
      rintro ⟨j, hj, -, hk⟩
      have := (Dev.mem_unitJobs.mp hj).1
      simp only [Reg.DMA_UNIT_CTL.STOPPED, Reg.PLC_JOB_MAP] at hk
      omega
    rw [Dev.unitStopped, Dev.bit_settle, hkeep, hd, Dev.bit_put_same _ _ _ (by decide : 0 + 1 ≤ 32) rfl]
    rfl
  · have hmem : j ∈ s.dev.unitJobs u := Dev.mem_unitJobs.mpr ⟨hj, by rw [hstopped]; decide, hunit⟩
    refine (Dev.get_settle _ _ _).trans ((Dev.jobPlace_placeStopped d _ j).trans (if_pos ⟨hmem, (hplace hj).trans hstopped⟩))
  · rintro k ⟨j, hj, hstopped, rfl⟩
    have hlt := (Dev.mem_unitJobs.mp hj).1
    exact .inr ⟨j, hlt, (hplace hlt).symm.trans hstopped, rfl⟩

end Sys2Proof.Machine
end

section
/-! SUPPORT. Jobs that are enabled and jobs that leave their unit (R257, R311). -/

namespace Sys2Proof.Machine

/-- A fold in which one member alone acts. -/
theorem foldl_one {α β : Type} {f : β → α → β} {i : α} {l : List α} (hl : l.Nodup) (hi : i ∈ l) (h : ∀ x ∈ l, x ≠ i → ∀ s, f s x = s) (s : β) :
    l.foldl f s = f s i := by
  have hidle {l : List α} (hl : i ∉ l) (h : ∀ x ∈ l, x ≠ i → ∀ s, f s x = s) (s : β) : l.foldl f s = s := by
    induction l generalizing s with
    | nil => rfl
    | cons x l ih =>
      rw [List.foldl_cons, h x (.head l) (fun he => hl (he ▸ .head l))]
      exact ih (fun hm => hl (.tail x hm)) (fun y hy => h y (.tail x hy)) s
  induction l generalizing s with
  | nil => cases hi
  | cons x l ih =>
    obtain ⟨hx, hl'⟩ := List.nodup_cons.mp hl
    rw [List.foldl_cons]
    by_cases he : x = i
    · subst he
      exact hidle hx (fun y hy => h y (.tail x hy)) _
    · rw [h x (.head l) he]
      exact ih hl' ((List.mem_cons.mp hi).resolve_left fun hix => he hix.symm) (fun y hy => h y (.tail x hy)) s

/-! ### One bit of a written word -/

theorem wbit_one {i i' : Nat} (hi : i < 32) : wbit (BitVec.ofNat 32 (2 ^ i)) i' = decide (i = i') := by
  rw [wbit, BitVec.toNat_ofNat, Nat.mod_eq_of_lt (Nat.pow_lt_pow_right (by decide) hi), Nat.testBit_two_pow]

theorem wbit_set (w : Word) {i i' : Nat} (hi : i < 32) : wbit (w ||| BitVec.ofNat 32 (2 ^ i)) i' = (wbit w i' || decide (i = i')) := by rw [wbit_or, wbit_one hi]

theorem wbit_xor (v c : Word) (i : Nat) : wbit (v ^^^ c) i = (wbit v i ^^ wbit c i) := BitVec.getLsbD_xor

theorem wbit_flip (w : Word) {i i' : Nat} (hi : i < 32) : wbit (w ^^^ BitVec.ofNat 32 (2 ^ i)) i' = (wbit w i' ^^ decide (i = i')) := by rw [wbit_xor, wbit_one hi]

namespace Dev

theorem bit_eq_wbit (s : Dev) (k i : Nat) : s.bit ⟨k, i, 1⟩ = wbit (s.word k) i := by
  simp [bit, get, wbit, Nat.testBit_eq_decide_div_mod_eq, beq_eq_decide]

/-! ### What the choice of a unit and a channel rests on (R257) -/

/-- Words of the Rigger's window alike. -/
def SamePlc (s t : Dev) : Prop := ∀ k, 0x280000 ≤ k → k < 0x290000 → t.word k = s.word k

theorem SamePlc.map {s t : Dev} (h : SamePlc s t) {j : Nat} (hj : j < 64) : t.word (Reg.PLC_JOB_MAP j) = s.word (Reg.PLC_JOB_MAP j) :=
  h _ (by simp only [Reg.PLC_JOB_MAP]; omega) (by simp only [Reg.PLC_JOB_MAP]; omega)

theorem SamePlc.unitJobs {s t : Dev} (h : SamePlc s t) (u : Nat) : t.unitJobs u = s.unitJobs u := unitJobs_of_map (fun _ hj => h.map hj) u

theorem SamePlc.pinTarget {s t : Dev} (h : SamePlc s t) (kind item : Nat) : t.pinTarget kind item = s.pinTarget kind item := by
  have hA {e : Nat} (he : e < 32) : t.word (Reg.PLC_PIN_A e) = s.word (Reg.PLC_PIN_A e) :=
    h _ (by simp only [Reg.PLC_PIN_A]; omega) (by simp only [Reg.PLC_PIN_A]; omega)
  have hB {e : Nat} (he : e < 32) : t.word (Reg.PLC_PIN_B e) = s.word (Reg.PLC_PIN_B e) :=
    h _ (by simp only [Reg.PLC_PIN_B]; omega) (by simp only [Reg.PLC_PIN_B]; omega)
  unfold Dev.pinTarget
  rw [List.find?_congr fun e he => by
    have hw := hA (List.mem_range.mp he)
    rw [bit_of_word (f := Reg.PLC_PIN_A.EN e) hw, get_of_word (f := Reg.PLC_PIN_A.KIND e) hw, get_of_word (f := Reg.PLC_PIN_A.ITEM e) hw]]
  exact Option.map_congr fun e he => get_of_word (f := Reg.PLC_PIN_B.TARGET e) (hB (List.mem_range.mp (List.mem_of_find?_eq_some he)))

theorem SamePlc.chooseUnit {s t : Dev} (h : SamePlc s t) (j : Nat) : t.chooseUnit j = s.chooseUnit j := by
  simp only [Dev.chooseUnit, h.pinTarget, h.unitJobs]

theorem SamePlc.freeChan {s t : Dev} (h : SamePlc s t) (u : Nat) : t.freeChan u = s.freeChan u := by
  unfold Dev.freeChan
  rw [h.unitJobs]
  refine List.find?_congr fun c _ => ?_
  rw [Bool.not_inj_iff, Bool.eq_iff_iff, List.any_eq_true, List.any_eq_true]
  have hchan {i : Nat} (hi : i ∈ s.unitJobs u) : t.get (Reg.PLC_JOB_MAP.CHAN i) = s.get (Reg.PLC_JOB_MAP.CHAN i) :=
    get_of_word (f := Reg.PLC_JOB_MAP.CHAN i) (h.map (mem_unitJobs.mp hi).1)
  exact exists_congr fun i => and_congr_right fun hi => by rw [hchan hi]

theorem le_of_faultWords_trc {k : Nat} (h : faultWords bTRC k) : 0x2E0000 ≤ k := by
  rcases h with rfl | rfl | rfl | rfl | rfl <;> decide

/-- The map of jobs is not of the words of a move. -/
theorem not_moveWords_jobMap {j : Nat} (hj : j < 64) : ¬ moveWords (Reg.PLC_JOB_MAP j) := by
  have hlt : Reg.PLC_JOB_MAP j < 0x280280 ∧ 0x280180 ≤ Reg.PLC_JOB_MAP j := by simp only [Reg.PLC_JOB_MAP]; omega
  rintro (h | h | h | h)
  · rw [h] at hlt
    revert hlt
    decide
  · rw [h] at hlt
    revert hlt
    decide
  · rw [h] at hlt
    revert hlt
    decide
  · have := le_of_faultWords_trc h
    omega

/-- A unit that begins to come on leaves the map of jobs. -/
theorem plcDomOn_jobMap (s : Dev) {u j : Nat} (hu : u < 2) (hj : j < 64) (cause : Nat) : (s.plcDomOn (unitDom u) cause).word (Reg.PLC_JOB_MAP j) = s.word (Reg.PLC_JOB_MAP j) := by
  refine (plcDomOn_only s _ cause).1 _ ?_
  rintro (h | h)
  · exact not_moveWords_jobMap hj h
  · simp only [Reg.PLC_JOB_MAP, Reg.PLC_DOM_OFF, unitDom] at h
    omega

/-- A channel is one of 32. -/
theorem freeChan_lt {s : Dev} {u c : Nat} (h : s.freeChan u = some c) : c < 32 := List.mem_range.mp (List.mem_of_find?_eq_some h)

theorem placeJob_fields (s : Dev) (j : Nat) {u c : Nat} (hu : u < 2) (hc : c < 32) :
    (s.placeJob j u c).jobPlace j = 1 ∧ (s.placeJob j u c).jobUnit j = u ∧ (s.placeJob j u c).get (Reg.PLC_JOB_MAP.CHAN j) = c := by
  have hchan : 0 + 5 ≤ 32 := by decide
  have hunit : 8 + 1 ≤ 32 := by decide
  unfold placeJob jobPlace jobUnit
  refine ⟨?_, ?_, ?_⟩
  · rw [get_put_apart _ c hchan (.inr (by decide : 0 + 5 ≤ 30)), get_put_apart _ u hunit (.inr (by decide : 8 + 1 ≤ 30)), get_put_same _ _ 1 (by decide : 30 + 2 ≤ 32)]
    rfl
  · rw [get_put_apart _ c hchan (.inr (by decide : 0 + 5 ≤ 8)), get_put_same _ _ u hunit]
    simp only [Reg.PLC_JOB_MAP.UNIT]
    omega
  · rw [get_put_same _ _ c hchan]
    simp only [Reg.PLC_JOB_MAP.CHAN]
    omega

/-- A job whose unit has a free channel. -/
theorem jobEnable_free {s : Dev} {j c : Nat} (h : s.freeChan (s.chooseUnit j) = some c) : s.jobEnable j = s.jobOnto j (s.chooseUnit j) c := by
  simp only [jobEnable, h]

@[simp] theorem jobEnable_jobs (s : Dev) (j : Nat) : (s.jobEnable j).jobs = s.jobs := by
  have honto (u c : Nat) : (s.jobOnto j u c).jobs = s.jobs := by
    unfold jobOnto
    split
    · rfl
    · exact plcDomOn_jobs s _ _
  unfold jobEnable
  dsimp only
  split
  · exact honto _ _
  · split
    · split
      · rfl
      · exact honto _ _
    · rfl

/-! ### A job leaves its unit (R311) -/

/-- The words of a job's set. -/
def jobSet (j k : Nat) : Prop := Reg.DMA_SRC_LO j ≤ k ∧ k < Reg.DMA_SRC_LO j + 0x80

theorem word_jobRemove (s : Dev) (j k : Nat) :
    (s.jobRemove j).word k = if Nat.ble (Reg.DMA_SRC_LO j) k && Nat.blt k (Reg.DMA_SRC_LO j + 0x80) then resetWord k else (s.setWord (Reg.PLC_JOB_MAP j) 0).word k :=
  word_without (s.setWord (Reg.PLC_JOB_MAP j) 0) (fun k => Nat.ble (Reg.DMA_SRC_LO j) k && Nat.blt k (Reg.DMA_SRC_LO j + 0x80)) k

theorem jobSet_iff {j k : Nat} : (Nat.ble (Reg.DMA_SRC_LO j) k && Nat.blt k (Reg.DMA_SRC_LO j + 0x80)) = true ↔ jobSet j k := by
  rw [Bool.and_eq_true, Nat.ble_eq, Nat.blt_eq, jobSet]

/-- The job's set is at reset. -/
theorem jobRemove_set (s : Dev) {j k : Nat} (h : jobSet j k) : (s.jobRemove j).word k = resetWord k := (word_jobRemove s j k).trans (if_pos (jobSet_iff.mpr h))

theorem jobRemove_beyond (s : Dev) {j k : Nat} (h : ¬ jobSet j k) : (s.jobRemove j).word k = (s.setWord (Reg.PLC_JOB_MAP j) 0).word k :=
  (word_jobRemove s j k).trans (if_neg fun hk => h (jobSet_iff.mp hk))

/-- The job's place in the map is empty. -/
theorem jobRemove_map (s : Dev) {j : Nat} (hj : j < 64) : (s.jobRemove j).word (Reg.PLC_JOB_MAP j) = 0 := by
  rw [jobRemove_beyond s (by simp only [jobSet, Reg.DMA_SRC_LO, Reg.PLC_JOB_MAP]; omega), word_setWord_same]

theorem jobRemove_other (s : Dev) {j k : Nat} (hset : ¬ jobSet j k) (hmap : k ≠ Reg.PLC_JOB_MAP j) : (s.jobRemove j).word k = s.word k :=
  (jobRemove_beyond s hset).trans (word_setWord_other _ _ _ _ hmap)

theorem jobRemove_job_other (s : Dev) {i j : Nat} (h : i ≠ j) : (s.jobRemove j).job i = s.job i := job_setJob_other _ {} h

/-- A job that leaves its unit: its own set and what the placing of jobs may change. -/
theorem jobGone_word (s : Dev) {j k : Nat} (hj : j < 64) (hset : ¬ jobSet j k) (hplace : ¬ placeWords k) : (s.jobGone j).word k = s.word k := by
  have hmap : k ≠ Reg.PLC_JOB_MAP j := fun h => hplace (h ▸ placeWords_jobMap hj)
  unfold jobGone
  exact (word_when _ ((jobEnable_only _ hj).1 k hplace)).trans (jobRemove_other s hset hmap)

theorem jobGone_job_other (s : Dev) {i j : Nat} (h : i ≠ j) : (s.jobGone j).job i = s.job i := by
  unfold jobGone
  cases s.jobEn j
  · exact jobRemove_job_other s h
  · exact (job_of_jobs (jobEnable_jobs _ j) i).trans (jobRemove_job_other s h)

/-! ### DMA_JOB_EN (R311) -/

/-- DMA_JOB_EN_LO or _HI. -/
def jobEnKey (hi : Bool) : Nat := if hi then Reg.DMA_JOB_EN_HI else Reg.DMA_JOB_EN_LO

/-- JOB_EN of a job is its bit of the word. -/
theorem jobEn_eq_wbit (s : Dev) {hi : Bool} {i j : Nat} (hi32 : i < 32) (hj : j = i + (if hi then 32 else 0)) : s.jobEn j = wbit (s.word (jobEnKey hi)) i := by
  subst hj
  unfold jobEn
  cases hi
  · exact (if_pos hi32).trans (bit_eq_wbit s _ i)
  · simp only [if_true]
    rw [if_neg (Nat.not_lt.mpr (Nat.le_add_left 32 i)), bit_eq_wbit, Nat.add_sub_cancel]
    rfl

theorem jobEnIndex_lt {hi : Bool} {i j : Nat} (hi32 : i < 32) (hj : j = i + (if hi then 32 else 0)) : j < 64 := by
  subst hj
  cases hi <;> simp only [if_true, Bool.false_eq_true, if_false] <;> omega

theorem jobEnKey_eq (hi : Bool) : 0x2B0100 ≤ jobEnKey hi ∧ jobEnKey hi < 0x2B0108 := by cases hi <;> decide

theorem not_placeWords_jobEnKey (hi : Bool) : ¬ placeWords (jobEnKey hi) := by
  have hkey := jobEnKey_eq hi
  rintro (h | h | ⟨u, hu, h | h⟩)
  · omega
  · rcases h with h | h | h | h | h <;> rw [h] at hkey <;> revert hkey <;> decide
  · simp only [h, Reg.DMA_DONE_LO] at hkey
    omega
  · simp only [h, Reg.DMA_DONE_HI] at hkey
    omega

theorem samePlc_setEn (s : Dev) (hi : Bool) (v : Word) : SamePlc s (s.setWord (jobEnKey hi) v) := fun k _ hk => by
  have hkey := jobEnKey_eq hi
  exact word_setWord_other _ _ _ _ (by omega)

/-- What a write of DMA_JOB_EN makes of one bit that was `old`. -/
def jobEnBit (hi : Bool) (v old : Word) (s : Dev) (i : Nat) : Dev :=
  let j := i + (if hi then 32 else 0)
  if wbit v i && !wbit old i then s.when (!(s.job j).removing) (·.jobEnable j)
  else if wbit old i && !wbit v i then s.jobStop j true
  else s

/-- A write that changes one bit acts for its job alone. -/
theorem jobEnSet_one (s : Dev) (hi : Bool) {v : Word} {i : Nat} (hi32 : i < 32) (h : ∀ i' < 32, i' ≠ i → wbit v i' = wbit (s.word (jobEnKey hi)) i') :
    s.jobEnSet hi v = jobEnBit hi v (s.word (jobEnKey hi)) (s.setWord (jobEnKey hi) v) i := by
  refine foldl_one (f := jobEnBit hi v (s.word (jobEnKey hi))) List.nodup_range (List.mem_range.mpr hi32) (fun i' hi' hne t => ?_) _
  unfold jobEnBit
  simp [h i' (List.mem_range.mp hi') hne]

/-- A bit set: its job is placed on the unit chosen for it. -/
theorem jobEnSet_sets {s : Dev} {hi : Bool} {i j c : Nat} (hi32 : i < 32) (hj : j = i + (if hi then 32 else 0)) (hold : wbit (s.word (jobEnKey hi)) i = false)
    (hkeep : (s.job j).removing = false) (hfree : s.freeChan (s.chooseUnit j) = some c) :
    s.jobEnSet hi (s.word (jobEnKey hi) ||| BitVec.ofNat 32 (2 ^ i))
      = (s.setWord (jobEnKey hi) (s.word (jobEnKey hi) ||| BitVec.ofNat 32 (2 ^ i))).jobOnto j (s.chooseUnit j) c := by
  have hplc := samePlc_setEn s hi (s.word (jobEnKey hi) ||| BitVec.ofNat 32 (2 ^ i))
  have hnew : wbit (s.word (jobEnKey hi) ||| BitVec.ofNat 32 (2 ^ i)) i = true := by rw [wbit_set _ hi32]; simp
  have hjob : (s.setWord (jobEnKey hi) (s.word (jobEnKey hi) ||| BitVec.ofNat 32 (2 ^ i))).job j = s.job j := rfl
  rw [jobEnSet_one s hi hi32 fun i' _ hne => by rw [wbit_set _ hi32, decide_eq_false (Ne.symm hne), Bool.or_false], jobEnBit, ← hj, hnew, hold, hjob, hkeep]
  have hchan := (hplc.freeChan _).trans hfree
  rw [← hplc.chooseUnit j] at hchan ⊢
  rw [Bool.not_false, Bool.and_true, if_pos rfl, when_true, jobEnable_free hchan]

/-- A bit cleared: its job is stopped and removed. -/
theorem jobEnSet_clears {s : Dev} {hi : Bool} {i j : Nat} (hi32 : i < 32) (hj : j = i + (if hi then 32 else 0)) (hold : wbit (s.word (jobEnKey hi)) i = true) :
    s.jobEnSet hi (s.word (jobEnKey hi) ^^^ BitVec.ofNat 32 (2 ^ i))
      = (s.setWord (jobEnKey hi) (s.word (jobEnKey hi) ^^^ BitVec.ofNat 32 (2 ^ i))).jobStop j true := by
  have hnew : wbit (s.word (jobEnKey hi) ^^^ BitVec.ofNat 32 (2 ^ i)) i = false := by rw [wbit_flip _ hi32, hold]; simp
  rw [jobEnSet_one s hi hi32 fun i' _ hne => by rw [wbit_flip _ hi32, decide_eq_false (Ne.symm hne), Bool.xor_false], jobEnBit, ← hj, hnew, hold]
  rw [Bool.not_true, Bool.and_false, if_neg Bool.false_ne_true, Bool.not_false, Bool.and_true, if_pos rfl]

/-- A job that is not running and whose JOB_EN bit is clear leaves its unit. -/
theorem jobStop_removes {s : Dev} {j : Nat} (hidle : s.jobState j ≠ 1) (hoff : s.jobEn j = false) : s.jobStop j true = (s.put (Reg.DMA_STAT.ARMED j) 0).jobRemove j := by
  have hen : (s.put (Reg.DMA_STAT.ARMED j) 0).jobEn j = false := by
    rw [← hoff]
    unfold jobEn
    split
    · exact bit_put_addr _ _ (by simp only [Reg.DMA_STAT.ARMED, Reg.DMA_JOB_EN_LO]; omega)
    · exact bit_put_addr _ _ (by simp only [Reg.DMA_STAT.ARMED, Reg.DMA_JOB_EN_HI]; omega)
  unfold jobStop
  rw [if_neg hidle]
  dsimp only
  rw [when_true, jobGone, hen, when_false]

end Dev

/-! ### The command -/

theorem exec_jobEnWrite (u : Fin 2) (hi : Bool) (v : Word) (s : State) :
    exec (.jobEnWrite u hi v) s = devStep (fun d => d.hostGate (bDMA u) (Dev.jobEnKey hi) v (·.jobEnSet hi v)) s := rfl

section
variable {s : State} {u : Fin 2} {hi : Bool} {i : Fin 32} {j : Nat} (hj : j = i + (if hi then 32 else 0)) (hb : s.dev.blockOn (bDMA u) = true)
  (hr : s.dev.hostRefused (Dev.jobEnKey hi) = false)
include hj hb hr

section
variable {c : Nat} (hold : wbit (s.dev.word (Dev.jobEnKey hi)) i = false) (hkeep : (s.dev.job j).removing = false)
  (hfree : s.dev.freeChan (s.dev.chooseUnit j) = some c)
include hold hkeep hfree

theorem jobEnWrite_on_answers (hon : s.dev.domOn (Dev.unitDom (s.dev.chooseUnit j)) = true) :
    Answers (.jobEnWrite u hi (s.dev.word (Dev.jobEnKey hi) ||| BitVec.ofNat 32 (2 ^ i.val))) s fun t => t.dev.jobPlace j = 1 ∧ t.dev.jobUnit j = s.dev.chooseUnit j
      ∧ t.dev.get (Reg.PLC_JOB_MAP.CHAN j) = c ∧ t.dev.word (Dev.jobEnKey hi) = s.dev.word (Dev.jobEnKey hi) ||| BitVec.ofNat 32 (2 ^ i.val)
      ∧ s.dev.onlyWords (fun k => k = Dev.jobEnKey hi ∨ k = Reg.PLC_JOB_MAP j) t.dev ∧ s.sameMem t := by
  have hkey := Dev.jobEnKey_eq hi
  obtain ⟨d, hd⟩ : ∃ d, d = s.dev.fresh.setWord (Dev.jobEnKey hi) (s.dev.word (Dev.jobEnKey hi) ||| BitVec.ofNat 32 (2 ^ i.val)) := ⟨_, rfl⟩
  have hput : Dev.WordOnly (· = Dev.jobEnKey hi) s.dev.fresh d := hd ▸ Dev.WordOnly.setWord _ _ _ _ rfl
  have hpower : d.domOn (Dev.unitDom (s.dev.chooseUnit j)) = true := by
    rw [← hon]
    have hunit := s.dev.chooseUnit_lt j
    exact Dev.domOn_of_words (fun k hk => (hput.1 k (by omega)).trans (Dev.word_fresh _ _)) (by unfold Dev.unitDom; omega)
  have honto : d.jobOnto j (s.dev.chooseUnit j) c = d.placeJob j (s.dev.chooseUnit j) c := if_pos hpower
  have hsets : s.dev.fresh.jobEnSet hi (s.dev.word (Dev.jobEnKey hi) ||| BitVec.ofNat 32 (2 ^ i.val)) = d.jobOnto j (s.dev.chooseUnit j) c :=
    (Dev.jobEnSet_sets (s := s.dev.fresh) i.isLt hj hold hkeep hfree).trans (by rw [hd]; rfl)
  obtain ⟨hplace, hunit, hchan⟩ := Dev.placeJob_fields d j (s.dev.chooseUnit_lt j) (Dev.freeChan_lt hfree)
  have honly := Dev.placeJob_only (· = Reg.PLC_JOB_MAP j) d rfl (s.dev.chooseUnit j) c
  refine answers_hostGate (v := fun _ => s.dev.word (Dev.jobEnKey hi) ||| BitVec.ofNat 32 (2 ^ i.val)) (exec_jobEnWrite u hi _ s) hb hr ?_
  rw [hsets, honto]
  refine ⟨(Dev.get_settle _ _ _).trans hplace, (Dev.get_settle _ _ _).trans hunit, (Dev.get_settle _ _ _).trans hchan, ?_,
    Dev.WordOnly.settled ((hput.mono fun _ hk => .inl hk).trans (honly.mono fun _ hk => .inr hk)) _, rfl, rfl⟩
  have hj64 := Dev.jobEnIndex_lt i.isLt hj
  rw [Dev.word_settle, honly.1 _ (by simp only [Reg.PLC_JOB_MAP]; omega), hd, Dev.word_setWord_same]

theorem jobEnWrite_off_answers (hoff : s.dev.domOn (Dev.unitDom (s.dev.chooseUnit j)) = false) :
    Answers (.jobEnWrite u hi (s.dev.word (Dev.jobEnKey hi) ||| BitVec.ofNat 32 (2 ^ i.val))) s fun t => t.dev.word (Reg.PLC_JOB_MAP j) = s.dev.word (Reg.PLC_JOB_MAP j)
      ∧ t.dev.word (Dev.jobEnKey hi) = s.dev.word (Dev.jobEnKey hi) ||| BitVec.ofNat 32 (2 ^ i.val)
      ∧ t.dev.pwr.switching.testBit (Dev.unitDom (s.dev.chooseUnit j)) = true ∧ s.sameMem t := by
  have hkey := Dev.jobEnKey_eq hi
  have hj64 := Dev.jobEnIndex_lt i.isLt hj
  have hunit := s.dev.chooseUnit_lt j
  obtain ⟨d, hd⟩ : ∃ d, d = s.dev.fresh.setWord (Dev.jobEnKey hi) (s.dev.word (Dev.jobEnKey hi) ||| BitVec.ofNat 32 (2 ^ i.val)) := ⟨_, rfl⟩
  have hput : Dev.WordOnly (· = Dev.jobEnKey hi) s.dev.fresh d := hd ▸ Dev.WordOnly.setWord _ _ _ _ rfl
  have hpower : d.domOn (Dev.unitDom (s.dev.chooseUnit j)) = false := by
    rw [← hoff]
    exact Dev.domOn_of_words (fun k hk => (hput.1 k (by omega)).trans (Dev.word_fresh _ _)) (by unfold Dev.unitDom; omega)
  have honto : d.jobOnto j (s.dev.chooseUnit j) c = d.plcDomOn (Dev.unitDom (s.dev.chooseUnit j)) causePolicy := if_neg (by rw [hpower]; decide)
  have hsets : s.dev.fresh.jobEnSet hi (s.dev.word (Dev.jobEnKey hi) ||| BitVec.ofNat 32 (2 ^ i.val)) = d.jobOnto j (s.dev.chooseUnit j) c :=
    (Dev.jobEnSet_sets (s := s.dev.fresh) i.isLt hj hold hkeep hfree).trans (by rw [hd]; rfl)
  refine answers_hostGate (v := fun _ => s.dev.word (Dev.jobEnKey hi) ||| BitVec.ofNat 32 (2 ^ i.val)) (exec_jobEnWrite u hi _ s) hb hr ?_
  rw [hsets, honto]
  refine ⟨?_, ?_, ?_, rfl, rfl⟩
  · rw [Dev.word_settle, Dev.plcDomOn_jobMap d hunit hj64, hput.1 _ (by simp only [Reg.PLC_JOB_MAP]; omega), Dev.word_fresh]
  · rw [Dev.word_settle, (Dev.plcDomOn_placeWords d hunit causePolicy).1 _ (Dev.not_placeWords_jobEnKey hi), hd, Dev.word_setWord_same]
  · rw [Dev.settle_pwr]
    exact Dev.plcDomOn_switching d _ hpower
end

theorem jobEnWrite_clear_answers (hold : wbit (s.dev.word (Dev.jobEnKey hi)) i = true) (hidle : s.dev.jobState j ≠ 1) :
    Answers (.jobEnWrite u hi (s.dev.word (Dev.jobEnKey hi) ^^^ BitVec.ofNat 32 (2 ^ i.val))) s fun t => t.dev.word (Reg.PLC_JOB_MAP j) = 0 ∧ t.dev.jobEn j = false
      ∧ (∀ w < 32, t.dev.word (Reg.DMA_SRC_LO j + 4 * w) = resetWord (Reg.DMA_SRC_LO j + 4 * w)) ∧ s.sameMem t := by
  have hkey := Dev.jobEnKey_eq hi
  have hj64 := Dev.jobEnIndex_lt i.isLt hj
  obtain ⟨d, hd⟩ : ∃ d, d = s.dev.fresh.setWord (Dev.jobEnKey hi) (s.dev.word (Dev.jobEnKey hi) ^^^ BitVec.ofNat 32 (2 ^ i.val)) := ⟨_, rfl⟩
  have hput : Dev.WordOnly (· = Dev.jobEnKey hi) s.dev.fresh d := hd ▸ Dev.WordOnly.setWord _ _ _ _ rfl
  have hword : d.word (Dev.jobEnKey hi) = s.dev.word (Dev.jobEnKey hi) ^^^ BitVec.ofNat 32 (2 ^ i.val) := by rw [hd, Dev.word_setWord_same]
  have hclear : wbit (s.dev.word (Dev.jobEnKey hi) ^^^ BitVec.ofNat 32 (2 ^ i.val)) i = false := by rw [wbit_flip _ i.isLt, hold]; simp
  have hen : d.jobEn j = false := by rw [Dev.jobEn_eq_wbit d i.isLt hj, hword, hclear]
  have hstate : d.jobState j ≠ 1 := by
    rw [show d.jobState j = s.dev.jobState j from (hput.get_eq (by simp only [Reg.DMA_STAT.STATE]; omega)).trans (Dev.get_fresh _ _)]
    exact hidle
  have hclears : s.dev.fresh.jobEnSet hi (s.dev.word (Dev.jobEnKey hi) ^^^ BitVec.ofNat 32 (2 ^ i.val)) = (d.put (Reg.DMA_STAT.ARMED j) 0).jobRemove j :=
    (Dev.jobEnSet_clears (s := s.dev.fresh) i.isLt hj hold).trans (by rw [← Dev.jobStop_removes hstate hen, hd]; rfl)
  have hkeep : ((d.put (Reg.DMA_STAT.ARMED j) 0).jobRemove j).word (Dev.jobEnKey hi) = d.word (Dev.jobEnKey hi) := by
    rw [Dev.jobRemove_other _ (by simp only [Dev.jobSet, Reg.DMA_SRC_LO]; omega) (by simp only [Reg.PLC_JOB_MAP]; omega),
      Dev.word_put_other _ _ _ _ (by simp only [Reg.DMA_STAT.ARMED]; omega)]
  refine answers_hostGate (v := fun _ => s.dev.word (Dev.jobEnKey hi) ^^^ BitVec.ofNat 32 (2 ^ i.val)) (exec_jobEnWrite u hi _ s) hb hr ?_
  rw [hclears]
  refine ⟨?_, ?_, fun w hw => ?_, rfl, rfl⟩
  · rw [Dev.word_settle, Dev.jobRemove_map _ hj64]
  · rw [Dev.jobEn_eq_wbit _ i.isLt hj, Dev.word_settle, hkeep, hword, hclear]
  · rw [Dev.word_settle, Dev.jobRemove_set _ (by unfold Dev.jobSet; omega)]
end

end Sys2Proof.Machine
end

section
/-! SUPPORT. A bus error of a Tackle unit (R321): the record of the error, the halt of its jobs, and their moves. -/

namespace Sys2Proof.Machine

namespace Dev

/-! ### The record -/

/-- STOPPED and the registers that tell of a bus error. -/
def stopMarked (s : Dev) (u j kind space addr : Nat) : Dev :=
  (((((s.put (Reg.DMA_UNIT_CTL.STOPPED u) 1).put (Reg.DMA_BUS_ERR_A.KIND u) kind).put (Reg.DMA_BUS_ERR_A.SPACE u) space).put (Reg.DMA_BUS_ERR_A.JOB u) j).put
    (Reg.DMA_BUS_ERR_LO.ADDR u) addr).put (Reg.DMA_BUS_ERR_HI.ADDR u) (addr / 2 ^ 32)

/-- The words of the record. -/
def stopWords (u k : Nat) : Prop :=
  k = Reg.DMA_UNIT_CTL u ∨ k = Reg.DMA_BUS_ERR_A u ∨ k = Reg.DMA_BUS_ERR_LO u ∨ k = Reg.DMA_BUS_ERR_HI u

theorem stopWords_bounds {u k : Nat} (h : stopWords u k) : k = 0x2B0108 + 0x10000 * u ∨ k = 0x2B010C + 0x10000 * u ∨ k = 0x2B0110 + 0x10000 * u ∨ k = 0x2B0114 + 0x10000 * u := h

theorem stopMarked_only (s : Dev) (u j kind space addr : Nat) : WordOnly (stopWords u) s (s.stopMarked u j kind space addr) :=
  (((((WordOnly.put (stopWords u) s (Reg.DMA_UNIT_CTL.STOPPED u) 1 (.inl rfl)).trans (WordOnly.put (stopWords u) _ (Reg.DMA_BUS_ERR_A.KIND u) _ (.inr (.inl rfl)))).trans
    (WordOnly.put (stopWords u) _ (Reg.DMA_BUS_ERR_A.SPACE u) _ (.inr (.inl rfl)))).trans (WordOnly.put (stopWords u) _ (Reg.DMA_BUS_ERR_A.JOB u) _ (.inr (.inl rfl)))).trans
    (WordOnly.put (stopWords u) _ (Reg.DMA_BUS_ERR_LO.ADDR u) _ (.inr (.inr (.inl rfl))))).trans (WordOnly.put (stopWords u) _ (Reg.DMA_BUS_ERR_HI.ADDR u) _ (.inr (.inr (.inr rfl))))

/-- A field of another word of the record, past the address. -/
theorem get_stopAddr (s : Dev) (u addr : Nat) {f : Fld} (hlo : f.addr ≠ Reg.DMA_BUS_ERR_LO u) (hhi : f.addr ≠ Reg.DMA_BUS_ERR_HI u) :
    ((s.put (Reg.DMA_BUS_ERR_LO.ADDR u) addr).put (Reg.DMA_BUS_ERR_HI.ADDR u) (addr / 2 ^ 32)).get f = s.get f :=
  (get_put_addr _ (Reg.DMA_BUS_ERR_HI.ADDR u) _ _ hhi).trans (get_put_addr _ (Reg.DMA_BUS_ERR_LO.ADDR u) _ _ hlo)

theorem stopMarked_fields (s : Dev) (u : Nat) {j kind space addr : Nat} (hj : j < 64) (hkind : kind < 16) (hspace : space < 4) (haddr : addr < 2 ^ 64) :
    (s.stopMarked u j kind space addr).get (Reg.DMA_UNIT_CTL.STOPPED u) = 1 ∧ (s.stopMarked u j kind space addr).get (Reg.DMA_BUS_ERR_A.KIND u) = kind
      ∧ (s.stopMarked u j kind space addr).get (Reg.DMA_BUS_ERR_A.JOB u) = j ∧ (s.stopMarked u j kind space addr).get (Reg.DMA_BUS_ERR_A.SPACE u) = space
      ∧ (s.stopMarked u j kind space addr).get (Reg.DMA_BUS_ERR_LO.ADDR u) = addr % 2 ^ 32 ∧ (s.stopMarked u j kind space addr).get (Reg.DMA_BUS_ERR_HI.ADDR u) = addr / 2 ^ 32 := by
  have hjob : 0 + 6 ≤ 32 := by decide
  have hsp : 26 + 2 ≤ 32 := by decide
  have hkd : 28 + 4 ≤ 32 := by decide
  have hwhole : 0 + 32 ≤ 32 := by decide
  unfold stopMarked
  refine ⟨?_, ?_, ?_, ?_, ?_, ?_⟩
  · rw [get_stopAddr _ u addr (by simp only [Reg.DMA_UNIT_CTL.STOPPED, Reg.DMA_BUS_ERR_LO]; omega) (by simp only [Reg.DMA_UNIT_CTL.STOPPED, Reg.DMA_BUS_ERR_HI]; omega),
      get_put_addr _ _ _ _ (by simp only [Reg.DMA_UNIT_CTL.STOPPED, Reg.DMA_BUS_ERR_A.JOB]; omega),
      get_put_addr _ _ _ _ (by simp only [Reg.DMA_UNIT_CTL.STOPPED, Reg.DMA_BUS_ERR_A.SPACE]; omega),
      get_put_addr _ _ _ _ (by simp only [Reg.DMA_UNIT_CTL.STOPPED, Reg.DMA_BUS_ERR_A.KIND]; omega), get_put_same _ _ 1 (by decide : 0 + 1 ≤ 32)]
    rfl
  · rw [get_stopAddr _ u addr (by simp only [Reg.DMA_BUS_ERR_A.KIND, Reg.DMA_BUS_ERR_LO]; omega) (by simp only [Reg.DMA_BUS_ERR_A.KIND, Reg.DMA_BUS_ERR_HI]; omega),
      get_put_apart _ j hjob (.inr (by decide : 0 + 6 ≤ 28)), get_put_apart _ space hsp (.inr (by decide : 26 + 2 ≤ 28)), get_put_same _ _ kind hkd]
    simp only [Reg.DMA_BUS_ERR_A.KIND]
    omega
  · rw [get_stopAddr _ u addr (by simp only [Reg.DMA_BUS_ERR_A.JOB, Reg.DMA_BUS_ERR_LO]; omega) (by simp only [Reg.DMA_BUS_ERR_A.JOB, Reg.DMA_BUS_ERR_HI]; omega),
      get_put_same _ _ j hjob]
    simp only [Reg.DMA_BUS_ERR_A.JOB]
    omega
  · rw [get_stopAddr _ u addr (by simp only [Reg.DMA_BUS_ERR_A.SPACE, Reg.DMA_BUS_ERR_LO]; omega) (by simp only [Reg.DMA_BUS_ERR_A.SPACE, Reg.DMA_BUS_ERR_HI]; omega),
      get_put_apart _ j hjob (.inr (by decide : 0 + 6 ≤ 26)), get_put_same _ _ space hsp]
    simp only [Reg.DMA_BUS_ERR_A.SPACE]
    omega
  · rw [get_put_addr _ _ _ _ (by simp only [Reg.DMA_BUS_ERR_LO.ADDR, Reg.DMA_BUS_ERR_HI.ADDR]; omega), get_put_same _ _ addr hwhole]
    rfl
  · rw [get_put_same _ _ _ hwhole]
    simp only [Reg.DMA_BUS_ERR_HI.ADDR]
    omega

/-! ### The halt of the unit's jobs -/

/-- A running job of the unit stops. -/
def haltJob (s : Dev) (j : Nat) : Dev :=
  let rm := (s.job j).removing
  let s := (s.put (Reg.DMA_STAT.STATE j) 2).put (Reg.DMA_STAT.ARMED j) 0
  let s := s.setJob j {}
  s.when rm (·.jobGone j)

/-- DMA_STAT of a job that stops. -/
def haltStat (s : Dev) (j : Nat) : Dev := ((s.put (Reg.DMA_STAT.STATE j) 2).put (Reg.DMA_STAT.ARMED j) 0).setJob j {}

theorem haltJob_eq (s : Dev) (j : Nat) : s.haltJob j = (s.haltStat j).when (s.job j).removing (·.jobGone j) := rfl

theorem haltStat_word (s : Dev) {j k : Nat} (h : k ≠ Reg.DMA_STAT j) : (s.haltStat j).word k = s.word k := by
  rw [haltStat, word_setJob, word_put_other _ (Reg.DMA_STAT.ARMED j) 0 k h, word_put_other _ (Reg.DMA_STAT.STATE j) 2 k h]

theorem jobSet_stat (j : Nat) : jobSet j (Reg.DMA_STAT j) := by
  simp only [jobSet, Reg.DMA_SRC_LO, Reg.DMA_STAT]
  omega

/-- A job that stops: its own set and what the placing of jobs may change. -/
theorem haltJob_word (s : Dev) {j k : Nat} (hj : j < 64) (hset : ¬ jobSet j k) (hplace : ¬ placeWords k) : (s.haltJob j).word k = s.word k := by
  rw [haltJob_eq]
  exact (word_when _ (jobGone_word _ hj hset hplace)).trans (haltStat_word s fun h => hset (h ▸ jobSet_stat j))

theorem haltJob_job_other (s : Dev) {i j : Nat} (h : i ≠ j) : (s.haltJob j).job i = s.job i := by
  rw [haltJob_eq]
  cases (s.job j).removing
  · exact job_setJob_other _ {} h
  · exact (jobGone_job_other _ h).trans (job_setJob_other _ {} h)

/-- A job that is not being removed is stopped, and has no transfer. -/
theorem haltJob_stops {s : Dev} {j : Nat} (h : (s.job j).removing = false) : (s.haltJob j).jobState j = 2 ∧ (s.haltJob j).job j = {} := by
  rw [haltJob_eq, h, when_false]
  refine ⟨?_, job_setJob_same _ j {}⟩
  rw [jobState, haltStat, get_setJob, get_put_apart _ 0 (by decide : 29 + 1 ≤ 32) (.inr (by decide : 29 + 1 ≤ 30)), get_put_same _ _ 2 (by decide : 30 + 2 ≤ 32)]
  rfl

/-- The jobs' sets lie past the blocks' windows, one after another. -/
theorem not_jobSet_of_lt {j k : Nat} (h : k < 0x1270000) : ¬ jobSet j k := by
  simp only [jobSet, Reg.DMA_SRC_LO]
  omega

theorem not_jobSet_stat {i j : Nat} (h : i ≠ j) : ¬ jobSet j (Reg.DMA_STAT i) := by
  simp only [jobSet, Reg.DMA_SRC_LO, Reg.DMA_STAT]
  omega

theorem not_placeWords_stat (j : Nat) : ¬ placeWords (Reg.DMA_STAT j) := fun h => by
  have := (placeWords_le h).2
  simp only [Reg.DMA_STAT] at this
  omega

/-- All of a unit's running jobs stop. -/
def haltJobs (s : Dev) (l : List Nat) : Dev := l.foldl haltJob s

theorem haltJobs_word (s : Dev) {l : List Nat} (hl : ∀ x ∈ l, x < 64) {k : Nat} (hk : k < 0x1270000) (hplace : ¬ placeWords k) : (s.haltJobs l).word k = s.word k :=
  foldl_keeps (fun t => t.word k) l (fun x hx t => haltJob_word t (hl x hx) (not_jobSet_of_lt hk) hplace) s

/-- One of them that is not being removed reads as stopped. -/
theorem haltJobs_state {s : Dev} {l : List Nat} (hl : ∀ x ∈ l, x < 64) {j : Nat} (hj : j ∈ l ∨ s.jobState j = 2) (hkeep : (s.job j).removing = false) :
    (s.haltJobs l).jobState j = 2 := by
  induction l generalizing s with
  | nil => exact hj.resolve_left List.not_mem_nil
  | cons x l ih =>
    refine ih (s := s.haltJob x) (fun y hy => hl y (.tail x hy)) ?_ ?_
    · by_cases he : j = x
      · exact .inr (he ▸ (haltJob_stops (he ▸ hkeep)).1)
      · refine hj.imp (fun hm => (List.mem_cons.mp hm).resolve_left he) fun hstate => ?_
        exact (get_of_word (f := Reg.DMA_STAT.STATE j) (haltJob_word s (hl x (.head l)) (not_jobSet_stat he) (not_placeWords_stat j))).trans hstate
    · by_cases he : j = x
      · rw [← he, (haltJob_stops hkeep).2]
      · rw [haltJob_job_other s he, hkeep]

/-! ### The stop as a whole -/

/-- The running jobs of a unit. -/
def runningJobs (s : Dev) (u : Nat) : List Nat := (s.unitJobs u).filter fun j => s.jobState j == 1

/-- A stop: the record, the halt, the accesses dropped, the event, and the moves of what had been placed. -/
theorem unitStop_shape {s : Dev} {u : Nat} (hup : s.unitStopped u = false) (j kind space addr : Nat) :
    ∃ (d : Dev) (p : Nat → Bool), d.regs = ((s.stopMarked u j kind space addr).haltJobs (s.runningJobs u)).regs
      ∧ s.unitStop u j kind space addr = (d.fault (bDMA u) 0).moveStopped u ((s.runningJobs u).filter p) := by
  unfold unitStop
  rw [if_neg (by rw [hup]; decide)]
  refine ⟨_, _, ?_, rfl⟩
  refine (foldl_keeps (fun t : Dev => t.regs) (List.range 2) ?_ _).trans ?_
  · exact fun _ _ _ => rfl
  · rfl

theorem lt_of_mem_runningJobs {s : Dev} {u j : Nat} (h : j ∈ s.runningJobs u) : j < 64 := (mem_unitJobs.mp (List.mem_filter.mp h).1).1

theorem stickyAddr_unit {u : Nat} (hu : u < 2) : stickyAddr (bDMA u) = 0x2B0020 + 0x10000 * u := by
  rcases Nat.lt_succ_iff_lt_or_eq.mp hu with h | rfl
  · rw [Nat.lt_one_iff.mp h]
    rfl
  · rfl

/-- A unit's words below DONE are not of the placing of jobs. -/
theorem not_placeWords_unit {u k : Nat} (hu : u < 2) (h1 : 0x2B0000 + 0x10000 * u ≤ k) (h2 : k < 0x2B0118 + 0x10000 * u) : ¬ placeWords k := by
  rintro (h | h | ⟨v, hv, h | h⟩)
  · omega
  · have := le_of_faultWords_trc h
    omega
  · simp only [Reg.DMA_DONE_LO] at h
    omega
  · simp only [Reg.DMA_DONE_HI] at h
    omega

/-- The words of an event of a unit are its FLT_STICKY and words of the panel and the Telltale. -/
theorem faultWords_unit {u k : Nat} (hu : u < 2) (h : faultWords (bDMA u) k) : k = 0x2B0020 + 0x10000 * u ∨ (0x2E0000 ≤ k ∧ k < 0x300000) := by
  rcases h with rfl | rfl | rfl | rfl | rfl
  · exact .inl (stickyAddr_unit hu)
  all_goals exact .inr (by decide)

/-- What a stop leaves of a word that neither the event nor the moves change. -/
theorem unitStop_word {s : Dev} {u : Nat} (hup : s.unitStopped u = false) (j kind space addr : Nat) {k : Nat} (hfault : ¬ faultWords (bDMA u) k) (hplace : ¬ placeWords k) :
    (s.unitStop u j kind space addr).word k = ((s.stopMarked u j kind space addr).haltJobs (s.runningJobs u)).word k := by
  obtain ⟨d, p, hregs, hstop⟩ := unitStop_shape hup j kind space addr
  rw [hstop, (moveStopped_only _ fun x hx => lt_of_mem_runningJobs (List.mem_filter.mp hx).1).1 k hplace, (fault_only d (bDMA u) 0).1 k hfault, word_of_regs hregs]

/-- The record of the error stands. -/
theorem unitStop_record {s : Dev} {u : Nat} (hu : u < 2) (hup : s.unitStopped u = false) (j kind space addr : Nat) {k : Nat} (hk : stopWords u k) :
    (s.unitStop u j kind space addr).word k = (s.stopMarked u j kind space addr).word k := by
  have hbounds := stopWords_bounds hk
  have hplace : ¬ placeWords k := not_placeWords_unit hu (by omega) (by omega)
  rw [unitStop_word hup j kind space addr (fun h => by have := faultWords_unit hu h; omega) hplace]
  exact haltJobs_word _ (fun _ hx => lt_of_mem_runningJobs hx) (by omega) hplace

/-- A running job of the unit is stopped. -/
theorem unitStop_state {s : Dev} {u i : Nat} (hu : u < 2) (hup : s.unitStopped u = false) (j kind space addr : Nat) (hi : i ∈ s.runningJobs u) (hkeep : (s.job i).removing = false) :
    (s.unitStop u j kind space addr).jobState i = 2 := by
  have hword := unitStop_word hup j kind space addr (k := Reg.DMA_STAT i)
    (fun h => by have := faultWords_unit hu h; simp only [Reg.DMA_STAT] at this; omega) (not_placeWords_stat i)
  refine (get_of_word (f := Reg.DMA_STAT.STATE i) hword).trans (haltJobs_state (fun _ hx => lt_of_mem_runningJobs hx) (.inl hi) ?_)
  rw [(stopMarked_only s u j kind space addr).job_eq, hkeep]

/-- The source of a unit's bus errors is open. -/
theorem unitStop_sticky {s : Dev} {u : Nat} (hu : u < 2) (hup : s.unitStopped u = false) (j kind space addr : Nat) :
    (s.unitStop u j kind space addr).bit (stickyBit (bDMA u) 0) = true := by
  obtain ⟨d, p, -, hstop⟩ := unitStop_shape hup j kind space addr
  have hsticky := stickyAddr_unit hu
  rw [hstop]
  refine (bit_of_word (f := stickyBit (bDMA u) 0) ((moveStopped_only _ fun x hx => lt_of_mem_runningJobs (List.mem_filter.mp hx).1).1 _ ?_)).trans
    (fault_sticky d (bDMA u) 0 (show 22 + u < 28 by omega) (by decide))
  exact not_placeWords_unit hu (by rw [show (stickyBit (bDMA u) 0).addr = stickyAddr (bDMA u) from rfl]; omega)
    (by rw [show (stickyBit (bDMA u) 0).addr = stickyAddr (bDMA u) from rfl]; omega)

end Dev

theorem exec_busError (u : Fin 2) (j : Fin 64) (kind : Fin 5) (addr : BitVec 64) (s : State) :
    exec (.busError u j kind addr) s = devStep (·.atBlock (bDMA u) fun d => d.when (kind.val != 0) (·.busError u j kind 1 addr.toNat)) s := rfl

theorem busError_answers {s : State} {u : Fin 2} {j : Fin 64} {kind : Fin 5} {addr : BitVec 64} (hb : s.dev.blockOn (bDMA u) = true) (hkind : kind.val ≠ 0)
    (hup : s.dev.unitStopped u = false) (hplace : s.dev.jobPlace j ≠ 0) (hunit : s.dev.jobUnit j = u) (hrun : s.dev.jobState j = 1) (hkeep : (s.dev.job j).removing = false) :
    Answers (.busError u j kind addr) s fun t => t.dev.unitStopped u = true ∧ t.dev.jobState j = 2 ∧ t.dev.get (Reg.DMA_BUS_ERR_A.KIND u) = kind ∧ t.dev.get (Reg.DMA_BUS_ERR_A.JOB u) = j
      ∧ t.dev.get (Reg.DMA_BUS_ERR_A.SPACE u) = 1 ∧ t.dev.get (Reg.DMA_BUS_ERR_LO.ADDR u) + t.dev.get (Reg.DMA_BUS_ERR_HI.ADDR u) * 2 ^ 32 = addr.toNat
      ∧ t.dev.bit (stickyBit (bDMA u) 0) = true ∧ s.sameMem t := by
  have hstops : s.dev.fresh.when (kind.val != 0) (·.busError u j kind 1 addr.toNat) = s.dev.fresh.unitStop u j kind 1 addr.toNat := by
    rw [bne_iff_ne.mpr hkind, Dev.when_true]
    exact if_pos ⟨hplace, hunit, hrun⟩
  have hmem : j.val ∈ s.dev.fresh.runningJobs u := List.mem_filter.mpr ⟨Dev.mem_unitJobs.mpr ⟨j.isLt, hplace, hunit⟩, beq_iff_eq.mpr hrun⟩
  have hrecord {f : Fld} (hf : Dev.stopWords u f.addr) :=
    Dev.get_of_word (Dev.unitStop_record (s := s.dev.fresh) u.isLt hup j kind 1 addr.toNat hf)
  obtain ⟨hctl, hkd, hjob, hspace, hlo, hhi⟩ := Dev.stopMarked_fields s.dev.fresh u j.isLt (show kind.val < 16 by omega) (show 1 < 4 by decide) addr.isLt
  refine answers_atBlock (exec_busError u j kind addr s) hb ?_
  rw [hstops]
  refine ⟨?_, ?_, ?_, ?_, ?_, ?_, ?_, rfl, rfl⟩
  · rw [Dev.unitStopped, Dev.bit_settle, Dev.bit, hrecord (.inl rfl), hctl]
    rfl
  · rw [Dev.jobState, Dev.get_settle]
    exact Dev.unitStop_state (s := s.dev.fresh) u.isLt hup j kind 1 addr.toNat hmem hkeep
  · rw [Dev.get_settle, hrecord (.inr (.inl rfl)), hkd]
  · rw [Dev.get_settle, hrecord (.inr (.inl rfl)), hjob]
  · rw [Dev.get_settle, hrecord (.inr (.inl rfl)), hspace]
  · rw [Dev.get_settle, Dev.get_settle, hrecord (.inr (.inr (.inl rfl))), hrecord (.inr (.inr (.inr rfl))), hlo, hhi]
    exact Nat.mod_add_div' addr.toNat (2 ^ 32)
  · rw [Dev.bit_settle]
    exact Dev.unitStop_sticky (s := s.dev.fresh) u.isLt hup j kind 1 addr.toNat

/-- Settles O45: each clause from the lemmas of its own command; a bus error by an invariant of the halt of the unit's jobs. -/
theorem dmaJobs : Obligations.DmaJobs := by
  unfold Obligations.DmaJobs
  refine ⟨?_, ?_, ?_, ?_, ?_, ?_, ?_, ?_⟩
  · rintro s u hi i key j rfl hj hb hr
    exact ⟨fun c hold hkeep hfree => ⟨jobEnWrite_on_answers hj hb hr hold hkeep hfree, jobEnWrite_off_answers hj hb hr hold hkeep hfree⟩,
      jobEnWrite_clear_answers hj hb hr⟩
  · rintro s u j v w e hb hr hen hidle hstop hw rfl
    exact dmaStart_answers hb hr hen hidle hstop hw
  · exact fun s u j v hb hr hen hrun => ⟨dmaStop_idle_answers v hb hr hen hrun, dmaStop_waits_answers v hb hr hen hrun⟩
  · exact fun s u j v w hb hr hen hfree hw => ⟨shadowArm_running_answers hb hr hen hfree hw, shadowArm_idle_answers hb hr hen hfree hw⟩
  · exact fun s u w v hb hr => requestSet_answers hb hr
  · exact fun s j hplace _ hrun hstop hgather hframe hall hacc hfree => transferEnd_answers hplace hrun hstop hgather hframe hall hacc hfree
  · exact fun s u j kind addr hb hkind hup hplace hunit hrun hkeep => busError_answers hb hkind hup hplace hunit hrun hkeep
  · exact fun s u hb hr => unitClear_answers hb hr

end Sys2Proof.Machine
end
